-- ==== Sys2Proof/Word.lean ====
section
/-! DEFINITION. The words the model is written with: bytes, 32-bit command dwords and the identifiers of ports and
bays. -/

namespace Sys2Proof

/-- A byte. -/
abbrev Byte := BitVec 8

/-- A command dword or a 32-bit register. -/
abbrev Dword := BitVec 32

/-- A host port, and the controller behind it (R12, R25). -/
abbrev PortId := Fin 4

/-- A bay (R4). -/
abbrev BayId := Fin 16

end Sys2Proof
end

