-- ==== Sys2Proof/Syntax.lean ====
section
/-! DEFINITION. The commands of the UZ-1664 block: one constructor of Instr per row of spec/opcode_table.json, with the
operands the row's rule gives it. An operand is what the sender chooses (an address, a value, a command's dwords) or
what the world outside the block decides at that moment (a measured voltage, the outcome of a flash read, a disc's
lead-in): the model never chooses those. -/

namespace Sys2Proof

/-- The doors of the object dictionary (R462). -/
inductive Door where
  | ethercat | nvme | bench
  deriving DecidableEq, Repr

/-- The two rails whose levels object 2010h sets (R537). -/
inductive Rail where
  | supmon12 | core
  deriving DecidableEq, Repr

/-- The content of one LBA: 4,096 data bytes and up to 16 metadata bytes, least significant byte first (R68). -/
structure Blk where
  /-- Data bytes. -/
  data : BitVec 32768 := 0
  /-- Metadata: 16 bytes in format 0; the low 8 bytes in format 1. -/
  md : BitVec 128 := 0
  deriving DecidableEq, Repr

/-- Which protection information check failed (R198). -/
inductive PiErr where
  | guard | app | ref
  deriving DecidableEq, Repr

/-- The protection information fields of an I/O command (R198, R202). -/
structure PiCtl where
  /-- PRACT: the device inserts or strips protection information. -/
  pract : Bool := false
  /-- PRCHK bit 2: check the guard. -/
  guard : Bool := false
  /-- PRCHK bit 1: check the application tag. -/
  app : Bool := false
  /-- PRCHK bit 0: check the reference tag. -/
  ref : Bool := false
  /-- Initial (expected) logical block reference tag. -/
  refTag : Nat := 0
  /-- (Expected) application tag. -/
  appTag : Nat := 0
  /-- Application tag mask. -/
  appMask : Nat := 0
  deriving DecidableEq, Repr

/-- Pointer-walk faults of Table 2.5 (R51). -/
inductive PtrFault where
  | prpOffset | prpList | sglType | sglSegment | sglCount | sglLength | mdLength | sglOffset | barWindow | hostError
  deriving DecidableEq, Repr

/-- An SGL descriptor (NVMe Base): its type, its subtype, its address (an offset with subtype 1) and its length. -/
structure SglDesc where
  /-- 0 Data Block, 1 Bit Bucket, 2 Segment, 3 Last Segment; the others are not supported (R47). -/
  kind : Nat := 0
  /-- Subtype; 0 is an address, 1 an offset. -/
  sub : Nat := 0
  /-- Address or offset. -/
  addr : Nat := 0
  /-- Length in bytes. -/
  len : Nat := 0
  deriving DecidableEq, Repr

/-- The data and metadata pointers of a command with what host memory holds along them (R47 to R52). The default is a PRP
transfer whose walk meets no fault: a PRP entry that is not listed lies at the start of a page outside every BAR0 window. -/
structure Dptr where
  /-- PSDT: 0 PRPs, 1 SGLs with a metadata buffer, 2 SGLs with a metadata SGL. -/
  psdt : Nat := 0
  /-- PRP entry 1. -/
  prp1 : Nat := 0
  /-- PRP entry 2: an entry, or the address of the first PRP list. -/
  prp2 : Nat := 0
  /-- The PRP lists in the order of the walk; the last entry of a full list page is the address of the next. -/
  lists : List (List Nat) := []
  /-- SGL segments in the order of the walk, the first holding the command's own descriptor. -/
  sgl : List (List SglDesc) := []
  /-- Metadata pointer. -/
  mptr : Nat := 0
  /-- SGL segments of the metadata, with PSDT 2. -/
  mdSgl : List (List SglDesc) := []
  /-- Addresses at which a host memory request ends in Unsupported Request, Completer Abort, poisoned data or completion
  timeout. -/
  bad : List Nat := []
  deriving DecidableEq, Repr

/-- What the flash tier found on one page that a command read (R150, R199); a page that is not listed decodes at step 1 to
what was written. -/
structure Media where
  /-- An LBA on the page, counted from the first of the read. -/
  off : Nat := 0
  /-- Ladder step of Table 4.8 at which the page decoded, 1-4; 5 when step 4 failed. -/
  step : Nat := 1
  /-- Most bits corrected in one codeword. -/
  bits : Nat := 0
  /-- What that LBA decoded to, when it is not what was written. -/
  got : Option Blk := none
  /-- What the stripe rebuild of R199 then gives, when it is not what was written. -/
  again : Option Blk := none
  /-- A page of the relocation R150 makes still fails step 4 (only when step is 5). -/
  lost : Bool := false
  deriving DecidableEq, Repr

/-- The memories whose codes report errors (Tables 5.1, 5.3). -/
inductive MemPart where
  | hbm | cache | coeff | scratch | tide
  deriving DecidableEq, Repr

/-- A read of a coded memory that meets an error: the bytes of an HBM line, or the bits of a word, that the world has disturbed. What the
memory's code makes of it follows from the code and the memory's state. -/
structure MemHit where
  /-- The memory. -/
  part : MemPart := .hbm
  /-- HBM data area offset, or word address in the on-die memory: in the metadata cache and the scratchpad 262,144 words a way, in the
  coefficient store 131,072 words a bank. -/
  addr : Nat := 0
  /-- Bytes of the line in error; of a word the flipped bits, 0-63 data and 64-71 check bits. -/
  errs : List Nat := [0]
  /-- The line was read from or written to the wrong address. -/
  misplaced : Bool := false
  /-- What the line holds: write staging, the NSID and zone index; block tables, the volume port and die; plan store, the
  set; drain buffers, the bay and frame; management, 1 and the sequence number of a log record, or 0 and 0; rebuild work, the region. -/
  what : Nat × Nat := (0, 0)
  /-- Write staging: the LBA offset in the zone whose block the line is part of. -/
  off : Nat := 0
  /-- Write staging: the line's place in that block, or in a page of the running XOR. -/
  line : Nat := 0
  /-- Write staging: a line of the running XOR of that LBA's stripe. -/
  xor : Bool := false
  deriving DecidableEq, Repr

/-- A metadata cache tag entry found disturbed (R179). -/
structure TagFail where
  /-- Cache set. -/
  cset : Nat := 0
  /-- Way. -/
  way : Nat := 0
  /-- Flipped bits of the entry: 0-14 tag, 15 valid, 16 dirty, 17 parity. -/
  flips : List Nat := [0]
  /-- Flipped bits of the line's 16 words. -/
  words : List (List Nat) := []
  deriving DecidableEq, Repr

/-- What the world decides while a command runs. -/
structure Env where
  /-- Pages of the command's flash reads that did not simply decode, in LBA order. -/
  media : List Media := []
  /-- Memory errors met on the command's way. -/
  mem : List MemHit := []
  /-- A tag entry met that fails its parity. -/
  tag : Option TagFail := none
  deriving DecidableEq, Repr

/-- Who issued an NVMe command, and where its data lies: controller, submission queue, command identifier, pointers. -/
structure Src where
  /-- Controller. -/
  port : PortId := 0
  /-- Submission queue, 0 the admin queue. -/
  sq : Nat := 0
  /-- Command identifier. -/
  cid : Nat := 0
  /-- Its data and metadata pointers. -/
  dptr : Dptr := {}
  deriving DecidableEq, Repr

/-- Zone Management Send actions (R90, R93). -/
inductive ZAct where
  | open | close | finish | reset | offline | setExtension
  deriving DecidableEq, Repr

/-- The fields of a Namespace Management create (R68, R104, R529). -/
structure NsSpec where
  /-- NSZE in LBAs. -/
  nsze : Nat := 0
  /-- NCAP in LBAs. -/
  ncap : Nat := 0
  /-- Created with Flexible Data Placement instead of zones. -/
  fdp : Bool := false
  /-- LBA format. -/
  lbaf : Nat := 0
  /-- Protection type 0-3. -/
  pi : Nat := 0
  /-- Metadata is interleaved in an extended LBA (R48), bit 4 of FLBAS. -/
  mset : Bool := false
  /-- Bit 0 of byte 3,072. -/
  encrypted : Bool := false
  /-- Reclaim unit handles of an FDP namespace's placement handles, in order. -/
  handles : List Nat := []
  deriving DecidableEq, Repr

/-- A NAND profile (R132). -/
structure NandProfile where
  /-- Manufacturer ID. -/
  maker : Nat := 0
  /-- Device model. -/
  model : List Byte := []
  /-- Revision. -/
  rev : Nat := 0
  /-- Native cell mode, bits per cell. -/
  native : Nat := 3
  /-- Cell modes it supports. -/
  modes : List Nat := [1, 3, 4]
  /-- Typical read time [µs]. -/
  tRead : Nat := 55
  /-- Typical program time [µs]. -/
  tProg : Nat := 2000
  /-- Typical erase time [µs]. -/
  tErase : Nat := 5000
  /-- Maximum read time [µs]. -/
  tReadMax : Nat := 110
  /-- Maximum program time [µs]. -/
  tProgMax : Nat := 4000
  /-- Maximum erase time [µs]. -/
  tEraseMax : Nat := 5000
  /-- Program and erase suspend. -/
  suspend : Bool := true
  /-- Set Features allowed while an operation is suspended. -/
  setFeatures : Bool := true
  /-- Feature addresses of the read-level offsets, one per level. -/
  features : List Nat := []
  /-- Cold read-level set: an offset per level. -/
  cold : List Int := []
  /-- Read-retry sets, at most 8. -/
  retry : List (List Int) := []
  /-- Read-level set for open blocks (R141). -/
  openSet : List Int := []
  /-- Speculation threshold: syndrome weight. -/
  threshold : Nat := 1000
  /-- Rated program/erase cycles. -/
  rated : Nat := 3000
  deriving DecidableEq, Repr

/-- A firmware image as the boot ROM's checks see it (R520). -/
structure FwImage where
  /-- Its ECDSA signature verifies. -/
  signatureOk : Bool := false
  /-- Product code. -/
  product : Nat := 0
  /-- Security version, 0-256. -/
  security : Nat := 0
  /-- Firmware version. -/
  version : Nat := 0
  /-- Its bytes. -/
  bytes : List Byte := []
  /-- The NAND profiles it carries (R132). -/
  profiles : List NandProfile := [{}]
  deriving DecidableEq, Repr

/-- NVMe commands as a host puts them in a submission queue (Tables 2.6 to 2.8 and the vendor commands). `rsv` holds the
reserved bits of a vendor command, nonzero when any is set (R7). -/
inductive NvmeCmd where
  | createSq (qid size cqid prio : Nat)
  | createCq (qid size iv : Nat)
  | deleteSq (qid : Nat)
  | deleteCq (qid : Nat)
  | getLogPage (lid nsid off len : Nat) (rae : Bool)
  | identify (cns nsid cntid csi : Nat)
  | abort (sq cid : Nat)
  | setPower (ps : Nat)
  | setVwc (on save : Bool)
  | setNumQueues (nsq ncq : Nat)
  | setArbitration (dw : Dword)
  | setTemp (dw : Dword)
  | setCoalescing (dw : Dword)
  | setVector (dw : Dword)
  | setAsync (dw : Dword)
  | setTimestamp (ms : Nat)
  | setFdp (nsid fid : Nat) (dw : Dword) (on : Bool) (types : List Nat)
  | setOther (fid : Nat)
  | getFeatures (fid nsid dw11 : Nat)
  | asyncEvent
  | nsCreate (spec : NsSpec)
  | nsDelete (nsid : Nat)
  | nsAttach (nsid : Nat) (ctrls : List PortId)
  | nsDetach (nsid : Nat) (ctrls : List PortId)
  | fwDownload (off : Nat) (bytes : List Byte)
  | fwCommit (action slot : Nat) (image : FwImage)
  | format (nsid lbaf pi ses : Nat) (mset : Bool)
  | sanitize (action : Nat)
  | dictRead (nsid index sub : Nat) (ca : Bool) (len : Nat) (rsv : Dword)
  | dictWrite (nsid index sub : Nat) (ca : Bool) (data : List Byte) (rsv : Dword)
  | flush (nsid : Nat)
  | write (nsid slba : Nat) (blks : List Blk) (fua : Bool) (pi : PiCtl) (handle : Option Nat)
  | read (nsid slba n : Nat) (fua : Bool) (pi : PiCtl)
  | writeZeroes (nsid slba n : Nat) (fua : Bool) (pi : PiCtl)
  | dsm (nsid : Nat) (deallocate : Bool) (ranges : List (Nat × Nat))
  | resvRegister (nsid action cptpl : Nat) (iekey : Bool) (key new : BitVec 64)
  | resvAcquire (nsid action rtype : Nat) (iekey : Bool) (key pkey : BitVec 64)
  | resvReport (nsid : Nat)
  | resvRelease (nsid action rtype : Nat) (iekey : Bool) (key : BitVec 64)
  | zoneSend (nsid slba : Nat) (act : ZAct) (all : Bool)
  | zoneReceive (nsid slba : Nat) (extended : Bool) (state len : Nat)
  | zoneAppend (nsid zslba : Nat) (blks : List Blk) (fua : Bool) (pi : PiCtl)
  | archive (nsid zslba : Nat) (all : Bool) (tag : Nat) (rsv : Dword)
  | archiveCancel (nsid zslba : Nat) (all : Bool) (rsv : Dword)
  | recall (nsid zslba obj : Nat) (rsv : Dword)
  | archiveQuery (nsid key : Nat) (byZone : Bool) (level numd : Nat) (rsv : Dword)
  | other (admin : Bool) (opcode : Nat)
  deriving DecidableEq, Repr

/-- Zones and how far each must be programmed: NSID, zone index (or FDP namespace, index 0), LBAs from the start. -/
abbrev Targets := List (Nat × Nat × Nat)

/-- What a dispatched, uncompleted command waits for. -/
inductive Wait where
  /-- A write without the protected cache, or with FUA: its data programmed (R55, R58). -/
  | programmed (t : Targets) (dw0 dw1 : Dword)
  /-- Flush or the disabling of the write cache: data completed before it programmed (R57, R59). -/
  | flush (t : Targets)
  /-- A command that has its answer: a read with FUA until its LBAs are programmed (R58), or any command until the map
  regions it needs are rebuilt (R122); `wr` is a write's success, which a dip holds (R60). -/
  | answered (t : Targets) (wr : Bool)
  /-- Format NVM until its erases end (R519). -/
  | format
  /-- Sanitize's own command completes at its start; kept for the status read while it runs (R518). -/
  | sanitize
  /-- Delete I/O Submission Queue until the queue's dispatched commands complete (R38). -/
  | deleteSq (qid : Nat)
  /-- Set Features Power Management until its transition ends (R493). -/
  | power
  deriving DecidableEq, Repr

/-- A host access captured in PS4 and applied in arrival order after the exit (R492). -/
inductive Cap where
  | sqTail (p : PortId) (qid tail : Nat)
  | cqHead (p : PortId) (qid head : Nat)
  | reg (p : PortId) (off : Nat) (v : BitVec 64)
  | reg4 (p : PortId) (off : Nat) (v : Dword)
  | enable (p : PortId) (asqs acqs mps ams : Nat)
  | disable (p : PortId)
  | shutdown (p : PortId)
  deriving DecidableEq, Repr

/-- A write that has no row of its own (R19, R23, R455): of 8 or 4 bytes to an offset of a port's BAR0, of a dword of its
configuration space, or to a subindex of the dictionary. -/
inductive RegWrite where
  | bar (p : PortId) (off : Nat) (v : BitVec 64)
  | bar4 (p : PortId) (off : Nat) (v : Dword)
  | cfg (p : PortId) (off : Nat) (v : Dword)
  | dict (door : Door) (index sub : Nat) (ca : Bool) (data : List Byte)
  deriving DecidableEq, Repr

/-- What discovery learns of one die (R130 to R133). -/
structure DieFound where
  /-- Unique ID. -/
  uid : BitVec 128 := 0
  /-- Manufacturer ID. -/
  maker : Nat := 0
  /-- Device model of the parameter page. -/
  model : List Byte := []
  /-- Revision of the parameter page. -/
  rev : Nat := 0
  /-- ONFI 5.0 or later over NV-LPDDR4. -/
  onfi : Bool := true
  /-- Highest data rate [MT/s]. -/
  rate : Nat := 3600
  /-- Page data area [bytes]. -/
  page : Nat := 16384
  /-- Page spare area [bytes]. -/
  spareArea : Nat := 1952
  /-- Planes. -/
  planes : Nat := 4
  /-- Pages per plane block in the native cell mode. -/
  pages : Nat := 1536
  /-- Multi-plane program, read and erase. -/
  multiPlane : Bool := true
  /-- Multi-plane blocks. -/
  blocks : Nat := 2483
  /-- Factory bad blocks. -/
  bad : List Nat := []
  deriving DecidableEq, Repr

/-- What discovery finds at one volume port (R133, R134). -/
structure VolFound where
  /-- Volume port 8c + v. -/
  port : Nat := 0
  /-- The volume answers, trains and finishes its steps within 30 ms. -/
  answered : Bool := true
  /-- A parameter page copy passes its CRC. -/
  pageOk : Bool := true
  /-- Its dies in index order. -/
  dies : List DieFound := []
  deriving DecidableEq, Repr

/-- What the world supplies to one start-up (R556). -/
structure Boot where
  /-- BIF_SEL straps (R12). -/
  straps : BitVec 2 := 0
  /-- Distributed-clock time at the origin [ns]. -/
  dcNs : Nat := 0
  /-- HBM stack 0 trains. -/
  hbm0 : Bool := true
  /-- HBM stack 1 trains. -/
  hbm1 : Bool := true
  /-- The barrier link to Caldera comes up. -/
  barrier : Bool := true
  /-- HOLDUP_OK is high. -/
  holdup : Bool := true
  /-- SUPMON_HU at the self-test's start [µV]. -/
  v0 : Nat := 1400000
  /-- Self-checks of the security block that fail: causes of event 020. -/
  security : List Nat := []
  /-- Volumes found by discovery, by volume port; a port not listed is absent. -/
  vols : List VolFound := []
  /-- Channels that cannot be trained. -/
  deadChannels : List Nat := []
  /-- Staging pages whose header CRC fails at replay, by place in the staging list (R149). -/
  badStaging : List Nat := []
  /-- Time from the release of reset to ready [ms]. -/
  readyMs : Nat := 0
  deriving DecidableEq, Repr

/-- What one Read Status Enhanced poll finds (R128) and, for a read, what its decode shows (R150, R156). -/
inductive Poll where
  /-- Not finished. -/
  | busy
  /-- Finished, and passed. For a read: age bin, ladder step, most corrected bits in a codeword, per read level the bits
  read as 0 that should be 1 and as 1 that should be 0, and the syndrome weight after the decoder's first iteration. -/
  | passed (bin step bits : Nat) (ones zeros : List Nat) (weight : Nat)
  /-- Finished, and failed by status (R163). -/
  | failed
  deriving DecidableEq, Repr

/-- A candidate servo field as a trailing spot reads it (R242 to R244, R348). -/
structure Cand where
  /-- Trailing spot B0 to B3. -/
  spot : Nat := 0
  /-- Correlation with the preamble and sync pattern, per cent of ideal. -/
  corr : Nat := 100
  /-- Sample counter at its timing point, the end of the sync mark. -/
  sc : Nat := 0
  /-- Cells 32 to 101: layer number, wedge index and track number in biphase. -/
  code : List Bool := []
  /-- Amplitude of burst A. -/
  burstA : Nat := 1
  /-- Amplitude of burst B. -/
  burstB : Nat := 1
  deriving DecidableEq, Repr

/-- A zero crossing of a spindle's floating phase (R402). -/
structure Crossing where
  /-- Time [100 ns]. -/
  t : Nat := 0
  /-- Phase: 0 U, 1 V, 2 W. -/
  phase : Nat := 0
  /-- The edge rises. -/
  rising : Bool := false
  deriving DecidableEq, Repr

/-- What a watch of an undriven spindle shows (R404). -/
structure EmfWatch where
  /-- Crossings, in time order. -/
  crossings : List Crossing := []
  /-- Line-to-line back-EMF amplitude [mV]. -/
  amp : Nat := 0
  deriving DecidableEq, Repr

/-- A servo calibration's measured result (Table 11.9). -/
structure CalIn where
  /-- Measured depth of the layer [0.1 µm]; only for the depth calibration. -/
  depth : Nat := 0
  /-- S-curve swing, per mille of expected; only for the depth calibration. -/
  swing : Nat := 1000
  /-- Sum level at the S-curve peak, per cent of the set's expected value; only for the depth calibration. -/
  sum : Nat := 100
  /-- Trial offsets [nm], each with the corrected bits it gave; only for the focus offset. -/
  trials : List (Int × Nat) := []
  /-- Focus displacement of a focus error of full scale [nm]; only for the focus offset. -/
  nm : Nat := 1000
  /-- Measured tilt offset, Q1.15; only for the tilt. -/
  tilt : Int := 0
  /-- Collimator positions [microsteps], each with the S-curve swing there; only for the collimator. -/
  swings : List (Int × Int) := []
  /-- Flipped bits of the word that the result's write to the shadow calibration record reads (R186). -/
  flips : List Nat := []
  deriving DecidableEq, Repr

/-- A tail-map pair that holds marks, as it is read (R270, R271). -/
structure TailPair where
  /-- Layer. -/
  layer : Nat := 0
  /-- Pair number. -/
  n : Nat := 0
  /-- Content of the primary frame; empty when it does not decode. -/
  primary : List Byte := []
  /-- Content of the copy. -/
  copy : List Byte := []
  deriving DecidableEq, Repr

/-- What a disc shows when its lead-in and its tail maps are read (R265 to R277). -/
structure LeadIn where
  /-- Content of a media information frame (Table 7.9), as read; empty when none decodes. -/
  record : List Byte := []
  /-- Track −4,256 of layer 0 holds marks. -/
  marked : Bool := false
  /-- Tail-map pairs with marks of the layers that are read, in pair order (R276). -/
  tails : List TailPair := []
  deriving DecidableEq, Repr

/-- One step of an optimum power calibration as read back (R288). -/
structure OpcStep where
  /-- Asymmetry [per mille]. -/
  asym : Int := 0
  /-- Raw bit error rate [10⁻⁶]. -/
  rate : Nat := 0
  deriving DecidableEq, Repr

/-- What the read channel finds of a frame on the revolution that writes it (Table 8.5). -/
structure FrameRead where
  /-- The frame's samples arrived over the Causeway link. -/
  samples : Bool := true
  /-- Distance of the frame sync from its planned position [channel bits]; none when it is not found. -/
  sync : Option Int := some 0
  /-- Iterations in which the hard decode converged; none when it did not. -/
  hard : Option Nat := some 1
  /-- Bits corrected by the decode. -/
  bits : Nat := 0
  /-- The descrambled content. -/
  content : List Byte := []
  /-- Asymmetry [per mille]. -/
  asym : Int := 0
  /-- Time from the frame's last channel bit to the decision [µs]. -/
  us : Nat := 0
  deriving DecidableEq, Repr

/-- What one step of the recovery ladder gives for a frame, before its checks (Table 8.6). -/
structure DiscTry where
  /-- Step. -/
  step : Nat := 1
  /-- Bits corrected at step 1. -/
  bits : Nat := 0
  /-- The 4,128 bytes that it decoded to. -/
  content : List Byte := []
  deriving DecidableEq, Repr

/-- One frame of a recall: what steps 1 and 2 decode it to, in their order, and where they do not do, what was read of its outer block. -/
structure DiscFrame where
  /-- Decoded contents. -/
  tries : List DiscTry := []
  /-- Contents of the other positions of its outer block, by position; those that did not decode are left out (R303, R304). -/
  block : List (Nat × List Byte) := []
  deriving DecidableEq, Repr

/-- What a source disc gives for a position that step 4 rebuilds (R305). -/
structure SourceRead where
  /-- Role of the source disc. -/
  role : Nat := 0
  /-- Content at step 1 or 2, empty when it did not decode. -/
  content : List Byte := []
  /-- Contents of the other positions of the outer block on that disc, by position (R304). -/
  block : List (Nat × List Byte) := []
  deriving DecidableEq, Repr

/-- What a drive-side calibration measures (Table 13.6). -/
structure DriveCal where
  /-- How long the outputs it needs off or at zero have been so [µs]. -/
  offUs : Nat := 0
  /-- How long ago the last step of each stepper was [µs]. -/
  stillUs : List Nat := []
  /-- Highest phase-to-phase voltage [mV]. -/
  mv : Nat := 0
  /-- Results: offsets [mA] of the inputs it measures, readings of the phases [mV], or quadrants [Q1.15]. -/
  values : List Int := []
  /-- RMS noise [per mille of full scale]. -/
  noise : Nat := 0
  deriving DecidableEq, Repr

/-- What the engine meets on one bay in an engine cycle besides the servo cells (R370, R388, R401). -/
structure EngineIn where
  /-- Reference sum level of the layer, in the units of S summed over four cells. -/
  ref : Nat := 1
  /-- Focus displacement of a focus error of full scale [nm]. -/
  nm : Nat := 1000
  /-- Peak-to-peak focus error expected of an S-curve, Q1.15. -/
  swing : Nat := 32767
  /-- Sample of the spindle shunt's 12-bit converter, 2,048 its full scale (R443). -/
  sample : Int := 0
  /-- Loop type whose computation reads an uncorrectable coefficient word; 7 none. -/
  badLoop : Nat := 7
  /-- Address of that word. -/
  badAddr : Nat := 0
  /-- The word lies in the calibration record rather than in the set. -/
  badRecord : Bool := false
  deriving DecidableEq, Repr


/-- The commands, one constructor per row of spec/opcode_table.json. -/
inductive Instr where
  /-- Release of RESET_N, or VAON rising through 0.70 V (R554, R556). -/
  | powerOnReset (b : Boot)
  /-- 120 s have passed since the first boot of an image without ready (R521). -/
  | bootWatchdogExpiry (b : Boot)
  /-- A bay's start conditions hold (R557); CW_SBDI as sampled (R569). -/
  | bayStart (b : BayId) (sbdi : Bool) (clamped : Bool)
  /-- RESET_N goes low (R554). -/
  | resetNAssert
  /-- A supervised rail falls below its warning level, to mv (R539). -/
  | supplyDipStart (rail : Rail) (mv : Nat)
  /-- The stable time has passed with both rails recovered (R540, R541). -/
  | dipRidden
  /-- 2010h.08 has passed from the start of the episode (R540). -/
  | dipTimeLimit
  /-- A supervised rail reaches its reset level (R540). -/
  | supplyResetLevel (rail : Rail) (mv : Nat)
  /-- A fixed supervisor of Table 17.1 trips (R538). -/
  | fixedSupervisorTrip
  /-- The Harbour flush and its records end (R544 step 7). -/
  | harbourFlushEnd
  /-- The management cores were not serviced for 2 s (Table 17.3 cause 08h). -/
  | managementWatchdogExpiry
  /-- A junction reaches 125 °C: sensor of Table 16.8, 0.1 °C (R514). -/
  | junctionOverTemperature (sensor : Nat) (t : Int)
  /-- Every junction has stayed below 105 °C for 60 s (R545). -/
  | thermalHarbourRecovery
  /-- The composite temperature reaches CCTEMP (R514). -/
  | cctempReached (sensor : Nat) (t : Int)
  /-- The composite temperature has stayed 5 K below CCTEMP for 60 s (R514). -/
  | thermalThrottleRelease (sensor : Nat) (t : Int)
  /-- HOLDUP_OK deasserts (R56). -/
  | holdupOkFall
  /-- HOLDUP_OK rises; v0 is SUPMON_HU [µV], sampled if a self-test starts (R551). -/
  | holdupOkRise (v0 : Nat)
  /-- A write to 2040h.09 (R552); v0 is SUPMON_HU [µV]. -/
  | startSelfTest (door : Door) (value : Nat) (v0 : Nat)
  /-- The test time 2040h.04 has passed; v1 is SUPMON_HU [µV] (R550). -/
  | holdupSelfTestEnd (v1 : Nat)
  /-- 2040h.08 hours have passed since the last test (R551); v0 is SUPMON_HU [µV]. -/
  | holdupSelfTestInterval (v0 : Nat)
  /-- HOLDUP_OK has not risen within 2040h.0B of the end of replay (R551). -/
  | holdupChargeWaitExpiry
  /-- PERST_N of a port goes low (R26). -/
  | perstNAssert (p : PortId)
  /-- PERST_N of a port goes high (R22). -/
  | perstNRelease (p : PortId)
  /-- The host sets CC.EN with the admin queue sizes, CC.MPS and CC.AMS (R27, R28). -/
  | controllerEnable (p : PortId) (asqs acqs mps ams : Nat)
  /-- The host clears CC.EN (R26). -/
  | ccEnClear (p : PortId)
  /-- Function Level Reset (R26). -/
  | functionLevelReset (p : PortId)
  /-- Hot reset of the link (R26). -/
  | hotReset (p : PortId)
  /-- The port's link goes down (R39). -/
  | linkDown (p : PortId)
  /-- The host writes a shutdown notification to CC.SHN (R61). -/
  | shutdownNotification (p : PortId)
  /-- The host writes a submission queue tail doorbell (R35, R45). -/
  | sqTailDoorbell (p : PortId) (qid tail : Nat)
  /-- The host writes a completion queue head doorbell (R40, R45). -/
  | cqHeadDoorbell (p : PortId) (qid head : Nat)
  /-- The device copies the next submission queue entry, which holds c and its pointers d (R35). -/
  | commandFetch (p : PortId) (sq cid : Nat) (c : NvmeCmd) (d : Dptr := {})
  /-- A fetch ends in a PCIe error completion (R46). -/
  | fetchError (p : PortId) (sq : Nat)
  /-- The next fetched command leaves arbitration (R36, R37). -/
  | commandDispatch (e : Env)
  /-- A write to a register or dictionary subindex with no row of its own (R23, R24, R29, R455). -/
  | registerWrite (w : RegWrite)
  /-- Create I/O Submission Queue, dispatched (R34). -/
  | createIoSq (src : Src) (qid size cqid prio : Nat)
  /-- Create I/O Completion Queue, dispatched (R29, R34). -/
  | createIoCq (src : Src) (qid size iv : Nat)
  /-- Delete I/O Submission Queue, dispatched (R38). -/
  | deleteIoSq (src : Src) (qid : Nat)
  /-- Delete I/O Completion Queue, dispatched (R67). -/
  | deleteIoCq (src : Src) (qid : Nat)
  /-- Get Log Page, dispatched (R67, R513, R515). -/
  | getLogPage (src : Src) (lid nsid off len : Nat) (rae : Bool)
  /-- Identify, dispatched (R25, R27, R67). -/
  | identify (src : Src) (cns nsid cntid csi : Nat)
  /-- Abort, dispatched (R63). -/
  | abort (src : Src) (sq cid : Nat)
  /-- Set Features Power Management, dispatched (R493). -/
  | setFeaturesPowerManagement (src : Src) (ps : Nat)
  /-- Set Features Volatile Write Cache, dispatched (R57). -/
  | setFeaturesVolatileWriteCache (src : Src) (on save : Bool)
  /-- Set Features Number of Queues, dispatched (R34). -/
  | setFeaturesNumberOfQueues (src : Src) (nsq ncq : Nat)
  /-- Set Features Arbitration, dispatched (R36). -/
  | setFeaturesArbitration (src : Src) (dw : Dword)
  /-- Set Features Temperature Threshold, dispatched (R67). -/
  | setFeaturesTemperatureThreshold (src : Src) (dw : Dword)
  /-- Set Features Interrupt Coalescing, dispatched (R67). -/
  | setFeaturesInterruptCoalescing (src : Src) (dw : Dword)
  /-- Set Features Interrupt Vector Configuration, dispatched (R67). -/
  | setFeaturesInterruptVectorConfig (src : Src) (dw : Dword)
  /-- Set Features Asynchronous Event Configuration, dispatched (R67, R508). -/
  | setFeaturesAsyncEventConfig (src : Src) (dw : Dword)
  /-- Set Features Timestamp, dispatched (R67). -/
  | setFeaturesTimestamp (src : Src) (ms : Nat)
  /-- Set Features Flexible Data Placement (1Dh) or FDP Events (1Eh), dispatched; for 1Eh, whether the event types listed are enabled or disabled (R67). -/
  | setFeaturesFdp (src : Src) (nsid fid : Nat) (dw : Dword) (on : Bool := true) (types : List Nat := [])
  /-- Get Features, dispatched (R67). -/
  | getFeatures (src : Src) (fid nsid dw11 : Nat)
  /-- Asynchronous Event Request, dispatched (R508). -/
  | asyncEventRequest (src : Src)
  /-- Namespace Management create, dispatched (R83, R105, R144, R529). -/
  | namespaceCreate (src : Src) (spec : NsSpec)
  /-- Namespace Management delete, dispatched (R98). -/
  | namespaceDelete (src : Src) (nsid : Nat)
  /-- Namespace Attachment attach, dispatched (R67). -/
  | namespaceAttach (src : Src) (nsid : Nat) (ctrls : List PortId)
  /-- Namespace Attachment detach, dispatched (R67). -/
  | namespaceDetach (src : Src) (nsid : Nat) (ctrls : List PortId)
  /-- Firmware Image Download, dispatched (R520). -/
  | firmwareImageDownload (src : Src) (off : Nat) (bytes : List Byte)
  /-- Firmware Commit with action 000b or 001b, dispatched; image is what the assembled bytes hold (R520). -/
  | firmwareCommitStore (src : Src) (action slot : Nat) (image : FwImage)
  /-- Firmware Commit with action 010b or 011b, dispatched (R520). -/
  | firmwareCommitActivate (src : Src) (action slot : Nat)
  /-- Format NVM, dispatched; mset asks for extended LBAs (R48, R519). -/
  | formatNvm (src : Src) (nsid lbaf pi ses : Nat) (mset : Bool := false)
  /-- The erases or the new key of the running Format are done (R519). -/
  | formatComplete
  /-- Sanitize Block Erase, dispatched (R517). -/
  | sanitizeBlockErase (src : Src)
  /-- Sanitize Crypto Erase, dispatched (R517). -/
  | sanitizeCryptoErase (src : Src)
  /-- Sanitize Exit Failure Mode, dispatched (R517). -/
  | sanitizeExitFailureMode (src : Src)
  /-- The running Sanitize ends, completed or in the cases of R517 failed (R518). -/
  | sanitizeComplete
  /-- Dictionary Read, dispatched (R77). -/
  | dictionaryRead (src : Src) (nsid index sub : Nat) (ca : Bool) (len : Nat) (rsv : Dword)
  /-- Dictionary Write, dispatched (R78). -/
  | dictionaryWrite (src : Src) (nsid index sub : Nat) (ca : Bool) (data : List Byte) (rsv : Dword)
  /-- Flush, dispatched (R59). -/
  | flush (src : Src) (nsid : Nat)
  /-- Write, dispatched (R37, R49, R90). -/
  | write (src : Src) (e : Env) (nsid slba : Nat) (blks : List Blk) (fua : Bool) (pi : PiCtl) (handle : Option Nat)
  /-- Read, dispatched (R94). -/
  | read (src : Src) (e : Env) (nsid slba n : Nat) (fua : Bool) (pi : PiCtl)
  /-- Write Zeroes, dispatched (R587). -/
  | writeZeroes (src : Src) (e : Env) (nsid slba n : Nat) (fua : Bool) (pi : PiCtl)
  /-- Dataset Management, dispatched: ranges of start LBA and count (R67). -/
  | datasetManagement (src : Src) (nsid : Nat) (deallocate : Bool) (ranges : List (Nat × Nat))
  /-- Reservation Register, dispatched (R67). -/
  | reservationRegister (src : Src) (nsid action cptpl : Nat) (iekey : Bool) (key new : BitVec 64)
  /-- Reservation Acquire, dispatched (R67). -/
  | reservationAcquire (src : Src) (nsid action rtype : Nat) (iekey : Bool) (key pkey : BitVec 64)
  /-- Reservation Report, dispatched (R67). -/
  | reservationReport (src : Src) (nsid : Nat)
  /-- Reservation Release, dispatched (R67). -/
  | reservationRelease (src : Src) (nsid action rtype : Nat) (iekey : Bool) (key : BitVec 64)
  /-- Zone Management Send Open, dispatched (R90). -/
  | zoneOpen (src : Src) (nsid slba : Nat) (all : Bool)
  /-- Zone Management Send Close, dispatched (R90). -/
  | zoneClose (src : Src) (nsid slba : Nat) (all : Bool)
  /-- Zone Management Send Finish, dispatched (R90). -/
  | zoneFinish (src : Src) (nsid slba : Nat) (all : Bool)
  /-- Zone Management Send Reset, dispatched (R90). -/
  | zoneReset (src : Src) (nsid slba : Nat) (all : Bool)
  /-- Zone Management Send Offline, dispatched (R90). -/
  | zoneOffline (src : Src) (nsid slba : Nat) (all : Bool)
  /-- Zone Management Send Set Zone Descriptor Extension, dispatched (R93). -/
  | setZoneDescriptorExtension (src : Src) (nsid slba : Nat)
  /-- Zone Management Receive (Extended) Report Zones from slba on, dispatched (R89, R100). -/
  | zoneManagementReceive (src : Src) (nsid slba : Nat) (extended : Bool) (state len : Nat)
  /-- Zone Append, dispatched (R44). -/
  | zoneAppend (src : Src) (e : Env) (nsid zslba : Nat) (blks : List Blk) (fua : Bool) (pi : PiCtl)
  /-- Zone Archive, dispatched (R69). -/
  | zoneArchive (src : Src) (nsid zslba : Nat) (all : Bool) (tag : Nat) (rsv : Dword)
  /-- Archive Cancel, dispatched (R71). -/
  | archiveCancel (src : Src) (nsid zslba : Nat) (all : Bool) (rsv : Dword)
  /-- Zone Recall, dispatched (R73). -/
  | zoneRecall (src : Src) (nsid zslba obj : Nat) (rsv : Dword)
  /-- Archive Query, dispatched (R75). -/
  | archiveQuery (src : Src) (nsid key : Nat) (byZone : Bool) (level numd : Nat) (rsv : Dword)
  /-- A write of 2110h.01 to .04 (R31, R32). -/
  | queuePoolSplitWrite (door : Door) (sub value : Nat)
  /-- A write of a subindex of 2210h (R108, R109). -/
  | tenantTableWrite (door : Door) (sub : Nat) (data : List Byte)
  /-- A write of 2220h.01 to .09 (R115). -/
  | budgetWrite (door : Door) (sub value : Nat)
  /-- A write of 2220h.0A (R117). -/
  | profileSelect (door : Door) (value : Nat)
  /-- The 1.000 ms budget period boundary of all dies (R112). -/
  | budgetPeriodBoundary
  /-- An array operation that waits on a die asks to start: op 0 read, 1 program, 2 erase; cls in the order of 2220h.01 to .07; level is the read-level set it wants, block the block it is on; reclaim is the FDP namespace whose space it reclaims, 0 none (R107, R113, R114). -/
  | flashOperationStart (port die op cls tenant level block : Nat) (reclaim : Nat := 0)
  /-- Geyser takes up a zone: it programs its next complete row, or stages its remainder (R140, R145); mem are the errors met in its staged lines (R189). -/
  | programRowDispatch (nsid idx : Nat) (mem : List MemHit := [])
  /-- A Read Status Enhanced poll falls due (R128). -/
  | flashStatusPoll (port die : Nat) (r : Poll)
  /-- An operation exceeds twice its maximum time (R129). -/
  | flashOperationTimeout (port die : Nat)
  /-- A host read of a tenant with suspend right waits on a die in program or erase (R119). -/
  | programSuspend (port die : Nat)
  /-- No such read waits any more, or the 400 µs limit is reached (R119). -/
  | programResume (port die : Nat)
  /-- Staged data of a zone is programmed into its blocks (R145, R149). -/
  | stagedDataMigrate (nsid idx : Nat)
  /-- A member block queued for refresh is copied: whether a page failed step 4, and whether a block of the die took the copy (R160). -/
  | refreshRelocation (nsid idx pos : Nat) (lost placed : Bool)
  /-- The wear gap of a die is examined (R162). -/
  | wearMove (port die : Nat) (placed : Bool)
  /-- 60 s since the last checkpoint of read counts (R158). -/
  | readCountCheckpoint
  /-- A lost member of a zone has been rebuilt page by page (R166). -/
  | memberRebuild (nsid idx pos : Nat)
  /-- Sounding has read 64 pages of one die and age bin (R157). -/
  | coldStartReads (port die bin : Nat) (ones zeros : List Nat)
  /-- A write of 2400h.04 (R135, R143). -/
  | cellModeWrite (door : Door) (value : Nat)
  /-- The erases of a tier format have ended; volume port, die and block of each that failed (R143). -/
  | tierFormatComplete (failures : List (Nat × Nat × Nat))
  /-- A write of 2410h.09 (R170). -/
  | volumeAdopt (door : Door) (port : Nat)
  /-- The erases of an adopted volume have ended; bad blocks by die (R171). -/
  | adoptionComplete (port : Nat) (bad : List (List Nat))
  /-- A write of 2410h.0A (R172). -/
  | volumeRetire (door : Door) (port : Nat)
  /-- The members of a retiring volume are rebuilt (R172). -/
  | retirementComplete (port : Nat)
  /-- The rebuild of a map region ends (R122). -/
  | mapRegionRebuildComplete (r : Nat)
  /-- A leak interval of bucket m falls (R190). -/
  | bucketLeak (m : Nat)
  /-- A write of 5010h.09 (R192). -/
  | bucketClear (door : Door) (value : Nat)
  /-- A write of 2600h.01 to .10 (R191). -/
  | bucketSettingsWrite (door : Door) (sub value : Nat)
  /-- Sounding reads words lines of HBM, or words of SRAM, and meets these errors (R193). -/
  | soundingPatrol (hbm : Bool) (words : Nat) (hits : List MemHit)
  /-- Sounding has read the selected pages of a written member block: the worst decode, and what R156 counts (R195). -/
  | flashPatrol (nsid idx pos bin step bits : Nat) (ones zeros : List Nat := [])
  /-- A write of 2610h.01 (R182). -/
  | scratchpadCarveOut (door : Door) (value : Nat)
  /-- A write of 01h or 81h to 2610h.08 (R184). -/
  | cacheClean (door : Door) (byWay : Bool)
  /-- A write of 02h or 82h to 2610h.08 (R181, R184). -/
  | cacheInvalidate (door : Door) (byWay : Bool)
  /-- A write of 03h or 83h to 2610h.08 (R184). -/
  | cacheCleanAndInvalidate (door : Door) (byWay : Bool)
  /-- A write of 2800h.03 (R209). -/
  | startSetNow (door : Door) (value : Nat)
  /-- Ebb looks whether it may build a plan (R209); mem are the memory errors met on the way. -/
  | planBuildStart (mem : List MemHit)
  /-- The plan being built is complete: it is digested, recorded in Tidemark and sealed (R215). -/
  | planSeal
  /-- The plan of a set is to be rebuilt from its seal record (R217). -/
  | planRebuild (sid : Nat)
  /-- A plan has been rebuilt from its seal record: the digest of what was built (R217). -/
  | planDigestCheck (sid : Nat) (digest : BitVec 64)
  /-- Every original disc of the writing set has closed or failed, or no set writes (R213, R229). -/
  | setBoundary
  /-- The next row of a bay comes due: what the flash tier found on the pages of the row's objects (object; LBA offset in the object) where it has not been read with another bay, and the memory errors met (R207, R208, R219, R228). -/
  | rowStage (b : BayId) (reads : List (Nat × Media)) (mem : List MemHit)
  /-- The start angle of the bay's next row comes up (R219). -/
  | rowStart (b : BayId)
  /-- The read channel decides on a frame of the row in writing, by its place in the row's frame list (R292, R293). -/
  | frameDecision (b : BayId) (idx : Nat) (f : FrameRead)
  /-- The planned angle of the first withdrawn frame comes round (R221). -/
  | writeResume (b : BayId)
  /-- A bay may be given to the next pending replacement disc (R227, R229). -/
  | replacementStart
  /-- A 10 s window of replacement staging ends (R228). -/
  | replacementPacingWindow
  /-- A write of 2820h.05 (R230, R236). -/
  | reconstructRequest (door : Door) (value : Nat)
  /-- The reconstruction ends: its replacement has closed, or a frame exhausted its ladder or a disc was not to be had (R230, R306). -/
  | reconstructionComplete (failed : Bool)
  /-- A recovered frame of a bay's disc is to be rewritten: the next unused reserve slot found on its layer, and whether the frame written there was confirmed (R231, R307). -/
  | reallocation (b : BayId) (pfa slot : Nat) (confirmed : Bool)
  /-- A bay has compared its disc with the plan: lead-in, first row with no marks, positions of the rows before it that doubt arises about with what steps 1 and 2 of the ladder give for them (empty when nothing), positions left blank there, and reserve slots with marks from the recorded next one on (R232). -/
  | resynchronisation (b : BayId) (lead : LeadIn) (row : Nat) (read : List (Nat × List Byte)) (blanks : List Nat) (slotsUsed : Nat)
  /-- The disc loaded for a recall has been read to its lead-in (R234). -/
  | recallDiscIdentify (b : BayId) (lead : LeadIn)
  /-- The next frames of a recall's object have been read, with the outer blocks of those that steps 1 and 2 did not give (R235, R303). -/
  | recallRead (obj : Nat) (frames : List DiscFrame)
  /-- Optimum power calibration of a layer: the 20 steps as read back (R286 to R290). -/
  | opc (b : BayId) (layer : Nat) (steps : List OpcStep)
  /-- A write of 4400h.01 to .03 or 4410h to 4417h (R284). -/
  | strategyTableWrite (door : Door) (index sub : Nat) (data : List Byte)
  /-- A frame read outside a recall has been through hard and soft decode: its PFA, the 4,128 descrambled bytes (empty when it did not decode), bits corrected (R300, R301). -/
  | discFrameDecode (b : BayId) (pfa : Nat) (content : List Byte) (bits : Nat)
  /-- A further revolution with the settings of Table 8.7 has been read: what the frame then decoded to, empty when it did not (R302). -/
  | ladderStep2Revolution (b : BayId) (content : List Byte)
  /-- A position of the disc of a role is rebuilt from what the other discs of its set gave at the same position (R305). -/
  | pqReconstruct (b : BayId) (k role pfa : Nat) (sources : List SourceRead)
  /-- A write of 3050h.0E (R309). -/
  | channelStatisticsClear (door : Door) (b : BayId) (value : Nat)
  /-- The 64 bytes of an upstream spot sample cell arrive (R313, R317). -/
  | spotSampleCell (b : BayId) (cell : List Byte)
  /-- The 64 bytes of an upstream servo cell arrive (R319). -/
  | servoCell (b : BayId) (cell : List Byte)
  /-- The 64 bytes of an upstream status cell arrive (R321). -/
  | statusCell (b : BayId) (cell : List Byte)
  /-- Training reaches step 6 of Table 9.13: the identity block as each read over the sideband gave it, the TS1 received on lanes 0 to 3, the time it took [µs] and the upstream delay measured [ns] (R335, R336). -/
  | linkTraining (b : BayId) (reads sets : List (List Byte)) (us delay : Nat)
  /-- A step of Table 9.13 is not reached within 200 ms (R336). -/
  | trainingTimeout (b : BayId)
  /-- Block lock is lost, or a retrain that cell errors called for is made; what its steps 2 to 7 find (R337). -/
  | linkRetrain (b : BayId) (reads sets : List (List Byte)) (us delay : Nat)
  /-- A register write has not been acknowledged within 20 µs (R328). -/
  | registerAckTimeout (b : BayId)
  /-- CW_FLT_N falls with no status cell showing a fault within 2 µs; the fault bits as the sideband reads them (R339). -/
  | cwFltNLow (b : BayId) (faults : BitVec 16)
  /-- A write of 3070h.0D (R340). -/
  | causewayClear (door : Door) (b : BayId) (value : Nat)
  /-- The window of the next wedge closes; the candidates the trailing spots have shown up to it (R348 to R351). -/
  | windowClose (b : BayId) (cands : List Cand)
  /-- The wedge whose window closed is committed; the tracking actuator displaces the spots by lens nm (R351, R362). -/
  | wedgeCommit (b : BayId) (lens : Int)
  /-- A candidate is found in acquire (R347). -/
  | acquireLock (b : BayId) (cand : Cand)
  /-- The angle reaches the first entry of the event queue (R355). -/
  | eventFire (b : BayId)
  /-- The encoder lines change, samples samples after the last change (R360). -/
  | encoderCount (b : BayId) (lineA lineB : Bool) (samples : Nat)
  /-- A write of 3080h.12 (R363). -/
  | timebaseClear (door : Door) (b : BayId) (value : Nat)
  /-- An engine cycle boundary; what the engine meets by bay, and whether the command frame crosses the barrier intact (R364, R433). -/
  | engineCycleBoundary (ins : List EngineIn) (frameOk : Bool)
  /-- The computation of a loop type exceeds its budget (R378). -/
  | loopOverrun (b : BayId) (loop : Nat)
  /-- A write of 4000h.13 (R382). -/
  | coefficientCommit (door : Door) (value : Nat)
  /-- A write of 4C00h.01 (R377). -/
  | scheduleWrite (door : Door) (data : List Byte)
  /-- Focus is to be captured on a layer from park (R388). -/
  | focusCapture (b : BayId) (layer : Nat)
  /-- A capture has not settled within 50 ms (R389). -/
  | captureSettleTimeout (b : BayId)
  /-- A jump to another layer (R390). -/
  | layerJump (b : BayId) (layer : Nat)
  /-- A seek to a row (R392). -/
  | seek (b : BayId) (row : Int)
  /-- The write channel asks for mode write (R394). -/
  | writeModeEntry (b : BayId)
  /-- A servo calibration, numbered 1 to 5 in the order of Table 11.9, ends with what it measured; layer is the layer measured (R398). -/
  | servoCalibration (b : BayId) (cal layer : Nat) (r : CalIn)
  /-- A write of 3012h.06 (R400). -/
  | servoCountsClear (door : Door) (b : BayId) (value : Nat)
  /-- A write of 1 to 3020h.03 (R404, R409, R416, R417). -/
  | spindleStart7200 (door : Door) (b : BayId)
  /-- A write of 2 to 3020h.03. -/
  | spindleStart9600 (door : Door) (b : BayId)
  /-- A write of 3 to 3020h.03 (R406, R414). -/
  | spindleBrake (door : Door) (b : BayId)
  /-- A write of 4 to 3020h.03 (R414). -/
  | spindleCoast (door : Door) (b : BayId)
  /-- A write of 5 to 3020h.03 (R408, R411). -/
  | spindleStartAtSpeed (door : Door) (b : BayId)
  /-- The 20 ms watch ends: the crossings and the amplitude seen (R404). -/
  | spindleWatchEnd (b : BayId) (seen : EmfWatch)
  /-- A commutation of the open-loop start at time t [100 ns]; the first carries the six peaks of position detection and of its repetition (R407). -/
  | forcedCommutation (b : BayId) (peaks again : List Nat) (t : Nat)
  /-- 500 ms have passed since the last forced commutation (R407). -/
  | startTimeout (b : BayId)
  /-- The speed of a spindle that is not driven is measured, as the watch does (R406). -/
  | brakeCheck (b : BayId) (seen : EmfWatch)
  /-- The 200 ms hold at a brake's end has passed (R406). -/
  | brakeEnd (b : BayId)
  /-- Caldera timestamps a zero crossing (R402). -/
  | zeroCrossing (b : BayId) (c : Crossing)
  /-- The time of the commutation that a crossing set is reached (R402). -/
  | commutation (b : BayId)
  /-- 1.5 × T_prev pass with no accepted crossing (R403). -/
  | missedWindow (b : BayId)
  /-- 1 s has passed since a failed start or locked rotor (R410). -/
  | spindleRetry (b : BayId)
  /-- The speed has stayed within ±0.5 % of the target for 100 ms (R408). -/
  | spindleRunning (b : BayId)
  /-- Duty at its maximum and speed below the target for 100 ms (R412). -/
  | speedLimited (b : BayId)
  /-- 1 s has passed since a coast with observation began (R415). -/
  | coastObservationTimeout (b : BayId)
  /-- A write of 3020h.11 (R417). -/
  | spindleCountsClear (door : Door) (b : BayId) (value : Nat)
  /-- A stepper's timer expires: 0 sled, 1 loader, 2 collimator (R420). -/
  | stepTimer (b : BayId) (which : Nat)
  /-- 1 ms of the chopper has passed: the 12-bit conversions of the windings' shunts at each µs of it (R422, R443). -/
  | chopperOffsetUpdate (b : BayId) (which : Nat) (sensedA sensedB : List Int)
  /-- A write of 1 to 3030h.0F (R426). -/
  | sledHome (door : Door) (b : BayId)
  /-- A write of 2 to 3030h.0F (R427). -/
  | sledPark (door : Door) (b : BayId)
  /-- A write of 3 to 3030h.0F (R425). -/
  | sledStop (door : Door) (b : BayId)
  /-- A write of 4 to 3030h.0F. -/
  | sledDeEnergise (door : Door) (b : BayId)
  /-- A write of 3030h.10 (R418, R430). -/
  | sledTargetPosition (door : Door) (b : BayId) (value : Int)
  /-- A write of 1 to 3040h.03 (R428). -/
  | loaderOpen (door : Door) (b : BayId)
  /-- A write of 2 to 3040h.03 (R428). -/
  | loaderClamp (door : Door) (b : BayId)
  /-- A write of 3 to 3040h.03 (R425). -/
  | loaderStop (door : Door) (b : BayId)
  /-- A write of 1 to 3040h.17 (R426). -/
  | collimatorHome (door : Door) (b : BayId)
  /-- A write of 3 to 3040h.17 (R425). -/
  | collimatorStop (door : Door) (b : BayId)
  /-- Either side has received no valid frame for 20 µs (R434). -/
  | barrierLoss
  /-- An attempt to retrain the barrier link ends (R434); what each bay's calibrations then measure, in the order of Table 13.6 (R452). -/
  | barrierRetrain (ok : Bool) (results : List (List DriveCal))
  /-- A level of Table 13.1 is crossed: 1 VFLD below 17.0 V, 2 below 16.0 V, 3 above 57.0 V, 4 above 59.0 V, 5 VDRV, 6 VCOIL, 7 VDL; the supply's value [mV] (R435). -/
  | driveSupplyCrossing (level mv : Nat)
  /-- The recovery of such a level (R435). -/
  | driveSupplyRecovery (level mv : Nat)
  /-- A coil output reaches 1.2 A: 0 focus, 1 tracking, 2 tilt (R439, R446). -/
  | coilCurrentLimit (b : BayId) (coil : Nat)
  /-- 10 ms after a coil output went off it is enabled at zero command (R446). -/
  | coilRetry (b : BayId) (coil : Nat)
  /-- A retry has run for 100 ms without reaching the limit (R446). -/
  | coilRetryEpisodeEnd (b : BayId) (coil : Nat)
  /-- A coil's filtered RMS value crosses a threshold (R440). -/
  | coilRmsThreshold (b : BayId) (coil : Nat)
  /-- The sum of the 48 RMS values passes a threshold of R441. -/
  | aggregateCoilLimit
  /-- One second has passed with the sum above 8.0 A (R441). -/
  | aggregateCoilRepeat
  /-- DRV_EN_bb goes low (R442). -/
  | drvEnLow (b : BayId)
  /-- DRV_EN_bb returns high (R442). -/
  | drvEnHigh (b : BayId)
  /-- Caldera detects cause 1 to 4 of Table 13.4 on a bridge: 0 spindle, 1 sled, 2 loader, 3 collimator (R445). -/
  | driveSideFault (b : BayId) (cause bridge : Nat)
  /-- A write of 3060h.02 (R449). -/
  | faultClear (door : Door) (b : BayId) (value : Nat)
  /-- A write of 1 to 3000h.03; CW_SBDI as then sampled, and what the calibrations of the restart measure (R451, R452, R569). -/
  | bayRestart (door : Door) (b : BayId) (sbdi : Bool) (results : List DriveCal)
  /-- A write of 2 to 3000h.03 (R450, R475). -/
  | enterBayHarbour (door : Door) (b : BayId)
  /-- A write of 3060h.0E, and what the calibrations it requests measure, in the order of Table 13.6 (R452). -/
  | calibrationRequest (door : Door) (b : BayId) (value : Nat) (results : List DriveCal)
  /-- A write of 3000h.02; CW_SBDI as sampled when the bay is enabled (R475, R569). -/
  | bayEnableWrite (door : Door) (b : BayId) (value : Nat) (sbdi : Bool)
  /-- A CoE SDO download, whole, or one segment of a segmented one (R463). -/
  | sdoDownload (index sub : Nat) (ca segmented last : Bool) (data : List Byte)
  /-- A CoE SDO upload (R463). -/
  | sdoUpload (index sub : Nat) (ca : Bool)
  /-- A CoE SDO Information request: 1 object list, 3 object description, 5 entry description (R463). -/
  | sdoInformation (kind index sub : Nat)
  /-- A segmented download has stalled for 2 s (R463). -/
  | segmentedTransferTimeout
  /-- A bench port request frame with operation 01h (R465). -/
  | benchRead (frame : List Byte)
  /-- A bench port request frame with operation 02h (R465). -/
  | benchWrite (frame : List Byte)
  /-- The bench host runs the answer phase (R465). -/
  | benchAnswer
  /-- A bench port request frame with operation 03h (R466). -/
  | benchHarbour (frame : List Byte)
  /-- A bench port request frame with operation 04h (R466). -/
  | benchReset (frame : List Byte)
  /-- A bench port request frame with operation 10h (R467). -/
  | benchNorRead (frame : List Byte)
  /-- A bench port request frame with operation 11h (R467). -/
  | benchNorErase (frame : List Byte)
  /-- A bench port request frame with operation 12h (R467). -/
  | benchNorProgram (frame : List Byte)
  /-- A bench port request frame with operation 13h, and the boot that follows it (R467, R521). -/
  | benchReboot (frame : List Byte) (b : Boot)
  /-- A write of 1011h.01 (R458). -/
  | restoreDefaults (door : Door) (value : Nat)
  /-- A write of 2000h.06 (R459). -/
  | lockNow (door : Door) (value : Nat)
  /-- The lock point falls (R459). -/
  | lockPoint
  /-- The receive PDO brings library command 1 with its sequence (R480). -/
  | libraryOpenLoader (b : BayId) (seq : Nat)
  /-- The receive PDO brings library command 2 (R480). -/
  | libraryClamp (b : BayId) (seq : Nat)
  /-- The receive PDO brings library command 3 (R480). -/
  | libraryStopLoader (b : BayId) (seq : Nat)
  /-- The receive PDO holds answer 1 to a request sequence; lead is what the lead-in shows once the disc is clamped (R478, R266, R277). -/
  | libraryAnswerLoaded (b : BayId) (seq : Nat) (lead : LeadIn)
  /-- The receive PDO holds answer 2 to a request sequence (R478). -/
  | libraryAnswerUnloaded (b : BayId) (seq : Nat)
  /-- The receive PDO holds answer 3 to a request sequence (R478). -/
  | libraryAnswerUnavailable (b : BayId) (seq : Nat)
  /-- 2800h.06 has passed since the request without an answer that takes effect (R478). -/
  | libraryRequestTimeout (b : BayId)
  /-- 30 s have passed since a blank-disc request was answered unavailable (R478). -/
  | blankRequestRetry (b : BayId)
  /-- 60 s have passed since an unload was withdrawn unanswered (R478). -/
  | unloadRepost (b : BayId)
  /-- The disc-present input rises; lead is what the lead-in shows when the disc is identified (R481). -/
  | discInserted (b : BayId) (lead : LeadIn)
  /-- The EtherCAT state machine enters Init (1), PreOp (2), SafeOp (4) or Op (8), and the command sequences of the first receive PDO in Op, by bay (R482). -/
  | ethercatStateChange (st : Nat) (seqs : List Nat)
  /-- The process data watchdog expires (R482). -/
  | pdoWatchdogExpiry
  /-- A write of 2050h.03 (R483). -/
  | adminArm (door : Door) (value : Nat)
  /-- 2050h.02 seconds have passed since the arm (R483). -/
  | armWindowExpiry
  /-- A write of 2050h.04 with code 01h (R485). -/
  | adminRequestFormat (door : Door) (nsid : Nat) (cdw10 cdw11 : Dword)
  /-- A write of 2050h.04 with code 02h (R485). -/
  | adminRequestSanitize (door : Door) (nsid : Nat) (cdw10 cdw11 : Dword)
  /-- A write of 2050h.04 with code 03h (R485). -/
  | adminRequestNamespaceDelete (door : Door) (nsid : Nat) (cdw10 cdw11 : Dword)
  /-- A write of 2050h.01 (R483). -/
  | adminPolicyChange (door : Door) (value : Nat)
  /-- A write of 2060h.04 (R528). -/
  | adoptTier (door : Door) (value : Nat)
  /-- The delay of a handshake block has passed and it is asked again (R495). -/
  | powerHandshakeDelay
  /-- A wake from PS3 or PS4 (R491, R492, R499); b is what the exit's discovery finds. -/
  | powerWake (b : Boot)
  /-- The delay of the power policy that runs has passed (R500). -/
  | policyIdleTimer
  /-- The Shoal unit wakes in PS4 and samples (R501). -/
  | shoalWatchCycle (mv12 mvField : Nat) (temps : List Int) (discs : List (Bool × Bool)) (links : List Bool) (b : Boot)
  /-- 10 µs have passed since the last vendor MSI-X message (R509). -/
  | msixCoalesceTimer
  /-- The oldest emergency message leaves the buffer (R510). -/
  | emergencyMessageSent
  /-- A port's link trains: the partner's highest rate [GT/s], the lanes that came up, whether the lanes are reversed, and the lanes of inverted polarity (R18, R19). -/
  | pcieLinkUp (p : PortId) (rate width : Nat) (reversed : Bool := false) (inverted : List Nat := [])
  /-- ECAT_LINK_p changes (R512). -/
  | ethercatPortLinkChange (port : Bool) (up : Bool)
  /-- The disc-present input of a bay falls (R223, R478). -/
  | discRemoved (b : BayId)
  /-- The composite temperature, set by this sensor, has moved to t [0.1 °C] (R513). -/
  | temperatureThresholdCrossing (sensor : Nat) (t : Int)
  /-- An SPDM request arrives on a port (R524). -/
  | spdmRequest (p : PortId) (msg : List Byte)
  /-- The oldest page of a member block passes 2440h.02 (R159). -/
  | retentionAgeReached (nsid idx pos : Nat)
  /-- 10 ms have passed since a laser fault of bit 0 or 1 (R339). -/
  | laserFaultClear (b : BayId)
  deriving DecidableEq, Repr

end Sys2Proof
end

