-- ==== Sys2Proof/Config.lean ====
section
/-! DEFINITION. What an implementation fixes and the spec does not give: free values and functions without a body.
Nothing can be proved of their results but what follows from equal arguments. -/

namespace Sys2Proof.Config

open Sys2Proof

/-- A value the spec leaves open, fresh at each use: the model applies it to State.free and advances that counter
(log 5). -/
opaque freeValue : Nat → BitVec 64

/-- What the boot ROM's checks see in the bytes of a NOR slot that the bench port has programmed (R467, R520). -/
opaque parseImage : List (Nat × Byte) → Option FwImage

/-- SHA-384 (R520, R525). -/
opaque sha384 : List Byte → BitVec 384

/-- The boot ROM's digest, fixed in the part (R525). -/
opaque bootRomDigest : BitVec 384

/-- The device certificate's digest, fixed at manufacture (R523, R526). -/
opaque certificateDigest : BitVec 384

/-- The built-in contents of the Korzel tables that the spec calls built-in, by index and subindex (Tables 8.3, 11.7). -/
opaque builtIn : Nat → Nat → List Byte

/-- The NAND profiles in the content of 2400h.09, whose layout the spec leaves to Korzel (R132, log 138). -/
opaque addedProfiles : List Byte → List NandProfile

/-- Travel of the collimator [1/256 full step], which its mechanism fixes and the spec does not give (R426, log 46). -/
opaque collimatorTravel : Nat

/-- The plan digest (R215): a CRC-64 over the plan in the order of Table 6.3, whose byte layout the spec does not give:
set identifier, k, extents as object, disc, first user frame and frame count, and the strategy map. -/
opaque planDigest : Nat → Nat → List (Nat × Nat × Nat × Nat) → List Byte → BitVec 64

/-- The XTS key pairs that the device draws, in the order of the draws (R531). -/
opaque xtsKeys : Nat → BitVec 512

/-- LDPC parity of a codeword: its length in bytes and the bytes it covers (R139). -/
opaque ldpcParity : Nat → List Byte → List Byte

/-- The data randomizer's bytes for a page, seeded from the volume port, die, block, plane and page (R139). -/
opaque pageMask : Nat → Nat → Nat → Nat → Nat → List Byte

/-- The minor version of the NVMe Base Specification 2.x that VS and Identify Controller report (R67). -/
opaque nvmeMinor : BitVec 8

/-- The required hold-up energy [mJ] when no channel is in service, where the formula of R547 divides by 0. -/
opaque energyNoChannel : Nat

/-- The value of the sample signal at a channel bit of a data segment, by the timing recovery that locks on the segment's preamble and
sync (R297, log 148): the segment's samples without their DC level, and the bit. -/
opaque retime : List Rat → Nat → Rat

/-- Asymmetry correction of one value of a data segment (R297, log 148). -/
opaque evenOut : List Rat → Rat → Rat

/-- Step size of the least mean squares adaptations (R297, R298, log 148). -/
opaque lmsStep : Rat

/-- Scale of the detector's log-likelihood ratios (R299, log 148). -/
opaque llrScale : Rat

/-- The envelope at a channel bit of a data segment's samples (R301, log 148). -/
opaque envelope : List Rat → Nat → Rat

end Sys2Proof.Config
end

