-- ==== Sys2Proof/Machine/Bytes.lean ====
section
/-! DEFINITION. Byte order, bit fields and the cyclic redundancy checks of R583. Multi-byte values are little-endian
(R454, R465, R583). -/

namespace Sys2Proof.Machine

open Sys2Proof

/-- The n low bytes of v, low byte first. -/
def leBytes : Nat → Nat → List Byte
  | 0, _ => []
  | n + 1, v => BitVec.ofNat 8 v :: leBytes n (v / 256)

/-- The number that bytes hold, low byte first. -/
def ofBytes : List Byte → Nat
  | [] => 0
  | b :: bs => b.toNat + 256 * ofBytes bs

/-- The n low bytes of the two's complement of v. -/
def leInt (n : Nat) (v : Int) : List Byte :=
  leBytes n (v % (2 ^ (8 * n) : Nat)).toNat

/-- The signed number of an n-byte two's complement encoding. -/
def signedOf (n v : Nat) : Int :=
  if v % 2 ^ (8 * n) < 2 ^ (8 * n - 1) then (v % 2 ^ (8 * n) : Nat)
  else ((v % 2 ^ (8 * n) : Nat) : Int) - (2 ^ (8 * n) : Nat)

/-- The bytes of a BitVec, low byte first. -/
def bvBytes (n : Nat) {w : Nat} (v : BitVec w) : List Byte :=
  leBytes n v.toNat

/-- Bits lo to hi of n. -/
def bitsOf (n lo hi : Nat) : Nat :=
  (n / 2 ^ lo) % 2 ^ (hi + 1 - lo)

/-- Bit k of n. -/
def bitOf (n k : Nat) : Bool :=
  (n / 2 ^ k) % 2 = 1

/-- Take n bytes, filling with zero. -/
def takePad (n : Nat) (l : List Byte) : List Byte :=
  (l ++ List.replicate (n - l.length) 0#8).take n

/-- Trailing zero bytes removed (R454). -/
def trimZeros (l : List Byte) : List Byte :=
  (l.reverse.dropWhile (· == 0#8)).reverse

/-- ASCII bytes of a string. -/
def ascii (s : String) : List Byte :=
  s.toList.map fun c => BitVec.ofNat 8 c.toNat

/-- An uppercase hexadecimal digit. -/
def hexDigit (n : Nat) : Byte :=
  BitVec.ofNat 8 (if n < 10 then 48 + n else 55 + n)

/-- Four uppercase hexadecimal digits. -/
def hex4 (n : Nat) : List Byte :=
  [hexDigit (n / 4096 % 16), hexDigit (n / 256 % 16), hexDigit (n / 16 % 16), hexDigit (n % 16)]

/-- One bit of a CRC whose register is shifted left. -/
def crcStepL (w : Nat) (poly : BitVec w) (r : BitVec w) : Nat → BitVec w
  | 0 => r
  | n + 1 => crcStepL w poly (if r.msb then (r <<< 1) ^^^ poly else r <<< 1) n

/-- A CRC with register width w + 8, most significant bit first (R583). -/
def crcMsb (w : Nat) (poly init : BitVec (w + 8)) (l : List Byte) : BitVec (w + 8) :=
  l.foldl (fun r b => crcStepL (w + 8) poly (r ^^^ (b.setWidth (w + 8) : BitVec (w + 8)).shiftLeft w) 8) init

/-- One bit of a CRC whose register is shifted right (a reflected CRC). -/
def crcStepR (w : Nat) (poly : BitVec w) (r : BitVec w) : Nat → BitVec w
  | 0 => r
  | n + 1 => crcStepR w poly (if r.getLsbD 0 then (r >>> 1) ^^^ poly else r >>> 1) n

/-- A reflected CRC with initial value and final complement all ones; poly is the reflected polynomial (R583). -/
def crcRefl (w : Nat) (poly : BitVec w) (l : List Byte) : BitVec w :=
  ~~~ (l.foldl (fun r b => crcStepR w poly (r ^^^ b.setWidth w) 8) (BitVec.allOnes w))

/-- CRC-16: polynomial 1021h, initial value FFFFh (R583). -/
def crc16 (l : List Byte) : Nat :=
  (crcMsb 8 0x1021#16 0xFFFF#16 l).toNat

/-- CRC-32: IEEE 802.3, reflected (R583). -/
def crc32 (l : List Byte) : Nat :=
  (crcRefl 32 0xEDB88320#32 l).toNat

/-- CRC-64: polynomial 42F0E1EBA9EA3693h, reflected (R583). -/
def crc64 (l : List Byte) : BitVec 64 :=
  crcRefl 64 0xC96C5795D7870F42#64 l

/-- The 16-bit guard: polynomial 8BB7h, initial value 0 (Table 5.11). -/
def guard16 (l : List Byte) : Nat :=
  (crcMsb 8 0x8BB7#16 0#16 l).toNat

/-- The 64-bit guard of the NVM Command Set specification: polynomial AD93D23594C93659h, reflected (R197, log 7). -/
def guard64 (l : List Byte) : BitVec 64 :=
  crcRefl 64 0x9A6C9329AC4BC9B5#64 l

/-- Add saturating at a bound. -/
def satAdd (bound a b : Nat) : Nat :=
  min bound (a + b)

/-- Clamp an integer between two bounds. -/
def clampInt (lo hi v : Int) : Int :=
  max lo (min hi v)

/-- Replace entry n of a list by its image. -/
def modNth {α : Type} (l : List α) (n : Nat) (f : α → α) : List α :=
  l.mapIdx fun i a => if i = n then f a else a

/-- Apply f to every member that p selects. -/
def modWhere {α : Type} (p : α → Bool) (f : α → α) (l : List α) : List α :=
  l.map fun a => if p a then f a else a

/-- Put a value under a key of a list kept in ascending key order. -/
def putKey {β : Type} (k : Nat) (v : β) : List (Nat × β) → List (Nat × β)
  | [] => [(k, v)]
  | (k', v') :: l =>
    if k < k' then (k, v) :: (k', v') :: l
    else if k = k' then (k, v) :: l
    else (k', v') :: putKey k v l

/-- Remove a key. -/
def dropKey {β : Type} (k : Nat) (l : List (Nat × β)) : List (Nat × β) :=
  l.filter fun p => p.1 != k

/-- The value under a key. -/
def getKey {β : Type} (k : Nat) (l : List (Nat × β)) : Option β :=
  (l.find? fun p => p.1 == k).map (·.2)

/-- Sum of a list. -/
def sumOf (l : List Nat) : Nat :=
  l.foldl (· + ·) 0

/-- Largest member, 0 when empty. -/
def maxOf (l : List Nat) : Nat :=
  l.foldl max 0

/-- Smallest member, d when empty. -/
def minOf (d : Nat) (l : List Nat) : Nat :=
  match l with
  | [] => d
  | a :: as => as.foldl min a

/-- Byte n of a cell, a frame or a record; 0 beyond its end. -/
def cellByte (cell : List Byte) (n : Nat) : Nat :=
  (cell.getD n 0#8).toNat

/-- Little-endian field of n bytes. -/
def cellField (cell : List Byte) (lo n : Nat) : Nat :=
  ofBytes ((cell.drop lo).take n)

end Sys2Proof.Machine
end

