-- ==== Sys2Proof/Machine/Cipher.lean ====
section
/-! DEFINITION. AES-256-XTS (R530): the block cipher and the mode as their standards define them; the spec names both and gives the data
unit and the tweak (PRESUMED, log 125). -/

namespace Sys2Proof.Machine

open Sys2Proof

/-! ### The block cipher (FIPS 197) -/

/-- The substitution box. -/
def aesBox : List Nat :=
  [99, 124, 119, 123, 242, 107, 111, 197, 48, 1, 103, 43, 254, 215, 171, 118, 202, 130, 201, 125, 250, 89, 71, 240, 173, 212, 162, 175, 156, 164, 114, 192] ++
  [183, 253, 147, 38, 54, 63, 247, 204, 52, 165, 229, 241, 113, 216, 49, 21, 4, 199, 35, 195, 24, 150, 5, 154, 7, 18, 128, 226, 235, 39, 178, 117] ++
  [9, 131, 44, 26, 27, 110, 90, 160, 82, 59, 214, 179, 41, 227, 47, 132, 83, 209, 0, 237, 32, 252, 177, 91, 106, 203, 190, 57, 74, 76, 88, 207] ++
  [208, 239, 170, 251, 67, 77, 51, 133, 69, 249, 2, 127, 80, 60, 159, 168, 81, 163, 64, 143, 146, 157, 56, 245, 188, 182, 218, 33, 16, 255, 243, 210] ++
  [205, 12, 19, 236, 95, 151, 68, 23, 196, 167, 126, 61, 100, 93, 25, 115, 96, 129, 79, 220, 34, 42, 144, 136, 70, 238, 184, 20, 222, 94, 11, 219] ++
  [224, 50, 58, 10, 73, 6, 36, 92, 194, 211, 172, 98, 145, 149, 228, 121, 231, 200, 55, 109, 141, 213, 78, 169, 108, 86, 244, 234, 101, 122, 174, 8] ++
  [186, 120, 37, 46, 28, 166, 180, 198, 232, 221, 116, 31, 75, 189, 139, 138, 112, 62, 181, 102, 72, 3, 246, 14, 97, 53, 87, 185, 134, 193, 29, 158] ++
  [225, 248, 152, 17, 105, 217, 142, 148, 155, 30, 135, 233, 206, 85, 40, 223, 140, 161, 137, 13, 191, 230, 66, 104, 65, 153, 45, 15, 176, 84, 187, 22]

/-- Its inverse. -/
def aesUnbox : List Nat :=
  [82, 9, 106, 213, 48, 54, 165, 56, 191, 64, 163, 158, 129, 243, 215, 251, 124, 227, 57, 130, 155, 47, 255, 135, 52, 142, 67, 68, 196, 222, 233, 203] ++
  [84, 123, 148, 50, 166, 194, 35, 61, 238, 76, 149, 11, 66, 250, 195, 78, 8, 46, 161, 102, 40, 217, 36, 178, 118, 91, 162, 73, 109, 139, 209, 37] ++
  [114, 248, 246, 100, 134, 104, 152, 22, 212, 164, 92, 204, 93, 101, 182, 146, 108, 112, 72, 80, 253, 237, 185, 218, 94, 21, 70, 87, 167, 141, 157, 132] ++
  [144, 216, 171, 0, 140, 188, 211, 10, 247, 228, 88, 5, 184, 179, 69, 6, 208, 44, 30, 143, 202, 63, 15, 2, 193, 175, 189, 3, 1, 19, 138, 107] ++
  [58, 145, 17, 65, 79, 103, 220, 234, 151, 242, 207, 206, 240, 180, 230, 115, 150, 172, 116, 34, 231, 173, 53, 133, 226, 249, 55, 232, 28, 117, 223, 110] ++
  [71, 241, 26, 113, 29, 41, 197, 137, 111, 183, 98, 14, 170, 24, 190, 27, 252, 86, 62, 75, 198, 210, 121, 32, 154, 219, 192, 254, 120, 205, 90, 244] ++
  [31, 221, 168, 51, 136, 7, 199, 49, 177, 18, 16, 89, 39, 128, 236, 95, 96, 81, 127, 169, 25, 181, 74, 13, 45, 229, 122, 159, 147, 201, 156, 239] ++
  [160, 224, 59, 77, 174, 42, 245, 176, 200, 235, 187, 60, 131, 83, 153, 97, 23, 43, 4, 126, 186, 119, 214, 38, 225, 105, 20, 99, 85, 33, 12, 125]

/-- Doubling in GF(2⁸) with polynomial 11Bh. -/
def aesDouble (a : Nat) : Nat := if a < 128 then 2 * a else (2 * a) % 256 ^^^ 0x1B

/-- Product in GF(2⁸) with a factor below 16. -/
def aesTimes (k a : Nat) : Nat :=
  let a2 := aesDouble a
  let a4 := aesDouble a2
  (if k % 2 = 1 then a else 0) ^^^ (if k / 2 % 2 = 1 then a2 else 0) ^^^ (if k / 4 % 2 = 1 then a4 else 0)
    ^^^ (if 8 ≤ k then aesDouble a4 else 0)

/-- Exclusive or of two lists of bytes. -/
def xorBytes (a b : List Nat) : List Nat := List.zipWith (fun x y => x ^^^ y) a b

/-- One column times the circulant of four coefficients. -/
def aesColumn (k : List Nat) (c : List Nat) : List Nat :=
  (List.range 4).map fun r =>
    (List.range 4).foldl (fun acc j => acc ^^^ aesTimes (k.getD ((j + 4 - r) % 4) 0) (c.getD j 0)) 0

/-- Every column of a state of 16 bytes. -/
def aesColumns (k : List Nat) (s : List Nat) : List Nat :=
  (List.range 4).flatMap fun c => aesColumn k ((s.drop (4 * c)).take 4)

/-- ShiftRows by d columns a row: 1 for encryption, 3 for decryption. -/
def aesShift (d : Nat) (s : List Nat) : List Nat :=
  (List.range 16).map fun i => s.getD ((i + 4 * d * (i % 4)) % 16) 0

/-- The next eight words of the key schedule from the last eight, and the round constant. -/
def aesNextKey (rc : Nat) (k : List Nat) : List Nat :=
  let box := fun l : List Nat => l.map fun b => aesBox.getD b 0
  let last := (k.drop 28).take 4
  let t0 := xorBytes (box (last.drop 1 ++ last.take 1)) [rc, 0, 0, 0]
  let w := fun i => (k.drop (4 * i)).take 4
  let a := xorBytes (w 0) t0
  let b := xorBytes (w 1) a
  let c := xorBytes (w 2) b
  let d := xorBytes (w 3) c
  let e := xorBytes (w 4) (box d)
  let f := xorBytes (w 5) e
  let g := xorBytes (w 6) f
  let h := xorBytes (w 7) g
  a ++ b ++ c ++ d ++ e ++ f ++ g ++ h

/-- The 15 round keys of a 256-bit key, one after the other. -/
def aesSchedule (key : List Nat) : List Nat :=
  ((List.range 7).foldl (fun (r : List Nat × List Nat) i =>
    let k := aesNextKey (2 ^ i) r.1
    (k, r.2 ++ k)) (key, key)).2

/-- Round key n. -/
def roundKey (w : List Nat) (n : Nat) : List Nat := (w.drop (16 * n)).take 16

/-- Encrypt one block of 16 bytes under a key schedule. -/
def aesEncrypt (w : List Nat) (b : List Nat) : List Nat :=
  let sub := fun s : List Nat => aesShift 1 (s.map fun x => aesBox.getD x 0)
  let body := (List.range 13).foldl (fun s i => xorBytes (aesColumns [2, 3, 1, 1] (sub s)) (roundKey w (i + 1)))
    (xorBytes b (roundKey w 0))
  xorBytes (sub body) (roundKey w 14)

/-- Decrypt one block of 16 bytes. -/
def aesDecrypt (w : List Nat) (b : List Nat) : List Nat :=
  let unsub := fun s : List Nat => (aesShift 3 s).map fun x => aesUnbox.getD x 0
  let body := (List.range 13).foldl (fun s i => aesColumns [14, 11, 13, 9] (xorBytes (unsub s) (roundKey w (13 - i))))
    (xorBytes b (roundKey w 14))
  xorBytes (unsub body) (roundKey w 0)

/-! ### XTS over one LBA (IEEE 1619) -/

/-- Multiply a tweak of 16 bytes, low byte first, by α. -/
def xtsDouble (t : List Nat) : List Nat :=
  let n := (t.reverse.foldl (fun acc b => acc * 256 + b) 0) * 2
  let m := if n < 2 ^ 128 then n else (n - 2 ^ 128) ^^^ 135
  (List.range 16).map fun i => m / 256 ^ i % 256

/-- The blocks of a data unit under a cipher, from a tweak on. -/
def xtsBlocks (f : List Nat → List Nat) : Nat → List Nat → List Nat → List Nat
  | 0, _, _ => []
  | n + 1, t, l => xorBytes (f (xorBytes (l.take 16) t)) t ++ xtsBlocks f n (xtsDouble t) (l.drop 16)

/-- The tweak of an LBA: bits 63:0 the LBA, bits 95:64 the NSID, the rest 0 (R530). -/
def xtsTweak (nsid lba : Nat) : List Nat :=
  (leBytes 8 lba ++ leBytes 4 nsid ++ leBytes 4 0).map BitVec.toNat

/-- The two keys of a pair: data, then tweak. -/
def keyHalves (pair : BitVec 512) : List Nat × List Nat :=
  let b := (leBytes 64 pair.toNat).map BitVec.toNat
  (b.take 32, b.drop 32)

/-- The 4,096 data bytes of an LBA through XTS. -/
def xtsLba (decrypt : Bool) (pair : BitVec 512) (nsid lba : Nat) (d : BitVec 32768) : BitVec 32768 :=
  let k := keyHalves pair
  let w := aesSchedule k.1
  let t := aesEncrypt (aesSchedule k.2) (xtsTweak nsid lba)
  let l := xtsBlocks (if decrypt then aesDecrypt w else aesEncrypt w) 256 t ((leBytes 4096 d.toNat).map BitVec.toNat)
  BitVec.ofNat 32768 (ofBytes (l.map (BitVec.ofNat 8)))

/-- An LBA as it stands on flash: encrypted in an encrypted namespace; its metadata is plain (R530). The key pair is that of the
namespace's draw (R531). -/
def toFlash (encrypted : Bool) (draw nsid lba : Nat) (b : Blk) : Blk :=
  if encrypted then { b with data := xtsLba false (Config.xtsKeys draw) nsid lba b.data } else b

/-- What the device makes of an LBA read from flash, before any check (R530). -/
def fromFlash (encrypted : Bool) (draw nsid lba : Nat) (b : Blk) : Blk :=
  if encrypted then { b with data := xtsLba true (Config.xtsKeys draw) nsid lba b.data } else b

end Sys2Proof.Machine
end

