-- ==== Sys2Proof/Machine/Codes.lean ====
section
/-! DEFINITION. The codes of the memories (R175, R177, R179, R185 to R187): what the code of a line or a word finds, the tag
entries of the metadata cache and their repair. The spec gives what the SEC-DED codes do, not their columns: these have an odd
number of ones for the 64 data bits and the 8 check bits and an even number for the address bits (DESIGN CHOICE, log 144). -/

namespace Sys2Proof.Machine

open Sys2Proof

/-- What a memory's code finds on a read. -/
inductive CodeResult where
  | clean | corrected | uncorrectable | unwritten
  deriving DecidableEq, Repr

/-! ### SEC-DED over 64 data bits (R177, R185) -/

/-- Check-bit columns of the data bits: every byte with three ones, and eight with five. -/
def dataColumns : List Nat :=
  [7, 11, 13, 14, 19, 21, 22, 25, 26, 28, 35, 37, 38, 41, 42, 44] ++ [49, 50, 52, 56, 67, 69, 70, 73, 74, 76, 81, 82, 84, 88, 97, 98] ++
  [100, 104, 112, 131, 133, 134, 137, 138, 140, 145, 146, 148, 152, 161, 162, 164] ++
  [168, 176, 193, 194, 196, 200, 208, 224, 31, 47, 55, 59, 61, 62, 79, 87]

/-- Check-bit columns of address bits 7 to 35: every byte with two ones, and one with four. -/
def addrColumns : List Nat :=
  [3, 5, 6, 9, 10, 12, 17, 18, 20, 24, 33, 34, 36, 40, 48] ++ [65, 66, 68, 72, 80, 96, 129, 130, 132, 136, 144, 160, 192, 15]

/-- Column of bit i of a code word: 0 to 63 data, 64 to 71 check bits. -/
def codeColumn (i : Nat) : Nat := if i < 64 then dataColumns.getD i 0 else 2 ^ (i - 64)

/-- Sum of columns. -/
def xorAll (l : List Nat) : Nat := l.foldl (fun a b => a ^^^ b) 0

/-- The syndrome that flipped bits of a word leave. -/
def flipSyndrome (flips : List Nat) : Nat := xorAll (flips.map codeColumn)

/-- The check bits of 64 data bits. -/
def checkOf (d : BitVec 64) : Nat := xorAll ((List.range 64).map fun i => if d.getLsbD i then codeColumn i else 0)

/-- The part of a cache word's check bits that its line's HBM address gives (R177). -/
def addrCheck (addr : Nat) : Nat := xorAll ((List.range 29).map fun i => if bitOf addr (7 + i) then addrColumns.getD i 0 else 0)

/-- What a syndrome says: FFh is that of an unwritten word (R185). -/
def codeResult (syn : Nat) : CodeResult :=
  if syn = 0 then .clean
  else if syn = 0xFF then .unwritten
  else if ((List.range 72).map codeColumn).contains syn then .corrected
  else .uncorrectable

/-- A word of a coded memory as it is stored; the default is the unwritten state: data 0 with every check bit inverted (R185). -/
structure CodedWord where
  /-- Data bits. -/
  data : BitVec 64 := 0
  /-- Check bits. -/
  check : Nat := 0xFF
  deriving DecidableEq, Repr

/-- A written word. -/
def coded (d : BitVec 64) : CodedWord := { data := d, check := checkOf d }

/-- The syndrome of a word as it is read, bits `flips` of it flipped. -/
def CodedWord.syndrome (w : CodedWord) (flips : List Nat) : Nat := checkOf w.data ^^^ w.check ^^^ flipSyndrome flips

/-- What a read finds: the syndrome of a written word is that of its flipped bits. -/
def wordResult (written : Bool) (flips : List Nat) : CodeResult :=
  codeResult (if written then flipSyndrome flips else 0xFF ^^^ flipSyndrome flips)

/-- A write narrower than 64 bits, of the bits that `mask` selects (R186): the word that it reads is corrected where its code can,
and merged; one that is unwritten or uncorrectable keeps its state. -/
def narrowWrite (w : Option (BitVec 64)) (flips : List Nat) (mask new : BitVec 64) : CodeResult × Option (BitVec 64) :=
  let merged := w.map fun d => (d &&& ~~~mask) ||| (new &&& mask)
  match wordResult w.isSome flips with
  | .clean => (.clean, merged)
  | .corrected => (.corrected, merged)
  | r => (r, w)

/-- A value as whole 64-bit words, the last padded with zero bytes (R187). -/
def wholeWords : Nat → List Byte → List (BitVec 64)
  | 0, _ => []
  | _ + 1, [] => []
  | n + 1, b :: bs => BitVec.ofNat 64 (ofBytes ((b :: bs).take 8)) :: wholeWords n ((b :: bs).drop 8)

/-- The words of a DOMAIN value. -/
def domainWords (l : List Byte) : List (BitVec 64) := wholeWords ((l.length + 7) / 8) l

/-! ### Lines of HBM (R175) -/

/-- What the code of a 128-byte line finds: up to 4 bytes in error are corrected, more are detected, and so is a wrong address. -/
def lineResult (errs : List Nat) (misplaced : Bool) : CodeResult :=
  if misplaced ∨ 4 < errs.eraseDups.length then .uncorrectable else if errs = [] then .clean else .corrected

/-! ### Tag entries (R177, R179) -/

/-- A tag entry as a number: bits 14:0 tag, 15 valid, 16 dirty, 17 the parity of them. -/
def tagEntry (tag : Nat) (valid dirty : Bool) : Nat :=
  let n := tag % 32768 + (if valid then 32768 else 0) + (if dirty then 65536 else 0)
  n + (((List.range 17).filter (bitOf n)).length % 2) * 131072

/-- Bits of a number inverted. -/
def invert (n : Nat) (bits : List Nat) : Nat := bits.foldl (fun a i => a ^^^ 2 ^ i) n

/-- An entry fails its parity. -/
def tagFails (e : Nat) : Bool := ((List.range 18).filter (bitOf e)).length % 2 == 1

/-- The HBM address that an entry of a cache set stands for. -/
def tagAddr (e cset : Nat) : Nat := e % 32768 * 2097152 + cset * 128

/-- A candidate leaves no word of the line with an uncorrectable syndrome: `trueAddr` is the line's address, `words` the flipped bits
of its 16 words. -/
def candidateFits (cand cset trueAddr : Nat) (words : List (List Nat)) : Bool :=
  let a := addrCheck (tagAddr cand cset) ^^^ addrCheck trueAddr
  (List.range 16).all fun k =>
    let r := codeResult (a ^^^ flipSyndrome (words.getD k []))
    r == .clean || r == .corrected

/-- The repair of an entry (R179): of its 18 candidates, the only one that fits. -/
def repairTag (e cset trueAddr : Nat) (words : List (List Nat)) : Option Nat :=
  match ((List.range 18).map fun i => invert e [i]).filter fun c => candidateFits c cset trueAddr words with
  | [c] => some c
  | _ => none

end Sys2Proof.Machine
end

