-- ==== Sys2Proof/Machine/State.lean ====
section
/-! DEFINITION. The state of the UZ-1664 block as plain data: every register, queue, buffer, counter, mode and pin the
spec names. Each field's comment says what it holds and the chapter and rule of spec/ that names it. The defaults of
the fields are the values of State.reset: the default the spec's tables give, else zero, empty, absent or off
(log 1). The RW, RWS and W1 values of the object dictionary are in Doors.nums and Doors.doms: a value that is not
stored there reads as the default of its table. -/

namespace Sys2Proof.Machine

open Sys2Proof

/-- No command of this block stops with a fault: every command has an effect or finds nothing to do. The one name
stands for a command that the device could not take; no meaning raises it (safe: it is never answered). -/
inductive Fault where
  /-- Raised by nothing (safe). -/
  | none
  deriving DecidableEq, Repr

/-- Why a command has no meaning. -/
inductive Refusal where
  /-- Raised by an arm of exec whose command is not modelled; safe, since no next state is claimed. -/
  | notModelled (mnemonic : String)
  deriving DecidableEq, Repr

/-- Table 0.1 (R1): the three ordering codes. -/
inductive OrderingCode where
  | b16gm
  | b16gs
  | b08gs
  deriving DecidableEq, Repr

/-- What the device as a whole is doing (2000h.01, R466, R467, R544, R554): held in reset or unpowered, boot recovery, starting, running, Harbour. -/
inductive Phase where
  | held
  | bootRecovery
  | starting
  | running
  | harbour
  deriving DecidableEq, Repr

/-- One cell of the anti-rollback thermometer (R522): read blown at neither, at one or at both references. -/
inductive ArCell where
  | unblown
  | marginal
  | blown
  deriving DecidableEq, Repr

/-- Zone states of Table 3.3 (R90), Empty included; recallTarget is RT. -/
inductive ZState where
  | empty
  | implicitOpen
  | explicitOpen
  | closed
  | full
  | readOnly
  | offline
  | recallTarget
  deriving DecidableEq, Repr

/-- Archive states (R90): the content of a zone, or of an object that belongs to none (Released). -/
inductive Arch where
  | resident
  | queued
  | inscribing
  | archivedResident
  | released
  deriving DecidableEq, Repr

/-- State byte of a volume entry (Table 4.6). -/
inductive VolState where
  | absent
  | inService
  | excluded
  | quarantined
  | failed
  | adopting
  | retired
  deriving DecidableEq, Repr

/-- Array operations a die runs (R114, R119). -/
inductive OpKind where
  | read
  | program
  | erase
  deriving DecidableEq, Repr

/-- Activity classes of Breakwater (R112), in the order of 2220h.01 to .07. -/
inductive ActClass where
  | hostRead
  | hostProgram
  | erase
  | drainRead
  | refresh
  | scrub
  | system
  deriving DecidableEq, Repr

/-- Disc status of an archive set (R224). -/
inductive DiscStatus where
  | pending
  | writing
  | verified
  | closed
  | failed
  | rebuilding
  deriving DecidableEq, Repr

/-- EtherCAT state machine (R463, R482). -/
inductive EcatState where
  | init
  | preOp
  | safeOp
  | op
  deriving DecidableEq, Repr

/-- One firmware slot of the boot SPI NOR (R520, R521). -/
structure FwSlot where
  /-- image held, none when the slot is empty (16 R520) -/
  image : Option FwImage := none
  /-- marked for activation at the next power-on reset (16 R521) -/
  marked : Bool := false
  /-- the image has once brought the controllers to ready (16 R521) -/
  everReady : Bool := false
  deriving DecidableEq, Repr

/-- What is fused or blown into the module (R1, R523). -/
structure Part where
  /-- ordering code (00 R1) -/
  code : OrderingCode := .b16gm
  /-- identity serial 2060h.01, 16 characters (16 R523) -/
  serial : List (Byte) := []
  /-- bits 31:16 of 1018h.03 (14 R472) -/
  moduleRev : Nat := 0
  /-- the 256 OTP cells of the anti-rollback counter (16 R522) -/
  arCells : List ArCell := List.replicate 256 .unblown
  /-- 2060h.05, write-once, 32 characters; none until written (14 R474) -/
  siteId : Option (List (Byte)) := none
  deriving DecidableEq, Repr

/-- Firmware (R520, R521): slots, the image being assembled, the image in force. -/
structure Fw where
  /-- slot 1 (16 R520) -/
  slot1 : FwSlot := {}
  /-- slot 2 (16 R520) -/
  slot2 : FwSlot := {}
  /-- bytes assembled in HBM by Firmware Image Download, by offset (16 R520) -/
  download : List (Nat × Byte) := []
  /-- slot last active, 0 none (16 R521) -/
  active : Nat := 0
  /-- slot of the running image, 0 none (16 R521) -/
  booted : Nat := 0
  /-- firmware version of the running image, bits 15:0 of 1018h.03 (14 R472) -/
  version : Nat := 0
  /-- security version of the running image (16 R525) -/
  security : Nat := 0
  /-- NAND profiles of the running image (04 R132) -/
  profiles : List NandProfile := []
  /-- the running image was booted for the first time and has not reached ready (16 R521) -/
  watchdog : Bool := false
  /-- boot SPI NOR bytes, 64 MiB, canonical sparse list (14 R467) -/
  nor : List Host.Cell := []
  deriving DecidableEq, Repr

/-- Event record, 32 bytes (Table 16.1). -/
structure EventRec where
  /-- event 0-287 (16 R504) -/
  ev : Nat := 0
  /-- cause, 8 bits (16 R504) -/
  cause : Nat := 0
  /-- record sequence, 32 bits (16 R504) -/
  seq : Nat := 0
  /-- core cycle of the record's first raise (16 R505) -/
  cycle : Nat := 0
  /-- distributed-clock time of the latest raise [ns] (16 R504) -/
  time : Nat := 0
  /-- raises merged, saturating at 65,535 (16 R504) -/
  repeats : Nat := 0
  /-- data bytes, at most 8; unused bytes 0 (16 R504) -/
  data : List Nat := []
  deriving DecidableEq, Repr

/-- CoE emergency message (R510). -/
structure EmcyMsg where
  /-- core cycle of its event's first raise (16 R505) -/
  cycle : Nat := 0
  /-- FF00h plus group (16 R510) -/
  code : Nat := 0
  /-- error register 1001h (16 R510) -/
  register : Nat := 0
  /-- event number (16 R510) -/
  ev : Nat := 0
  /-- cause (16 R510) -/
  cause : Nat := 0
  /-- bits 15:0 of the record sequence (16 R510) -/
  seq : Nat := 0
  deriving DecidableEq, Repr

/-- Event log and delivery (R504-R511). -/
structure Evt where
  /-- ring of 1,024 records, newest first; in Tidemark (16 R507) -/
  log : List EventRec := []
  /-- newest record sequence; in Tidemark (16 R504) -/
  seq : Nat := 0
  /-- records overwritten since manufacture; in Tidemark (16 R507) -/
  overwritten : Nat := 0
  /-- 6010h.06, modulo 65,536 (16 R504) -/
  raised : Nat := 0
  /-- unsent emergency messages, oldest first, at most 32 (16 R510) -/
  emcy : List EmcyMsg := []
  /-- messages dropped since the buffer filled (16 R510) -/
  emcyDropped : Nat := 0
  /-- last emergency message sent (16 R510) -/
  emcySent : Option EmcyMsg := none
  /-- clock of the last vendor MSI-X message (16 R509) -/
  msixAt : Option Nat := none
  /-- controllers that a waiting vendor message will go to (16 R509) -/
  msixWaiting : List (Fin 4) := []
  /-- events raised in PS4, oldest first, recorded after the exit (16 R511) -/
  deferred : List (Nat × Nat × List Nat) := []
  /-- vendor messages sent on vector 2,047 (16 R509) -/
  msixSent : Nat := 0
  /-- event 008 stands (16 R510) -/
  overTemp : Bool := false
  /-- event 010 stands (16 R510) -/
  thermal : Bool := false
  deriving DecidableEq, Repr

/-- Completion queue entry (NVMe Base; R40, R584). -/
structure Completion where
  /-- command identifier (02 R38) -/
  cid : Nat := 0
  /-- submission queue identifier (02 R40) -/
  sq : Nat := 0
  /-- SQ Head Pointer: entries fetched, modulo the size (02 R40) -/
  sqhd : Nat := 0
  /-- status code type (02 R80) -/
  sct : Nat := 0
  /-- status code (02 R80) -/
  sc : Nat := 0
  /-- do not retry (02 R584) -/
  dnr : Bool := false
  /-- Dword 0 (02 R69) -/
  dw0 : BitVec 32 := 0
  /-- Dword 1 (02 R69) -/
  dw1 : BitVec 32 := 0
  /-- bytes transferred to the host by the command (02 R75) -/
  data : List (Byte) := []
  /-- LBAs transferred to the host by a Read (02 R94) -/
  blocks : List Blk := []
  deriving DecidableEq, Repr

/-- A submission queue entry fetched and not dispatched (R35). -/
structure Fetched where
  /-- command identifier (02 R35) -/
  cid : Nat := 0
  /-- command (02 R35) -/
  cmd : NvmeCmd := .asyncEvent
  /-- its pointers (02 R47) -/
  dptr : Dptr := {}
  /-- it has waited for room in the write cache (03 R103) -/
  waited : Bool := false
  deriving DecidableEq, Repr

/-- Submission queue (R35, R38). -/
structure Sq where
  /-- identifier, 0 admin (02 R34) -/
  qid : Nat := 0
  /-- entries (02 R27) -/
  size : Nat := 0
  /-- completion queue bound (02 R40) -/
  cqid : Nat := 0
  /-- priority class for weighted round robin (02 R36) -/
  prio : Nat := 0
  /-- entries fetched, modulo size (02 R40) -/
  head : Nat := 0
  /-- last tail written (02 R35) -/
  tail : Nat := 0
  /-- fetched, undispatched entries, oldest first (02 R35) -/
  fetched : List Fetched := []
  /-- fetching stopped by an invalid doorbell (02 R45) -/
  stopped : Bool := false
  deriving DecidableEq, Repr

/-- Completion queue (R40, R45). -/
structure Cq where
  /-- identifier, 0 admin (02 R34) -/
  qid : Nat := 0
  /-- entries (02 R27) -/
  size : Nat := 0
  /-- interrupt vector (02 R29) -/
  iv : Nat := 0
  /-- last valid head (02 R45) -/
  head : Nat := 0
  /-- next entry the device writes (02 R40) -/
  tail : Nat := 0
  /-- entries posted and not yet consumed, oldest first (02 R40) -/
  posted : List Completion := []
  /-- completions waiting for room, oldest first (02 R40) -/
  waiting : List Completion := []
  deriving DecidableEq, Repr

/-- Features of one controller (Table 2.8). -/
structure Feat where
  /-- 01h: arbitration burst and weights (02 R36) -/
  arbitration : BitVec 32 := 0
  /-- 08h (02 R67) -/
  coalescing : BitVec 32 := 0
  /-- 09h, by vector (02 R67) -/
  vectors : List (Nat × BitVec 32) := []
  /-- 0Bh (02 R67) -/
  asyncConfig : BitVec 32 := 0
  deriving DecidableEq, Repr

/-- Configuration space of a function (R19 to R23): the registers software writes. -/
structure Pci where
  /-- Command register: memory space, bus master, parity, SERR and INTx disable (02 R19) -/
  command : Nat := 0
  /-- BAR1 and BAR0: base address, 128 KiB aligned (02 R23) -/
  bar : Nat := 0
  /-- Device Control: Max Payload Size in bits 7:5, Max Read Request Size in bits 14:12 (02 R21) -/
  devCtl : Nat := 0x2810
  /-- Link Control: ASPM in bits 1:0 (02 R19) -/
  lnkCtl : Nat := 0
  /-- MSI-X Message Control bits 15:14 (02 R29) -/
  msixCtl : Nat := 0
  /-- Advanced Error Control: ECRC generation and check enables, bits 6 and 8 (02 R19) -/
  aerCtl : Nat := 0
  /-- Uncorrectable Error Mask (02 R19) -/
  uncMask : Nat := 0x400000
  /-- Uncorrectable Error Severity (02 R19) -/
  uncSev : Nat := 0x462030
  /-- Correctable Error Mask (02 R19) -/
  corMask : Nat := 0x6000
  deriving DecidableEq, Repr

/-- One port and its NVMe controller (R13, R18-R46). -/
structure Ctrl where
  /-- the straps give this port (01 R12) -/
  present : Bool := false
  /-- PERST_N_p is low (02 R22) -/
  perst : Bool := true
  /-- link up (02 R18) -/
  linkUp : Bool := false
  /-- trained rate [GT/s] (16 R512) -/
  rate : Nat := 0
  /-- trained width [lanes] (16 R512) -/
  width : Nat := 0
  /-- the link runs in FLIT mode (02 R18) -/
  flit : Bool := false
  /-- the lanes are reversed (02 R19) -/
  reversed : Bool := false
  /-- lanes of inverted polarity (02 R19) -/
  inverted : List Nat := []
  /-- configuration space (02 R19) -/
  pci : Pci := {}
  /-- memory read requests issued toward host memory by the last command that took data from it (02 R21) -/
  requests : Nat := 0
  /-- most of them outstanding at once, at most 512 (02 R21) -/
  outstanding : Nat := 0
  /-- registers accessible; Request Retry Status until then (02 R22) -/
  accessible : Bool := false
  /-- CC.EN (02 R26) -/
  en : Bool := false
  /-- CC.AMS: 0 round robin, 1 weighted round robin with urgent (02 R36) -/
  ams : Nat := 0
  /-- CC.MPS (02 R28) -/
  mps : Nat := 0
  /-- CSTS.RDY (02 R39) -/
  rdy : Bool := false
  /-- CSTS.CFS (02 R46) -/
  cfs : Bool := false
  /-- CSTS.SHST: 0 normal, 1 occurring, 2 complete (02 R61) -/
  shst : Nat := 0
  /-- data a running shutdown waits for (02 R61) -/
  shutTargets : Targets := []
  /-- submission queues, admin first (02 R30) -/
  sqs : List Sq := []
  /-- completion queues, admin first (02 R30) -/
  cqs : List Cq := []
  /-- outstanding Asynchronous Event Requests, oldest first, at most 8 (16 R508) -/
  aers : List Nat := []
  /-- a vendor event was reported and C1h not read since (16 R508) -/
  withheld : Bool := false
  /-- group of a vendor event raised and not yet reported (16 R508) -/
  pendingGroup : Option Nat := none
  /-- the entry of vector 2,047 has its address and data and is unmasked (02 R29) -/
  vec2047 : Bool := false
  /-- messages sent on vectors 0-2,046 since the last function reset, by vector (02 R29) -/
  msgs : List (Nat × Nat) := []
  /-- MSI-X pending bits set, by vector, ascending (02 R23) -/
  pba : List Nat := []
  /-- features (02 R67) -/
  feat : Feat := {}
  /-- SPDM sessions open on this port (16 R524) -/
  spdm : Nat := 0
  /-- response code of the last SPDM answer, 0 none (16 R524) -/
  spdmAnswer : Nat := 0
  /-- measurement blocks of the last SPDM answer (16 R525) -/
  spdmData : List (List (Byte)) := []
  /-- AQA register: admin queue sizes, 0-based, submission in bits 11:0, completion in bits 27:16 (02 R23) -/
  aqa : Nat := 0
  /-- ASQ register (02 R23) -/
  asq : BitVec 64 := 0
  /-- ACQ register (02 R23) -/
  acq : BitVec 64 := 0
  /-- MSI-X table as written since the last function reset: dword index 0-8,191 and value; an entry whose control dword is unwritten is masked (02 R23) -/
  msix : List (Nat × Nat) := []
  /-- queue last served by round robin in each arbitration class: urgent or only, high, medium, low (02 R36) -/
  lastSq : List Nat := [0, 0, 0, 0]
  /-- commands left to the high, medium and low class in this round (02 R36) -/
  credits : List Nat := [0, 0, 0]
  /-- an Error event was reported and page 01h not read since (02 R45) -/
  errorHeld : Bool := false
  /-- Error events raised and not yet reported, oldest first: Dword 0 (02 R45) -/
  errorPending : List (BitVec 32) := []
  /-- a SMART event was reported and page 02h not read since (02 R67) -/
  smartHeld : Bool := false
  /-- SMART events raised and not yet reported, oldest first: Dword 0 (02 R67) -/
  smartPending : List (BitVec 32) := []
  deriving DecidableEq, Repr

/-- Reservation of a namespace (R67: Register, Acquire, Report, Release; NVMe Base). -/
structure Reserv where
  /-- registrants by controller (02 R67) -/
  keys : List (Fin 4 × BitVec 64) := []
  /-- holder (02 R67) -/
  holder : Option (Fin 4) := none
  /-- reservation type 1-6, 0 none (02 R67) -/
  rtype : Nat := 0
  /-- generation, 32 bits (02 R67) -/
  gen : Nat := 0
  /-- persist through power loss (02 R67) -/
  ptpl : Bool := false
  deriving DecidableEq, Repr

/-- Namespace (R68, R83, R104, R529). -/
structure Ns where
  /-- 1-256 (03 R85) -/
  nsid : Nat := 0
  /-- created with Flexible Data Placement (03 R104) -/
  fdp : Bool := false
  /-- zones of a zoned namespace (03 R144) -/
  zones : Nat := 0
  /-- LBAs of an FDP namespace (03 R105) -/
  lbas : Nat := 0
  /-- ZSZE in LBAs, in the mode it was created with (03 R83) -/
  zsze : Nat := 0
  /-- ZCAP in LBAs (03 R83) -/
  zcap : Nat := 0
  /-- LBA format 0 or 1 (02 R68) -/
  lbaf : Nat := 0
  /-- metadata interleaved in an extended LBA; else through the metadata pointer (02 R48) -/
  mset : Bool := false
  /-- protection type 0-3 (02 R68) -/
  pi : Nat := 0
  /-- per-namespace encryption (16 R529) -/
  encrypted : Bool := false
  /-- draw of the key pair in force, counted from 1; 0 without encryption (16 R532) -/
  keyGen : Nat := 0
  /-- controllers it is attached to (02 R67) -/
  attached : List (Fin 4) := []
  /-- placement handles of an FDP namespace, at most 16 (03 R104) -/
  handles : List Nat := []
  /-- reservation (02 R67) -/
  resv : Reserv := {}
  /-- LBAs written to an FDP namespace since it was created (02 R55) -/
  fdpWritten : Nat := 0
  /-- where a written LBA of an FDP namespace lies: LBA, reclaim unit, LBA of the unit (03 R104) -/
  fdpMap : List (Nat × Nat × Nat) := []
  /-- for an LBA whose last write may not be programmed, what it held and where it lay before; none unwritten (02 R55) -/
  fdpOld : List (Nat × Option (Blk × (Nat × Nat))) := []
  /-- FDP event types enabled (feature 1Eh): placement handle and type (02 R67) -/
  fdpEvents : List (Nat × Nat) := []
  /-- written LBAs of an FDP namespace, ascending (03 R104) -/
  fdpData : List (Nat × Blk) := []
  deriving DecidableEq, Repr

/-- One member block of a zone (R137): a die and a block on one channel. -/
structure Member where
  /-- volume port 0-1,023 (04 R127) -/
  port : Nat := 0
  /-- volume-local die 0-3 (04 R137) -/
  die : Nat := 0
  /-- multi-plane block on that die (04 R137) -/
  block : Nat := 0
  /-- on a failed die and not yet rebuilt (04 R166) -/
  lost : Bool := false
  /-- read count (04 R158) -/
  reads : Nat := 0
  /-- read count at the last checkpoint (04 R158) -/
  ckpt : Nat := 0
  /-- distributed-clock time from which its content counts its age [ns]: its binding, its last move or its rebuild (04 R155) -/
  since : Nat := 0
  /-- queued for refresh relocation (04 R159) -/
  refresh : Bool := false
  deriving DecidableEq, Repr

/-- A zone that has left Empty (R84, Table 3.3), or a reclaim unit of an FDP namespace (R104); an unlisted zone is Empty. -/
structure Zone where
  /-- namespace (03 R84) -/
  nsid : Nat := 0
  /-- zone index in the namespace (03 R84) -/
  idx : Nat := 0
  /-- zone state (03 R90) -/
  st : ZState := .empty
  /-- archive state (03 R90) -/
  arch : Arch := .resident
  /-- write pointer, LBAs from the zone start (03 R91) -/
  wp : Nat := 0
  /-- end of the data whose write has completed to its host, LBAs from the zone start (02 R59) -/
  ack : Nat := 0
  /-- LBAs programmed to flash or staging, from the zone start (02 R55) -/
  flashed : Nat := 0
  /-- LBAs programmed into the zone's own blocks; the rest of flashed is staged (04 R149) -/
  placed : Nat := 0
  /-- stamp of the last write, for the least recently written zone (03 R88) -/
  used : Nat := 0
  /-- archive object identifier, 0 none (03 R100) -/
  obj : Nat := 0
  /-- LBA count of the object (03 R95) -/
  objLbas : Nat := 0
  /-- set identifier, 0 not assigned (03 R100) -/
  setId : Nat := 0
  /-- k of the set (03 R100) -/
  setK : Nat := 0
  /-- affinity tag (03 R100) -/
  affinity : Nat := 0
  /-- time of last archive state change [ns] (03 R100) -/
  changed : Nat := 0
  /-- some frames reallocated on disc (03 R100) -/
  realloc : Bool := false
  /-- bind number, 32 bits (04 R139) -/
  bind : Nat := 0
  /-- lane set (04 R137) -/
  lane : Nat := 0
  /-- die row chosen at the bind (04 R137) -/
  row : Nat := 0
  /-- parity channel position (04 R138) -/
  parity : Nat := 0
  /-- channel positions whose program of the row in flight has not completed (04 R140) -/
  rowBusy : List Nat := []
  /-- the 16 members in channel order (04 R137) -/
  members : List Member := []
  /-- LBA contents by offset, ascending; unlisted reads zeros (03 R94) -/
  data : List (Nat × Blk) := []
  /-- end of the last write of each controller, LBAs from the zone start (02 R61) -/
  writers : List (Nat × Nat) := []
  /-- for a reclaim unit of an FDP namespace, its reclaim unit handle (03 R104) -/
  ruh : Nat := 0
  /-- tenant of the queue that carried the last write (03 R110) -/
  qtenant : Nat := 0
  /-- program sequence of the last row dispatched (04 R139) -/
  lastSeq : Nat := 0
  deriving DecidableEq, Repr

/-- An array operation on a die (R113, R119, R128). -/
structure FlashOp where
  /-- read, program or erase (04 R128) -/
  kind : OpKind := .read
  /-- activity class charged (03 R112) -/
  cls : ActClass := .hostRead
  /-- tenant (03 R110) -/
  tenant : Nat := 0
  /-- started on lent time (03 R116) -/
  lent : Bool := false
  /-- clock at the start or last resume (03 R119) -/
  started : Nat := 0
  /-- clock up to which busy time is charged (03 R113) -/
  charged : Nat := 0
  /-- times suspended (03 R119) -/
  suspends : Nat := 0
  /-- clock at which it was suspended; 0 while it runs (03 R119) -/
  suspendedFor : Nat := 0
  /-- the last resume was forced by the 400 µs limit (03 R119) -/
  forced : Bool := false
  /-- repeated once after a timeout (04 R129) -/
  retried : Bool := false
  /-- read-level set the read wants (04 R152) -/
  level : Nat := 0
  /-- block the operation is on (04 R158) -/
  block : Nat := 0
  /-- zone whose program row it programs: NSID and index (04 R140) -/
  zone : Option (Nat × Nat) := none
  /-- not charged to any budget (03 R113) -/
  admin : Bool := false
  /-- a speculative retry (04 R151) -/
  spec : Bool := false
  /-- controller and submission queue of the read it serves (04 R154) -/
  owner : Option (Fin 4 × Nat) := none
  /-- FDP namespace whose space it reclaims, 0 none (03 R107) -/
  reclaim : Nat := 0
  /-- cancelled: its data is discarded (04 R152) -/
  discard : Bool := false
  /-- a reconstruction read beyond the floor: charged to no credit (06 R228) -/
  spare : Bool := false
  deriving DecidableEq, Repr

/-- Learned read levels of one die and age bin (R155, R156). -/
structure Bin where
  /-- offsets by level, -64 to +63; empty is the cold set (04 R156) -/
  offsets : List Int := []
  /-- decodes since the last evaluation (04 R156) -/
  decodes : Nat := 0
  /-- per level, bits read as 0 that should be 1 (04 R156) -/
  ones : List Nat := []
  /-- per level, bits read as 1 that should be 0 (04 R156) -/
  zeros : List Nat := []
  /-- evaluations in a row that moved no level (04 R156) -/
  still : Nat := 0
  /-- three still evaluations in a row (04 R156) -/
  warm : Bool := false
  deriving DecidableEq, Repr

/-- One NAND die (R130-R137, R142, R164; Table 16.11). -/
structure Die where
  /-- bit of byte 2 of Table 4.6 (04 R136) -/
  inService : Bool := false
  /-- failed (04 R164) -/
  failed : Bool := false
  /-- Table 4.5 code, 0 none (04 R136) -/
  reason : Nat := 0
  /-- unique ID (04 R133) -/
  uid : BitVec 128 := 0
  /-- native cell mode of the profile, bits per cell (04 R131) -/
  native : Nat := 3
  /-- planes (04 R131) -/
  planes : Nat := 0
  /-- pages per plane block in the native mode (04 R131) -/
  pages : Nat := 0
  /-- page spare area [bytes] (04 R131) -/
  spareArea : Nat := 0
  /-- cell modes the profile supports (04 R131) -/
  modes : List Nat := []
  /-- index of the matched profile, FFh none (04 R132) -/
  profile : Nat := 255
  /-- the die supports program and erase suspend (03 R120) -/
  suspendable : Bool := false
  /-- Set Features allowed while an operation is suspended (04 R153) -/
  setFeatSusp : Bool := false
  /-- profile's maximum erase time [µs] (16 R519) -/
  tMax : Nat := 0
  /-- profile's typical read time [µs] (04 R132) -/
  tRead : Nat := 0
  /-- profile's typical program time [µs] (04 R132) -/
  tProg : Nat := 0
  /-- profile's typical erase time [µs] (04 R132) -/
  tErase : Nat := 0
  /-- profile's maximum read time [µs] (04 R129) -/
  tReadMax : Nat := 0
  /-- profile's maximum program time [µs] (04 R129) -/
  tProgMax : Nat := 0
  /-- profile's feature addresses of the read levels (04 R132) -/
  features : List Nat := []
  /-- profile's cold read-level set (04 R155) -/
  cold : List Int := []
  /-- profile's read-retry sets, at most 8 (04 R132) -/
  retry : List (List Int) := []
  /-- profile's read-level set for open blocks (04 R141) -/
  openSet : List Int := []
  /-- profile's speculation threshold (04 R151) -/
  threshold : Nat := 0
  /-- blocks to be erased before their next use: a read of the old content, or a suspended erase, stood in the way (04 R147) -/
  eraseDue : List Nat := []
  /-- rated program/erase cycles (04 R173) -/
  rated : Nat := 0
  /-- factory bad blocks recorded (04 R163) -/
  factoryBad : List Nat := []
  /-- factory marks have been read (04 R163) -/
  marksRead : Bool := false
  /-- multi-plane blocks on the die (04 R142) -/
  blocks : Nat := 0
  /-- grown bad blocks (04 R163) -/
  grown : List Nat := []
  /-- zone blocks set at tier format or adoption (04 R142) -/
  zoneBlocks : Nat := 0
  /-- spare blocks remaining (04 R163) -/
  spare : Nat := 0
  /-- spare blocks at tier format or adoption (04 R173) -/
  spareInit : Nat := 0
  /-- busy time in this period by class (0 host read, 1 host program) and tenant [core cycles] (03 R110) -/
  tenantUse : List (Nat × Nat × Nat) := []
  /-- erases of single blocks beyond eraseBase, by block, ascending; unlisted 0 (04 R137) -/
  eraseCounts : List (Nat × Nat) := []
  /-- erases of every block (tier format, adoption, Sanitize) (04 R137) -/
  eraseBase : Nat := 0
  /-- the 8 age bins (04 R155) -/
  bins : List Bin := []
  /-- read-level set last loaded; 0 the cold set (04 R152) -/
  loaded : Nat := 0
  /-- operation on the array (03 R114) -/
  op : Option FlashOp := none
  /-- suspended operation (03 R120) -/
  susp : Option FlashOp := none
  /-- credit of each class [core cycles], order of ActClass; empty is all 0 (03 R112) -/
  credits : List Int := []
  /-- clock of the last timeout (04 R129) -/
  timeoutAt : Option Nat := none
  /-- unrecovered reads (16 R515) -/
  unrecovered : Nat := 0
  /-- reads that ended at step 3 or 4 (16 R515) -/
  deep : Nat := 0
  /-- refresh relocations (16 R515) -/
  refreshes : Nat := 0
  deriving DecidableEq, Repr

/-- One volume port that is not absent (Table 4.6). -/
structure Vol where
  /-- volume port 8c + v (04 R127) -/
  port : Nat := 0
  /-- state (04 R136) -/
  st : VolState := .absent
  /-- Table 4.5 code (04 R136) -/
  reason : Nat := 0
  /-- adoption progress [%] (04 R136) -/
  progress : Nat := 0
  /-- its members are being rebuilt before it is deselected (04 R172) -/
  retiring : Bool := false
  /-- dies present, 0-4 (04 R136) -/
  dies : List Die := []
  /-- unrecovered reads (04 R136) -/
  unrecovered : Nat := 0
  deriving DecidableEq, Repr

/-- Entry of the tier record for one volume port (R585). -/
structure PortRec where
  /-- volume port (04 R585) -/
  port : Nat := 0
  /-- state in which the port was found or last recorded (04 R585) -/
  st : VolState := .absent
  /-- reason (04 R585) -/
  reason : Nat := 0
  /-- unique IDs of its dies when in service (04 R585) -/
  uids : List (BitVec 128) := []
  /-- dies recorded failed (04 R585) -/
  failedDies : List Nat := []
  deriving DecidableEq, Repr

/-- Tidemark, the power-safe progress journal: what it holds beside the values kept elsewhere (R555, R585, R527). -/
structure Tide where
  /-- the last record is a shutdown checkpoint (17 R555) -/
  clean : Bool := true
  /-- a tier record exists (04 R143) -/
  tier : Bool := false
  /-- identity serial of the tier's writer (16 R527) -/
  writer : List (Byte) := []
  /-- tier record by volume port; unlisted absent (04 R585) -/
  ports : List PortRec := []
  /-- lane sets that entered the tier, one bit each (04 R131) -/
  lanes : Nat := 0
  /-- tier cell mode 1, 3, 4 (04 R131) -/
  cellMode : Nat := 0
  /-- tier planes (04 R131) -/
  planes : Nat := 0
  /-- tier pages per plane block, in the tier's cell mode (04 R131) -/
  pages : Nat := 0
  /-- tier spare area (04 R131) -/
  spareArea : Nat := 0
  /-- records waiting in Tidemark SRAM during a dip (17 R539) -/
  waiting : Nat := 0
  /-- defaults are restored at the next power-on (14 R458) -/
  restore : Bool := false
  deriving DecidableEq, Repr

/-- Staged data of one zone on one die (R145, R149). -/
structure Stage where
  /-- volume port (04 R145) -/
  port : Nat := 0
  /-- die (04 R145) -/
  die : Nat := 0
  /-- namespace (04 R145) -/
  nsid : Nat := 0
  /-- zone (04 R145) -/
  idx : Nat := 0
  /-- bind number in its header (04 R139) -/
  bind : Nat := 0
  /-- first LBA offset (04 R145) -/
  first : Nat := 0
  /-- LBAs, filler apart (04 R145) -/
  lbas : Nat := 0
  /-- filler LBAs (04 R145) -/
  filler : Nat := 0
  deriving DecidableEq, Repr

/-- The flash tier (04). -/
structure Flash where
  /-- volumes by port, ascending; unlisted absent (04 R136) -/
  vols : List Vol := []
  /-- 2400h.01 (04 R135) -/
  laneSets : Nat := 0
  /-- 2400h.07 outside a tier format (04 R142) -/
  zoneCount : Nat := 0
  /-- 2400h.08 (04 R135) -/
  unbindable : Nat := 0
  /-- 2400h.06 (04 R142) -/
  zoneBlocks : Nat := 0
  /-- 2400h.04 (04 R135) -/
  cellMode : Nat := 3
  /-- a tier format runs (04 R143) -/
  formatting : Bool := false
  /-- 2400h.0B (04 R143) -/
  progress : Nat := 100
  /-- next parity position of each lane set (04 R138) -/
  parityNext : List Nat := List.replicate 8 0
  /-- next bind number (04 R139) -/
  bindNext : Nat := 1
  /-- program sequence, 48 bits (04 R139) -/
  progSeq : Nat := 0
  /-- FL_WP_N of every channel high (18 R567) -/
  wpN : Bool := false
  /-- zones rebuilt in the running member rebuild (16 R512) -/
  rebuilt : Nat := 0
  /-- cold-start reads still to make: volume port, die and age bin (04 R157) -/
  coldReads : List (Nat × Nat × Nat) := []
  /-- data rate of each channel [MT/s], set at discovery (04 R126) -/
  rates : List Nat := []
  /-- staging pages held, oldest first (04 R145) -/
  staging : List Stage := []
  /-- place in rotation of the next staging program (04 R147) -/
  stageNext : Nat := 0
  deriving DecidableEq, Repr

/-- A dispatched, uncompleted command (R38, R39). -/
structure Inflight where
  /-- controller (02 R39) -/
  port : Fin 4 := 0
  /-- submission queue (02 R38) -/
  sq : Nat := 0
  /-- command identifier (02 R38) -/
  cid : Nat := 0
  /-- what it waits for (02 R58) -/
  wait : Wait := .sanitize
  /-- map regions it waits for (03 R122) -/
  regions : List Nat := []
  /-- its completion, decided at dispatch (03 R123) -/
  answer : Completion := {}
  deriving DecidableEq, Repr

/-- An FDP event (NVMe Base; R67). -/
structure FdpEvent where
  /-- event type (02 R67) -/
  kind : Nat := 0
  /-- Timestamp when it was recorded [ms] (02 R67) -/
  time : Nat := 0
  /-- namespace (02 R67) -/
  nsid : Nat := 0
  /-- placement handle (02 R67) -/
  handle : Nat := 0
  /-- reclaim group (02 R67) -/
  group : Nat := 0
  /-- reclaim unit handle (02 R67) -/
  ruh : Nat := 0
  deriving DecidableEq, Repr

/-- NVMe state shared by the controllers (02). -/
structure Hs where
  /-- 2110h.01-.04 in force (02 R30) -/
  alloc : List Nat := [0, 0, 0, 0]
  /-- split kept in Tidemark (02 R33) -/
  allocKept : Option (List Nat) := none
  /-- controller whose turn it is (02 R36) -/
  rr : Nat := 0
  /-- queue whose arbitration burst runs (02 R36) -/
  burstSq : Nat := 0
  /-- commands left of it (02 R36) -/
  burstLeft : Nat := 0
  /-- volatile write cache enabled by the host (02 R57) -/
  wce : Bool := true
  /-- a hold-up self-test has passed since power-on or since HOLDUP_OK returned (02 R55) -/
  holdupTested : Bool := false
  /-- dispatched, uncompleted commands, in dispatch order (02 R38) -/
  inflight : List Inflight := []
  /-- successful write completions held during a dip, in dispatch order (02 R60) -/
  held : List (Fin 4 × Completion) := []
  /-- namespaces by NSID, ascending (03 R85) -/
  ns : List Ns := []
  /-- zones that are not Empty, by NSID and index (03 R84) -/
  zones : List Zone := []
  /-- time of last archive state change [ns] of an Empty zone that has had one: NSID, zone index, time (03 R100) -/
  changedAt : List (Nat × Nat × Nat) := []
  /-- write stamps given out (03 R88) -/
  stamp : Nat := 0
  /-- key pairs drawn (16 R531) -/
  keyDraws : Nat := 0
  /-- next archive object identifier (02 R70) -/
  objNext : Nat := 1
  /-- write cache limit in LBAs (8 GiB), lowered by R146 (02 R54) -/
  cacheLimit : Nat := 2097152
  /-- over-temperature threshold [K] (02 R67) -/
  tempOver : Nat := 368
  /-- under-temperature threshold [K] (02 R67) -/
  tempUnder : Nat := 0
  /-- Timestamp feature: value last set [ms] (02 R67) -/
  timestamp : Nat := 0
  /-- clock at which it was set; none since power-on (02 R67) -/
  timestampAt : Option Nat := none
  /-- thresholds of single sensors: 2 × sensor, plus 1 for under, and value [K]; no event rests on them (02 R67) -/
  tempSensors : List (Nat × Nat) := []
  /-- map regions that the command being carried out waits for; empty between commands (03 R122) -/
  waitR : List Nat := []
  /-- FDP event log, newest first, at most 64 (02 R67) -/
  fdpLog : List FdpEvent := []
  /-- Flexible Data Placement feature 1Dh (02 R67) -/
  fdpOn : Bool := true
  /-- Error Information log, newest first, at most 256 of each controller: count, port, queue, command identifier, status (02 R62) -/
  errors : List (Nat × Nat × Nat × Nat × Nat) := []
  /-- Number of Error Information Log Entries (16 R513) -/
  errorCount : Nat := 0
  /-- Host Read Commands (16 R513) -/
  readCmds : Nat := 0
  /-- Host Write Commands (16 R513) -/
  writeCmds : Nat := 0
  /-- LBAs read by hosts (04 R173) -/
  readUnits : Nat := 0
  /-- LBAs written by hosts (04 R173) -/
  writeUnits : Nat := 0
  /-- Media and Data Integrity Errors (04 R173) -/
  mediaErrors : Nat := 0
  /-- Power Cycles (16 R513) -/
  cycles : Nat := 0
  /-- Unsafe Shutdowns (16 R513) -/
  unsafeStops : Nat := 0
  /-- map regions not yet rebuilt, ascending (03 R121) -/
  regions : List Nat := []
  /-- regions rebuilding, at most 8; true when promoted (03 R122) -/
  rebuilding : List (Nat × Bool) := []
  /-- promoted regions waiting for a slot (03 R122) -/
  promoted : List Nat := []
  /-- clock at which the running map rebuild started (16 R512) -/
  rebuildFrom : Nat := 0
  deriving DecidableEq, Repr

/-- Tenant table entry (Table 3.8). -/
structure Tenant where
  /-- enabled (03 R108) -/
  enabled : Bool := false
  /-- suspend right (03 R119) -/
  suspendRight : Bool := false
  /-- per mille of host read (03 R110) -/
  readShare : Nat := 0
  /-- per mille of host program (03 R110) -/
  progShare : Nat := 0
  /-- open zone limit (03 R86) -/
  openLimit : Nat := 0
  /-- active zone limit (03 R86) -/
  activeLimit : Nat := 0
  deriving DecidableEq, Repr

/-- An operation waiting to start on a die (R114, R116, R118). -/
structure WaitOp where
  /-- volume port (03 R114) -/
  port : Nat := 0
  /-- die (03 R114) -/
  die : Nat := 0
  /-- the operation (03 R114) -/
  op : FlashOp := {}
  deriving DecidableEq, Repr

/-- Breakwater (03). -/
structure Bw where
  /-- budgets in force [µs], order of ActClass (03 R115) -/
  budgets : List Nat := [300, 400, 20, 20, 30, 10, 40]
  /-- system budget during map rebuild in force (03 R124) -/
  rebuildBudget : Nat := 200
  /-- lending in force (03 R116) -/
  lending : Bool := true
  /-- tenant table in force, empty is the default (03 R108) -/
  tenants : List (Byte) := []
  /-- queue maps in force, empty is all 0 (03 R108) -/
  queueMaps : List (List (Byte)) := []
  /-- namespace map in force, empty is all 0 (03 R108) -/
  nsMap : List (Byte) := []
  /-- budget periods since power-on (03 R112) -/
  periods : Nat := 0
  /-- operations waiting to start, first in, first out (03 R114) -/
  waiting : List WaitOp := []
  deriving DecidableEq, Repr

/-- One leaky bucket (R190, Table 5.8). -/
structure Bucket where
  /-- level, 16 bits (05 R190) -/
  level : Nat := 0
  /-- correctable total, 32 bits (05 R190) -/
  total : Nat := 0
  /-- overflows, 32 bits (05 R190) -/
  overflows : Nat := 0
  /-- uncorrectable total, unwritten reads included (05 R192) -/
  uncorr : Nat := 0
  /-- clock from which the leak timer runs (05 R190) -/
  leakFrom : Nat := 0
  deriving DecidableEq, Repr

/-- One valid line of the metadata cache (R177). -/
structure Line where
  /-- cache set 0-16,383 (05 R177) -/
  cset : Nat := 0
  /-- way 0-15 (05 R177) -/
  way : Nat := 0
  /-- HBM address bits 35:21 (05 R177) -/
  tag : Nat := 0
  /-- dirty bit (05 R177) -/
  dirty : Bool := false
  deriving DecidableEq, Repr

/-- Memory error record (Table 16.12). -/
structure MemErr where
  /-- bucket of Table 5.5 (16 R515) -/
  bucket : Nat := 0
  /-- 1 corrected, 2 uncorrectable, 3 unwritten read (16 R515) -/
  kind : Nat := 0
  /-- address (16 R515) -/
  addr : Nat := 0
  /-- last time [ns] (16 R515) -/
  time : Nat := 0
  /-- errors at this address (16 R515) -/
  count : Nat := 0
  deriving DecidableEq, Repr

/-- HBM, metadata cache, coded memories, Sounding (05). -/
structure Mem where
  /-- both stacks trained (05 R174) -/
  hbmTrained : Bool := false
  /-- stacks in self-refresh (15 R498) -/
  selfRefresh : Bool := false
  /-- valid lines of the metadata cache, most recently used first (least recently used replacement) (05 R177) -/
  lines : List Line := []
  /-- 2610h.02 (05 R182) -/
  scratchWays : Nat := 4
  /-- 2610h.07 (05 R184) -/
  opStatus : Nat := 0
  /-- 2610h.09 (05 R181) -/
  dirtyInvalidates : Nat := 0
  /-- written words of the scratchpad: runs, each from a word address on; every other word is unwritten (05 R185) -/
  scratch : List (Nat × List (BitVec 64)) := []
  /-- the coefficient store has been loaded (R385) (05 R185) -/
  coeffWritten : Bool := false
  /-- Tidemark SRAM holds written words (05 R185) -/
  tideWritten : Bool := false
  /-- buckets 1-8 (05 R190) -/
  buckets : List Bucket := List.replicate 8 {}
  /-- log page C4h, most recently hit first, at most 256 (16 R515) -/
  errors : List MemErr := []
  /-- next address of the HBM patrol (128-byte lines) (05 R193) -/
  hbmAt : Nat := 0
  /-- next word of the SRAM patrol (05 R193) -/
  sramAt : Nat := 0
  /-- next member block of the flash patrol (05 R195) -/
  flashAt : Nat := 0
  /-- 2620h.06 (05 R196) -/
  hbmPasses : Nat := 0
  /-- 2620h.07 (05 R196) -/
  flashPasses : Nat := 0
  deriving DecidableEq, Repr

/-- An archive object: drain queue entry and catalogue entry (R69, R225). -/
structure Obj where
  /-- identifier, 64 bits (02 R70) -/
  oid : Nat := 0
  /-- archive state (03 R90) -/
  arch : Arch := .queued
  /-- namespace that held or holds the content; 0 when Released (06 R225) -/
  nsid : Nat := 0
  /-- zone index (06 R225) -/
  zone : Nat := 0
  /-- original zone start LBA (06 R225) -/
  zslba : Nat := 0
  /-- LBA format (06 R225) -/
  lbaf : Nat := 0
  /-- protection type (06 R225) -/
  pi : Nat := 0
  /-- LBA count (03 R95) -/
  lbas : Nat := 0
  /-- affinity tag (02 R69) -/
  affinity : Nat := 0
  /-- distributed-clock time at which it was Queued [ns] (06 R209) -/
  queuedAt : Nat := 0
  /-- set identifier (06 R225) -/
  setId : Nat := 0
  /-- role of its data disc (06 R225) -/
  role : Nat := 255
  /-- disc serial (06 R225) -/
  serial : List (Byte) := []
  /-- first user frame (06 R225) -/
  first : Nat := 0
  /-- void frames (06 R208) -/
  voids : Nat := 0
  /-- frames inscribed and verified, or recalled (02 R75) -/
  done : Nat := 0
  /-- time of last state change [ns] (02 R75) -/
  changed : Nat := 0
  /-- some frames reallocated (06 R231) -/
  realloc : Bool := false
  /-- recall in progress (02 R75) -/
  recalling : Bool := false
  /-- recall failure reason, 0 none (02 R75) -/
  recallFailed : Nat := 0
  /-- reconstruction in progress (02 R75) -/
  recon : Bool := false
  deriving DecidableEq, Repr

/-- Extent of a plan (Table 6.3). -/
structure Extent where
  /-- object (06 R215) -/
  obj : Nat := 0
  /-- data disc index (06 R215) -/
  disc : Nat := 0
  /-- first user frame (06 R210) -/
  first : Nat := 0
  /-- frames (06 R210) -/
  count : Nat := 0
  deriving DecidableEq, Repr

/-- A plan (R209-R217). -/
structure Plan where
  /-- set identifier (06 R211) -/
  setId : Nat := 0
  /-- data discs (06 R209) -/
  k : Nat := 0
  /-- placement order (06 R210) -/
  extents : List Extent := []
  /-- plan digest (06 R215) -/
  digest : BitVec 64 := 0
  /-- clock of the seal (06 R215) -/
  sealedAt : Nat := 0
  /-- the plan in the plan store is usable; false while it is rebuilt (06 R217) -/
  inStore : Bool := true
  /-- strategy map: strategy index by layer and band (Table 6.3) (06 R214) -/
  strategy : List (Byte) := []
  deriving DecidableEq, Repr

/-- One disc of a started set (R213, R222-R227). -/
structure SetDisc where
  /-- role (06 R213) -/
  role : Nat := 0
  /-- bay (06 R213) -/
  bay : Nat := 0
  /-- disc serial, empty until accepted (06 R227) -/
  serial : List (Byte) := []
  /-- status (06 R224) -/
  status : DiscStatus := .pending
  /-- a replacement disc (06 R227) -/
  replacement : Bool := false
  /-- serial of the disc it replaces (07 R267) -/
  replaced : List (Byte) := []
  /-- a bay is held by it (06 R229) -/
  claimed : Bool := true
  /-- layer being written (06 R218) -/
  layer : Nat := 0
  /-- next row of the layer (06 R218) -/
  row : Nat := 0
  /-- what of the layer is being written: 0 lead-in records, 1 rows, 2 reserve slots, 3 tail map, 4 nothing more (06 R218) -/
  part : Nat := 0
  /-- next pair of the layer's tail map (07 R270) -/
  tailPair : Nat := 0
  /-- records of the layer appended in valid pairs (07 R271) -/
  tailDone : Nat := 0
  /-- confirmed rows since the last progress record (06 R222) -/
  confirmedRows : Nat := 0
  /-- layer of the last progress record (06 R222) -/
  progLayer : Nat := 0
  /-- row of the last progress record (06 R222) -/
  progRow : Nat := 0
  /-- next unused reserve slot in the last progress record (06 R222) -/
  progSlot : Nat := 0
  /-- next unused reserve slot of the layer (06 R220) -/
  slot : Nat := 0
  /-- slipped frames of the layer: planned position (PFA), slot (06 R220) -/
  slips : List (Nat × Nat) := []
  /-- frames slipped on the whole disc (07 R273) -/
  slipped : Nat := 0
  /-- lead-in identity record of the present layer's copy confirmed (07 R267) -/
  identity : Bool := false
  /-- rows staged for its bay and not yet written (06 R219) -/
  staged : Nat := 0
  /-- waits for resynchronisation (06 R232) -/
  resync : Bool := false
  /-- clock of the first request for a blank disc (06 R214) -/
  firstAsk : Nat := 0
  /-- positions of the layer that the last resynchronisation superseded (PFA) (06 R232) -/
  superseded : List Nat := []
  /-- void frames of a replacement disc of its own: object, frame (06 R208) -/
  voids : List (Nat × Nat) := []
  deriving DecidableEq, Repr

/-- A started archive set (R213). -/
structure ArchSet where
  /-- set identifier (06 R211) -/
  sid : Nat := 0
  /-- data discs (06 R213) -/
  k : Nat := 0
  /-- its sealed plan (06 R215) -/
  plan : Plan := {}
  /-- discs in role order (06 R213) -/
  discs : List SetDisc := []
  /-- void frames staged on its original discs: object, frame (06 R208) -/
  voids : List (Nat × Nat) := []
  /-- write start time [ns] (07 R267) -/
  startedAt : Nat := 0
  /-- how far the rows' data frames have been read from flash for the bays of the set together, as a place in the row order (06 R207) -/
  readTo : Nat := 0
  deriving DecidableEq, Repr

/-- A recall accepted and not ended (R73, R233-R236). -/
structure Recall where
  /-- object (06 R233) -/
  obj : Nat := 0
  /-- target namespace (02 R73) -/
  nsid : Nat := 0
  /-- target zone index (02 R73) -/
  zone : Nat := 0
  /-- bay of the object's disc; none while it waits (06 R233) -/
  bay : Option (Fin 16) := none
  /-- the disc is identified (06 R234) -/
  loaded : Bool := false
  /-- the read has reached step 4 (06 R235) -/
  step4 : Bool := false
  /-- bays of the other discs it loaded (06 R235) -/
  others : List (Fin 16) := []
  /-- frames recalled (02 R75) -/
  frames : Nat := 0
  /-- positions recovered at step 3 or later and still to be reallocated (PFA) (08 R307) -/
  todo : List Nat := []
  /-- every frame is in the target zone (02 R73) -/
  full : Bool := false
  deriving DecidableEq, Repr

/-- Reconstruction request (R230, Table 6.5). -/
structure Recon where
  /-- set (06 R230) -/
  setId : Nat := 0
  /-- role (06 R230) -/
  role : Nat := 0
  /-- 2820h.06 (06 R230) -/
  status : Nat := 0
  /-- bays held, the replacement's last (06 R230) -/
  bays : List (Fin 16) := []
  /-- positions rebuilt for the disc (PFA), in PFA order (08 R305) -/
  frames : List (Nat × List (Byte)) := []
  deriving DecidableEq, Repr

/-- The drain engine (06). -/
structure Ebb where
  /-- known objects by identifier, ascending; in Tidemark (06 R225) -/
  objs : List Obj := []
  /-- drain queue: identifiers of Queued objects, oldest first (06 R210) -/
  queue : List Nat := []
  /-- next set identifier (06 R211) -/
  nextSet : Nat := 1
  /-- plan being built (06 R209) -/
  building : Option Plan := none
  /-- clock at which the build started (06 R209) -/
  buildAt : Nat := 0
  /-- 2810h.04 (06 R217) -/
  buildMs : Nat := 0
  /-- 2800h.03 written since the last build (06 R209) -/
  startNow : Bool := false
  /-- sealed plans not started, oldest first (06 R215) -/
  plans : List Plan := []
  /-- started sets not yet archived, oldest first; the original discs of at most one are writing (06 R213) -/
  sets : List ArchSet := []
  /-- discs of archived sets, by set (06 R225) -/
  archived : List (Nat × List SetDisc) := []
  /-- recalls in order of acceptance (06 R233) -/
  recalls : List Recall := []
  /-- reconstruction request (06 R230) -/
  recon : Recon := {}
  /-- rows staged for the current replacement in the running 10 s window (06 R228) -/
  window : Nat := 0
  deriving DecidableEq, Repr

/-- A frame of the row a bay writes (R220, R279, R280). -/
structure FrameW where
  /-- planned position, or reserve slot when it writes one (07 R260) -/
  pfa : Nat := 0
  /-- spot A0-A3 (08 R279) -/
  spot : Nat := 0
  /-- planned start angle [angle units from the row start] (08 R280) -/
  start : Nat := 0
  /-- 0 staged, 1 issued, 2 marks begun, 3 confirmed, 4 slipped, 5 withdrawn (06 R221) -/
  st : Nat := 0
  /-- position whose content it carries (differs from pfa in a reserve slot) (06 R220) -/
  planned : Nat := 0
  /-- its staged content, 4,128 bytes (08 R281) -/
  content : List (Byte) := []
  deriving DecidableEq, Repr

/-- The read channel of one trailing spot (R297, R301). -/
structure SpotRx where
  /-- samples of the data segment that is being received, newest first (08 R296) -/
  raw : List Int := []
  /-- samples of the data segment last received whole, oldest first (08 R296) -/
  segment : List Int := []
  /-- taps of its equalizer (08 R297) -/
  taps : List Rat := (List.replicate 15 0).set 7 1
  /-- taps of the widened equalizer of step 2 of the ladder (08 R302) -/
  wide : List Rat := (List.replicate 31 0).set 15 1
  /-- its envelope over the last 4,096 channel bits, newest first (08 R301) -/
  envelope : List Rat := []
  deriving DecidableEq, Repr

/-- What the read channel makes of one data segment of one track (R297 to R301). -/
structure RxSegment where
  /-- trailing spot, 0 to 3 (08 R296) -/
  spot : Nat := 0
  /-- wedge, counted from the row's start (07 R241) -/
  wedge : Nat := 0
  /-- equalized signal, a value for each channel bit (08 R297) -/
  signal : List Rat := []
  /-- log-likelihood ratio of each channel bit (08 R299) -/
  llrs : List Int := []
  /-- defect flag of each channel bit (08 R301) -/
  flags : List Bool := []
  deriving DecidableEq, Repr

/-- The read channel of a bay (R296 to R301). -/
structure Rx where
  /-- wedge of the data segment that is being received, counted without wrap (08 R297) -/
  wedge : Nat := 0
  /-- the four trailing spots (08 R296) -/
  spots : List SpotRx := List.replicate 4 {}
  /-- taps of the canceller: of each track its inner, then its outer neighbour (08 R298) -/
  cancel : List (List Rat) := List.replicate 8 (List.replicate 7 0)
  /-- the canceller's taps that are adapted on one row only (08 R302) -/
  cancelWide : List (List Rat) := List.replicate 8 (List.replicate 7 0)
  /-- revolution, from the row's start, that is being read (08 R298) -/
  revolution : Nat := 0
  /-- row that is being read on it (08 R298) -/
  row : Int := 0
  /-- its data segments, newest first (08 R299) -/
  segments : List RxSegment := []
  /-- row read on the previous revolution (08 R298) -/
  prevRow : Option Int := none
  /-- data segments of its outermost track, as stored (08 R298) -/
  prev : List RxSegment := []
  /-- samples of the revolutions of a row that stays in reading, newest first: spot, wedge, values (08 R302) -/
  past : List (List (Nat × Nat × List Rat)) := [[]]
  deriving DecidableEq, Repr

/-- Write and read channel of a bay (08, Table 8.11). -/
structure Chan where
  /-- frames of the row in writing (08 R279) -/
  frames : List FrameW := []
  /-- a row has been started and not ended (06 R219) -/
  rowActive : Bool := false
  /-- row in writing (06 R218) -/
  rowOf : Int := 0
  /-- channel policy in force: 2830h.01 to .07 at the last row start; empty before the first (08 R308) -/
  policy : List Nat := []
  /-- absolute angle of its start (07 R249) -/
  rowStart : Nat := 0
  /-- read channel (08 R297) -/
  rx : Rx := {}
  /-- log-likelihood ratios last handed to the decoders, one for each of 37,152 bits (08 R299) -/
  soft : List Int := []
  /-- PFA of the frame at step 2 of the ladder (08 R302) -/
  ladderAt : Nat := 0
  /-- tail-map pairs of the disc, in pair order within a layer (07 R276) -/
  tails : List TailPair := []
  /-- trailing spots with samples missing since their last frame decision (09 R339) -/
  gaps : List Nat := []
  /-- index of the first withdrawn frame to resume at (06 R221) -/
  resumeFrom : Option Nat := none
  /-- 3050h.01 (08 R309) -/
  begun : Nat := 0
  /-- 3050h.02 (08 R309) -/
  confirmed : Nat := 0
  /-- 3050h.03 (08 R309) -/
  slipped : Nat := 0
  /-- 3050h.04 (08 R309) -/
  withdrawn : Nat := 0
  /-- 3050h.05: criteria 1-7, then gate drop (08 R309) -/
  byCriterion : List Nat := List.replicate 8 0
  /-- 3050h.06 (08 R309) -/
  read : Nat := 0
  /-- 3050h.07: steps 1-5, then unrecovered (08 R309) -/
  byStep : List Nat := List.replicate 6 0
  /-- 3050h.08 (08 R309) -/
  reallocated : Nat := 0
  /-- 3050h.09 (08 R309) -/
  flaggedRuns : Nat := 0
  /-- corrected bits of the last frames decoded at step 1, newest first, at most 65,536 (3050h.0A) (08 R309) -/
  corrected : List Nat := []
  /-- 3050h.0B (08 R309) -/
  opcAccepted : Nat := 0
  /-- 3050h.0B (08 R309) -/
  opcRejected : Nat := 0
  /-- 3050h.0C: W[l], 0 none on this disc (08 R285) -/
  power : List Nat := List.replicate 24 0
  /-- 3050h.0D: spot trims, per mille (08 R291) -/
  trims : List Int := [0, 0, 0, 0]
  /-- 3050h.0D: saturated frames (08 R285) -/
  saturated : Nat := 0
  /-- 3050h.0F (08 R285) -/
  family : Nat := 0
  /-- OPCs of each layer of this disc that ended in rejection (08 R290) -/
  rejects : List Nat := List.replicate 24 0
  /-- clock of the last accepted OPC of each layer on this disc (08 R286) -/
  opcAt : List (Option Nat) := List.replicate 24 none
  /-- OPC must run before writing resumes (08 R286) -/
  opcDue : Bool := false
  /-- consecutive unconfirmed frames of each spot (08 R295) -/
  runFail : List Nat := [0, 0, 0, 0]
  /-- unconfirmed frames of the row (08 R295) -/
  rowFail : Nat := 0
  /-- next free test-band row of each layer, from 0 (07 R263) -/
  testRow : List Nat := List.replicate 24 0
  /-- asymmetries of the confirmed frames of the row, summed by spot [per mille] (08 R291) -/
  asymSum : List Int := [0, 0, 0, 0]
  /-- number of them (08 R291) -/
  asymN : List Nat := [0, 0, 0, 0]
  /-- frame last rebuilt at step 4 of the ladder (08 R305) -/
  rebuilt : List (Byte) := []
  /-- 0 none; n + 1 after n step 2 revolutions for a frame that failed step 1 (08 R302) -/
  step2 : Nat := 0
  deriving DecidableEq, Repr

/-- Causeway link of a bay (09, Table 9.17). -/
structure Cway where
  /-- 3070h.01: 0 down, 1 training, 2 up, 3 failed (09 R340) -/
  state : Nat := 0
  /-- 3070h.02, 128 bytes; empty is all 0 (09 R329) -/
  identity : List (Byte) := []
  /-- 3070h.03 [µs] (09 R340) -/
  trainTime : Nat := 0
  /-- 3070h.04 known head serial; in Tidemark (09 R338) -/
  serial : List (Byte) := []
  /-- 3070h.05 (09 R340) -/
  upErrors : Nat := 0
  /-- 3070h.06 (09 R340) -/
  dnErrors : Nat := 0
  /-- downstream cell errors as the head last reported them (09 R321) -/
  dnSeen : Nat := 0
  /-- 3070h.07 (09 R340) -/
  servoMissing : Nat := 0
  /-- 3070h.08 (09 R340) -/
  rejected : Nat := 0
  /-- write cells rejected as the head last reported them (09 R321) -/
  rejSeen : Nat := 0
  /-- 3070h.09 (09 R340) -/
  retrains : Nat := 0
  /-- training attempts that failed in a row (09 R336) -/
  attempts : Nat := 0
  /-- CW_RST_N high (09 R331) -/
  rstN : Bool := false
  /-- CW_WG high (09 R331) -/
  wg : Bool := false
  /-- CW_LEN high (09 R331) -/
  len : Bool := false
  /-- laser mode in effect as last reported (09 R321) -/
  laser : Nat := 0
  /-- local write inhibit as last reported (09 R321) -/
  inhibit : Bool := false
  /-- fault bits as last reported (09 R321) -/
  faults : BitVec 16 := 0
  /-- write epoch as last reported (09 R321) -/
  headEpoch : Nat := 0
  /-- write epoch the device has set (09 R333) -/
  epoch : Nat := 0
  /-- sequence of the last register write (09 R328) -/
  regSeq : Nat := 0
  /-- register write outstanding: address, value, sends (09 R328) -/
  regOut : Option (Nat × Nat × Nat) := none
  /-- register writes waiting for the acknowledge (09 R328) -/
  regQueue : List (Nat × Nat) := []
  /-- last sample cell sequence of each spot (09 R317) -/
  seqs : List (Option Nat) := List.replicate 8 none
  /-- consecutive missing servo cells (09 R339) -/
  missing : Nat := 0
  /-- clocks of the cell errors of the last 10 ms, newest first, at most 256 (09 R337) -/
  errorsAt : List Nat := []
  /-- the training in progress is a retrain (09 R337) -/
  retraining : Bool := false
  /-- clock of the last fault of bit 0 or 1 (09 R339) -/
  faultAt : Option Nat := none
  /-- W_L [ns] (09 R334) -/
  latency : Nat := 0
  /-- t_WGOFF [ns] (09 R334) -/
  gateOff : Nat := 0
  /-- strategy tables loaded: slot, 256 × family + table (09 R326) -/
  slots : List (Nat × Nat) := []
  /-- read power register (09 R329) -/
  readPower : Nat := 0
  /-- spot stream mask register (09 R329) -/
  spotMask : Nat := 0
  /-- servo cell enable register (09 R329) -/
  servoOn : Bool := false
  /-- last clock word sent [0.5 Hz] (09 R316) -/
  clockWord : Nat := 0
  /-- a value of the sample counter, as a cell last gave it (09 R316) -/
  sc : Nat := 0
  /-- core-clock time at which the counter had it [ps] (09 R316) -/
  scAt : Nat := 0
  /-- downstream transmit preset in use: 3070h.0A at the last training (09 R340) -/
  dnPreset : Nat := 5
  /-- upstream receive equalizer preset in use: 3070h.0B at the last training (09 R340) -/
  upPreset : Nat := 5
  /-- writing withheld for a new head front end (09 R338) -/
  newHead : Bool := false
  deriving DecidableEq, Repr

/-- Entry of the angle event queue (R355). -/
structure QEvent where
  /-- absolute angle: revolution × 62,914,560 + wedge × 65,536 + fraction (10 R342) -/
  stamp : Nat := 0
  /-- 1 write gate low, 2 power change, 3 capture, 4 loop update, 5 write gate high (10 R356) -/
  kind : Nat := 0
  /-- argument (10 R355) -/
  arg : Nat := 0
  deriving DecidableEq, Repr

/-- What a capture copies to the calibration or log that asked for it (R356). -/
structure Snap where
  /-- argument of the entry: who asked (10 R355) -/
  arg : Nat := 0
  /-- angle at which it fired (10 R356) -/
  stamp : Nat := 0
  /-- timebase state (10 R356) -/
  tbState : Nat := 0
  /-- T [ps] (10 R356) -/
  period : Nat := 0
  /-- t_pred [ps] (10 R356) -/
  pred : Nat := 0
  /-- consecutive missed wedges (10 R356) -/
  missed : Nat := 0
  /-- servo mode (10 R356) -/
  mode : Nat := 0
  /-- layer in focus (10 R356) -/
  layer : Nat := 0
  /-- track of A0 (10 R356) -/
  track : Int := 0
  /-- trimmed tracking errors of the last wedge (10 R356) -/
  errors : List Int := []
  /-- focus error of the last sample (10 R356) -/
  focus : Int := 0
  /-- output of each loop (10 R356) -/
  outs : List Int := []
  deriving DecidableEq, Repr

/-- Timebase and encoder of a bay (10, Table 10.7). -/
structure Tb where
  /-- 3080h.01: 0 off, 1 acquire, 2 locked, 3 coasting (10 R344) -/
  state : Nat := 0
  /-- T [ps], 3080h.02 (10 R345) -/
  period : Nat := 0
  /-- t_pred of the next wedge [ps] (10 R345) -/
  pred : Nat := 0
  /-- next wedge expected, absolute: revolution × 960 + wedge (10 R348) -/
  wedge : Nat := 0
  /-- absolute angle at its last update: revolution × 62,914,560 + wedge × 65,536 + fraction (10 R343) -/
  angle : Nat := 0
  /-- core-clock time at which the angle stood there [ps] (10 R345) -/
  anchor : Nat := 0
  /-- time of one wedge at the present rate of the angle [ps]; 0 stands still (10 R345) -/
  rate : Nat := 0
  /-- candidates in acquire: wedge index, time [ps], newest first (10 R347) -/
  lockRun : List (Nat × Nat) := []
  /-- 3080h.07 (10 R363) -/
  accepted : Nat := 0
  /-- 3080h.08 (10 R352) -/
  coasted : Nat := 0
  /-- 3080h.09 (10 R349) -/
  rejectedC : List Nat := [0, 0, 0, 0]
  /-- 3080h.0A (10 R358) -/
  late : Nat := 0
  /-- 3080h.0B [ns] (10 R343) -/
  delay : Nat := 0
  /-- 3080h.0E (10 R360) -/
  encoder : Int := 0
  /-- 3080h.0F (10 R360) -/
  skips : Nat := 0
  /-- 3080h.10 (10 R361) -/
  uncertain : Bool := false
  /-- consecutive missed wedges (10 R353) -/
  missed : Nat := 0
  /-- outcome of the window closed and not committed: none missed, some t_obs (10 R350) -/
  closed : Option (Option Nat) := none
  /-- standing candidates of that window: spot, R244 value in Q1.15, track (10 R350) -/
  standing : List (Nat × Int × Nat) := []
  /-- phase gain in force at the last window close (10 R363) -/
  kp : Nat := 64
  /-- frequency gain in force at the last window close (10 R363) -/
  kf : Nat := 4
  /-- coast limit in force at the last window close (10 R363) -/
  coastLim : Nat := 16
  /-- event queue, at most 512 (10 R355) -/
  queue : List QEvent := []
  /-- last encoder sample, A in bit 1, B in bit 0 (10 R360) -/
  encAB : Nat := 0
  /-- samples since power-on (10 R361) -/
  encAt : Nat := 0
  /-- sample number of the last skip (10 R361) -/
  encSkipAt : Option Nat := none
  /-- count at the start of the last 1,024 samples (10 R361) -/
  encBase : Int := 0
  /-- sample number and count at each change within the last 1,024 samples, newest first (10 R361) -/
  encHist : List (Nat × Int) := []
  /-- power change last fired (argument) (10 R356) -/
  powerInForce : Nat := 0
  /-- timebase and servo state of the last capture that fired (10 R356) -/
  captured : Option Snap := none
  /-- loop updates fired (10 R356) -/
  updates : Nat := 0
  deriving DecidableEq, Repr

/-- A soft-start set-point ramp (R386). -/
structure Ramp where
  /-- the ramp runs (11 R386) -/
  on : Bool := false
  /-- measured value at its start, Q17.15 (11 R386) -/
  m0 : Int := 0
  /-- target, Q17.15 (11 R386) -/
  r : Int := 0
  /-- time since its start [ns] (11 R386) -/
  t : Nat := 0
  /-- T_r [ns] (11 R386) -/
  dur : Nat := 0
  /-- time between its sample boundaries [ns] (11 R386) -/
  h : Nat := 0
  deriving DecidableEq, Repr

/-- The profile generator of a loop (R387); values in units of 2^-24 measurement unit. -/
structure Profile where
  /-- the generator drives the set-point (11 R387) -/
  on : Bool := false
  /-- position (11 R387) -/
  p : Int := 0
  /-- velocity per ms (11 R387) -/
  v : Int := 0
  /-- acceleration per ms² (11 R387) -/
  a : Int := 0
  /-- target (11 R387) -/
  r : Int := 0
  /-- V per ms (11 R387) -/
  vMax : Nat := 0
  /-- A per ms² (11 R387) -/
  aMax : Nat := 0
  /-- J per ms³ (11 R387) -/
  jMax : Nat := 0
  /-- loop output held when the fall-back began, Q1.15 (11 R387) -/
  held : Int := 0
  deriving DecidableEq, Repr

/-- One of the seven loops of a bay (R367-R384). -/
structure Loop where
  /-- active coefficient set, 128 bytes; empty before loading (11 R380) -/
  set : List (Byte) := []
  /-- completed shadow set waiting for its boundary (11 R380) -/
  shadow : Option (List (Byte)) := none
  /-- calibration offset, Q1.15 (11 R367) -/
  calOffset : Int := 0
  /-- calibration gain, Q1.15; 16,384 is 1 after the shift by 1 (11 R367) -/
  calGain : Int := 16384
  /-- accepted calibration result waiting for the swap (11 R384) -/
  calPending : Option (Int × Int) := none
  /-- section states (11 R367) -/
  x1 : List Int := [0, 0, 0, 0]
  /-- section states (11 R367) -/
  x2 : List Int := [0, 0, 0, 0]
  /-- section states (11 R367) -/
  y1 : List Int := [0, 0, 0, 0]
  /-- section states (11 R367) -/
  y2 : List Int := [0, 0, 0, 0]
  /-- applied output, Q1.15 (11 R369) -/
  out : Int := 0
  /-- computed output waiting for the next boundary (11 R369) -/
  next : Option Int := none
  /-- the loop is open (11 R395) -/
  isOpen : Bool := true
  /-- active-bank bit (11 R380) -/
  bank : Bool := false
  /-- section states before the last computation (11 R368) -/
  saved : List Int := []
  deriving DecidableEq, Repr

/-- Servo of a bay (11, Table 11.11). -/
structure Servo where
  /-- 3010h.01 (11 R400) -/
  state : Nat := 0
  /-- 3010h.02 (11 R400) -/
  layer : Nat := 255
  /-- 3010h.03 (11 R381) -/
  region : Nat := 0
  /-- 0 capture, 1 follow, 2 seek-settle, 3 write (11 R381) -/
  mode : Nat := 0
  /-- speed class 0-2 (11 R381) -/
  speedClass : Nat := 0
  /-- loop types 0-6 (11 R369) -/
  loops : List Loop := List.replicate 7 {}
  /-- sled feed, Q1.15 (11 R373) -/
  feed : Int := 0
  /-- track of A0 being followed (10 R349) -/
  track : Int := 0
  /-- 3011h.01 [0.1 µm]; empty before a disc is accepted (11 R400) -/
  depths : List Nat := []
  /-- 3011h.02 (11 R400) -/
  swings : List Nat := List.replicate 24 0
  /-- 3011h.03 (11 R400) -/
  focusOffsets : List Int := List.replicate 24 0
  /-- 3011h.04 (11 R400) -/
  pitchTrims : List Int := List.replicate 6 0
  /-- 3011h.05 (11 R400) -/
  tilts : List Int := List.replicate 6 0
  /-- 3011h.06 accepted positions; none is R397's formula (11 R397) -/
  colPos : List (Option Int) := List.replicate 24 none
  /-- 3011h.07 (11 R400) -/
  fresh : BitVec 64 := 0
  /-- untrimmed errors of the four spots, R244 values in Q1.15, summed since follow began in this band group (11 R398) -/
  trimSum : List Int := [0, 0, 0, 0]
  /-- accepted wedges with all four spots in that sum (11 R398) -/
  trimN : Nat := 0
  /-- 3011h.08, 8 bytes; empty is all 0 (11 R398) -/
  rejection : List Nat := []
  /-- 3012h.01 (11 R378) -/
  overruns : List Nat := List.replicate 7 0
  /-- 3012h.02 (11 R375) -/
  missing : List Nat := List.replicate 7 0
  /-- 3012h.03 (11 R400) -/
  focusLost : Nat := 0
  /-- 3012h.03 (11 R400) -/
  trackLost : Nat := 0
  /-- 3012h.04 (11 R400) -/
  jumps : Nat := 0
  /-- 3012h.05 (11 R391) -/
  fallbacks : Nat := 0
  /-- failed captures in a row (11 R389) -/
  attempts : Nat := 0
  /-- consecutive focus overruns (11 R378) -/
  focusRuns : Nat := 0
  /-- the last focus computation overran (11 R378) -/
  overrun : Bool := false
  /-- consecutive samples with a low sum level (11 R395) -/
  lowSum : Nat := 0
  /-- consecutive samples with FE beyond the write limit (11 R395) -/
  feRun : Nat := 0
  /-- consecutive accepted wedges with E beyond the tracking limit (11 R395) -/
  eRun : Nat := 0
  /-- consecutive wedges within the write limits (11 R394) -/
  settled : Nat := 0
  /-- consecutive accepted wedges with E within the write off-track limit (11 R392) -/
  eGood : Nat := 0
  /-- trimmed errors of the last wedge [1/65,536,000 track pitch] (11 R393) -/
  lastE : List Int := []
  /-- last focus error [nm] (11 R393) -/
  lastFE : Int := 0
  /-- row to seek back to (11 R396) -/
  lostRow : Option Int := none
  /-- consecutive focus samples within 3010h.08 while settling (11 R388) -/
  settling : Nat := 0
  /-- target layer of a capture or jump; 255 none (11 R390) -/
  target : Nat := 255
  /-- row a seek goes to (11 R392) -/
  expectRow : Int := 0
  /-- a jump runs on its profile fall-back (11 R390) -/
  disturbed : Bool := false
  /-- quadrants of the servo cells of this engine cycle, newest first, at most 4 (11 R370) -/
  cells : List (List Int) := []
  /-- sequence of the last servo cell (09 R319) -/
  cellSeq : Option Nat := none
  /-- profile generator of the focus loop (11 R387) -/
  prof : Profile := {}
  /-- profile generator of the tracking loop (11 R387) -/
  profT : Profile := {}
  /-- ramp of the focus set-point (11 R390) -/
  rampF : Ramp := {}
  /-- ramp of the tracking set-point (11 R392) -/
  rampT : Ramp := {}
  /-- depth estimate [2^-23/147,456 µm] (11 R388) -/
  estP : Int := 0
  /-- its velocity [2^-23/384 µm per ms] (11 R388) -/
  estV : Int := 0
  /-- the sum level stands above the focus-OK threshold (11 R388) -/
  sAbove : Bool := false
  /-- S-curves counted in the sweep (11 R388) -/
  sCount : Nat := 0
  /-- the S-curve being passed has had its zero crossing (11 R388) -/
  crossed : Bool := false
  /-- depth its layer had in the layer table before it was measured [0.1 µm] (11 R389) -/
  oldDepth : Nat := 0
  /-- highest focus error of the S-curve being passed, Q1.15 (11 R388) -/
  feMax : Int := 0
  /-- lowest focus error of the S-curve being passed, Q1.15 (11 R388) -/
  feMin : Int := 0
  /-- failed layer confirmations of this capture (11 R388) -/
  confirms : Nat := 0
  /-- the layer of a capture or fall-back awaits its confirmation (11 R388) -/
  confirming : Bool := false
  /-- last layer verified in a jump (11 R391) -/
  lastLayer : Nat := 255
  /-- committed wedge waiting for the wedge slot, and whether its sample is missing (11 R376) -/
  wedgeDue : Option (Nat × Bool) := none
  /-- unwrapped position of B0 [1/65,536 track] (11 R392) -/
  unwrapped : Int := 0
  /-- sums of the 16 quadrants since the tilt loop's last boundary (11 R372) -/
  tiltQ : List Int := []
  /-- wedges since the tilt loop's last boundary (11 R372) -/
  tiltN : Nat := 0
  /-- sum of the tracking output over them (11 R372) -/
  trackSum : Int := 0
  /-- wedges left of the tracking output's ramp to zero (11 R396) -/
  rampOut : Nat := 0
  /-- the write channel has asked for mode write (11 R394) -/
  writeAsked : Bool := false
  deriving DecidableEq, Repr

/-- Spindle of a bay (12, Table 12.3). -/
structure Spin where
  /-- 3020h.01 (12 R408) -/
  state : Nat := 0
  /-- 3020h.02 [rpm] (12 R408) -/
  target : Nat := 0
  /-- 3020h.04 [rpm] (12 R404) -/
  speed : Nat := 0
  /-- 3020h.0D (12 R417) -/
  counts : List Nat := List.replicate 6 0
  /-- commutation state 0-5 (12 R401) -/
  comm : Nat := 0
  /-- previous commutation interval [100 ns] (12 R402) -/
  tPrev : Nat := 0
  /-- time of the last commutation [100 ns] (12 R402) -/
  lastComm : Nat := 0
  /-- a crossing was accepted in this interval (12 R402) -/
  crossed : Bool := false
  /-- running sensorless (12 R402) -/
  sensorless : Bool := false
  /-- ramping to a higher target (12 R409) -/
  rampUp : Bool := false
  /-- ramp of the speed set-point (12 R405) -/
  ramp : Ramp := {}
  /-- the ramp starts at the speed loop's next sample (12 R405) -/
  rampDue : Bool := false
  /-- clock at which state 4 was entered (12 R410) -/
  runAt : Option Nat := none
  /-- time of the next commutation [100 ns]; 0 none timed (12 R402) -/
  duePred : Nat := 0
  /-- forced commutations made (12 R407) -/
  forced : Nat := 0
  /-- consecutive intervals with the crossing in their second half (12 R407) -/
  goodRun : Nat := 0
  /-- consecutive missed windows (12 R410) -/
  missedRun : Nat := 0
  /-- retries in a row (12 R410) -/
  retries : Nat := 0
  /-- waits 1 s before a retry (12 R410) -/
  retryDue : Bool := false
  /-- a start waiting its turn or for a brake's end: target [rpm] (12 R409) -/
  waitStart : Option Nat := none
  /-- arrival order of the waiting start (12 R409) -/
  order : Nat := 0
  /-- the brake is followed by a start from rest (12 R404) -/
  afterBrake : Bool := false
  /-- the 200 ms hold at the end of a brake (12 R406) -/
  brakeHold : Bool := false
  /-- coasting with observation (12 R415) -/
  dipCoast : Bool := false
  /-- spindle bridge: 0 all off, 1 commutated, 2 low sides braking, 3 low sides held on (12 R401) -/
  gates : Nat := 0
  /-- duty [per mille] (12 R401) -/
  duty : Nat := 0
  /-- synchronous recirculation allowed (13 R435) -/
  syncRect : Bool := true
  deriving DecidableEq, Repr

/-- The hysteresis chopper of one winding (R422). -/
structure Chop where
  /-- it drives the winding; else the current decays (12 R422) -/
  drive : Bool := true
  /-- the decay is fast (12 R422) -/
  fast : Bool := false
  /-- µs since the last turn-on, at most 10 (12 R422) -/
  on : Nat := 10
  /-- target current last regulated to [mA] (12 R422) -/
  last : Int := 0
  deriving DecidableEq, Repr

/-- One stepper's generator (R418-R423). -/
structure Stepper where
  /-- position, 1/256 full step (12 R418) -/
  pos : Int := 0
  /-- position possibly lost (12 R425) -/
  lost : Bool := true
  /-- has been homed or re-established once (12 R430) -/
  homed : Bool := false
  /-- a move runs (12 R420) -/
  moving : Bool := false
  /-- the move is a homing (12 R426) -/
  homing : Bool := false
  /-- velocity mode (12 R418) -/
  vmode : Bool := false
  /-- target position (12 R418) -/
  goal : Int := 0
  /-- velocity command [full steps/s] (12 R418) -/
  cmd : Int := 0
  /-- direction of travel (12 R420) -/
  dir : Int := 1
  /-- speed [10⁻⁶ full steps/s] (12 R420) -/
  v : Nat := 0
  /-- acceleration [10⁻⁶ full steps/s²] (12 R420) -/
  a : Int := 0
  /-- carry [ps] (12 R420) -/
  carry : Int := 0
  /-- resolution in effect (12 R419) -/
  res : Nat := 256
  /-- resolution wanted (12 R419) -/
  resNext : Nat := 256
  /-- timer value [10 ns] (12 R420) -/
  interval : Nat := 0
  /-- interval h [ps] (12 R420) -/
  h : Nat := 0
  /-- v_creep of the move [10⁻⁶ full steps/s] (12 R420) -/
  creep : Nat := 0
  /-- holds still for one interval before it reverses (12 R421) -/
  turn : Bool := false
  /-- spring mode (12 R423) -/
  spring : Bool := false
  /-- windings energised (12 R430) -/
  energised : Bool := false
  /-- drive current [mA] (12 R423) -/
  current : Nat := 0
  /-- stopped at once (12 R425) -/
  stopped : Bool := false
  /-- drive current before the last change of mode [mA] (12 R423) -/
  wasCurrent : Nat := 0
  /-- clock of that change (12 R423) -/
  modeAt : Option Nat := none
  /-- chopper of winding A (12 R422) -/
  chopA : Chop := {}
  /-- chopper of winding B (12 R422) -/
  chopB : Chop := {}
  /-- adaptive offset of winding A [mA] (12 R422) -/
  offA : Int := 0
  /-- adaptive offset of winding B [mA] (12 R422) -/
  offB : Int := 0
  /-- steps left in a homing [1/256 full step] (12 R426) -/
  left : Nat := 0
  /-- holding at the clamp current (12 R428) -/
  clampHold : Bool := false
  deriving DecidableEq, Repr

/-- Caldera's part of a bay (13, Table 13.7). -/
structure Cald where
  /-- 3060h.01 (13 R453) -/
  faults : BitVec 16 := 0
  /-- 3060h.0B, 4 bytes; empty is all 0 (13 R452) -/
  rejection : List Nat := []
  /-- 3060h.0C (13 R452) -/
  offsets : List Int := List.replicate 26 0
  /-- 3060h.0D (13 R453) -/
  counts : List Nat := List.replicate 9 0
  /-- filtered square of each coil's current, summed over 384,000 engine cycles [mA²] (13 R440) -/
  rmsAcc : List Nat := [0, 0, 0]
  /-- a coil above 250 mA and not yet below 225 mA (13 R440) -/
  coilOver : List Bool := [false, false, false]
  /-- retries of each coil in the running episode (13 R446) -/
  retries : List Nat := [0, 0, 0]
  /-- coil output off between its limit and its retry (13 R446) -/
  coilOff : List Bool := [false, false, false]
  /-- DRV_EN_bb high (13 R442) -/
  drvEn : Bool := true
  /-- coil commands Caldera applies: focus, tracking, tilt, Q1.15 (13 R433) -/
  coils : List Int := [0, 0, 0]
  /-- coil commands from which bay-Harbour ramps to 0 (13 R450) -/
  rampFrom : List Int := [0, 0, 0]
  /-- engine cycles left of that ramp (13 R450) -/
  rampLeft : Nat := 0
  /-- spindle bridge drive Caldera applies, as the core die's own (13 R433) -/
  gates : Nat := 0
  /-- commutation state Caldera applies (13 R433) -/
  comm : Nat := 0
  /-- bridge duty Caldera applies [0.1 %] (13 R433) -/
  duty : Nat := 0
  deriving DecidableEq, Repr

/-- One bay (14 R475 and its blocks). -/
structure Bay where
  /-- CW_SBDI_bb read high (18 R569) -/
  fitted : Bool := true
  /-- the bay has started since power-on (17 R557) -/
  started : Bool := false
  /-- in bay-Harbour (13 R450) -/
  harbour : Bool := false
  /-- 3000h.07 (14 R475) -/
  cause : Nat := 0
  /-- 0 none, 3 writing, 4 reading, 5 reconstructing (14 R475) -/
  work : Nat := 0
  /-- 3000h.04 (14 R475) -/
  present : Bool := false
  /-- DOOR_bb high (open) (18 R566) -/
  door : Bool := false
  /-- 3000h.05 (14 R475) -/
  serial : List (Byte) := []
  /-- 3000h.06 (14 R475) -/
  disc : Nat := 0
  /-- media lot of the disc (08 R285) -/
  lot : List (Byte) := []
  /-- start write power by layer of the disc (07 R265) -/
  startPower : List Nat := []
  /-- recorded layer depths of the disc [0.1 µm] (07 R265) -/
  recDepths : List Nat := []
  /-- 3000h.08 (14 R475) -/
  role : Nat := 255
  /-- 6000h.05 (14 R477) -/
  reqCode : Nat := 0
  /-- 6000h.06 (14 R477) -/
  reqSeq : Nat := 0
  /-- 6000h.07 (14 R477) -/
  reqReason : Nat := 0
  /-- 6000h.08 (14 R477) -/
  reqSerial : List (Byte) := []
  /-- clock of the first request of this kind (14 R478) -/
  reqAt : Nat := 0
  /-- 6000h.09 (14 R477) -/
  ackSeq : Nat := 0
  /-- 6000h.0A (14 R477) -/
  ackResult : Nat := 0
  /-- 7000h.01 (14 R477) -/
  libCmd : Nat := 0
  /-- 7000h.02 (14 R477) -/
  libSeq : Nat := 0
  /-- 7000h.03 (14 R477) -/
  ansCode : Nat := 0
  /-- 7000h.04 (14 R477) -/
  ansSeq : Nat := 0
  /-- lead-in of the disc of a loaded answer that has not taken effect (14 R478) -/
  ansLead : Option LeadIn := none
  /-- library command being carried out: its sequence (14 R480) -/
  running : Option Nat := none
  /-- library command waiting: code, sequence (14 R480) -/
  waiting : Option (Nat × Nat) := none
  /-- a disc of another serial has been loaded once for the bay's standing work (06 R234) -/
  misread : Bool := false
  /-- unload to be posted again: its reason (14 R478) -/
  unloadDue : Option Nat := none
  /-- a blank-disc request to be posted again (14 R478) -/
  blankDue : Bool := false
  /-- servo (11 R400) -/
  servo : Servo := {}
  /-- spindle (12 R430) -/
  spin : Spin := {}
  /-- sled (12 R430) -/
  sled : Stepper := {}
  /-- loader/clamp (12 R430) -/
  loader : Stepper := {}
  /-- collimator (12 R430) -/
  coll : Stepper := {}
  /-- 3040h.01 (12 R430) -/
  loaderState : Nat := 0
  /-- 3040h.0A (12 R430) -/
  collState : Nat := 0
  /-- 3030h.01 (12 R430) -/
  sledState : Nat := 0
  /-- 3030h.11 (12 R430) -/
  sledCounts : List Nat := List.replicate 5 0
  /-- channels (08 R309) -/
  chan : Chan := {}
  /-- Causeway link (09 R340) -/
  cway : Cway := {}
  /-- timebase (10 R363) -/
  tb : Tb := {}
  /-- Caldera (13 R453) -/
  cald : Cald := {}
  deriving DecidableEq, Repr

/-- Last answer of the CoE mailbox (R463). -/
structure SdoAnswer where
  /-- index (14 R463) -/
  index : Nat := 0
  /-- subindex (14 R463) -/
  sub : Nat := 0
  /-- abort code, 0 success (14 R469) -/
  abort : Nat := 0
  /-- value of an upload, or the information answered (14 R463) -/
  data : List (Byte) := []
  deriving DecidableEq, Repr

/-- The dictionary and its doors (14). -/
structure Doors where
  /-- stored numeric values: key index × 256 + subindex, value; ascending, none equal to its default; in Tidemark (14 R457) -/
  nums : List (Nat × Nat) := []
  /-- stored DOMAIN and string values by key; ascending; in Tidemark (14 R457) -/
  doms : List (Nat × List (Byte)) := []
  /-- pending copy of 4000h.01-.11 where it differs from the copy in effect; in Tidemark (11 R382) -/
  pending : List (Nat × List (Byte)) := []
  /-- 5020h.01; since manufacture (14 R460) -/
  lockedWrites : Nat := 0
  /-- 5020h.02 (14 R460) -/
  lastLocked : Nat := 0
  /-- 5020h.03 (14 R460) -/
  lastDoor : Nat := 0
  /-- EtherCAT state (14 R463) -/
  ecat : EcatState := .init
  /-- process data watchdog expired (14 R482) -/
  watchdog : Bool := false
  /-- ECAT_LINK_p (18 R566) -/
  portLink : List Bool := [true, true]
  /-- last mailbox answer (14 R463) -/
  sdo : SdoAnswer := {}
  /-- segmented download in progress: index, subindex, bytes so far (14 R463) -/
  segment : Option (Nat × Nat × List (Byte)) := none
  /-- the answer phase reads A5h (14 R465) -/
  benchBusy : Bool := false
  /-- an answer is complete and not yet clocked out (14 R465) -/
  benchReady : Bool := false
  /-- completed answer frame from byte 0 (14 R465) -/
  bench : List (Byte) := []
  /-- bytes clocked out in the last answer phase (14 R465) -/
  benchOut : List (Byte) := []
  deriving DecidableEq, Repr

/-- Administration progress, log page C5h (Table 16.13). -/
structure AdmRec where
  /-- operation of Table 14.14, 0 none since manufacture (16 R516) -/
  op : Nat := 0
  /-- 2050h.06 (14 R485) -/
  status : Nat := 0
  /-- fraction × 65,536, 16 bits (16 R515) -/
  progress : Nat := 0
  /-- NSID (16 R515) -/
  nsid : Nat := 0
  /-- CDW10 (16 R515) -/
  cdw10 : BitVec 32 := 0
  /-- 1 EtherCAT, 2 NVMe (16 R515) -/
  door : Nat := 0
  /-- interruptions (16 R515) -/
  cycles : Nat := 0
  /-- start time [ns] (16 R515) -/
  start : Nat := 0
  /-- end time [ns], 0 while running (16 R515) -/
  stop : Nat := 0
  /-- estimated duration [s] (16 R515) -/
  estimate : Nat := 0
  deriving DecidableEq, Repr

/-- Administration (14 R483-R485, 16 R516-R519). -/
structure Adm where
  /-- armed operation, 0 none (14 R483) -/
  armCode : Nat := 0
  /-- its argument, 24 bits (14 R483) -/
  armArg : Nat := 0
  /-- arming door (14 R485) -/
  armDoor : Nat := 0
  /-- clock at which it was armed (14 R485) -/
  armAt : Nat := 0
  /-- C5h; in Tidemark (16 R515) -/
  prog : AdmRec := {}
  /-- operation codes that run; volume adoption and retirement until their end (14 R484) -/
  running : List Nat := []
  /-- namespaces whose Format runs (16 R519) -/
  formatNs : List Nat := []
  /-- sanitize failure mode (16 R517) -/
  sanitizeFailed : Bool := false
  /-- dies that a running Sanitize names: volume port, die (16 R517) -/
  sanDies : List (Nat × Nat) := []
  /-- SSTAT: 0 never, 1 completed, 2 in progress, 3 failed (16 R518) -/
  sanitizeEver : Nat := 0
  /-- C0h Harbour entries since manufacture (16 R515) -/
  harbours : Nat := 0
  /-- C0h brownouts ridden (16 R515) -/
  ridden : Nat := 0
  /-- C0h longest ridden dip [µs] (16 R515) -/
  longestDip : Nat := 0
  /-- C0h hold-up self-tests passed (16 R515) -/
  testsPassed : Nat := 0
  /-- C0h hold-up self-tests failed (16 R515) -/
  testsFailed : Nat := 0
  /-- C0h core junction histogram [core cycles] (16 R515) -/
  histogram : List Nat := List.replicate 32 0
  /-- C0h highest of each sensor [0.1 °C] (16 R515) -/
  sensorMax : List Int := List.replicate 8 0
  /-- C0h spindle time [core cycles] (16 R515) -/
  spindleOn : List Nat := List.replicate 16 0
  /-- powered time since manufacture [core cycles] (16 R513) -/
  powerOn : Nat := 0
  /-- sum of each sensor's temperature over the powered core cycles [0.1 °C] (16 R515) -/
  sensorSum : List Int := List.replicate 8 0
  /-- time at or above WCTEMP [core cycles] (16 R513) -/
  warnTime : Nat := 0
  /-- time at or above CCTEMP [core cycles] (16 R513) -/
  critTime : Nat := 0
  /-- Controller Busy Time, summed over the controllers [core cycles] (16 R513) -/
  busy : Nat := 0
  /-- CDW10 of the last Sanitize (16 R518) -/
  sanCdw10 : BitVec 32 := 0
  deriving DecidableEq, Repr

/-- Power states (15). -/
structure Pwr where
  /-- power state in force, 0-4 (15 R493) -/
  ps : Nat := 0
  /-- operational state to return to (15 R499) -/
  fromPs : Nat := 0
  /-- state a host last set (15 R500) -/
  ceiling : Nat := 0
  /-- handshake: target, next block, sum of delays [ms] (15 R494) -/
  shaking : Option (Nat × Nat × Nat) := none
  /-- Set Features that asked: controller, queue, command identifier (15 R493) -/
  byHost : Option (Fin 4 × Nat × Nat) := none
  /-- Shoal wake that waits for a dip to be ridden: cause and data (15 R542) -/
  shoal : Option (Nat × List Nat) := none
  /-- Set Features Power Management that wait for the transition to end (15 R493) -/
  waiting : List (Fin 4 × Nat × Nat × Nat) := []
  /-- 2020h.05, 4 bytes; empty is all 0 (14 R474) -/
  refusal : List Nat := []
  /-- caps of R489 for temperature (16 R514) -/
  thermalCap : Bool := false
  /-- transmit PDO inputs held at their values at entry to PS4; empty otherwise (15 R492) -/
  tpdoHeld : List Nat := []
  /-- register and doorbell writes captured in PS4, oldest first (15 R492) -/
  captured : List Cap := []
  /-- disc-present and door inputs at entry to PS4 (15 R501) -/
  discAtEntry : List (Bool × Bool) := []
  /-- EtherCAT link states at entry to PS4 (15 R501) -/
  linkAtEntry : List Bool := []
  deriving DecidableEq, Repr

/-- Supplies, supervision, Harbour, hold-up (17). -/
structure Sup where
  /-- SUPMON_12 [mV] (17 R537) -/
  v12 : Nat := 12000
  /-- core rail [mV] (17 R537) -/
  core : Nat := 750
  /-- supervisors use the stored levels of 2010h (17 R537) -/
  supStored : Bool := false
  /-- a dip episode runs (17 R539) -/
  dip : Bool := false
  /-- rail that began it: 1 SUPMON_12, 2 core (17 R539) -/
  dipRail : Nat := 0
  /-- clock of the first crossing (17 R540) -/
  dipFrom : Nat := 0
  /-- lowest level of the episode [mV] (16 R512) -/
  dipLow : Nat := 0
  /-- Harbour flush runs; HFLUSH_N low (17 R546) -/
  flushing : Bool := false
  /-- internal reset asserted after a flush (17 R545) -/
  resetHeld : Bool := false
  /-- a bench port reset command waits for the flush of a Harbour that another cause began (17 R554) -/
  benchReset : Bool := false
  /-- RESET_N high (17 R554) -/
  resetN : Bool := false
  /-- HOLDUP_OK high (17 R548) -/
  holdupOk : Bool := false
  /-- HOLDUP_OK has fallen since it was high (17 R551) -/
  holdupFell : Bool := false
  /-- self-test running; HOLDUP_TEST high (17 R550) -/
  testing : Bool := false
  /-- V0, SUPMON_HU [µV] (17 R550) -/
  v0 : Nat := 0
  /-- clock at which the last self-test ended (17 R550) -/
  testEnd : Option Nat := none
  /-- 2040h.0A state (17 R553) -/
  result : Nat := 0
  /-- C_b [µF] (17 R553) -/
  capUf : Nat := 0
  /-- E [mJ] (17 R553) -/
  energy : Nat := 0
  /-- V0 [10 mV of the bank] (17 R553) -/
  rv0 : Nat := 0
  /-- V1 [10 mV of the bank] (17 R553) -/
  rv1 : Nat := 0
  /-- temperature sensors 1-8 [0.1 °C] (16 R513) -/
  temps : List Int := List.replicate 8 0
  /-- 2030h.01 [mV] (13 R437) -/
  vfld : Nat := 0
  /-- 2030h.02 [mV] (13 R437) -/
  vdrv : Nat := 0
  /-- 2030h.03 [mV] (13 R437) -/
  vcoil : Nat := 0
  /-- 2030h.04 [mV] (13 R437) -/
  vdl : Nat := 0
  /-- 2030h.06 supply state (13 R437) -/
  drive : BitVec 8 := 0
  /-- 2030h.07 (13 R437) -/
  barrier : Nat := 0
  /-- failed retrain attempts (13 R434) -/
  barrierTries : Nat := 0
  /-- 2030h.08 (13 R437) -/
  barrierLosses : Nat := 0
  /-- 2030h.09 [0.1 °C] (13 R437) -/
  caldTemp : Int := 0
  /-- a VFLD dip has not been ridden (13 R436) -/
  vfldDip : Bool := false
  /-- the coil sum is above 8 A (13 R441) -/
  aggregate : Bool := false
  /-- bays put in bay-Harbour by the aggregate limit (13 R441) -/
  harbourSeq : Nat := 0
  deriving DecidableEq, Repr

/-- The whole block. -/
structure State where
  /-- commands waiting, first in, first out (the model's own) -/
  pending : List Instr := []
  /-- core cycles of 0.625 ns since power-on (10 R343) -/
  clock : Nat := 0
  /-- EtherCAT distributed-clock time at clock 0 [ns] (14 R472) -/
  epochNs : Nat := 0
  /-- free value counter (the model's own, log 5) (the model's own) -/
  free : Nat := 0
  /-- what the device is doing (14 R472) -/
  phase : Phase := .held
  /-- P, ports set by the straps (01 R12) -/
  ports : Nat := 1
  /-- 2000h.05 (14 R459) -/
  lockPassed : Bool := false
  /-- 2000h.07 (14 R472) -/
  harbourCause : Nat := 0
  /-- 2060h.03 (14 R474) -/
  tierState : Nat := 0
  /-- engine cycle number (11 R364) -/
  servoPhase : Nat := 0
  /-- fuses and OTP (16 R523) -/
  part : Part := {}
  /-- firmware (16 R520) -/
  fw : Fw := {}
  /-- events (16 R504) -/
  evt : Evt := {}
  /-- controllers by port (02 R25) -/
  ctrls : Vector Ctrl 4 := Vector.replicate 4 {}
  /-- host side shared by the controllers (02) -/
  hs : Hs := {}
  /-- flash tier (04) -/
  flash : Flash := {}
  /-- Tidemark (17 R555) -/
  tide : Tide := {}
  /-- Breakwater (03 R112) -/
  bw : Bw := {}
  /-- memories (05) -/
  mem : Mem := {}
  /-- drain engine (06) -/
  ebb : Ebb := {}
  /-- bays (14 R471) -/
  bays : Vector Bay 16 := Vector.replicate 16 {}
  /-- dictionary and doors (14) -/
  doors : Doors := {}
  /-- administration (14 R483) -/
  adm : Adm := {}
  /-- power (15) -/
  pwr : Pwr := {}
  /-- supplies (17) -/
  sup : Sup := {}
  deriving DecidableEq, Repr

/-- The machine right after reset is applied (R554, R556): nothing discovered, every control at its default; a
B16-GM part as it leaves the factory (log 4). -/
def State.reset : State :=
  { }

end Sys2Proof.Machine
end

