-- ==== Sys2Proof/Machine/Operands.lean ====
section
/-! DEFINITION. The object dictionary's objects (R454, R455, R470, R471) and the values stored in it: types, access
classes, defaults and ranges as the tables of the chapters give them, and how a stored value is read. -/

namespace Sys2Proof.Machine

open Sys2Proof

/-- Data types of Table 14.1; a string or DOMAIN with the length its object states. -/
inductive Ty where
  | u8 | u16 | u32 | u64 | i8 | i16 | i32 | i64
  | str (n : Nat)
  | dom (n : Nat)
  deriving DecidableEq, Repr

/-- Access classes of Table 14.2; locks is RW that locks under R459. -/
inductive Acc where
  | ro | rw | locks | wo | rws | w1 | const
  deriving DecidableEq, Repr

/-- One row of an object table: index and subindex ranges, type, access class, default, accepted ranges of a numeric
value (none: every value of the type). A bay object stands under bay 0's index (R471). -/
structure ObjDesc where
  /-- First index. -/
  lo : Nat
  /-- Last index. -/
  hi : Nat
  /-- First subindex. -/
  subLo : Nat
  /-- Last subindex. -/
  subHi : Nat
  /-- Type. -/
  ty : Ty
  /-- Access class. -/
  acc : Acc
  /-- Default of a numeric value. -/
  dflt : Int
  /-- Accepted ranges. -/
  ranges : List (Int × Int)
  deriving DecidableEq, Repr

/-- Object rows, part 1 (Tables of the chapters, by index). -/
def objRows1 : List ObjDesc := [
  ⟨0x1000, 0x1000, 0x00, 0x00, .u32, .const, 0, []⟩,
  ⟨0x1001, 0x1001, 0x00, 0x00, .u8, .ro, 0, []⟩,
  ⟨0x1008, 0x1008, 0x00, 0x00, (.str 16), .const, 0, []⟩,
  ⟨0x1009, 0x1009, 0x00, 0x00, (.str 5), .const, 0, []⟩,
  ⟨0x100A, 0x100A, 0x00, 0x00, (.str 4), .const, 0, []⟩,
  ⟨0x1011, 0x1011, 0x00, 0x00, .u8, .const, 1, []⟩,
  ⟨0x1011, 0x1011, 0x01, 0x01, .u32, .wo, 0, [(1684107116, 1684107116)]⟩,
  ⟨0x1018, 0x1018, 0x00, 0x00, .u8, .const, 5, []⟩,
  ⟨0x1018, 0x1018, 0x01, 0x01, .u32, .const, 2621, []⟩,
  ⟨0x1018, 0x1018, 0x02, 0x02, .u32, .const, 5732, []⟩,
  ⟨0x1018, 0x1018, 0x03, 0x03, .u32, .const, 0, []⟩,
  ⟨0x1018, 0x1018, 0x04, 0x04, .u32, .const, 0, []⟩,
  ⟨0x1018, 0x1018, 0x05, 0x05, (.str 16), .const, 0, []⟩,
  ⟨0x1600, 0x160F, 0x00, 0x00, .u8, .const, 4, []⟩,
  ⟨0x1600, 0x160F, 0x01, 0x04, .u32, .const, 0, []⟩,
  ⟨0x1A00, 0x1A0F, 0x00, 0x00, .u8, .const, 11, []⟩,
  ⟨0x1A00, 0x1A0F, 0x01, 0x0B, .u32, .const, 0, []⟩,
  ⟨0x1A10, 0x1A10, 0x00, 0x00, .u8, .const, 6, []⟩,
  ⟨0x1A10, 0x1A10, 0x01, 0x06, .u32, .const, 0, []⟩,
  ⟨0x1C00, 0x1C00, 0x00, 0x00, .u8, .const, 4, []⟩,
  ⟨0x1C00, 0x1C00, 0x01, 0x04, .u8, .const, 0, []⟩,
  ⟨0x1C12, 0x1C12, 0x00, 0x00, .u8, .const, 16, []⟩,
  ⟨0x1C12, 0x1C12, 0x01, 0x10, .u16, .const, 0, []⟩,
  ⟨0x1C13, 0x1C13, 0x00, 0x00, .u8, .const, 17, []⟩,
  ⟨0x1C13, 0x1C13, 0x01, 0x11, .u16, .const, 0, []⟩,
  ⟨0x1C32, 0x1C33, 0x00, 0x00, .u8, .const, 1, []⟩,
  ⟨0x1C32, 0x1C33, 0x01, 0x01, .u16, .const, 0, []⟩,
  ⟨0x2000, 0x2000, 0x00, 0x00, .u8, .const, 9, []⟩]

/-- Object rows, part 2 (Tables of the chapters, by index). -/
def objRows2 : List ObjDesc := [
  ⟨0x2000, 0x2000, 0x01, 0x01, .u8, .ro, 0, []⟩,
  ⟨0x2000, 0x2000, 0x02, 0x02, .u8, .ro, 0, []⟩,
  ⟨0x2000, 0x2000, 0x03, 0x03, (.str 16), .const, 0, []⟩,
  ⟨0x2000, 0x2000, 0x04, 0x04, .u16, .const, 65535, []⟩,
  ⟨0x2000, 0x2000, 0x05, 0x05, .u8, .ro, 0, []⟩,
  ⟨0x2000, 0x2000, 0x06, 0x06, .u8, .wo, 0, [(1, 1)]⟩,
  ⟨0x2000, 0x2000, 0x07, 0x07, .u8, .ro, 0, []⟩,
  ⟨0x2000, 0x2000, 0x08, 0x08, .u64, .ro, 0, []⟩,
  ⟨0x2000, 0x2000, 0x09, 0x09, .u64, .ro, 0, []⟩,
  ⟨0x2010, 0x2010, 0x00, 0x00, .u8, .const, 8, []⟩,
  ⟨0x2010, 0x2010, 0x01, 0x01, .u16, .locks, 11000, [(10600, 11600)]⟩,
  ⟨0x2010, 0x2010, 0x02, 0x02, .u16, .locks, 10200, [(9800, 10600)]⟩,
  ⟨0x2010, 0x2010, 0x03, 0x03, .u16, .locks, 700, [(680, 740)]⟩,
  ⟨0x2010, 0x2010, 0x04, 0x04, .u16, .locks, 660, [(640, 690)]⟩,
  ⟨0x2010, 0x2010, 0x05, 0x05, .u16, .locks, 300, [(100, 500)]⟩,
  ⟨0x2010, 0x2010, 0x06, 0x06, .u16, .locks, 20, [(10, 40)]⟩,
  ⟨0x2010, 0x2010, 0x07, 0x07, .u16, .locks, 5, [(1, 50)]⟩,
  ⟨0x2010, 0x2010, 0x08, 0x08, .u16, .locks, 20, [(5, 100)]⟩,
  ⟨0x2020, 0x2020, 0x00, 0x00, .u8, .const, 5, []⟩,
  ⟨0x2020, 0x2020, 0x01, 0x01, .u8, .rw, 0, [(0, 1)]⟩,
  ⟨0x2020, 0x2020, 0x02, 0x02, .u32, .rw, 600, [(0, 0), (60, 86400)]⟩,
  ⟨0x2020, 0x2020, 0x03, 0x03, .u32, .rw, 0, [(0, 0), (60, 86400)]⟩,
  ⟨0x2020, 0x2020, 0x04, 0x04, .u8, .rw, 0, [(0, 1)]⟩,
  ⟨0x2020, 0x2020, 0x05, 0x05, (.dom 4), .ro, 0, []⟩,
  ⟨0x2030, 0x2030, 0x00, 0x00, .u8, .const, 9, []⟩,
  ⟨0x2030, 0x2030, 0x01, 0x01, .u16, .ro, 0, []⟩,
  ⟨0x2030, 0x2030, 0x02, 0x02, .u16, .ro, 0, []⟩,
  ⟨0x2030, 0x2030, 0x03, 0x03, .u16, .ro, 0, []⟩]

/-- Object rows, part 3 (Tables of the chapters, by index). -/
def objRows3 : List ObjDesc := [
  ⟨0x2030, 0x2030, 0x04, 0x04, .u16, .ro, 0, []⟩,
  ⟨0x2030, 0x2030, 0x05, 0x05, .u16, .ro, 0, []⟩,
  ⟨0x2030, 0x2030, 0x06, 0x06, .u8, .ro, 0, []⟩,
  ⟨0x2030, 0x2030, 0x07, 0x07, .u8, .ro, 0, []⟩,
  ⟨0x2030, 0x2030, 0x08, 0x08, .u32, .ro, 0, []⟩,
  ⟨0x2030, 0x2030, 0x09, 0x09, .i16, .ro, 0, []⟩,
  ⟨0x2040, 0x2040, 0x00, 0x00, .u8, .const, 11, []⟩,
  ⟨0x2040, 0x2040, 0x01, 0x01, .u16, .locks, 300, [(50, 1000)]⟩,
  ⟨0x2040, 0x2040, 0x02, 0x02, .u32, .ro, 0, []⟩,
  ⟨0x2040, 0x2040, 0x03, 0x03, .u32, .locks, 20000, [(1000, 1000000)]⟩,
  ⟨0x2040, 0x2040, 0x04, 0x04, .u16, .locks, 20, [(5, 200)]⟩,
  ⟨0x2040, 0x2040, 0x05, 0x05, .u16, .locks, 16000, [(1000, 60000)]⟩,
  ⟨0x2040, 0x2040, 0x06, 0x06, .u8, .locks, 90, [(50, 100)]⟩,
  ⟨0x2040, 0x2040, 0x07, 0x07, .u8, .locks, 25, [(1, 100)]⟩,
  ⟨0x2040, 0x2040, 0x08, 0x08, .u16, .rw, 168, [(0, 0), (1, 8760)]⟩,
  ⟨0x2040, 0x2040, 0x09, 0x09, .u8, .wo, 0, [(1, 1)]⟩,
  ⟨0x2040, 0x2040, 0x0A, 0x0A, (.dom 16), .ro, 0, []⟩,
  ⟨0x2040, 0x2040, 0x0B, 0x0B, .u16, .rw, 30, [(1, 600)]⟩,
  ⟨0x2050, 0x2050, 0x00, 0x00, .u8, .const, 6, []⟩,
  ⟨0x2050, 0x2050, 0x01, 0x01, .u8, .rw, 0, [(0, 2)]⟩,
  ⟨0x2050, 0x2050, 0x02, 0x02, .u16, .rw, 60, [(10, 600)]⟩,
  ⟨0x2050, 0x2050, 0x03, 0x03, .u32, .wo, 0, [(0, 4294967295)]⟩,
  ⟨0x2050, 0x2050, 0x04, 0x04, (.dom 16), .wo, 0, []⟩,
  ⟨0x2050, 0x2050, 0x05, 0x05, (.dom 8), .ro, 0, []⟩,
  ⟨0x2050, 0x2050, 0x06, 0x06, .u8, .ro, 0, []⟩,
  ⟨0x2060, 0x2060, 0x00, 0x00, .u8, .const, 5, []⟩,
  ⟨0x2060, 0x2060, 0x01, 0x01, (.str 16), .const, 0, []⟩,
  ⟨0x2060, 0x2060, 0x02, 0x02, (.str 16), .ro, 0, []⟩]

/-- Object rows, part 4 (Tables of the chapters, by index). -/
def objRows4 : List ObjDesc := [
  ⟨0x2060, 0x2060, 0x03, 0x03, .u8, .ro, 0, []⟩,
  ⟨0x2060, 0x2060, 0x04, 0x04, .u8, .wo, 0, [(1, 1)]⟩,
  ⟨0x2060, 0x2060, 0x05, 0x05, (.str 32), .w1, 0, []⟩,
  ⟨0x2110, 0x2110, 0x00, 0x00, .u8, .const, 5, []⟩,
  ⟨0x2110, 0x2110, 0x01, 0x01, .u16, .rw, 0, [(0, 4096)]⟩,
  ⟨0x2110, 0x2110, 0x02, 0x02, .u16, .rw, 0, [(0, 4096)]⟩,
  ⟨0x2110, 0x2110, 0x03, 0x03, .u16, .rw, 0, [(0, 4096)]⟩,
  ⟨0x2110, 0x2110, 0x04, 0x04, .u16, .rw, 0, [(0, 4096)]⟩,
  ⟨0x2110, 0x2110, 0x05, 0x05, .u16, .ro, 0, []⟩,
  ⟨0x2200, 0x2200, 0x00, 0x00, .u8, .const, 5, []⟩,
  ⟨0x2200, 0x2200, 0x01, 0x01, .u8, .ro, 0, []⟩,
  ⟨0x2200, 0x2200, 0x02, 0x02, .u16, .ro, 0, []⟩,
  ⟨0x2200, 0x2200, 0x03, 0x03, .u32, .ro, 0, []⟩,
  ⟨0x2200, 0x2200, 0x04, 0x04, .u32, .ro, 0, []⟩,
  ⟨0x2200, 0x2200, 0x05, 0x05, .u8, .rw, 0, [(0, 1)]⟩,
  ⟨0x2210, 0x2210, 0x00, 0x00, .u8, .const, 6, []⟩,
  ⟨0x2210, 0x2210, 0x01, 0x01, (.dom 4096), .rw, 0, []⟩,
  ⟨0x2210, 0x2210, 0x02, 0x02, (.dom 4096), .rw, 0, []⟩,
  ⟨0x2210, 0x2210, 0x03, 0x03, (.dom 4096), .rw, 0, []⟩,
  ⟨0x2210, 0x2210, 0x04, 0x04, (.dom 4096), .rw, 0, []⟩,
  ⟨0x2210, 0x2210, 0x05, 0x05, (.dom 4096), .rw, 0, []⟩,
  ⟨0x2210, 0x2210, 0x06, 0x06, (.dom 256), .rw, 0, []⟩,
  ⟨0x2220, 0x2220, 0x00, 0x00, .u8, .const, 10, []⟩,
  ⟨0x2220, 0x2220, 0x01, 0x01, .u16, .rw, 300, [(0, 1000)]⟩,
  ⟨0x2220, 0x2220, 0x02, 0x02, .u16, .rw, 400, [(0, 1000)]⟩,
  ⟨0x2220, 0x2220, 0x03, 0x03, .u16, .rw, 20, [(0, 1000)]⟩,
  ⟨0x2220, 0x2220, 0x04, 0x04, .u16, .rw, 20, [(0, 1000)]⟩,
  ⟨0x2220, 0x2220, 0x05, 0x05, .u16, .rw, 30, [(0, 1000)]⟩]

/-- Object rows, part 5 (Tables of the chapters, by index). -/
def objRows5 : List ObjDesc := [
  ⟨0x2220, 0x2220, 0x06, 0x06, .u16, .rw, 10, [(0, 1000)]⟩,
  ⟨0x2220, 0x2220, 0x07, 0x07, .u16, .rw, 40, [(10, 1000)]⟩,
  ⟨0x2220, 0x2220, 0x08, 0x08, .u16, .rw, 200, [(10, 1000)]⟩,
  ⟨0x2220, 0x2220, 0x09, 0x09, .u8, .rw, 1, [(0, 1)]⟩,
  ⟨0x2220, 0x2220, 0x0A, 0x0A, .u8, .rw, 0, [(0, 8)]⟩,
  ⟨0x2400, 0x2400, 0x00, 0x00, .u8, .const, 11, []⟩,
  ⟨0x2400, 0x2400, 0x01, 0x01, .u8, .ro, 0, []⟩,
  ⟨0x2400, 0x2400, 0x02, 0x02, .u16, .ro, 0, []⟩,
  ⟨0x2400, 0x2400, 0x03, 0x03, .u8, .ro, 0, []⟩,
  ⟨0x2400, 0x2400, 0x04, 0x04, .u8, .rw, 3, [(1, 1), (3, 4)]⟩,
  ⟨0x2400, 0x2400, 0x05, 0x05, .u16, .ro, 0, []⟩,
  ⟨0x2400, 0x2400, 0x06, 0x06, .u16, .ro, 0, []⟩,
  ⟨0x2400, 0x2400, 0x07, 0x07, .u32, .ro, 0, []⟩,
  ⟨0x2400, 0x2400, 0x08, 0x08, .u32, .ro, 0, []⟩,
  ⟨0x2400, 0x2400, 0x09, 0x09, (.dom 4096), .rw, 0, []⟩,
  ⟨0x2400, 0x2400, 0x0A, 0x0A, .u16, .rw, 3600, [(800, 3600)]⟩,
  ⟨0x2400, 0x2400, 0x0B, 0x0B, .u8, .ro, 100, []⟩,
  ⟨0x2410, 0x2410, 0x00, 0x00, .u8, .const, 10, []⟩,
  ⟨0x2410, 0x2410, 0x01, 0x08, (.dom 4096), .ro, 0, []⟩,
  ⟨0x2410, 0x2410, 0x09, 0x09, .u16, .wo, 0, [(0, 1023)]⟩,
  ⟨0x2410, 0x2410, 0x0A, 0x0A, .u16, .wo, 0, [(0, 1023)]⟩,
  ⟨0x2440, 0x2440, 0x00, 0x00, .u8, .const, 7, []⟩,
  ⟨0x2440, 0x2440, 0x01, 0x01, .u32, .rw, 100000, [(1000, 10000000)]⟩,
  ⟨0x2440, 0x2440, 0x02, 0x02, .u16, .rw, 180, [(1, 3650)]⟩,
  ⟨0x2440, 0x2440, 0x03, 0x03, .u16, .rw, 120, [(8, 400)]⟩,
  ⟨0x2440, 0x2440, 0x04, 0x04, .u32, .rw, 25000, [(0, 10000000)]⟩,
  ⟨0x2440, 0x2440, 0x05, 0x05, .u16, .rw, 200, [(50, 2000)]⟩,
  ⟨0x2440, 0x2440, 0x06, 0x06, .u8, .rw, 10, [(1, 50)]⟩]

/-- Object rows, part 6 (Tables of the chapters, by index). -/
def objRows6 : List ObjDesc := [
  ⟨0x2440, 0x2440, 0x07, 0x07, .u8, .rw, 1, [(0, 1)]⟩,
  ⟨0x2600, 0x2600, 0x00, 0x00, .u8, .const, 16, []⟩,
  ⟨0x2600, 0x2600, 0x01, 0x08, .u16, .rw, 64, [(1, 65535)]⟩,
  ⟨0x2600, 0x2600, 0x09, 0x10, .u16, .rw, 10, [(1, 3600)]⟩,
  ⟨0x2610, 0x2610, 0x00, 0x00, .u8, .const, 9, []⟩,
  ⟨0x2610, 0x2610, 0x01, 0x01, .u8, .rw, 4, [(0, 8)]⟩,
  ⟨0x2610, 0x2610, 0x02, 0x02, .u8, .ro, 4, []⟩,
  ⟨0x2610, 0x2610, 0x03, 0x03, .u64, .rw, 0, [(0, 68719476735)]⟩,
  ⟨0x2610, 0x2610, 0x04, 0x04, .u32, .rw, 0, [(1, 4294967295)]⟩,
  ⟨0x2610, 0x2610, 0x05, 0x05, .u16, .rw, 0, [(0, 16383)]⟩,
  ⟨0x2610, 0x2610, 0x06, 0x06, .u8, .rw, 0, [(0, 15)]⟩,
  ⟨0x2610, 0x2610, 0x07, 0x07, .u8, .ro, 0, []⟩,
  ⟨0x2610, 0x2610, 0x08, 0x08, .u8, .wo, 0, [(1, 3), (129, 131)]⟩,
  ⟨0x2610, 0x2610, 0x09, 0x09, .u32, .ro, 0, []⟩,
  ⟨0x2620, 0x2620, 0x00, 0x00, .u8, .const, 7, []⟩,
  ⟨0x2620, 0x2620, 0x01, 0x01, .u32, .rw, 3600, [(600, 86400)]⟩,
  ⟨0x2620, 0x2620, 0x02, 0x02, .u32, .rw, 600, [(60, 86400)]⟩,
  ⟨0x2620, 0x2620, 0x03, 0x03, .u16, .rw, 7, [(1, 90)]⟩,
  ⟨0x2620, 0x2620, 0x04, 0x04, .u8, .rw, 3, [(2, 16)]⟩,
  ⟨0x2620, 0x2620, 0x05, 0x05, .u8, .rw, 7, [(0, 7)]⟩,
  ⟨0x2620, 0x2620, 0x06, 0x06, .u32, .ro, 0, []⟩,
  ⟨0x2620, 0x2620, 0x07, 0x07, .u32, .ro, 0, []⟩,
  ⟨0x2800, 0x2800, 0x00, 0x00, .u8, .const, 8, []⟩,
  ⟨0x2800, 0x2800, 0x01, 0x01, .u8, .rw, 14, [(4, 14)]⟩,
  ⟨0x2800, 0x2800, 0x02, 0x02, .u32, .rw, 86400, [(0, 2592000)]⟩,
  ⟨0x2800, 0x2800, 0x03, 0x03, .u8, .wo, 0, [(1, 1)]⟩,
  ⟨0x2800, 0x2800, 0x04, 0x04, .u32, .ro, 1, []⟩,
  ⟨0x2800, 0x2800, 0x05, 0x05, .u64, .ro, 0, []⟩]

/-- Object rows, part 7 (Tables of the chapters, by index). -/
def objRows7 : List ObjDesc := [
  ⟨0x2800, 0x2800, 0x06, 0x06, .u16, .rw, 600, [(30, 7200)]⟩,
  ⟨0x2800, 0x2800, 0x07, 0x07, .u8, .rw, 1, [(0, 1)]⟩,
  ⟨0x2800, 0x2800, 0x08, 0x08, .u32, .ro, 0, []⟩,
  ⟨0x2810, 0x2810, 0x00, 0x00, .u8, .const, 6, []⟩,
  ⟨0x2810, 0x2810, 0x01, 0x01, .u8, .ro, 0, []⟩,
  ⟨0x2810, 0x2810, 0x02, 0x02, .u32, .ro, 0, []⟩,
  ⟨0x2810, 0x2810, 0x03, 0x03, .u8, .ro, 0, []⟩,
  ⟨0x2810, 0x2810, 0x04, 0x04, .u32, .ro, 0, []⟩,
  ⟨0x2810, 0x2810, 0x05, 0x05, .u8, .rw, 1, [(1, 2)]⟩,
  ⟨0x2810, 0x2810, 0x06, 0x06, .u64, .ro, 0, []⟩,
  ⟨0x2820, 0x2820, 0x00, 0x00, .u8, .const, 6, []⟩,
  ⟨0x2820, 0x2820, 0x01, 0x01, .u8, .rw, 25, [(5, 100)]⟩,
  ⟨0x2820, 0x2820, 0x02, 0x02, .u16, .ro, 0, []⟩,
  ⟨0x2820, 0x2820, 0x03, 0x03, .u8, .ro, 0, []⟩,
  ⟨0x2820, 0x2820, 0x04, 0x04, .u32, .rw, 0, [(1, 16777215)]⟩,
  ⟨0x2820, 0x2820, 0x05, 0x05, .u8, .wo, 0, [(0, 13), (128, 129)]⟩,
  ⟨0x2820, 0x2820, 0x06, 0x06, .u8, .ro, 0, []⟩,
  ⟨0x2830, 0x2830, 0x00, 0x00, .u8, .const, 7, []⟩,
  ⟨0x2830, 0x2830, 0x01, 0x01, .u16, .rw, 120, [(0, 1000)]⟩,
  ⟨0x2830, 0x2830, 0x02, 0x02, .u16, .rw, 64, [(0, 4096)]⟩,
  ⟨0x2830, 0x2830, 0x03, 0x03, .u16, .rw, 60, [(10, 200)]⟩,
  ⟨0x2830, 0x2830, 0x04, 0x04, .u16, .rw, 20, [(1, 100)]⟩,
  ⟨0x2830, 0x2830, 0x05, 0x05, .u16, .rw, 4000, [(500, 6000)]⟩,
  ⟨0x2830, 0x2830, 0x06, 0x06, .u16, .rw, 150, [(50, 300)]⟩,
  ⟨0x2830, 0x2830, 0x07, 0x07, .u8, .rw, 55, [(20, 90)]⟩,
  ⟨0x3000, 0x3000, 0x00, 0x00, .u8, .const, 8, []⟩,
  ⟨0x3000, 0x3000, 0x01, 0x01, .u8, .ro, 0, []⟩,
  ⟨0x3000, 0x3000, 0x02, 0x02, .u8, .rw, 1, [(0, 1)]⟩]

/-- Object rows, part 8 (Tables of the chapters, by index). -/
def objRows8 : List ObjDesc := [
  ⟨0x3000, 0x3000, 0x03, 0x03, .u8, .wo, 0, [(1, 2)]⟩,
  ⟨0x3000, 0x3000, 0x04, 0x04, .u8, .ro, 0, []⟩,
  ⟨0x3000, 0x3000, 0x05, 0x05, (.str 16), .ro, 0, []⟩,
  ⟨0x3000, 0x3000, 0x06, 0x06, .u8, .ro, 0, []⟩,
  ⟨0x3000, 0x3000, 0x07, 0x07, .u8, .ro, 0, []⟩,
  ⟨0x3000, 0x3000, 0x08, 0x08, .u8, .ro, 255, []⟩,
  ⟨0x3010, 0x3010, 0x00, 0x00, .u8, .const, 10, []⟩,
  ⟨0x3010, 0x3010, 0x01, 0x01, .u8, .ro, 0, []⟩,
  ⟨0x3010, 0x3010, 0x02, 0x02, .u8, .ro, 255, []⟩,
  ⟨0x3010, 0x3010, 0x03, 0x03, .u16, .ro, 0, []⟩,
  ⟨0x3010, 0x3010, 0x04, 0x04, .u8, .rw, 40, [(10, 90)]⟩,
  ⟨0x3010, 0x3010, 0x05, 0x05, .u8, .rw, 8, [(2, 64)]⟩,
  ⟨0x3010, 0x3010, 0x06, 0x06, .u16, .rw, 350, [(100, 500)]⟩,
  ⟨0x3010, 0x3010, 0x07, 0x07, .u16, .rw, 120, [(30, 250)]⟩,
  ⟨0x3010, 0x3010, 0x08, 0x08, .u16, .rw, 150, [(50, 400)]⟩,
  ⟨0x3010, 0x3010, 0x09, 0x09, .u8, .rw, 16, [(4, 64)]⟩,
  ⟨0x3010, 0x3010, 0x0A, 0x0A, .u8, .rw, 3, [(1, 8)]⟩,
  ⟨0x3011, 0x3011, 0x00, 0x00, .u8, .const, 8, []⟩,
  ⟨0x3011, 0x3011, 0x01, 0x01, (.dom 48), .ro, 0, []⟩,
  ⟨0x3011, 0x3011, 0x02, 0x02, (.dom 48), .ro, 0, []⟩,
  ⟨0x3011, 0x3011, 0x03, 0x03, (.dom 48), .ro, 0, []⟩,
  ⟨0x3011, 0x3011, 0x04, 0x04, (.dom 12), .ro, 0, []⟩,
  ⟨0x3011, 0x3011, 0x05, 0x05, (.dom 12), .ro, 0, []⟩,
  ⟨0x3011, 0x3011, 0x06, 0x06, (.dom 48), .ro, 0, []⟩,
  ⟨0x3011, 0x3011, 0x07, 0x07, .u64, .ro, 0, []⟩,
  ⟨0x3011, 0x3011, 0x08, 0x08, (.dom 8), .ro, 0, []⟩,
  ⟨0x3012, 0x3012, 0x00, 0x00, .u8, .const, 6, []⟩,
  ⟨0x3012, 0x3012, 0x01, 0x01, (.dom 28), .ro, 0, []⟩]

/-- Object rows, part 9 (Tables of the chapters, by index). -/
def objRows9 : List ObjDesc := [
  ⟨0x3012, 0x3012, 0x02, 0x02, (.dom 28), .ro, 0, []⟩,
  ⟨0x3012, 0x3012, 0x03, 0x03, (.dom 8), .ro, 0, []⟩,
  ⟨0x3012, 0x3012, 0x04, 0x04, .u32, .ro, 0, []⟩,
  ⟨0x3012, 0x3012, 0x05, 0x05, .u32, .ro, 0, []⟩,
  ⟨0x3012, 0x3012, 0x06, 0x06, .u8, .wo, 0, [(1, 1)]⟩,
  ⟨0x3020, 0x3020, 0x00, 0x00, .u8, .const, 18, []⟩,
  ⟨0x3020, 0x3020, 0x01, 0x01, .u8, .ro, 0, []⟩,
  ⟨0x3020, 0x3020, 0x02, 0x02, .u16, .ro, 0, []⟩,
  ⟨0x3020, 0x3020, 0x03, 0x03, .u8, .wo, 0, [(1, 5)]⟩,
  ⟨0x3020, 0x3020, 0x04, 0x04, .u16, .ro, 0, []⟩,
  ⟨0x3020, 0x3020, 0x05, 0x05, .u8, .rws, 4, [(1, 12)]⟩,
  ⟨0x3020, 0x3020, 0x06, 0x06, .u16, .rws, 2000, [(100, 20000)]⟩,
  ⟨0x3020, 0x3020, 0x07, 0x07, .u16, .rws, 1500, [(100, 4000)]⟩,
  ⟨0x3020, 0x3020, 0x08, 0x08, .u16, .rws, 2000, [(100, 4000)]⟩,
  ⟨0x3020, 0x3020, 0x09, 0x09, .u8, .rws, 40, [(20, 80)]⟩,
  ⟨0x3020, 0x3020, 0x0A, 0x0A, .u8, .rws, 0, [(0, 15)]⟩,
  ⟨0x3020, 0x3020, 0x0B, 0x0B, .u16, .rws, 400, [(100, 2000)]⟩,
  ⟨0x3020, 0x3020, 0x0C, 0x0C, .u8, .rw, 3, [(0, 8)]⟩,
  ⟨0x3020, 0x3020, 0x0D, 0x0D, (.dom 24), .ro, 0, []⟩,
  ⟨0x3020, 0x3020, 0x0E, 0x0E, .u8, .const, 0, []⟩,
  ⟨0x3020, 0x3020, 0x0F, 0x0F, .u16, .rws, 980, [(500, 990)]⟩,
  ⟨0x3020, 0x3020, 0x10, 0x10, .u16, .rws, 1800, [(100, 20000)]⟩,
  ⟨0x3020, 0x3020, 0x11, 0x11, .u8, .wo, 0, [(1, 1)]⟩,
  ⟨0x3020, 0x3020, 0x12, 0x12, .u16, .rw, 7200, [(0, 65535)]⟩,
  ⟨0x3030, 0x3030, 0x00, 0x00, .u8, .const, 17, []⟩,
  ⟨0x3030, 0x3030, 0x01, 0x01, .u8, .ro, 0, []⟩,
  ⟨0x3030, 0x3030, 0x02, 0x02, .i32, .ro, 0, []⟩,
  ⟨0x3030, 0x3030, 0x03, 0x03, .u8, .ro, 2, []⟩]

/-- Object rows, part 10 (Tables of the chapters, by index). -/
def objRows10 : List ObjDesc := [
  ⟨0x3030, 0x3030, 0x04, 0x04, .u8, .ro, 0, []⟩,
  ⟨0x3030, 0x3030, 0x05, 0x05, .u16, .ro, 256, []⟩,
  ⟨0x3030, 0x3030, 0x06, 0x06, .u16, .rws, 3000, [(100, 3000)]⟩,
  ⟨0x3030, 0x3030, 0x07, 0x07, .u32, .rws, 30000, [(1000, 60000)]⟩,
  ⟨0x3030, 0x3030, 0x08, 0x08, .u32, .rws, 1500000, [(0, 0), (10000, 10000000)]⟩,
  ⟨0x3030, 0x3030, 0x09, 0x09, .u16, .rws, 400, [(50, 1500)]⟩,
  ⟨0x3030, 0x3030, 0x0A, 0x0A, .u16, .rws, 1000, [(100, 2000)]⟩,
  ⟨0x3030, 0x3030, 0x0B, 0x0B, .u16, .rws, 200, [(0, 1000)]⟩,
  ⟨0x3030, 0x3030, 0x0C, 0x0C, .u32, .rws, 21000000, [(15000000, 23000000)]⟩,
  ⟨0x3030, 0x3030, 0x0D, 0x0D, .i32, .rws, 40960, [(0, 1048576)]⟩,
  ⟨0x3030, 0x3030, 0x0E, 0x0E, .u32, .rws, 650240, [(25600, 1048576)]⟩,
  ⟨0x3030, 0x3030, 0x0F, 0x0F, .u8, .wo, 0, [(1, 4)]⟩,
  ⟨0x3030, 0x3030, 0x10, 0x10, .i32, .wo, 0, [(0, 1048576)]⟩,
  ⟨0x3030, 0x3030, 0x11, 0x11, (.dom 20), .ro, 0, []⟩,
  ⟨0x3040, 0x3040, 0x00, 0x00, .u8, .const, 23, []⟩,
  ⟨0x3040, 0x3040, 0x01, 0x01, .u8, .ro, 0, []⟩,
  ⟨0x3040, 0x3040, 0x02, 0x02, .i32, .ro, 0, []⟩,
  ⟨0x3040, 0x3040, 0x03, 0x03, .u8, .wo, 0, [(1, 3)]⟩,
  ⟨0x3040, 0x3040, 0x04, 0x04, .i32, .rws, 12800, [(256, 65536)]⟩,
  ⟨0x3040, 0x3040, 0x05, 0x05, .u16, .rws, 600, [(50, 1500)]⟩,
  ⟨0x3040, 0x3040, 0x06, 0x06, .u16, .rws, 300, [(50, 1500)]⟩,
  ⟨0x3040, 0x3040, 0x07, 0x07, .u16, .rws, 1000, [(100, 4000)]⟩,
  ⟨0x3040, 0x3040, 0x08, 0x08, .u32, .rws, 20000, [(1000, 60000)]⟩,
  ⟨0x3040, 0x3040, 0x09, 0x09, .u32, .rws, 1000000, [(0, 0), (10000, 10000000)]⟩,
  ⟨0x3040, 0x3040, 0x0A, 0x0A, .u8, .ro, 0, []⟩,
  ⟨0x3040, 0x3040, 0x0B, 0x0B, .i32, .ro, 0, []⟩,
  ⟨0x3040, 0x3040, 0x0C, 0x0C, .i32, .rws, -28000, [(-32768, 32767)]⟩,
  ⟨0x3040, 0x3040, 0x0D, 0x0D, .u16, .rws, 2560, [(1, 16000)]⟩]

/-- Object rows, part 11 (Tables of the chapters, by index). -/
def objRows11 : List ObjDesc := [
  ⟨0x3040, 0x3040, 0x0E, 0x0E, .u16, .rws, 2000, [(100, 3000)]⟩,
  ⟨0x3040, 0x3040, 0x0F, 0x0F, .u32, .rws, 60000, [(1000, 120000)]⟩,
  ⟨0x3040, 0x3040, 0x10, 0x10, .u32, .rws, 0, [(0, 0), (10000, 10000000)]⟩,
  ⟨0x3040, 0x3040, 0x11, 0x11, .u8, .rws, 8, [(2, 25)]⟩,
  ⟨0x3040, 0x3040, 0x12, 0x12, .u16, .rws, 300, [(50, 1500)]⟩,
  ⟨0x3040, 0x3040, 0x13, 0x13, .u16, .rws, 100, [(0, 1000)]⟩,
  ⟨0x3040, 0x3040, 0x14, 0x14, (.dom 8), .ro, 0, []⟩,
  ⟨0x3040, 0x3040, 0x15, 0x15, .u8, .ro, 3, []⟩,
  ⟨0x3040, 0x3040, 0x16, 0x16, .i32, .rws, -16640, [(-2147483648, 2147483647)]⟩,
  ⟨0x3040, 0x3040, 0x17, 0x17, .u8, .wo, 0, [(1, 1), (3, 3)]⟩,
  ⟨0x3050, 0x3050, 0x00, 0x00, .u8, .const, 15, []⟩,
  ⟨0x3050, 0x3050, 0x01, 0x01, .u64, .ro, 0, []⟩,
  ⟨0x3050, 0x3050, 0x02, 0x02, .u64, .ro, 0, []⟩,
  ⟨0x3050, 0x3050, 0x03, 0x03, .u64, .ro, 0, []⟩,
  ⟨0x3050, 0x3050, 0x04, 0x04, .u64, .ro, 0, []⟩,
  ⟨0x3050, 0x3050, 0x05, 0x05, (.dom 32), .ro, 0, []⟩,
  ⟨0x3050, 0x3050, 0x06, 0x06, .u64, .ro, 0, []⟩,
  ⟨0x3050, 0x3050, 0x07, 0x07, (.dom 48), .ro, 0, []⟩,
  ⟨0x3050, 0x3050, 0x08, 0x08, .u32, .ro, 0, []⟩,
  ⟨0x3050, 0x3050, 0x09, 0x09, .u32, .ro, 0, []⟩,
  ⟨0x3050, 0x3050, 0x0A, 0x0A, .u16, .ro, 0, []⟩,
  ⟨0x3050, 0x3050, 0x0B, 0x0B, (.dom 8), .ro, 0, []⟩,
  ⟨0x3050, 0x3050, 0x0C, 0x0C, (.dom 48), .ro, 0, []⟩,
  ⟨0x3050, 0x3050, 0x0D, 0x0D, (.dom 12), .ro, 0, []⟩,
  ⟨0x3050, 0x3050, 0x0E, 0x0E, .u8, .wo, 0, [(1, 1)]⟩,
  ⟨0x3050, 0x3050, 0x0F, 0x0F, .u8, .ro, 0, []⟩,
  ⟨0x3060, 0x3060, 0x00, 0x00, .u8, .const, 15, []⟩,
  ⟨0x3060, 0x3060, 0x01, 0x01, .u16, .ro, 0, []⟩]

/-- Object rows, part 12 (Tables of the chapters, by index). -/
def objRows12 : List ObjDesc := [
  ⟨0x3060, 0x3060, 0x02, 0x02, .u16, .wo, 0, [(0, 127)]⟩,
  ⟨0x3060, 0x3060, 0x03, 0x03, .u16, .rws, 200, [(50, 2000)]⟩,
  ⟨0x3060, 0x3060, 0x04, 0x04, .u16, .rws, 20, [(5, 250)]⟩,
  ⟨0x3060, 0x3060, 0x05, 0x05, .u16, .rws, 100, [(20, 250)]⟩,
  ⟨0x3060, 0x3060, 0x06, 0x06, .u16, .rws, 6000, [(500, 65535)]⟩,
  ⟨0x3060, 0x3060, 0x07, 0x07, .u16, .rws, 2200, [(100, 65535)]⟩,
  ⟨0x3060, 0x3060, 0x08, 0x08, .u16, .rws, 2000, [(500, 5000)]⟩,
  ⟨0x3060, 0x3060, 0x09, 0x09, .u16, .const, 1200, []⟩,
  ⟨0x3060, 0x3060, 0x0A, 0x0A, .u16, .const, 250, []⟩,
  ⟨0x3060, 0x3060, 0x0B, 0x0B, (.dom 4), .ro, 0, []⟩,
  ⟨0x3060, 0x3060, 0x0C, 0x0C, (.dom 52), .ro, 0, []⟩,
  ⟨0x3060, 0x3060, 0x0D, 0x0D, (.dom 36), .ro, 0, []⟩,
  ⟨0x3060, 0x3060, 0x0E, 0x0E, .u8, .wo, 0, [(0, 31)]⟩,
  ⟨0x3060, 0x3060, 0x0F, 0x0F, (.dom 6), .ro, 0, []⟩,
  ⟨0x3070, 0x3070, 0x00, 0x00, .u8, .const, 13, []⟩,
  ⟨0x3070, 0x3070, 0x01, 0x01, .u8, .ro, 0, []⟩,
  ⟨0x3070, 0x3070, 0x02, 0x02, (.dom 128), .ro, 0, []⟩,
  ⟨0x3070, 0x3070, 0x03, 0x03, .u32, .ro, 0, []⟩,
  ⟨0x3070, 0x3070, 0x04, 0x04, (.str 16), .ro, 0, []⟩,
  ⟨0x3070, 0x3070, 0x05, 0x05, .u32, .ro, 0, []⟩,
  ⟨0x3070, 0x3070, 0x06, 0x06, .u32, .ro, 0, []⟩,
  ⟨0x3070, 0x3070, 0x07, 0x07, .u32, .ro, 0, []⟩,
  ⟨0x3070, 0x3070, 0x08, 0x08, .u32, .ro, 0, []⟩,
  ⟨0x3070, 0x3070, 0x09, 0x09, .u32, .ro, 0, []⟩,
  ⟨0x3070, 0x3070, 0x0A, 0x0A, .u8, .rws, 5, [(0, 10)]⟩,
  ⟨0x3070, 0x3070, 0x0B, 0x0B, .u8, .rws, 5, [(0, 10)]⟩,
  ⟨0x3070, 0x3070, 0x0C, 0x0C, .u8, .rw, 8, [(1, 255)]⟩,
  ⟨0x3070, 0x3070, 0x0D, 0x0D, .u8, .wo, 0, [(1, 1)]⟩]

/-- Object rows, part 13 (Tables of the chapters, by index). -/
def objRows13 : List ObjDesc := [
  ⟨0x3080, 0x3080, 0x00, 0x00, .u8, .const, 18, []⟩,
  ⟨0x3080, 0x3080, 0x01, 0x01, .u8, .ro, 0, []⟩,
  ⟨0x3080, 0x3080, 0x02, 0x02, .u32, .ro, 0, []⟩,
  ⟨0x3080, 0x3080, 0x03, 0x03, .u8, .rw, 75, [(40, 95)]⟩,
  ⟨0x3080, 0x3080, 0x04, 0x04, .u8, .rw, 64, [(8, 128)]⟩,
  ⟨0x3080, 0x3080, 0x05, 0x05, .u8, .rw, 4, [(1, 32)]⟩,
  ⟨0x3080, 0x3080, 0x06, 0x06, .u8, .rw, 16, [(2, 64)]⟩,
  ⟨0x3080, 0x3080, 0x07, 0x07, .u64, .ro, 0, []⟩,
  ⟨0x3080, 0x3080, 0x08, 0x08, .u32, .ro, 0, []⟩,
  ⟨0x3080, 0x3080, 0x09, 0x09, (.dom 16), .ro, 0, []⟩,
  ⟨0x3080, 0x3080, 0x0A, 0x0A, .u32, .ro, 0, []⟩,
  ⟨0x3080, 0x3080, 0x0B, 0x0B, .u16, .ro, 0, []⟩,
  ⟨0x3080, 0x3080, 0x0C, 0x0C, .u8, .rws, 0, [(0, 1)]⟩,
  ⟨0x3080, 0x3080, 0x0D, 0x0D, .u16, .rws, 1000, [(100, 10000)]⟩,
  ⟨0x3080, 0x3080, 0x0E, 0x0E, .i32, .ro, 0, []⟩,
  ⟨0x3080, 0x3080, 0x0F, 0x0F, .u32, .ro, 0, []⟩,
  ⟨0x3080, 0x3080, 0x10, 0x10, .u8, .ro, 0, []⟩,
  ⟨0x3080, 0x3080, 0x11, 0x11, .u64, .ro, 0, []⟩,
  ⟨0x3080, 0x3080, 0x12, 0x12, .u8, .wo, 0, [(1, 1)]⟩,
  ⟨0x4000, 0x4000, 0x00, 0x00, .u8, .const, 19, []⟩,
  ⟨0x4000, 0x4000, 0x01, 0x10, (.dom 2048), .rw, 0, []⟩,
  ⟨0x4000, 0x4000, 0x11, 0x11, (.dom 3456), .rw, 0, []⟩,
  ⟨0x4000, 0x4000, 0x12, 0x12, .u32, .ro, 0, []⟩,
  ⟨0x4000, 0x4000, 0x13, 0x13, .u8, .wo, 0, [(1, 1)]⟩,
  ⟨0x4400, 0x4400, 0x00, 0x00, .u8, .const, 4, []⟩,
  ⟨0x4400, 0x4400, 0x01, 0x01, .u8, .rw, 1, [(1, 8)]⟩,
  ⟨0x4400, 0x4400, 0x02, 0x02, (.dom 64), .rw, 0, []⟩,
  ⟨0x4400, 0x4400, 0x03, 0x03, (.dom 576), .rw, 0, []⟩]

/-- Object rows, part 14 (Tables of the chapters, by index). -/
def objRows14 : List ObjDesc := [
  ⟨0x4400, 0x4400, 0x04, 0x04, .u32, .ro, 0, []⟩,
  ⟨0x4410, 0x4417, 0x00, 0x00, .u8, .const, 16, []⟩,
  ⟨0x4410, 0x4417, 0x01, 0x10, (.dom 2816), .rw, 0, []⟩,
  ⟨0x4800, 0x4800, 0x00, 0x00, (.dom 128), .rw, 0, []⟩,
  ⟨0x4C00, 0x4C00, 0x00, 0x00, .u8, .const, 3, []⟩,
  ⟨0x4C00, 0x4C00, 0x01, 0x01, (.dom 2048), .rws, 0, []⟩,
  ⟨0x4C00, 0x4C00, 0x02, 0x02, .u16, .ro, 323, []⟩,
  ⟨0x4C00, 0x4C00, 0x03, 0x03, .u32, .ro, 0, []⟩,
  ⟨0x5000, 0x5000, 0x00, 0x00, .u8, .const, 3, []⟩,
  ⟨0x5000, 0x5000, 0x01, 0x01, (.dom 36), .rw, 0, []⟩,
  ⟨0x5000, 0x5000, 0x02, 0x02, (.dom 36), .rw, 0, []⟩,
  ⟨0x5000, 0x5000, 0x03, 0x03, (.dom 36), .rw, 0, []⟩,
  ⟨0x5010, 0x5010, 0x00, 0x00, .u8, .const, 9, []⟩,
  ⟨0x5010, 0x5010, 0x01, 0x08, (.dom 16), .ro, 0, []⟩,
  ⟨0x5010, 0x5010, 0x09, 0x09, .u8, .wo, 0, [(1, 8), (255, 255)]⟩,
  ⟨0x5020, 0x5020, 0x00, 0x00, .u8, .const, 3, []⟩,
  ⟨0x5020, 0x5020, 0x01, 0x01, .u32, .ro, 0, []⟩,
  ⟨0x5020, 0x5020, 0x02, 0x02, .u32, .ro, 0, []⟩,
  ⟨0x5020, 0x5020, 0x03, 0x03, .u8, .ro, 0, []⟩,
  ⟨0x6000, 0x6000, 0x00, 0x00, .u8, .const, 11, []⟩,
  ⟨0x6000, 0x6000, 0x01, 0x01, .u8, .ro, 0, []⟩,
  ⟨0x6000, 0x6000, 0x02, 0x02, .u8, .ro, 0, []⟩,
  ⟨0x6000, 0x6000, 0x03, 0x03, .u8, .ro, 0, []⟩,
  ⟨0x6000, 0x6000, 0x04, 0x04, .u8, .ro, 0, []⟩,
  ⟨0x6000, 0x6000, 0x05, 0x05, .u8, .ro, 0, []⟩,
  ⟨0x6000, 0x6000, 0x06, 0x06, .u8, .ro, 0, []⟩,
  ⟨0x6000, 0x6000, 0x07, 0x07, .u8, .ro, 0, []⟩,
  ⟨0x6000, 0x6000, 0x08, 0x08, (.str 16), .ro, 0, []⟩]

/-- Object rows, part 15 (Tables of the chapters, by index). -/
def objRows15 : List ObjDesc := [
  ⟨0x6000, 0x6000, 0x09, 0x09, .u8, .ro, 0, []⟩,
  ⟨0x6000, 0x6000, 0x0A, 0x0A, .u8, .ro, 0, []⟩,
  ⟨0x6000, 0x6000, 0x0B, 0x0B, (.str 16), .ro, 0, []⟩,
  ⟨0x6010, 0x6010, 0x00, 0x00, .u8, .const, 6, []⟩,
  ⟨0x6010, 0x6010, 0x01, 0x01, .u8, .ro, 0, []⟩,
  ⟨0x6010, 0x6010, 0x02, 0x02, .u8, .ro, 0, []⟩,
  ⟨0x6010, 0x6010, 0x03, 0x03, .u32, .ro, 0, []⟩,
  ⟨0x6010, 0x6010, 0x04, 0x04, .u16, .ro, 0, []⟩,
  ⟨0x6010, 0x6010, 0x05, 0x05, .u32, .ro, 0, []⟩,
  ⟨0x6010, 0x6010, 0x06, 0x06, .u16, .ro, 0, []⟩,
  ⟨0x7000, 0x7000, 0x00, 0x00, .u8, .const, 4, []⟩,
  ⟨0x7000, 0x7000, 0x01, 0x01, .u8, .ro, 0, []⟩,
  ⟨0x7000, 0x7000, 0x02, 0x02, .u8, .ro, 0, []⟩,
  ⟨0x7000, 0x7000, 0x03, 0x03, .u8, .ro, 0, []⟩,
  ⟨0x7000, 0x7000, 0x04, 0x04, .u8, .ro, 0, []⟩]

/-- Every object with its type, access class, default and range (R454, R455, R470). -/
def objTable : List ObjDesc :=
  objRows1 ++ objRows2 ++ objRows3 ++ objRows4 ++ objRows5 ++ objRows6 ++ objRows7 ++ objRows8 ++ objRows9 ++ objRows10 ++ objRows11 ++ objRows12 ++ objRows13 ++ objRows14 ++ objRows15

/-- Bytes of a value of a type; the greatest length for strings and DOMAINs (Table 14.1). -/
def Ty.size : Ty → Nat
  | .u8 => 1 | .u16 => 2 | .u32 => 4 | .u64 => 8
  | .i8 => 1 | .i16 => 2 | .i32 => 4 | .i64 => 8
  | .str n => n
  | .dom n => n

/-- Signed numeric types. -/
def Ty.signed : Ty → Bool
  | .i8 | .i16 | .i32 | .i64 => true
  | _ => false

/-- Numeric types. -/
def Ty.numeric : Ty → Bool
  | .str _ | .dom _ => false
  | _ => true

/-- The data type code of Table 14.1. -/
def Ty.code : Ty → Nat
  | .i8 => 2 | .i16 => 3 | .i32 => 4 | .u8 => 5 | .u16 => 6 | .u32 => 7
  | .str _ => 9 | .dom _ => 15 | .i64 => 0x15 | .u64 => 0x1B

/-- The bay whose block holds an index, and bay 0's index for it; none for a device-wide object (R471). -/
def bayOf (index : Nat) : Option Nat :=
  if 0x3000 ≤ index ∧ index < 0x4000 then some ((index - 0x3000) / 0x100)
  else if 0x6000 ≤ index ∧ index < 0x6010 then some (index - 0x6000)
  else if 0x7000 ≤ index ∧ index < 0x7010 then some (index - 0x7000)
  else none

/-- Bay 0's index of an object (R471). -/
def baseIndex (index : Nat) : Nat :=
  if 0x3000 ≤ index ∧ index < 0x4000 then 0x3000 + (index - 0x3000) % 0x100
  else if 0x6000 ≤ index ∧ index < 0x6010 then 0x6000
  else if 0x7000 ≤ index ∧ index < 0x7010 then 0x7000
  else index

/-- The index of offset off in the block of bay b (R471). -/
def bayIndex (b : BayId) (off : Nat) : Nat :=
  0x3000 + 0x100 * b.val + off

/-- Bays of the part: 16, or 8 on a B08 part (R1, R4). -/
def OrderingCode.bays : OrderingCode → Nat
  | .b08gs => 8
  | _ => 16

/-- Rows of an index on this part; empty when the object does not exist (R470, R471). -/
def rowsOf (code : OrderingCode) (index : Nat) : List ObjDesc :=
  match bayOf index with
  | some b => if b < code.bays then objTable.filter fun d => d.lo ≤ baseIndex index ∧ baseIndex index ≤ d.hi else []
  | none =>
    if (0x1600 ≤ index ∧ index ≤ 0x160F ∧ code.bays ≤ index - 0x1600)
        ∨ (0x1A00 ≤ index ∧ index ≤ 0x1A0F ∧ code.bays ≤ index - 0x1A00) then []
    else objTable.filter fun d => d.lo ≤ index ∧ index ≤ d.hi

/-- The row of a subindex. -/
def descOf (code : OrderingCode) (index sub : Nat) : Option ObjDesc :=
  (rowsOf code index).find? fun d => d.subLo ≤ sub ∧ sub ≤ d.subHi

/-- The key of a subindex in the stores of Doors. -/
def objKey (index sub : Nat) : Nat :=
  index * 256 + sub

/-- The default of a numeric subindex; 2800h.01 defaults to 6 on a B08 part (R5). -/
def defaultNum (code : OrderingCode) (index sub : Nat) : Nat :=
  if index = 0x2800 ∧ sub = 1 then (if code.bays = 8 then 6 else 14)
  else match descOf code index sub with
    | some d => (d.dflt % (2 ^ (8 * d.ty.size) : Nat)).toNat
    | none => 0

/-- A stored numeric value, as the unsigned number its bytes encode. -/
def num (s : State) (index sub : Nat) : Nat :=
  (getKey (objKey index sub) s.doors.nums).getD (defaultNum s.part.code index sub)

/-- A stored signed value of n bytes. -/
def int (s : State) (n index sub : Nat) : Int :=
  signedOf n (num s index sub)

/-- A stored numeric value of a bay block. -/
def bnum (s : State) (b : BayId) (off sub : Nat) : Nat :=
  num s (bayIndex b off) sub

/-- A stored signed value of n bytes of a bay block. -/
def bint (s : State) (n : Nat) (b : BayId) (off sub : Nat) : Int :=
  signedOf n (bnum s b off sub)

/-- Tenant 0's default entry of the tenant table (Table 3.8). -/
def tenantDefault : List Byte :=
  [3#8, 0#8] ++ leBytes 2 1000 ++ leBytes 2 1000 ++ leBytes 2 4096 ++ leBytes 2 8192 ++ List.replicate 6 0#8

/-- An entry of the default slot schedule, kind k of bay b (Tables 11.4, 11.5). -/
def scheduleEntry (k b : Nat) : Nat :=
  let f := fun start budget period phase : Nat =>
    k * 2 ^ 60 + b * 2 ^ 56 + b % 4 * 2 ^ 54 + start * 2 ^ 40 + budget * 2 ^ 30 + period * 2 ^ 21 + phase * 2 ^ 12
  match k with
  | 0 => f (64 * (b / 4)) 64 1 0
  | 1 => f (256 + 96 * (b / 4)) 96 1 0
  | 2 => f 640 48 8 (b / 2)
  | _ => f 688 32 384 (24 * b)

/-- The default slot schedule of Table 11.5, entries of 8 bytes: row by row of the table, bays ascending (log 22). -/
def scheduleDefault : List Byte :=
  (List.range 4).flatMap fun k => (List.range 16).flatMap fun b => leBytes 8 (scheduleEntry k b)

/-- The reserved bits of byte i of a DOMAIN that holds tables: tenant entries, coefficient sets, region entries, strategy entries
and schedule entries (Tables 3.8, 8.3, 11.3, 11.4; R8, R381). -/
def reservedBits (index sub i : Nat) : Nat :=
  if index = 0x2210 ∧ sub = 1 then
    (if i % 16 = 0 then 0xFC else if i % 16 = 1 ∨ 10 ≤ i % 16 then 0xFF else 0)
  else if index = 0x4000 ∧ sub = 0x11 then (if i % 8 = 7 then 0xFF else 0)
  else if index = 0x4000 ∧ sub ≤ 0x10 then
    let j := i % 128
    if j = 3 then 0xFC else if (4 ≤ j ∧ j < 52 ∧ (j - 4) % 12 = 11) ∨ (78 ≤ j ∧ j < 126) then 0xFF else 0
  else if 0x4410 ≤ index ∧ index ≤ 0x4417 then (if 16 ≤ i % 176 ∧ i % 176 % 8 < 2 then 0xFF else 0)
  else if index = 0x4C00 ∧ sub = 1 then
    (if i % 8 = 0 then 0xFF else if i % 8 = 1 then 0x0F else if i % 8 = 6 then 0x30 else 0)
  else 0

/-- A DOMAIN value sets a reserved bit (R8). -/
def setsReserved (index sub : Nat) (data : List Byte) : Bool :=
  (data.zipIdx).any fun x => x.1 &&& BitVec.ofNat 8 (reservedBits index sub x.2) != 0

/-- A DOMAIN value with its reserved bits 0 (R9). -/
def clearReserved (index sub : Nat) (data : List Byte) : List Byte :=
  (data.zipIdx).map fun x => x.1 &&& ~~~(BitVec.ofNat 8 (reservedBits index sub x.2))

/-- The default of a DOMAIN or string that is stored: zero bytes of its length, the content its table gives, or empty. -/
def defaultDom (code : OrderingCode) (index sub : Nat) : List Byte :=
  if index = 0x2210 ∧ sub = 1 then takePad 4096 tenantDefault
  else if index = 0x4C00 then scheduleDefault
  else if index = 0x4000 ∨ (index = 0x4400 ∧ sub = 3) ∨ index = 0x4410 then clearReserved index sub (Config.builtIn index sub)
  else if index = 0x2400 ∨ index = 0x4800 ∨ index = 0x2060 then []
  else match descOf code index sub with
    | some d => List.replicate d.ty.size 0#8
    | none => []

/-- A stored DOMAIN or string value. -/
def dom (s : State) (index sub : Nat) : List Byte :=
  (getKey (objKey index sub) s.doors.doms).getD (defaultDom s.part.code index sub)

/-- Store a numeric value; the default's entry is not kept (R457). -/
def putNum (index sub v : Nat) (s : State) : State :=
  let l := if v = defaultNum s.part.code index sub then dropKey (objKey index sub) s.doors.nums
    else putKey (objKey index sub) v s.doors.nums
  { s with doors := { s.doors with nums := l } }

/-- Store a DOMAIN or string value; the default's entry is not kept (R457). -/
def putDom (index sub : Nat) (v : List Byte) (s : State) : State :=
  let l := if v = defaultDom s.part.code index sub then dropKey (objKey index sub) s.doors.doms
    else putKey (objKey index sub) v s.doors.doms
  { s with doors := { s.doors with doms := l } }

end Sys2Proof.Machine
end

