-- ==== Sys2Proof/Machine/Flags.lean ====
section
/-! DEFINITION. Status codes and flags: the status a command completes with and its do-not-retry bit (R80, R584), the
status of a pointer-walk fault (Table 2.5), the error register (R510) and the critical warning bits (R173, R513). -/

namespace Sys2Proof.Machine

open Sys2Proof

/-- The statuses the spec names. barWindow is the Data Transfer Error of R52; notReleased is status 82h for reason
01h. Code points outside the spec's words are those of the NVMe specifications (log 8). -/
inductive Status where
  | success
  | invalidOpcode
  | invalidField
  | dataTransfer
  | barWindow
  | abortedSqDeletion
  | invalidNamespace
  | commandSequence
  | sglSegment
  | sglCount
  | dataSglLength
  | mdSglLength
  | sglType
  | prpOffset
  | sglOffset
  | sanitizeFailed
  | sanitizeInProgress
  | lbaRange
  | capacityExceeded
  | reservationConflict
  | formatInProgress
  | cqInvalid
  | invalidQueueId
  | invalidQueueSize
  | aerLimit
  | invalidSlot
  | invalidImage
  | invalidVector
  | invalidFormat
  | needsReset
  | invalidQueueDeletion
  | notSaveable
  | activationProhibited
  | nsInsufficient
  | nsIdUnavailable
  | nsAttached
  | nsNotAttached
  | zoneBoundary
  | zoneFull
  | zoneReadOnly
  | zoneOffline
  | zoneInvalidWrite
  | tooManyActive
  | tooManyOpen
  | invalidTransition
  | unrecoveredRead
  | guardCheck
  | appTagCheck
  | refTagCheck
  | accessDenied
  | zoneArchiving
  | objectUnknown
  | recallImpossible
  | notReleased
  | transitionRefused
  | notAdopted
  | notSealed
  deriving DecidableEq, Repr

/-- Status code type and status code. -/
def Status.code : Status → Nat × Nat
  | .success => (0, 0x00)
  | .invalidOpcode => (0, 0x01)
  | .invalidField => (0, 0x02)
  | .dataTransfer => (0, 0x04)
  | .barWindow => (0, 0x04)
  | .abortedSqDeletion => (0, 0x08)
  | .invalidNamespace => (0, 0x0B)
  | .commandSequence => (0, 0x0C)
  | .sglSegment => (0, 0x0D)
  | .sglCount => (0, 0x0E)
  | .dataSglLength => (0, 0x0F)
  | .mdSglLength => (0, 0x10)
  | .sglType => (0, 0x11)
  | .prpOffset => (0, 0x13)
  | .sglOffset => (0, 0x16)
  | .sanitizeFailed => (0, 0x1C)
  | .sanitizeInProgress => (0, 0x1D)
  | .lbaRange => (0, 0x80)
  | .capacityExceeded => (0, 0x81)
  | .reservationConflict => (0, 0x83)
  | .formatInProgress => (0, 0x84)
  | .cqInvalid => (1, 0x00)
  | .invalidQueueId => (1, 0x01)
  | .invalidQueueSize => (1, 0x02)
  | .aerLimit => (1, 0x05)
  | .invalidSlot => (1, 0x06)
  | .invalidImage => (1, 0x07)
  | .invalidVector => (1, 0x08)
  | .invalidFormat => (1, 0x0A)
  | .needsReset => (1, 0x0B)
  | .invalidQueueDeletion => (1, 0x0C)
  | .notSaveable => (1, 0x0D)
  | .activationProhibited => (1, 0x13)
  | .nsInsufficient => (1, 0x15)
  | .nsIdUnavailable => (1, 0x16)
  | .nsAttached => (1, 0x18)
  | .nsNotAttached => (1, 0x1A)
  | .zoneBoundary => (1, 0xB8)
  | .zoneFull => (1, 0xB9)
  | .zoneReadOnly => (1, 0xBA)
  | .zoneOffline => (1, 0xBB)
  | .zoneInvalidWrite => (1, 0xBC)
  | .tooManyActive => (1, 0xBD)
  | .tooManyOpen => (1, 0xBE)
  | .invalidTransition => (1, 0xBF)
  | .unrecoveredRead => (2, 0x81)
  | .guardCheck => (2, 0x82)
  | .appTagCheck => (2, 0x83)
  | .refTagCheck => (2, 0x84)
  | .accessDenied => (2, 0x86)
  | .zoneArchiving => (7, 0x80)
  | .objectUnknown => (7, 0x81)
  | .recallImpossible => (7, 0x82)
  | .notReleased => (7, 0x82)
  | .transitionRefused => (7, 0x83)
  | .notAdopted => (7, 0x84)
  | .notSealed => (7, 0x85)

/-- The do-not-retry bit (R584, Table 2.18). -/
def Status.dnr : Status → Bool
  | .success | .dataTransfer | .abortedSqDeletion | .commandSequence
  | .sanitizeFailed | .sanitizeInProgress | .capacityExceeded | .formatInProgress
  | .needsReset | .nsInsufficient | .tooManyActive | .tooManyOpen
  | .accessDenied | .zoneArchiving | .recallImpossible | .transitionRefused
  | .notSealed => false
  | _ => true

/-- Table 2.5: the status of the first pointer-walk fault. -/
def PtrFault.status : PtrFault → Status
  | .prpOffset => .prpOffset
  | .prpList => .prpOffset
  | .sglType => .sglType
  | .sglSegment => .sglSegment
  | .sglCount => .sglCount
  | .sglLength => .dataSglLength
  | .mdLength => .mdSglLength
  | .sglOffset => .sglOffset
  | .barWindow => .barWindow
  | .hostError => .dataTransfer

/-- The status of a failed protection check (R198). -/
def PiErr.status : PiErr → Status
  | .guard => .guardCheck
  | .app => .appTagCheck
  | .ref => .refTagCheck

/-- The abort codes of Table 14.4 (R469). -/
inductive Abort where
  /-- 05040000h -/
  | timedOut
  /-- 05040001h -/
  | specifier
  /-- 06010000h -/
  | noSubindices
  /-- 06010001h -/
  | writeOnly
  /-- 06010002h -/
  | readOnly
  /-- 06020000h -/
  | noObject
  /-- 06070010h -/
  | length
  /-- 06090011h -/
  | noSubindex
  /-- 06090030h -/
  | range
  /-- 08000000h -/
  | storage
  /-- 08000022h -/
  | state
  deriving DecidableEq, Repr

/-- The number of an abort code (R469). -/
def Abort.code : Abort → Nat
  | .timedOut => 0x05040000
  | .specifier => 0x05040001
  | .noSubindices => 0x06010000
  | .writeOnly => 0x06010001
  | .readOnly => 0x06010002
  | .noObject => 0x06020000
  | .length => 0x06070010
  | .noSubindex => 0x06090011
  | .range => 0x06090030
  | .storage => 0x08000000
  | .state => 0x08000022

/-- Composite temperature: the highest of sensors 1 to 8 [0.1 °C] (Table 16.8). -/
def compositeTemp (s : State) : Int :=
  match s.sup.temps with
  | [] => 0
  | t :: ts => ts.foldl max t

/-- A temperature of n tenths of a degree Celsius in kelvin, rounded to the nearest (log 9). -/
def kelvin (t : Int) : Nat :=
  ((t + 2735) / 10).toNat

/-- The write cache is protected (R55). -/
def cacheProtected (s : State) : Bool :=
  s.sup.holdupOk && s.hs.holdupTested

/-- A bay is enabled (3000h.02) on this part and fitted (R475, R569). -/
def bayEnabled (s : State) (b : BayId) : Bool :=
  decide (b.val < s.part.code.bays) && (bnum s b 0 2 == 1) && (s.bays.get b).fitted

/-- All bays. -/
def allBays : List BayId :=
  List.finRange 16

/-- All ports. -/
def allPorts : List PortId :=
  List.finRange 4

/-- A supervisor's setting (R537): the default of Table 14.8 until Tidemark has been replayed, then the stored value. -/
def supLevel (s : State) (sub : Nat) : Nat :=
  if s.sup.supStored then num s 0x2010 sub else defaultNum s.part.code 0x2010 sub

/-- Error register 1001h (R510). -/
def errorRegister (s : State) : Nat :=
  (if s.phase = .harbour ∨ allBays.any (fun b => (s.bays.get b).harbour) then 1 else 0)
    + (if s.sup.drive ≠ 0 ∨ s.sup.v12 < supLevel s 1 ∨ s.sup.core < supLevel s 3 then 4 else 0)
    + (if s.evt.overTemp ∨ s.evt.thermal then 8 else 0)

/-! ### Output pins that other state gives (Table 18.9) -/

/-- HFLUSH_N: low from a commitment until its flush ends (R546). -/
def hflushN (s : State) : Bool :=
  !s.sup.flushing

/-- HOLDUP_TEST: high while the self-test loads the bank (R549, R550). -/
def holdupTestPin (s : State) : Bool :=
  s.sup.testing

/-- DRV_FLT_N of a bay: held low by a latched drive-side fault, and by DRV_EN low (R442). -/
def drvFltN (s : State) (b : BayId) : Bool :=
  (s.bays.get b).cald.faults &&& 0x007F#16 == 0 && (s.bays.get b).cald.drvEn

/-- BOOT_RST_N and ECAT_PHY_RST_N: low while the internal reset is asserted, and for 10 ms after its release (R567). -/
def resetOutN (s : State) : Bool :=
  s.phase != .held && decide (16000000 ≤ s.clock)

/-- Event group of Table 16.2. -/
def eventGroup (ev : Nat) : Nat :=
  if ev < 32 then 0 else if ev < 64 then 1 else if ev < 112 then 2 else if ev < 128 then 3 else 4

end Sys2Proof.Machine
end

