-- ==== Sys2Proof/Machine/Ops.lean ====
section
/-! DEFINITION. The operations every family shares: the clock, free values, updates of one bay or controller, posting a
completion (R40, R62), raising an event and delivering it (R504 to R511). -/

namespace Sys2Proof.Machine

open Sys2Proof

/-- Core cycles in a number of microseconds (R343: 0.625 ns each). -/
def usCycles (us : Nat) : Nat :=
  us * 1600

/-- The distributed-clock time [ns]. -/
def nowNs (s : State) : Nat :=
  s.epochNs + s.clock * 5 / 8

/-- The Timestamp as it counts on from its last setting, or from power-on. -/
def timestampNow (s : State) : Nat :=
  (s.hs.timestamp + (s.clock - s.hs.timestampAt.getD 0) / 1600000) % 2 ^ 48

/-- A free value of the model, and the state that has used it up (log 5). -/
def freeOf (s : State) : BitVec 64 :=
  Config.freeValue s.free

/-- Use up one free value. -/
def spend (s : State) : State :=
  { s with free := s.free + 1 }

/-- Change one bay. -/
def modBay (b : BayId) (f : Bay → Bay) (s : State) : State :=
  { s with bays := s.bays.set b (f (s.bays.get b)) }

/-- Change every bay. -/
def modBays (f : BayId → Bay → Bay) (s : State) : State :=
  { s with bays := Vector.ofFn fun b => f b (s.bays.get b) }

/-- Change one controller. -/
def modCtrl (p : PortId) (f : Ctrl → Ctrl) (s : State) : State :=
  { s with ctrls := s.ctrls.set p (f (s.ctrls.get p)) }

/-- A Tidemark record is written: a stop after it is unclean (R555). -/
def tideRecord (s : State) : State :=
  { s with tide := { s.tide with clean := false } }

/-- The lock point falls (R459). -/
def passLock (s : State) : State :=
  { s with lockPassed := true }

/-- Room in a completion queue: one slot stays free between tail and head (R40). -/
def Cq.room (q : Cq) : Bool :=
  q.posted.length + 1 < q.size

/-- Post an entry, or keep it waiting until the host makes room (R40). -/
def Cq.push (c : Completion) (q : Cq) : Cq :=
  if q.room ∧ q.waiting = [] then { q with posted := q.posted ++ [c], tail := (q.tail + 1) % q.size }
  else { q with waiting := q.waiting ++ [c] }

/-- Move waiting completions into the room there is (R40). -/
def Cq.drain (q : Cq) : Cq :=
  let n := min q.waiting.length (q.size - 1 - q.posted.length)
  { q with posted := q.posted ++ q.waiting.take n, waiting := q.waiting.drop n,
           tail := if q.size = 0 then 0 else (q.tail + n) % q.size }

/-- The submission queue of an identifier. -/
def Ctrl.sq? (c : Ctrl) (qid : Nat) : Option Sq :=
  c.sqs.find? fun q => q.qid == qid

/-- The completion queue of an identifier. -/
def Ctrl.cq? (c : Ctrl) (qid : Nat) : Option Cq :=
  c.cqs.find? fun q => q.qid == qid

/-- Change one submission queue of a controller. -/
def modSq (p : PortId) (qid : Nat) (f : Sq → Sq) (s : State) : State :=
  modCtrl p (fun c => { c with sqs := modWhere (fun q => q.qid == qid) f c.sqs }) s

/-- Change one completion queue of a controller. -/
def modCq (p : PortId) (qid : Nat) (f : Cq → Cq) (s : State) : State :=
  modCtrl p (fun c => { c with cqs := modWhere (fun q => q.qid == qid) f c.cqs }) s

/-- A vector's MSI-X entry has its address and data programmed and its mask bit clear (R29). -/
def Ctrl.vectorLive (c : Ctrl) (v : Nat) : Bool :=
  ((List.range 3).all fun i => (getKey (4 * v + i) c.msix).isSome) && (((getKey (4 * v + 3) c.msix).map fun w => !bitOf w 0).getD false)

/-- A message on a vector: sent, or kept pending while the entry is masked (R23, R29). -/
def Ctrl.signal (v : Nat) (c : Ctrl) : Ctrl :=
  if c.vectorLive v then { c with msgs := putKey v ((getKey v c.msgs).getD 0 + 1) c.msgs }
  else { c with pba := (c.pba.filter fun x => decide (x < v)) ++ v :: c.pba.filter fun x => decide (v < x) }

/-- n messages on a vector. -/
def Ctrl.signals (v n : Nat) (c : Ctrl) : Ctrl :=
  (List.range n).foldl (fun k _ => k.signal v) c

/-- Send a completion to the completion queue its submission queue is bound to; the entry reports the submission queue's
head (R40). An entry that is posted sends a message on its queue's vector (R29); one that waits for room sends none yet. A
queue that no longer exists receives none. -/
def post (p : PortId) (c : Completion) (s : State) : State :=
  match (s.ctrls.get p).sq? c.sq with
  | some q =>
    match (s.ctrls.get p).cq? q.cqid with
    | some k =>
      let now : Bool := decide (k.room ∧ k.waiting = [])
      modCtrl p (fun c => if now then c.signal k.iv else c) (modCq p q.cqid (Cq.push { c with sqhd := q.head }) s)
    | none => s
  | none => s

/-- Enter a failure in the Error Information log, which holds the last 256 of a controller (R62). -/
def logError (src : Src) (c : Completion) (s : State) : State :=
  let n := s.hs.errorCount + 1
  let mine := s.hs.errors.filter fun e => e.2.1 == src.port.val
  let others := s.hs.errors.filter fun e => e.2.1 != src.port.val
  { s with
    hs := { s.hs with
      errorCount := n
      errors := ((n, src.port.val, src.sq, src.cid, c.sct * 256 + c.sc) :: mine).take 256 ++ others } }

/-- The completion entry of a command. -/
def completionOf (src : Src) (st : Status) (dw0 dw1 : Dword) (data : List Byte) (blocks : List Blk) : Completion :=
  { cid := src.cid, sq := src.sq, sct := st.code.1, sc := st.code.2, dnr := st.dnr, dw0 := dw0, dw1 := dw1,
    data := data, blocks := blocks }

/-- Keep a command that has been dispatched and not completed, with its answer where it has one; it also waits for the map
regions it needs (R122). -/
def hold (src : Src) (w : Wait) (s : State) (c : Completion := {}) : State :=
  { s with
    hs := { s.hs with
      inflight := s.hs.inflight ++
        [{ port := src.port, sq := src.sq, cid := src.cid, wait := w, regions := s.hs.waitR, answer := c }] } }

/-- Give a command its answer: a failure is entered in the Error Information log (R62). -/
def finish (src : Src) (c : Completion) (s : State) : State :=
  post src.port c (if c.sct = 0 ∧ c.sc = 0 then s else logError src c s)

/-- Answer a command now, or once the map regions it needs are rebuilt (R122, R123). -/
def answer (src : Src) (c : Completion) (s : State) : State :=
  if s.hs.waitR = [] then finish src c s else hold src (.answered [] false) s c

/-- Complete a command with a status and no data. -/
def complete (src : Src) (st : Status) (dw0 : Dword := 0) (dw1 : Dword := 0) (data : List Byte := [])
    (blocks : List Blk := []) (s : State) : State :=
  answer src (completionOf src st dw0 dw1 data blocks) s

/-- Give a write's success: held while the device rides a dip (R60). -/
def finishWrite (src : Src) (c : Completion) (s : State) : State :=
  if s.sup.dip then { s with hs := { s.hs with held := s.hs.held ++ [(src.port, c)] } } else finish src c s

/-- Complete a Write, Write Zeroes or Zone Append (R60, R122). -/
def completeWrite (src : Src) (dw0 dw1 : Dword) (s : State) : State :=
  let c := completionOf src .success dw0 dw1 [] []
  if s.hs.waitR = [] then finishWrite src c s else hold src (.answered [] true) s c

/-! ### Events (R504 to R511) -/

/-- Event number of a bay's event (Table 16.7). -/
def bayEvent (b : BayId) (off : Nat) : Nat :=
  128 + 10 * b.val + off

/-- Bit ev of an event mask of 5000h (R474). -/
def masked (s : State) (sub ev : Nat) : Bool :=
  match (dom s 0x5000 sub)[ev / 8]? with
  | some b => b.getLsbD (ev % 8)
  | none => false

/-- A disabled bay raises no event, nor does a bay the part does not have (R5, R475). -/
def eventAllowed (s : State) (ev : Nat) : Bool :=
  if h : 128 ≤ ev ∧ ev < 288 then bayEnabled s ⟨(ev - 128) / 10, by omega⟩ else decide (ev < 288)

/-- The Dword 0 of a vendor event's Asynchronous Event completion: type 7h, the group, log page C1h (R508). -/
def aerDword (group : Nat) : Dword :=
  BitVec.ofNat 32 (7 + group * 256 + 0xC1 * 65536)

/-- Report a vendor event on one controller, or keep it pending (R508). -/
def reportAer (group : Nat) (p : PortId) (s : State) : State :=
  let c := s.ctrls.get p
  if ¬c.present ∨ c.withheld then s
  else match c.aers with
    | [] => modCtrl p (fun c => { c with pendingGroup := c.pendingGroup <|> some group }) s
    | cid :: rest =>
      post p { cid := cid, sq := 0, dw0 := aerDword group }
        (modCtrl p (fun c => { c with aers := rest, withheld := true, pendingGroup := none }) s)

/-- Report a SMART event of a critical warning bit on the controllers whose Asynchronous Event Configuration has that bit
set, or keep it pending there (R67; log 18). -/
def reportSmart (bit info : Nat) (s : State) : State :=
  let dw : Dword := BitVec.ofNat 32 (1 + info * 256 + 2 * 65536)
  allPorts.foldl (fun t p =>
    let c := t.ctrls.get p
    if c.present = false ∨ bitOf c.feat.asyncConfig.toNat bit = false then t
    else match c.smartHeld, c.aers with
      | false, cid :: rest =>
        post p { cid := cid, sq := 0, dw0 := dw } (modCtrl p (fun c => { c with aers := rest, smartHeld := true }) t)
      | _, _ =>
        modCtrl p (fun c =>
          { c with
            smartPending := if c.smartPending.contains dw then c.smartPending else c.smartPending ++ [dw] }) t) s

/-- Send one message on vector 2,047 of the controllers given (R509). -/
def sendMsix (ps : List PortId) (s : State) : State :=
  if ps = [] then s
  else { s with evt := { s.evt with msixAt := some s.clock, msixSent := s.evt.msixSent + ps.length } }

/-- Controllers whose entry of vector 2,047 is unmasked (R29). -/
def msixTargets (s : State) : List PortId :=
  allPorts.filter fun p => (s.ctrls.get p).present && (s.ctrls.get p).vec2047

/-- An event's MSI-X message: at once, or shared with the next message when the last is less than 10 µs old (R509). -/
def reportMsix (s : State) : State :=
  match s.evt.msixAt with
  | some t =>
    if s.clock < t + usCycles 10 then
      { s with
        evt := { s.evt with
          msixWaiting := s.evt.msixWaiting ++ (msixTargets s).filter (fun p => !s.evt.msixWaiting.contains p) } }
    else sendMsix (msixTargets s) s
  | none => sendMsix (msixTargets s) s

/-- The emergency message of a record (R510). -/
def emcyOf (s : State) (r : EventRec) : EmcyMsg :=
  { cycle := r.cycle, code := 0xFF00 + eventGroup r.ev, register := errorRegister s, ev := r.ev, cause := r.cause,
    seq := r.seq % 65536 }

/-- A message whose record's sequence has moved takes it again; only records of its own core cycle move (R505). -/
def EmcyMsg.renumber (log : List EventRec) (m : EmcyMsg) : EmcyMsg :=
  match (log.takeWhile fun r => r.cycle == m.cycle).find? fun r => r.ev == m.ev && r.cause == m.cause with
  | some r => { m with seq := r.seq % 65536 }
  | none => m

/-- Put a message among the buffered ones, newest first: those of one core cycle stand in ascending event number (R505). -/
def placeMessage (m : EmcyMsg) : List EmcyMsg → List EmcyMsg
  | [] => [m]
  | x :: xs => if x.cycle = m.cycle ∧ m.ev < x.ev then x :: placeMessage m xs else m :: x :: xs

/-- Buffer an emergency message, or drop it when 32 wait or earlier drops are not yet reported (R510). -/
def reportEmcy (r : EventRec) (s : State) : State :=
  if s.doors.ecat = .init then s
  else if s.evt.emcy.length < 32 ∧ s.evt.emcyDropped = 0 then
    let l := ((placeMessage (emcyOf s r) s.evt.emcy.reverse).reverse).map (EmcyMsg.renumber s.evt.log)
    { s with evt := { s.evt with emcy := l } }
  else { s with evt := { s.evt with emcyDropped := s.evt.emcyDropped + 1 } }

/-- Deliver a new record over every path that no mask withholds it from (R508 to R511). -/
def deliver (r : EventRec) (s : State) : State :=
  let s1 := if masked s 1 r.ev then s else allPorts.foldl (fun t p => reportAer (eventGroup r.ev) p t) s
  let s2 := if masked s 2 r.ev then s1 else reportMsix s1
  if masked s 3 r.ev then s2 else reportEmcy r s2

/-- Put a record with the highest sequence n into a log, newest first: the records of one core cycle keep consecutive
sequences in ascending event number (R505). -/
def placeRecord (r : EventRec) : Nat → List EventRec → List EventRec
  | n, [] => [{ r with seq := n }]
  | n, x :: xs =>
    if x.cycle = r.cycle ∧ r.ev < x.ev then { x with seq := n } :: placeRecord r (n - 1) xs
    else { r with seq := n } :: x :: xs

/-- The ring of 1,024 with one record more, the newest sequence being n (R507). -/
def putLog (n : Nat) (l : List EventRec) (s : State) : State :=
  { s with
    evt := { s.evt with
      seq := n
      log := l.take 1024
      overwritten := s.evt.overwritten + (if s.evt.log.length < 1024 then 0 else 1) } }

/-- Put a record into the ring (R505); when the ring is full its oldest record gives up its place first (R507). -/
def pushRecord (r : EventRec) (s : State) : State :=
  putLog r.seq (placeRecord r r.seq (s.evt.log.take 1023)) s

/-- The record of a raise: the next sequence number, the present time (R504). -/
def newRecord (ev cause : Nat) (data : List Nat) (s : State) : EventRec :=
  { ev := ev, cause := cause, seq := s.evt.seq + 1, cycle := s.clock, time := nowNs s, data := data }

/-- A raise merges into the event's most recent record when its cause is the same and it is at most 1 s old (R506). -/
def mergeable (s : State) (ev cause : Nat) : Bool :=
  match s.evt.log.find? fun r => r.ev == ev with
  | some r => r.cause == cause && decide (nowNs s ≤ r.time + 1000000000)
  | none => false

/-- Merge a raise into the event's most recent record (R506). -/
def mergeRecord (ev : Nat) (data : List Nat) (t : Nat) : List EventRec → List EventRec
  | [] => []
  | r :: rs =>
    if r.ev = ev then { r with repeats := min 65535 (r.repeats + 1), time := t, data := data } :: rs
    else r :: mergeRecord ev data t rs

/-- Record and deliver an event (R504 to R511). -/
def raiseNow (ev cause : Nat) (data : List Nat) (s : State) : State :=
  let s1 := tideRecord { s with evt := { s.evt with raised := (s.evt.raised + 1) % 65536 } }
  if mergeable s ev cause then
    { s1 with evt := { s1.evt with log := mergeRecord ev data (nowNs s) s1.evt.log } }
  else deliver (newRecord ev cause data s) (pushRecord (newRecord ev cause data s) s1)

/-- Raise an event (R504); in PS4 it is recorded and delivered after the exit (R492, R511). -/
def raise (ev cause : Nat) (data : List Nat) (s : State) : State :=
  if eventAllowed s ev = false then s
  else if s.pwr.ps = 4 ∧ s.phase = .running then
    { s with evt := { s.evt with deferred := s.evt.deferred ++ [(ev, cause, data)] } }
  else raiseNow ev cause data s

/-- Raise the events deferred in PS4, oldest first (R511). -/
def raiseDeferred (s : State) : State :=
  s.evt.deferred.foldl (fun t e => raise e.1 e.2.1 e.2.2 t) { s with evt := { s.evt with deferred := [] } }

/-- The event of a dropped emergency message is raised without merging and its message takes the freed place whatever the
mask holds (R510). -/
def raiseDropped (s : State) : State :=
  let r := newRecord 28 4 (List.map BitVec.toNat (leBytes 2 s.evt.emcyDropped)) s
  let s1 := putLog r.seq (r :: s.evt.log)
    (tideRecord { s with evt := { s.evt with raised := (s.evt.raised + 1) % 65536, emcyDropped := 0 } })
  let s2 := if masked s1 1 28 then s1 else allPorts.foldl (fun t p => reportAer 0 p t) s1
  let s3 := if masked s2 2 28 then s2 else reportMsix s2
  { s3 with evt := { s3.evt with emcy := s3.evt.emcy ++ [emcyOf s3 r] } }

/-- Little-endian data bytes of an event. -/
def evBytes (n v : Nat) : List Nat :=
  (leBytes n v).map BitVec.toNat

/-- Bytes of a string as event data. -/
def evStr (l : List Byte) : List Nat :=
  l.map BitVec.toNat

end Sys2Proof.Machine
end

