-- ==== Sys2Proof/Machine/Domains.lean ====
section
/-! DEFINITION. The 36 switched power domains and their condition (R487, R502; Tables 15.1 and 15.7). -/

namespace Sys2Proof.Machine

open Sys2Proof

/-- Condition of a domain (R487). -/
inductive DomainCond where
  /-- Powered and running. -/
  | on
  /-- Unpowered, its boundary clamped. -/
  | off
  /-- Arrays at retention voltage. -/
  | ret
  /-- A stack in self-refresh. -/
  | sr
  /-- Held, as R487 says for host ports and for PD35. -/
  | low
  deriving DecidableEq, Repr

/-- Condition of domain d in a power state (Table 15.1). -/
def tableCond (ps d : Nat) : DomainCond :=
  let upTo := fun (n : Nat) (c : DomainCond) => if ps ≤ n then DomainCond.on else c
  if d = 19 then .on
  else if d = 0 ∨ d = 1 ∨ d = 20 then upTo 3 .off
  else if d = 6 ∨ d = 10 ∨ (12 ≤ d ∧ d ≤ 15) ∨ d = 31 ∨ d = 32 then upTo 1 .off
  else if d = 9 ∨ d = 11 then upTo 2 (if ps = 3 then .ret else .off)
  else if d = 21 ∨ d = 22 then upTo 2 (if ps = 3 then .sr else .off)
  else if 27 ≤ d ∧ d ≤ 30 then upTo 3 .low
  else if d = 35 then upTo 2 .low
  else upTo 2 .off

/-- The part has a domain (R487): absent host ports and the bays 8 to 15 of B08 parts have none. -/
def domainFitted (s : State) (d : Nat) : Bool :=
  if 27 ≤ d ∧ d ≤ 30 then decide (d - 27 < s.ports)
  else if d = 14 ∨ d = 32 ∨ d = 34 then decide (s.part.code.bays = 16)
  else decide (d < 36)

/-- Domains powered in Harbour (Table 15.7): the memories and the flash only until the flush has ended. -/
def harbourPowers (s : State) (d : Nat) : Bool :=
  [0, 1, 11, 19, 20, 27, 28, 29, 30, 16, 33, 34, 35].contains d
    || (s.sup.flushing && [21, 22, 23, 24, 25, 26, 2, 3, 4, 5].contains d)

/-- Condition of a domain now. -/
def domainCond (s : State) (d : Nat) : DomainCond :=
  if domainFitted s d = false then .off
  else if s.phase = .harbour then (if harbourPowers s d then .on else .off)
  else tableCond s.pwr.ps d

/-- Domain of a bay's Causeway PHY (Table 15.1). -/
def phyDomain (b : BayId) : Nat :=
  if b.val < 8 then 31 else 32

/-- Domain of a bay's gate and coil drivers. -/
def driverDomain (b : BayId) : Nat :=
  if b.val < 8 then 33 else 34

/-- Domain of a metadata cache way. -/
def wayDomain (way : Nat) : Nat :=
  if way < 8 then 7 else if way < 12 then 8 else 9

/-- The arrays of a domain keep their content in a power state. -/
def keepsContent (ps d : Nat) : Bool :=
  tableCond ps d != .off

end Sys2Proof.Machine
end

