-- ==== Sys2Proof/Machine/Memory.lean ====
section
/-! DEFINITION. HBM, the metadata cache and the coded on-die memories (R174 to R196): the metadata cache and its
maintenance, the leaky buckets, and what an error beyond correction leads to (Table 5.4). -/

namespace Sys2Proof.Machine

open Sys2Proof

/-- One GiB. -/
def gib : Nat := 1073741824

/-- Areas of the HBM data area (Table 5.1). -/
inductive HbmArea where
  | staging | hostRead | fdpMap | zoneMap | blockTables | planStore | drain | recall | management | rebuildWork | reserved
  deriving DecidableEq, Repr

/-- The area of a data area offset, by quarters of a GiB (Table 5.1). -/
def hbmArea (addr : Nat) : HbmArea :=
  let q := addr * 4 / gib
  if q < 48 then .staging else if q < 64 then .hostRead else if q < 108 then .fdpMap
  else if q < 109 then .zoneMap else if q < 111 then .blockTables else if q < 119 then .planStore
  else if q < 143 then .drain else if q < 159 then .recall else if q < 163 then .management
  else if q < 167 then .rebuildWork else .reserved

/-- The areas the metadata cache caches (Table 5.1). -/
def HbmArea.cached : HbmArea → Bool
  | .fdpMap | .zoneMap | .blockTables | .planStore => true
  | _ => false

/-- The map region of an HBM offset, counted from the start of the FDP map (Table 5.1, R121). -/
def regionOfAddr (addr : Nat) : Nat :=
  (addr - 16 * gib) / 67108864

/-! ### Map regions (R121 to R125) -/

/-- Start a promoted rebuild of a region: in a free slot, else in place of a background region, else when a slot frees
(R122). A region that is rebuilding is not started again. Of several background regions the one that started last gives its place;
the spec says only 'a background region' (DESIGN CHOICE, log 142). -/
def promoteRegion (r : Nat) (s : State) : State :=
  let h := s.hs
  if h.rebuilding.any (fun x => x.1 == r) then
    { s with hs := { h with rebuilding := modWhere (fun x => x.1 == r) (fun x => (x.1, true)) h.rebuilding } }
  else if h.promoted.contains r then s
  else if h.rebuilding.length < 8 then
    { s with hs := { h with regions := h.regions.filter (· != r), rebuilding := h.rebuilding ++ [(r, true)] } }
  else match h.rebuilding.reverse.find? (fun x => !x.2) with
    | some x =>
      { s with
        hs := { h with
          regions := (h.regions.filter (· != r)).insertIdx ((h.regions.filter (· != r)).takeWhile (· < x.1)).length x.1
          rebuilding := h.rebuilding.filter (fun y => y.1 != x.1) ++ [(r, true)] } }
    | none => { s with hs := { h with regions := h.regions.filter (· != r), promoted := h.promoted ++ [r] } }

/-- Fill free slots: promoted regions first, then background regions in ascending order (R121, R122). -/
def fillRebuilds : Nat → State → State
  | 0, s => s
  | n + 1, s =>
    let h := s.hs
    if 8 ≤ h.rebuilding.length then s
    else match h.promoted, h.regions with
      | r :: rs, _ => fillRebuilds n { s with hs := { h with promoted := rs, rebuilding := h.rebuilding ++ [(r, true)] } }
      | [], r :: rs => fillRebuilds n { s with hs := { h with regions := rs, rebuilding := h.rebuilding ++ [(r, false)] } }
      | [], [] => s

/-- A region is not yet rebuilt. -/
def regionMissing (s : State) (r : Nat) : Bool :=
  s.hs.regions.contains r || s.hs.promoted.contains r || s.hs.rebuilding.any fun x => x.1 == r

/-- A map region is lost and rebuilt as a promoted region: event 044 (R53, R125). -/
def loseRegion (r : Nat) (s : State) : State :=
  promoteRegion r (raise 44 0 (evBytes 4 r) s)

/-! ### Leaky buckets (R190 to R192) -/

/-- The settings of bucket m (2600h). -/
def bucketDepth (s : State) (m : Nat) : Nat := num s 0x2600 m

/-- Bucket m. -/
def bucketOf (s : State) (m : Nat) : Bucket :=
  s.mem.buckets.getD (m - 1) {}

/-- Change bucket m. -/
def modBucket (m : Nat) (f : Bucket → Bucket) (s : State) : State :=
  { s with mem := { s.mem with buckets := modNth s.mem.buckets (m - 1) f } }

/-- A correctable error in the memory of bucket m (R190). -/
def countCorrectable (m : Nat) (s : State) : State :=
  let b := bucketOf s m
  if b.level = bucketDepth s m then
    raise 15 m (evBytes 4 (b.overflows + 1))
      (modBucket m (fun b => { b with total := b.total + 1, overflows := b.overflows + 1, level := 0 }) s)
  else modBucket m (fun b => { b with total := b.total + 1, level := b.level + 1 }) s

/-- A leak of bucket m (R190). -/
def leakBucket (m : Nat) (s : State) : State :=
  modBucket m (fun b => { b with level := b.level - 1 }) s

/-- Clear bucket m, or every bucket with FFh (R192); its leak timer starts again. -/
def clearBucket (m : Nat) (s : State) : State :=
  let z : Bucket := { leakFrom := s.clock }
  if m = 255 then { s with mem := { s.mem with buckets := List.replicate 8 z } } else modBucket m (fun _ => z) s

/-- Enter an error in log page C4h: one record per address, the least recently hit replaced (Table 16.9). -/
def logMemErr (m kind addr : Nat) (s : State) : State :=
  let old := s.mem.errors.find? fun e => e.addr == addr && e.bucket == m
  let e : MemErr := { bucket := m, kind := kind, addr := addr, time := nowNs s, count := (old.map (·.count)).getD 0 + 1 }
  { s with
    mem := { s.mem with errors := (e :: s.mem.errors.filter fun x => !(x.addr == addr && x.bucket == m)).take 256 } }

/-! ### The metadata cache (R177 to R184) -/

/-- The cache set of an HBM address: bits 20:7. -/
def cacheSet (addr : Nat) : Nat := bitsOf addr 7 20

/-- The tag of an HBM address: bits 35:21. -/
def cacheTag (addr : Nat) : Nat := bitsOf addr 21 35

/-- The HBM address of a line. -/
def Line.addr (l : Line) : Nat := l.tag * 2097152 + l.cset * 128

/-- Ways in replacement: all but the scratchpad's (R182). -/
def cacheWays (s : State) : Nat := 16 - s.mem.scratchWays

/-- An access to a cached HBM address: a hit makes the line the most recently used; a miss fills a free way, else the
least recently used one of the set, whose dirty content is written back (R177). -/
def touchLine (addr : Nat) (dirty : Bool) (s : State) : State :=
  let cs := cacheSet addr
  let tg := cacheTag addr
  let ls := s.mem.lines
  let here := ls.filter fun l => l.cset == cs
  match here.find? fun l => l.tag == tg with
  | some l =>
    { s with
      mem := { s.mem with
        lines := { l with dirty := l.dirty || dirty } :: ls.filter fun x => !(x.cset == cs && x.way == l.way) } }
  | none =>
    let used := here.map (·.way)
    let way := match (List.range (cacheWays s)).find? fun w => !used.contains w with
      | some w => some w
      | none => (here.getLast?).map (·.way)
    match way with
    | some w =>
      { s with
        mem := { s.mem with
          lines := { cset := cs, way := w, tag := tg, dirty := dirty } :: ls.filter fun x => !(x.cset == cs && x.way == w) } }
    | none => s

/-- Clean the lines p selects (R180). -/
def cleanLines (p : Line → Bool) (s : State) : State :=
  { s with mem := { s.mem with lines := modWhere p (fun l => { l with dirty := false }) s.mem.lines } }

/-- Clean and invalidate the lines p selects (R180). -/
def flushLines (p : Line → Bool) (s : State) : State :=
  { s with mem := { s.mem with lines := s.mem.lines.filter fun l => !p l } }

/-- Invalidate the lines p selects: a dirty line is cleaned first and counted (R181). -/
def invalidateLines (p : Line → Bool) (s : State) : State :=
  let n := (s.mem.lines.filter fun l => p l && l.dirty).length
  flushLines p { s with mem := { s.mem with dirtyInvalidates := s.mem.dirtyInvalidates + n } }

/-- Address of a plan in the plan store, whose layout the spec does not give (log 144). -/
def planAddr (set : Nat) : Nat := 27 * gib + 3 * gib / 4 + set % 2 * gib

/-- Address of a block's line in the block tables, whose layout the spec does not give: 2 MiB for each die (log 144). -/
def tableAddr (port die block : Nat) : Nat := 27 * gib + gib / 4 + (8 * port + die) % 256 * 2097152 + block * 8 % 2097152

/-- The lines a range touches, in part or whole, within the cached areas (R180). -/
def inRange (start len : Nat) (l : Line) : Bool :=
  (hbmArea l.addr).cached && decide (l.addr < start + len) && decide (start < l.addr + 128)

/-- The lines of an operation of 2610h.08: by range, or by cache set and way (R184). -/
def opLines (s : State) (byWay : Bool) : Line → Bool :=
  if byWay then fun l => l.cset == num s 0x2610 5 && l.way == num s 0x2610 6
  else inRange (num s 0x2610 3) (num s 0x2610 4)

/-- Apply the requested carve-out when no plan is being built (R182): each added way is cleaned, invalidated and set
unwritten; a removed way rejoins replacement empty, its content discarded. -/
def applyCarveOut (s : State) : State :=
  let n := num s 0x2610 1
  if s.ebb.building.isSome ∨ n = s.mem.scratchWays then s
  else
    let s1 := flushLines (fun l => decide (16 - n ≤ l.way)) s
    { s1 with mem := { s1.mem with scratchWays := n, scratch := s.mem.scratch.filter fun g => decide ((16 - n) * 262144 ≤ g.1) } }

/-! ### Words of the coded memories (R185, R187) -/

/-- Stage a DOMAIN value in the scratchpad, in whole words, at the start of its last way; it lies there until the next one (log 144). -/
def stageDomain (data : List Byte) (s : State) : State :=
  if s.mem.scratchWays = 0 then s else { s with mem := { s.mem with scratch := [(15 * 262144, domainWords data)] } }

/-- The word of the scratchpad at an address; none when it is unwritten. -/
def scratchWord (s : State) (a : Nat) : Option (BitVec 64) :=
  s.mem.scratch.findSome? fun g => if g.1 ≤ a then g.2[a - g.1]? else none

/-- Words of a loop's area: its coefficient set, then its calibration record, which holds the offset and the gain. -/
def loopWords (set : List Byte) (off gain : Int) : List (BitVec 64) :=
  domainWords (takePad 128 set) ++ [BitVec.ofInt 64 (off % 65536 + 65536 * (gain % 65536)), 0, 0, 0]

/-- The area of a loop instance in a bank: its active area, or its shadow. -/
def loopArea (s : State) (bank : Bool) (i : Nat) : List (BitVec 64) :=
  if h : i / 7 < 16 then
    match (s.bays.get ⟨i / 7, h⟩).servo.loops[i % 7]? with
    | some l =>
      let cal := (l.calPending).getD (l.calOffset, l.calGain)
      if l.bank = bank then loopWords l.set l.calOffset l.calGain else loopWords (l.shadow.getD l.set) cal.1 cal.2
    | none => []
  else []

/-- Word address of a loop instance's area within a bank (R380): after the library, the region table and the schedule (log 144). -/
def loopBase (i : Nat) : Nat := 4784 + 20 * i

/-- The word of the coefficient store at an address, 131,072 words a bank; none when it is unwritten (R185, R380, R385). -/
def coeffWord (s : State) (a : Nat) : Option (BitVec 64) :=
  let o := a % 131072
  if s.mem.coeffWritten = false then none
  else if o < 4096 then (domainWords (takePad 2048 (dom s 0x4000 (o / 256 + 1))))[o % 256]?
  else if o < 4528 then (domainWords (takePad 3456 (dom s 0x4000 0x11)))[o - 4096]?
  else if o < 4784 then (domainWords (dom s 0x4C00 1))[o - 4528]?
  else (loopArea s (decide (131072 ≤ a)) ((o - 4784) / 20))[(o - 4784) % 20]?

/-! ### Errors beyond correction (R188, Table 5.4) -/

/-- A member block's read count after its table line was lost: the last checkpoint plus 2440h.04 (R158). -/
def restoreReads (s : State) (m : Member) : Member :=
  { m with reads := m.ckpt + num s 0x2440 4 }

/-- The block-table line of a die is lost: its read counts and its learned read levels (Table 5.4). -/
def loseBlockTable (port die : Nat) (s : State) : State :=
  { s with
    hs := { s.hs with
      zones := s.hs.zones.map fun z =>
        { z with members := modWhere (fun m => m.port == port && m.die == die) (restoreReads s) z.members } }
    flash := { s.flash with
      vols := modWhere (fun v => v.port == port)
        (fun v => { v with dies := modNth v.dies die fun d => { d with bins := List.replicate 8 {} } }) s.flash.vols } }

/-- A plan-store line is lost: the damaged plan is not used until it is rebuilt (Table 5.4, R217). -/
def losePlan (set : Nat) (s : State) : State :=
  let f := fun p : Plan => if p.setId = set then { p with inStore := false } else p
  { s with
    ebb := { s.ebb with
      plans := s.ebb.plans.map f
      sets := s.ebb.sets.map fun a => { a with plan := f a.plan }
      building := s.ebb.building.map f } }

/-- A lost log record is replaced by a gap record (Table 5.4), whose content the spec does not give: it keeps the record's sequence number
and names no event (log 143). -/
def gapRecord (seq : Nat) (s : State) : State :=
  { s with evt := { s.evt with log := modWhere (fun r => r.seq == seq) (fun r => { ev := 0xFFFF, cause := 0, seq := r.seq }) s.evt.log } }

/-- A map region being rebuilt restarts (Table 5.4). -/
def restartRegion (r : Nat) (s : State) : State :=
  { s with hs := { s.hs with
      rebuilding := (s.hs.rebuilding.filter fun x => x.1 != r) ++ s.hs.rebuilding.filter fun x => x.1 == r } }

/-- What Table 5.4 does for an HBM area. The content of a write-staging line that R189 cannot rebuild is lost with its
zone, which the caller handles. -/
def hbmLost (hit : MemHit) (s : State) : State :=
  match hbmArea hit.addr with
  | .fdpMap | .zoneMap => loseRegion (regionOfAddr hit.addr) s
  | .blockTables => loseBlockTable hit.what.1 hit.what.2 s
  | .planStore => losePlan hit.what.1 s
  | .management => if hit.what.1 = 1 then gapRecord hit.what.2 s else s
  | .rebuildWork => restartRegion hit.what.1 s
  | _ => s

/-- An uncorrectable word in the metadata cache's data: a clean line is fetched again and counts as corrected; a dirty
line's changes are lost with its map region (R178). The word address gives the way and the set. -/
def cacheDataLost (hit : MemHit) (s : State) : State :=
  let way := hit.addr * 8 / 2097152
  let cs := hit.addr * 8 % 2097152 / 128
  match s.mem.lines.find? fun l => l.cset == cs && l.way == way with
  | none => s
  | some l =>
    let s1 := flushLines (fun x => x.cset == cs && x.way == way) s
    if l.dirty then hbmLost { hit with addr := l.addr } s1 else touchLine l.addr false (countCorrectable 3 s1)

/-- The dirty line that an uncorrectable cache word hits, if any. -/
def hitsDirtyLine (s : State) (hit : MemHit) : Bool :=
  s.mem.lines.any fun l =>
    l.cset == hit.addr * 8 % 2097152 / 128 && l.way == hit.addr * 8 / 2097152 && l.dirty

/-- A plan build in progress restarts from its inputs (Table 5.4). -/
def restartBuild (s : State) : State :=
  if s.ebb.building.isSome then applyCarveOut { s with ebb := { s.ebb with building := none } } else s

/-- The bucket of Table 5.5 that an address of a memory counts in: HBM interleaves its stacks in steps of 4 KiB (R174). -/
def MemPart.bucket (p : MemPart) (addr : Nat) : Nat :=
  match p with
  | .hbm => 1 + addr / 4096 % 2
  | .cache => 3
  | .coeff => 5 + addr / 131072 % 2
  | .scratch => 7
  | .tide => 8

/-- What the memory's code finds (R175, R177, R185). -/
def hitKind (s : State) (h : MemHit) : CodeResult :=
  match h.part with
  | .hbm => lineResult h.errs h.misplaced
  | .cache => if codeResult (flipSyndrome h.errs) = .unwritten then .uncorrectable else codeResult (flipSyndrome h.errs)
  | .coeff => wordResult (coeffWord s h.addr).isSome h.errs
  | .scratch => wordResult (scratchWord s h.addr).isSome h.errs
  | .tide => wordResult s.mem.tideWritten h.errs

/-- The kind code of a memory error record (Table 16.12). -/
def CodeResult.code : CodeResult → Nat
  | .clean => 0
  | .corrected => 1
  | .uncorrectable => 2
  | .unwritten => 3

/-- What Table 5.4 does for the memory of an error beyond correction. -/
def memLost (hit : MemHit) (s : State) : State :=
  match hit.part with
  | .hbm => hbmLost hit s
  | .cache => cacheDataLost hit s
  | .scratch => restartBuild s
  | .tide => tideRecord s
  | .coeff => s

/-- One memory error met (R185, R188, R190). -/
def memError (hit : MemHit) (s : State) : State :=
  let m := MemPart.bucket hit.part hit.addr
  let k := hitKind s hit
  let s1 := logMemErr m (CodeResult.code k) hit.addr s
  match k with
  | .clean => s
  | .corrected => countCorrectable m s1
  | _ =>
    if hit.part = .cache ∧ hitsDirtyLine s hit = false then cacheDataLost hit s1
    else
      let cause := if k = .unwritten then m + 0x80 else m
      memLost hit (raise 14 cause (evBytes 8 hit.addr) (modBucket m (fun b => { b with uncorr := b.uncorr + 1 }) s1))

/-- Memory errors in the order met. -/
def memErrors (hits : List MemHit) (s : State) : State :=
  hits.foldl (fun t h => memError h t) s

/-- The line of a cache set and way; an empty one is an entry that is not valid. -/
def lineAt (s : State) (cset way : Nat) : Option Line := s.mem.lines.find? fun l => l.cset == cset && l.way == way

/-- The tag entry of a cache set and way as it stands in the array. -/
def storedTag (s : State) (t : TagFail) : Nat :=
  match lineAt s t.cset t.way with
  | some l => invert (tagEntry l.tag true l.dirty) t.flips
  | none => invert (tagEntry 0 false false) t.flips

/-- The line of a tag entry that cannot be repaired is lost: every map region is rebuilt, and the plan store, a plan being built
included, and the block tables are lost lines of Table 5.4 (R179). -/
def tagLost (t : TagFail) (s : State) : State :=
  let s1 := raise 14 4 (evBytes 8 (t.cset * 16 + t.way)) (modBucket 4 (fun b => { b with uncorr := b.uncorr + 1 }) s)
  let s2 := flushLines (fun l => l.cset == t.cset && l.way == t.way) s1
  let s3 := fillRebuilds 8
    { s2 with hs := { s2.hs with regions := List.range 180, rebuilding := [], promoted := [], rebuildFrom := s2.clock } }
  let lost := fun p : Plan => { p with inStore := false }
  { s3 with
    ebb := { s3.ebb with
      plans := s3.ebb.plans.map lost
      sets := s3.ebb.sets.map fun a => { a with plan := lost a.plan }
      building := s3.ebb.building.map lost }
    hs := { s3.hs with zones := s3.hs.zones.map fun z => { z with members := z.members.map (restoreReads s3) } }
    flash := { s3.flash with
      vols := s3.flash.vols.map fun v => { v with dies := v.dies.map fun d => { d with bins := List.replicate 8 {} } } } }

/-- A repaired entry becomes the line's entry (R179). -/
def putTag (cset way e : Nat) (s : State) : State :=
  let here := fun l : Line => l.cset == cset && l.way == way
  if bitOf e 15 then
    { s with mem := { s.mem with lines := modWhere here (fun l => { l with tag := e % 32768, dirty := bitOf e 16 }) s.mem.lines } }
  else flushLines here s

/-- A tag entry is found disturbed (R179): one that fails its parity is repaired and counted, or its line is lost. -/
def tagError (t : TagFail) (s : State) : State :=
  let addr := match lineAt s t.cset t.way with
    | some l => l.addr
    | none => t.cset * 128
  if tagFails (storedTag s t) = false then s
  else match repairTag (storedTag s t) t.cset addr t.words with
    | some e => putTag t.cset t.way e (countCorrectable 4 s)
    | none => tagLost t s

/-- Stripe of a zone that an LBA offset lies in: 15 data pages of 4 LBAs (R586). -/
def stripeOfLba (off : Nat) : Nat := off / 60

/-- Two lines of one stripe that lie at the same offset of different pages, the running XOR's page among them (R189). -/
def sameStripeLine (a b : MemHit) : Bool :=
  a.what == b.what && stripeOfLba a.off == stripeOfLba b.off && a.line == b.line && a.off % 4 == b.off % 4
    && (a.xor != b.xor || (!a.xor && a.off / 4 != b.off / 4))

/-- A line of write staging that its code cannot correct. -/
def stagedLost (s : State) (h : MemHit) : Bool :=
  h.part == .hbm && hbmArea h.addr == .staging && hitKind s h == .uncorrectable

/-- The zones whose staged content cannot be rebuilt: two lines at one offset of one stripe are lost (R189, Table 5.4). -/
def stagingLosses (s : State) (hits : List MemHit) : List (Nat × Nat) :=
  let bad := hits.filter (stagedLost s)
  (bad.filter fun a => !a.xor && bad.any (sameStripeLine a)).map (·.what)

/-- The hits that end a command with Unrecovered Read Error: an uncorrectable line of a map region (R53, R178). -/
def mapFault (s : State) (hits : List MemHit) : Bool :=
  hits.any fun h => hitKind s h == .uncorrectable &&
    match h.part with
    | .hbm => hbmArea h.addr == .fdpMap || hbmArea h.addr == .zoneMap
    | .cache =>
      (s.mem.lines.any fun l => l.cset == h.addr * 8 % 2097152 / 128 && l.way == h.addr * 8 / 2097152 && l.dirty
        && (hbmArea l.addr == .fdpMap || hbmArea l.addr == .zoneMap))
    | _ => false

/-- A write narrower than 64 bits to a word of the coefficient store (R186): whether it is performed. -/
def writeNarrow (addr : Nat) (flips : List Nat) (mask new : BitVec 64) (s : State) : Bool × State :=
  let r := (narrowWrite (coeffWord s addr) flips mask new).1
  (r == .clean || r == .corrected, memError { part := .coeff, addr := addr, errs := flips } s)

/-! ### The commands -/

/-- BUCKET_LEAK (R190): only the eight buckets of Table 5.5 exist. -/
def execBucketLeak (m : Nat) (s : State) : Host.Outcome State Fault Refusal :=
  .next (if 1 ≤ m ∧ m ≤ 8 then leakBucket m s else s)

/-- Advance the address of a patrol by n over a memory of size total; the number of passes it completes. -/
def patrolStep (pos n total : Nat) : Nat × Nat :=
  ((pos + n) % total, (pos + n) / total)

/-- Lines of the HBM data area: 45 GiB in lines of 128 bytes. -/
def hbmLines : Nat := 377487360

/-- 64-bit words of the coded on-die memories: cache and scratchpad 32 MiB, coefficient store 2 MiB, Tidemark SRAM
2 MiB (Table 5.3). -/
def sramWords : Nat := 4718592

end Sys2Proof.Machine
end

