-- ==== Sys2Proof/Machine/Pci.lean ====
section
/-! DEFINITION. The PCI Express side of a port (R12, R18 to R23): what the link trains to, the function's configuration space,
its BAR0 window and its request limits. The registers a driver finds by their place are those of the PCI Express header; the
places of the capabilities and the reset values the spec does not give are of the family (log 129). -/

namespace Sys2Proof.Machine

open Sys2Proof

/-! ### The link (R12, R18) -/

/-- Lanes of each port under the strapped split (R12). -/
def splitWidth (s : State) : Nat :=
  16 / max 1 s.ports

/-- The rate a link operates at with a partner whose highest rate is given: the highest of 64, 32 and 16 GT/s that both
support; none for a partner that supports none of them (R18). -/
def linkRate (partner : Nat) : Option Nat :=
  [64, 32, 16].find? fun r => decide (r ≤ partner)

/-- A link that has come up (R18, R19). -/
def Ctrl.trained (rate width : Nat) (reversed : Bool) (inverted : List Nat) (c : Ctrl) : Ctrl :=
  { c with linkUp := true, rate := rate, width := width, flit := rate == 64, reversed := reversed, inverted := inverted }

/-- A link that is down. -/
def Ctrl.linkDown (c : Ctrl) : Ctrl :=
  { c with linkUp := false, rate := 0, width := 0, flit := false, reversed := false, inverted := [] }

/-- The PCI Express code of a link rate. -/
def rateCode (rate : Nat) : Nat :=
  match rate with
  | 64 => 6
  | 32 => 5
  | 16 => 4
  | _ => 0

/-! ### Configuration space (R19, R20, R22, R23) -/

/-- Subsystem ID (Table 2.1). -/
def OrderingCode.subsystem : OrderingCode → Nat
  | .b16gm => 0x1610
  | .b16gs => 0x1600
  | .b08gs => 0x0800

/-- Max Payload Size in force [bytes], at most 512 (R21). -/
def Pci.maxPayload (c : Pci) : Nat :=
  128 * 2 ^ min 2 (bitsOf c.devCtl 5 7)

/-- Max Read Request Size in force [bytes], at most 4,096 (R21). -/
def Pci.maxReadRequest (c : Pci) : Nat :=
  128 * 2 ^ min 5 (bitsOf c.devCtl 12 14)

/-- The dword at an offset of a function's configuration space: header, PCI Express capability at 40h, MSI-X capability at
80h, Advanced Error Reporting at 100h. -/
def cfgDword (s : State) (p : PortId) (off : Nat) : Nat :=
  let c := s.ctrls.get p
  let g := c.pci
  match off / 4 * 4 with
  | 0x00 => 0x1664 * 65536 + 0x1FC6
  | 0x04 => 0x0010 * 65536 + g.command
  | 0x08 => 0x010802 * 256
  | 0x10 => bitsOf g.bar 0 31 + 0xC
  | 0x14 => bitsOf g.bar 32 63
  | 0x2C => s.part.code.subsystem * 65536 + 0x1FC6
  | 0x34 => 0x40
  | 0x40 => 0x10 + 0x80 * 256 + 0x8002 * 65536
  | 0x44 => 2 + 2 ^ 15 + 2 ^ 28
  | 0x48 => g.devCtl
  | 0x4C => 6 + 16 * splitWidth s + 2 * 2 ^ 10
  | 0x50 => g.lnkCtl + (rateCode c.rate + 16 * c.width) * 65536
  | 0x6C => 0x7E
  | 0x70 => (if c.flit then 2 ^ 10 else 0) * 65536
  | 0x80 => 0x11 + (0x7FF + g.msixCtl) * 65536
  | 0x84 => 0x10000
  | 0x88 => 0x18000
  | 0x100 => 1 + 2 * 65536
  | 0x108 => g.uncMask
  | 0x10C => g.uncSev
  | 0x114 => g.corMask
  | 0x118 => 2 ^ 5 + 2 ^ 7 + g.aerCtl
  | _ => 0

/-- What a configuration read returns: Request Retry Status (none) until the controller's registers are accessible (R22). -/
def cfgRead (s : State) (p : PortId) (off : Nat) : Option Dword :=
  if (s.ctrls.get p).accessible then some (BitVec.ofNat 32 (cfgDword s p off)) else none

/-- A configuration write of one dword: read-only registers and reserved bits keep their value. -/
def Pci.write (off v : Nat) (g : Pci) : Pci :=
  match off / 4 * 4 with
  | 0x04 => { g with command := v.land 0x0546 }
  | 0x10 => { g with bar := bitsOf g.bar 32 63 * 2 ^ 32 + bitsOf v 17 31 * 2 ^ 17 }
  | 0x14 => { g with bar := bitsOf g.bar 0 31 + v % 2 ^ 32 * 2 ^ 32 }
  | 0x48 => { g with devCtl := v % 32768 }
  | 0x50 => { g with lnkCtl := v.land 0x0FF3 }
  | 0x80 => { g with msixCtl := bitsOf v 30 31 * 2 ^ 14 }
  | 0x108 => { g with uncMask := v % 2 ^ 32 }
  | 0x10C => { g with uncSev := v % 2 ^ 32 }
  | 0x114 => { g with corMask := v % 2 ^ 32 }
  | 0x118 => { g with aerCtl := v.land 0x140 }
  | _ => g

/-- A configuration write that reaches an accessible function. -/
def cfgWrite (p : PortId) (off : Nat) (v : Dword) (s : State) : State :=
  modCtrl p (fun c => if c.accessible then { c with pci := c.pci.write off v.toNat } else c) s

/-- What a Function Level Reset leaves of a configuration space: Max Payload Size and the link's control. -/
def Pci.afterFlr (g : Pci) : Pci :=
  { devCtl := 0x2810 + bitsOf g.devCtl 5 7 * 32, lnkCtl := g.lnkCtl }

/-- An address lies in the BAR0 window of a function of this device (R52). -/
def inWindow (s : State) (addr : Nat) : Bool :=
  allPorts.any fun p =>
    let c := s.ctrls.get p
    c.present && bitOf c.pci.command 1 && decide (c.pci.bar ≤ addr) && decide (addr < c.pci.bar + 0x20000)

/-! ### Requests toward host memory (R21) -/

/-- The memory read requests for n bytes from an address: none longer than the Max Read Request Size, none across a 4 KiB
boundary; `fuel` bounds their number. -/
def readRequests (mrrs : Nat) : Nat → Nat → Nat → List (Nat × Nat)
  | 0, _, _ => []
  | fuel + 1, addr, n =>
    if n = 0 then []
    else
      let k := min n (min (mrrs - addr % mrrs) (4096 - addr % 4096))
      (addr, k) :: readRequests mrrs fuel (addr + k) (n - k)

/-- Requests outstanding at once: at most 512 (R21). -/
def maxOutstanding (n : Nat) : Nat := min 512 n

end Sys2Proof.Machine
end

