-- ==== Sys2Proof/Machine/Pointers.lean ====
section
/-! DEFINITION. The pointer walk (R47 to R52): the pieces of host memory that a command's PRPs or SGLs name, the faults of
Table 2.5, and what a command transfers. -/

namespace Sys2Proof.Machine

open Sys2Proof

/-- One thing a pointer walk meets: a fault, or a piece of host memory. -/
inductive Walk where
  | fault (f : PtrFault)
  | piece (addr len : Nat)
  deriving DecidableEq, Repr

/-! ### PRPs (R47, Table 2.5) -/

/-- Memory page size of a controller (CC.MPS). -/
def pageOf (c : Ctrl) : Nat := 4096 * 2 ^ c.mps

/-- The data pages of the PRP lists: `left` bytes are still to be placed; an entry that is not listed is a page outside every
window. In a full list page the last entry is the address of the next list, while more data follows than it could hold. -/
def prpListed (page : Nat) : List (List Nat) → Nat → List Walk
  | [], _ => []
  | l :: ls, left =>
    let room := page / 8
    let pages := (left + page - 1) / page
    let chained := decide (room ≤ l.length) && decide (room < pages) && ls != []
    let mine := if chained then l.take (room - 1) else l.take pages
    let walk := (mine.zipIdx).map fun x =>
      if x.1 % page ≠ 0 then Walk.fault .prpOffset else .piece x.1 (min page (left - x.2 * page))
    let link := if chained then [l.getD (room - 1) 0] else []
    walk ++ (link.filter fun a => a % 8 != 0).map (fun _ => Walk.fault .prpList) ++
      (if chained then prpListed page ls (left - mine.length * page) else [])

/-- The walk of a transfer of n bytes by PRPs: entry 1 may start anywhere in its page on a dword; entry 2 is a page or the
address of a list. -/
def prpWalk (page : Nat) (d : Dptr) (n : Nat) : List Walk :=
  let first := page - d.prp1 % page
  let head := if d.prp1 % 4 ≠ 0 then Walk.fault .prpOffset else .piece d.prp1 (min n first)
  if n ≤ first then [head]
  else if n - first ≤ page then
    [head, if d.prp2 % page ≠ 0 then .fault .prpOffset else .piece d.prp2 (n - first)]
  else if d.prp2 % 8 ≠ 0 then [head, .fault .prpList]
  else head :: prpListed page d.lists (n - first)

/-! ### SGLs (R47, Table 2.5) -/

/-- The fault of one descriptor's own fields; `last`: it closes its segment, `more`: its segment may chain on. -/
def sglFault (read last more : Bool) (x : SglDesc) : Option PtrFault :=
  if x.sub = 1 ∧ x.addr ≠ 0 then some .sglOffset
  else if x.sub ≠ 0 then some .sglType
  else if 3 < x.kind ∨ (x.kind = 1 ∧ read = false) then some .sglType
  else if 2 ≤ x.kind ∧ (last = false ∨ more = false ∨ x.len = 0 ∨ x.len % 16 ≠ 0 ∨ x.addr % 8 ≠ 0) then some .sglSegment
  else none

/-- The walk of one segment's descriptors. -/
def segWalk (read more : Bool) (l : List SglDesc) : List Walk :=
  (l.zipIdx).map fun x =>
    match sglFault read (x.2 + 1 == l.length) more x.1 with
    | some f => .fault f
    | none => if x.1.kind = 0 then .piece x.1.addr x.1.len else .piece 0 0

/-- The segments of an SGL as the walk reads them: the length of a segment descriptor (`cnt` descriptors) says how much of
the next segment is read, zero descriptors where none is listed. A segment that a Last Segment descriptor names may not
chain on. -/
def segments (read : Bool) : List (List SglDesc) → Option Nat → Bool → List Walk
  | [], _, _ => []
  | l :: ls, cnt, more =>
    let mine := match cnt with
      | some k => (l ++ List.replicate (k - l.length) ({} : SglDesc)).take k
      | none => l
    segWalk read more mine ++
      match (mine.getLast?).filter fun x => decide (2 ≤ x.kind) with
      | some x => segments read ls (some (x.len / 16)) (x.kind == 2)
      | none => []

/-- Descriptors of an SGL, over all its segments. -/
def sglCount (l : List (List SglDesc)) : Nat := sumOf (l.map (·.length))

/-- Bytes an SGL describes: Data Blocks and, in a read, Bit Buckets. -/
def sglBytes (l : List (List SglDesc)) : Nat :=
  sumOf (l.map fun s => sumOf (s.map fun x => if x.kind ≤ 1 then x.len else 0))

/-- The walk of a transfer of n bytes by SGL; `short` is the fault of an SGL that describes fewer bytes. -/
def sglWalk (read : Bool) (l : List (List SglDesc)) (n : Nat) (short : PtrFault) : List Walk :=
  (if 256 < sglCount l then [.fault .sglCount] else []) ++ segments read l none true ++ (if sglBytes l < n then [.fault short] else [])

/-! ### The first fault (R51, R52) -/

/-- The fault of one thing met: its own, an address in a BAR0 window, or a host memory request that fails. -/
def Walk.status (s : State) (d : Dptr) : Walk → Option PtrFault
  | .fault f => some f
  | .piece a n =>
    if n = 0 then none
    else if inWindow s a ∨ inWindow s (a + (n - 1)) then some .barWindow
    else if d.bad.any fun b => decide (a ≤ b) && decide (b < a + n) then some .hostError
    else none

/-- What a command moves: whether toward the host, data bytes, and metadata bytes of its own. -/
structure Xfer where
  /-- Toward the host. -/
  read : Bool := false
  /-- Data bytes. -/
  data : Nat := 0
  /-- Metadata bytes through the metadata pointer. -/
  md : Nat := 0
  deriving DecidableEq, Repr

/-- The walk of a command's data and metadata. -/
def walkOf (page : Nat) (d : Dptr) (x : Xfer) : List Walk :=
  (if x.data = 0 then [] else if d.psdt = 0 then prpWalk page d x.data else sglWalk x.read d.sgl x.data .sglLength) ++
    (if x.md = 0 then []
     else if d.psdt = 2 then sglWalk x.read d.mdSgl x.md .mdLength
     else [.piece d.mptr x.md])

/-- The first fault that the device meets decides (R51). -/
def ptrFault (s : State) (src : Src) (x : Xfer) : Option PtrFault :=
  (walkOf (pageOf (s.ctrls.get src.port)) src.dptr x).findSome? (Walk.status s src.dptr)

/-- The memory read requests that a transfer from the host takes, in the order of its pieces (R21). -/
def requestsOf (c : Ctrl) (d : Dptr) (x : Xfer) : Nat :=
  sumOf ((walkOf (pageOf c) d x).map fun w =>
    match w with
    | .piece a n => (readRequests c.pci.maxReadRequest (n / 128 + 2) a n).length
    | .fault _ => 0)

/-- Account for the requests of a transfer (R21). -/
def countRequests (src : Src) (x : Xfer) (s : State) : State :=
  if x.read ∨ (x.data = 0 ∧ x.md = 0) then s
  else modCtrl src.port (fun c =>
    { c with requests := requestsOf c src.dptr x, outstanding := maxOutstanding (requestsOf c src.dptr x) }) s

/-! ### Metadata (R48) -/

/-- Metadata bytes of an LBA (Table 2.9). -/
def mdBytes (lbaf : Nat) : Nat := if lbaf = 0 then 16 else 8

/-- Metadata bytes of an LBA that the host transfers: none when the device generates or strips all of them (PRACT in a
protected namespace whose metadata holds nothing else). -/
def Ns.mdMoved (n : Ns) (pi : PiCtl) : Nat :=
  if pi.pract ∧ n.pi ≠ 0 then 0 else mdBytes n.lbaf

/-- The transfer of cnt LBAs: interleaved in extended LBAs, or data and metadata apart (R48). -/
def Ns.xfer (n : Ns) (pi : PiCtl) (read : Bool) (cnt : Nat) : Xfer :=
  let md := n.mdMoved pi
  if n.mset then { read := read, data := cnt * (4096 + md) } else { read := read, data := cnt * 4096, md := cnt * md }

end Sys2Proof.Machine
end

