-- ==== Sys2Proof/Machine/Protect.lean ====
section
/-! DEFINITION. Protection information (R197 to R203, R587): its layouts, its checks and its insertion. -/

namespace Sys2Proof.Machine

open Sys2Proof

/-- The data bytes of an LBA. -/
def Blk.bytes (b : Blk) : List Byte :=
  bvBytes 4096 b.data

/-- Reference tag width of an LBA format (Table 5.11). -/
def refBits (lbaf : Nat) : Nat :=
  if lbaf = 0 then 48 else 32

/-- The guard of a block's data (Table 5.11). -/
def guardOf (lbaf : Nat) (b : Blk) : Nat :=
  if lbaf = 0 then (guard64 (Blk.bytes b)).toNat else guard16 (Blk.bytes b)

/-- Metadata of guard, application tag and reference tag (Table 5.11); in format 1 followed by zero bytes (R197). -/
def packPi (lbaf grd app ref : Nat) : BitVec 128 :=
  if lbaf = 0 then
    BitVec.ofNat 128 (grd % 2 ^ 64 + (app % 2 ^ 16) * 2 ^ 64 + (ref % 2 ^ 48) * 2 ^ 80)
  else BitVec.ofNat 128 (grd % 2 ^ 16 + (app % 2 ^ 16) * 2 ^ 16 + (ref % 2 ^ 32) * 2 ^ 32)

/-- The guard field. -/
def guardField (lbaf : Nat) (md : BitVec 128) : Nat :=
  if lbaf = 0 then bitsOf md.toNat 0 63 else bitsOf md.toNat 0 15

/-- The application tag field. -/
def appField (lbaf : Nat) (md : BitVec 128) : Nat :=
  if lbaf = 0 then bitsOf md.toNat 64 79 else bitsOf md.toNat 16 31

/-- The reference tag field. -/
def refField (lbaf : Nat) (md : BitVec 128) : Nat :=
  if lbaf = 0 then bitsOf md.toNat 80 127 else bitsOf md.toNat 32 63

/-- The metadata with another reference tag. -/
def withRef (lbaf : Nat) (md : BitVec 128) (ref : Nat) : BitVec 128 :=
  packPi lbaf (guardField lbaf md) (appField lbaf md) ref

/-- Metadata whose every protection byte is FFh, so that no check applies (R94). -/
def unwrittenMd (lbaf : Nat) : BitVec 128 :=
  if lbaf = 0 then BitVec.allOnes 128 else BitVec.ofNat 128 (2 ^ 64 - 1)

/-- The block an unwritten LBA reads as: zeros, with protection bytes FFh in a namespace with protection (R94). -/
def unwrittenBlk (n : Ns) : Blk :=
  { data := 0, md := if n.pi = 0 then 0 else unwrittenMd n.lbaf }

/-- No check applies to the block: the escape value of its tags (R94, the NVM Command Set's rule). -/
def escapes (n : Ns) (md : BitVec 128) : Bool :=
  appField n.lbaf md == 65535 && (n.pi != 3 || refField n.lbaf md == 2 ^ refBits n.lbaf - 1)

/-- The first check that fails, in the order guard, application tag, reference tag (R198); ref is the expected reference
tag. -/
def piCheck (n : Ns) (c : PiCtl) (ref : Nat) (b : Blk) : Option PiErr :=
  if n.pi = 0 ∨ escapes n b.md then none
  else if c.guard ∧ guardField n.lbaf b.md ≠ guardOf n.lbaf b then some .guard
  else if c.app ∧ (appField n.lbaf b.md).land c.appMask ≠ c.appTag.land c.appMask then some .app
  else if c.ref ∧ n.pi ≠ 3 ∧ refField n.lbaf b.md ≠ ref % 2 ^ refBits n.lbaf then some .ref
  else none

/-- The reference tag expected of the block with index i of a command that starts at LBA lba: the LBA for type 1, the
command's initial tag counted up for type 2, the command's tag for type 3 (R198). -/
def expectedRef (n : Ns) (c : PiCtl) (lba i : Nat) : Nat :=
  if n.pi = 1 then (lba + i) % 2 ^ refBits n.lbaf
  else if n.pi = 2 then (c.refTag + i) % 2 ^ refBits n.lbaf
  else c.refTag % 2 ^ refBits n.lbaf

/-- Host entry of one block (R198): generated protection information with PRACT, else the checks. A Zone Append is
checked from the zone start LBA `chk` on and, in type 1, stored with the reference tag of the LBA `lba` it lands on. -/
def entryBlk (n : Ns) (c : PiCtl) (append : Bool) (chk lba i : Nat) (b : Blk) : Except PiErr Blk :=
  if n.pi = 0 then .ok b
  else if c.pract then
    .ok { b with md := packPi n.lbaf (guardOf n.lbaf b) c.appTag (expectedRef n c lba i) }
  else match piCheck n c (expectedRef n c chk i) b with
    | some e => .error e
    | none =>
      if n.pi = 1 ∧ append then
        .ok { b with md := withRef n.lbaf b.md (expectedRef n c lba i) }
      else .ok b

/-- Host entry of a command's blocks in order; the first failing block decides (R198). -/
def entryBlks (n : Ns) (c : PiCtl) (append : Bool) (chk lba : Nat) : Nat → List Blk → Except PiErr (List Blk)
  | _, [] => .ok []
  | i, b :: bs =>
    match entryBlk n c append chk lba i b with
    | .error e => .error e
    | .ok b' =>
      match entryBlks n c append chk lba (i + 1) bs with
      | .error e => .error e
      | .ok bs' => .ok (b' :: bs')

/-- The block Write Zeroes stores (R587). -/
def zeroBlk (n : Ns) (c : PiCtl) (lba i : Nat) : Blk :=
  if n.pi ≠ 0 ∧ c.pract then
    { data := 0, md := packPi n.lbaf (guardOf n.lbaf {}) c.appTag (expectedRef n c lba i) }
  else { }

/-- Host exit of one block: checked as PRCHK asks, its protection information stripped with PRACT (R202). -/
def exitBlk (n : Ns) (c : PiCtl) (lba i : Nat) (b : Blk) : Except PiErr Blk :=
  match piCheck n c (expectedRef n c lba i) b with
  | some e => .error e
  | none => .ok (if n.pi ≠ 0 ∧ c.pract then { b with md := 0 } else b)

/-- Host exit of a command's blocks in order. -/
def exitBlks (n : Ns) (c : PiCtl) (lba : Nat) : Nat → List Blk → Except PiErr (List Blk)
  | _, [] => .ok []
  | i, b :: bs =>
    match exitBlk n c lba i b with
    | .error e => .error e
    | .ok b' =>
      match exitBlks n c lba (i + 1) bs with
      | .error e => .error e
      | .ok bs' => .ok (b' :: bs')

/-- The device's own check of a stored block (R199, R200, R203, R587): guard, then, for type 1, the reference tag expected of
its place. An all-zero block passes, and so does one whose tags hold the escape value; nothing is checked without
protection. -/
def storedCheck (pi lbaf ref : Nat) (b : Blk) : Option PiErr :=
  if pi = 0 ∨ (b.data = 0 ∧ b.md = 0) ∨ escapes { pi := pi, lbaf := lbaf } b.md then none
  else if guardField lbaf b.md ≠ guardOf lbaf b then some .guard
  else if pi = 1 ∧ refField lbaf b.md ≠ ref % 2 ^ refBits lbaf then some .ref
  else none

/-- A recalled block at LBA lba of a target namespace: type 1 takes the target's reference tag; an all-zero block is
carried unchanged (R201, R587). -/
def recallBlk (n : Ns) (lba : Nat) (b : Blk) : Blk :=
  if n.pi = 1 ∧ ¬(b.data = 0 ∧ b.md = 0) then { b with md := withRef n.lbaf b.md (lba % 2 ^ refBits n.lbaf) } else b

end Sys2Proof.Machine
end

