-- ==== Sys2Proof/Machine/Zones.lean ====
section
/-! DEFINITION. Zones and their blocks: geometry (R81, R83), lookup, binding (R84, R137, R138), slots (R86, R88), the
transitions of Tables 3.3 and 3.4, and what they do to archive objects. -/

namespace Sys2Proof.Machine

open Sys2Proof

/-! ### Geometry and lookup -/

/-- Zone size of the tier in LBAs: 16 members of planes × pages pages of four LBAs (R81). -/
def zoneSize (s : State) : Nat := 64 * s.tide.planes * s.tide.pages

/-- Zone capacity of the tier in LBAs: 15/16 of the size (R81). -/
def zoneCapacity (s : State) : Nat := 60 * s.tide.planes * s.tide.pages

/-- LBAs of a program row: planes × bits per cell stripes of 60 LBAs (R140, R586). -/
def rowLbas (s : State) : Nat := 60 * s.tide.planes * s.tide.cellMode

/-- ZSZE in the zone size mode (R83). -/
def reportedSize (s : State) (mode : Nat) : Nat :=
  if mode = 1 ∧ zoneSize s ≠ 0 then 2 ^ Nat.clog2 (zoneSize s) else zoneSize s
where
  Nat.clog2 (n : Nat) : Nat := (List.range 64).find? (fun k => decide (n ≤ 2 ^ k)) |>.getD 64

/-- The namespace of an NSID. -/
def nsOf (s : State) (nsid : Nat) : Option Ns := s.hs.ns.find? fun n => n.nsid == nsid

/-- Change one namespace. -/
def modNs (nsid : Nat) (f : Ns → Ns) (s : State) : State :=
  { s with hs := { s.hs with ns := modWhere (fun n => n.nsid == nsid) f s.hs.ns } }

/-- A namespace gets a new key pair (R531, R532). -/
def drawKey (nsid : Nat) (s : State) : State :=
  let n := s.hs.keyDraws + 1
  modNs nsid (fun m => { m with keyGen := n }) { s with hs := { s.hs with keyDraws := n } }

/-- Time of the last archive state change of an Empty zone, 0 when it has had none (R100). -/
def emptySince (s : State) (nsid idx : Nat) : Nat :=
  ((s.hs.changedAt.find? fun x => x.1 == nsid && x.2.1 == idx).map (·.2.2)).getD 0

/-- A zone; one that is not listed is Empty (R84). -/
def zoneOf (s : State) (nsid idx : Nat) : Zone :=
  (s.hs.zones.find? fun z => z.nsid == nsid && z.idx == idx).getD { nsid := nsid, idx := idx, changed := emptySince s nsid idx }

/-- Keep the time of the last archive state change of a zone that becomes Empty (R100). -/
def noteChange (nsid idx t : Nat) (s : State) : State :=
  let rest := s.hs.changedAt.filter fun x => !(x.1 == nsid && x.2.1 == idx)
  { s with hs := { s.hs with changedAt := if t = 0 then rest else rest ++ [(nsid, idx, t)] } }

/-- A listed zone is a reclaim unit of an FDP namespace (R104). -/
def isUnit (s : State) (z : Zone) : Bool :=
  ((nsOf s z.nsid).map (·.fdp)).getD false

/-- Put a zone into the list in NSID and index order. -/
def insertZone (z : Zone) : List Zone → List Zone
  | [] => [z]
  | y :: ys =>
    if z.nsid < y.nsid ∨ (z.nsid = y.nsid ∧ z.idx < y.idx) then z :: y :: ys
    else if z.nsid = y.nsid ∧ z.idx = y.idx then z :: ys
    else y :: insertZone z ys

/-- Replace a zone; an Empty zone is not listed (R84). -/
def setZone (z : Zone) (s : State) : State :=
  let l := if z.st = .empty then s.hs.zones.filter (fun y => !(y.nsid == z.nsid && y.idx == z.idx))
    else insertZone z s.hs.zones
  tideRecord { s with hs := { s.hs with zones := l } }

/-- Number of a zone in the zone map: the zones of lower NSIDs come first (log 10). -/
def zoneNumber (s : State) (nsid idx : Nat) : Nat :=
  sumOf ((s.hs.ns.filter fun n => decide (n.nsid < nsid)).map (·.zones)) + idx

/-- HBM offset of a zone's map entry: 256 bytes per zone from 27 GiB (Table 5.1). -/
def zoneMapAddr (s : State) (nsid idx : Nat) : Nat := 27 * gib + 256 * zoneNumber s nsid idx

/-- HBM offset of an FDP LBA's map entry: 4 bytes per LBA from 16 GiB; the FDP namespaces of lower NSIDs come first
(Table 5.1, log 10). -/
def fdpMapAddr (s : State) (nsid lba : Nat) : Nat :=
  16 * gib + 4 * (sumOf ((s.hs.ns.filter fun n => decide (n.nsid < nsid)).map (·.lbas)) + lba)

/-! ### Tenants (R108 to R111) -/

/-- The tenant table in force. -/
def tenantTable (s : State) : List Byte :=
  if s.bw.tenants = [] then takePad 4096 tenantDefault else s.bw.tenants

/-- Entry t of a tenant table (Table 3.8). -/
def tenantEntry (tbl : List Byte) (t : Nat) : Tenant :=
  let e := (tbl.drop (16 * t)).take 16
  let f := (e.getD 0 0).toNat
  { enabled := bitOf f 0, suspendRight := bitOf f 1, readShare := ofBytes ((e.drop 2).take 2),
    progShare := ofBytes ((e.drop 4).take 2), openLimit := ofBytes ((e.drop 6).take 2),
    activeLimit := ofBytes ((e.drop 8).take 2) }

/-- Tenant t in force. -/
def tenant (s : State) (t : Nat) : Tenant := tenantEntry (tenantTable s) t

/-- The tenant of a namespace (Table 3.7). -/
def tenantOfNs (s : State) (nsid : Nat) : Nat := (s.bw.nsMap.getD (nsid - 1) 0).toNat

/-- The tenant of a queue pair (Table 3.7). -/
def tenantOfQueue (s : State) (p : PortId) (qid : Nat) : Nat :=
  ((s.bw.queueMaps.getD p.val []).getD (qid - 1) 0).toNat

/-- A zone that counts as open (R86). -/
def Zone.isOpen (z : Zone) : Bool :=
  z.st == .implicitOpen || z.st == .explicitOpen || z.st == .recallTarget

/-- A zone that counts as active (R86). -/
def Zone.isActive (z : Zone) : Bool := z.isOpen || z.st == .closed

/-- Open zones, of the device or of one tenant. -/
def openCount (s : State) (t : Option Nat) : Nat :=
  (s.hs.zones.filter fun z => z.isOpen && !isUnit s z && (t.isNone || t == some (tenantOfNs s z.nsid))).length

/-- Active zones, of the device or of one tenant. -/
def activeCount (s : State) (t : Option Nat) : Nat :=
  (s.hs.zones.filter fun z => z.isActive && !isUnit s z && (t.isNone || t == some (tenantOfNs s z.nsid))).length

/-- An active slot is free: the device limit, then the tenant limit (R86, R88). -/
def activeFree (s : State) (nsid : Nat) : Bool :=
  decide (activeCount s none < 8192) &&
    decide (activeCount s (some (tenantOfNs s nsid)) < (tenant s (tenantOfNs s nsid)).activeLimit)

/-- An open slot is free (R86, R88). -/
def openFree (s : State) (nsid : Nat) : Bool :=
  decide (openCount s none < 4096) &&
    decide (openCount s (some (tenantOfNs s nsid)) < (tenant s (tenantOfNs s nsid)).openLimit)

/-! ### Volumes, dies and blocks -/

/-- Channel of a volume port (R127). -/
def channelOf (port : Nat) : Nat := port / 8

/-- Lane set of a volume port (R127). -/
def laneOf (port : Nat) : Nat := port / 128

/-- Channel position of a volume port (R127). -/
def posOf (port : Nat) : Nat := port / 8 % 16

/-- A volume that is not absent. -/
def volOf (s : State) (port : Nat) : Option Vol := s.flash.vols.find? fun v => v.port == port

/-- A die of a volume. -/
def dieOf (s : State) (port i : Nat) : Option Die := (volOf s port).bind fun v => v.dies[i]?

/-- Change one volume. -/
def modVol (port : Nat) (f : Vol → Vol) (s : State) : State :=
  { s with flash := { s.flash with vols := modWhere (fun v => v.port == port) f s.flash.vols } }

/-- Change one die. -/
def modDie (port i : Nat) (f : Die → Die) (s : State) : State :=
  modVol port (fun v => { v with dies := modNth v.dies i f }) s

/-- A die in service. -/
def dieLive (s : State) (port i : Nat) : Bool :=
  match volOf s port, dieOf s port i with
  | some v, some d => v.st == .inService && !v.retiring && d.inService && !d.failed
  | _, _ => false

/-- A die that may still be read: in service, or of a retiring volume, which is read for its rebuild (R172). -/
def dieReadable (s : State) (port i : Nat) : Bool :=
  match volOf s port, dieOf s port i with
  | some v, some d => (v.st == .inService || v.retiring) && d.inService && !d.failed
  | _, _ => false

/-- Good blocks of a die (R163). -/
def Die.good (d : Die) : List Nat :=
  (List.range d.blocks).filter fun k => !d.factoryBad.contains k && !d.grown.contains k

/-- Blocks of a die that members of zones occupy. -/
def boundBlocks (s : State) (port i : Nat) : List Nat :=
  s.hs.zones.flatMap fun z => (z.members.filter fun m => m.port == port && m.die == i && !m.lost).map (·.block)

/-- Free zone blocks of a die: the zone blocks are its lowest good blocks, and a spare block stands in for a grown bad
one (R137, R142, R163; log 11). -/
def freeBlocks (s : State) (port i : Nat) : List Nat :=
  match dieOf s port i with
  | some d =>
    if dieLive s port i then
      (d.good.take d.zoneBlocks).filter fun k => !(boundBlocks s port i).contains k && !d.eraseDue.contains k
    else []
  | none => []

/-- Erase count of a block. -/
def Die.eraseCount (d : Die) (k : Nat) : Nat := d.eraseBase + (getKey k d.eraseCounts).getD 0

/-- One more erase of a block. -/
def Die.erasedNow (k : Nat) (d : Die) : Die := { d with eraseCounts := putKey k ((getKey k d.eraseCounts).getD 0 + 1) d.eraseCounts }

/-- A block whose old content is no longer wanted is erased: at once, or, with a read of it on the array, when that read has
ended (R84, R160). -/
def Die.erased (k : Nat) (d : Die) : Die :=
  if d.op.any fun o => o.kind == .read && o.block == k then { d with eraseDue := d.eraseDue.filter (· != k) ++ [k] }
  else d.erasedNow k

/-- Erase the blocks due whose reads have ended. -/
def Die.eraseDueNow (d : Die) : Die :=
  let wait := fun k : Nat => d.op.any fun o => o.kind == .read && o.block == k
  { (d.eraseDue.filter fun k => !wait k).foldl (fun e k => e.erasedNow k) d with eraseDue := d.eraseDue.filter wait }

/-- The free block with the lowest erase count, the lower number first (R137 step 3). -/
def bestBlock (s : State) (port i : Nat) : Option Nat :=
  match dieOf s port i with
  | none => none
  | some d => (freeBlocks s port i).foldl (fun best k =>
      match best with
      | none => some k
      | some b => if d.eraseCount k < d.eraseCount b then some k else some b) none

/-- Volume ports of a channel. -/
def channelPorts (c : Nat) : List Nat := (List.range 8).map (8 * c + ·)

/-- Dies of a channel, volume by volume: port and index. -/
def channelDies (s : State) (c : Nat) : List (Nat × Nat) :=
  (channelPorts c).flatMap fun p =>
    match volOf s p with
    | some v => (List.range v.dies.length).map fun i => (p, i)
    | none => []

/-- The die of a channel with the most free zone blocks, the lower one first (R137 step 2, R166). -/
def roomiestDie (s : State) (c : Nat) : Option (Nat × Nat) :=
  (channelDies s c).foldl (fun best d =>
    let n := (freeBlocks s d.1 d.2).length
    match best with
    | none => if 0 < n then some d else none
    | some b => if (freeBlocks s b.1 b.2).length < n then some d else some b) none

/-- Dies of a volume that the part may use: those beyond index 1 are excluded on a grade S part, reason 01h (R3). -/
def Vol.usable (v : Vol) : Nat := (v.dies.filter fun d => d.reason != 1).length

/-- Dies per volume of a lane set: of its lowest in-service volume. -/
def diesPerVolume (s : State) (lane : Nat) : Nat :=
  ((s.flash.vols.find? fun v => laneOf v.port == lane && v.st == .inService).map Vol.usable).getD 0

/-- Volumes per channel of a lane set: the most that a channel's in-service volumes span, by place, so that a die row keeps its
number when a volume of it fails (R137). -/
def volumesPerChannel (s : State) (lane : Nat) : Nat :=
  maxOf ((s.flash.vols.filter fun v => laneOf v.port == lane && (v.st == .inService || v.st == .failed || v.st == .retired)).map
    fun v => v.port % 8 + 1)

/-- Dies per channel of a lane set that tier format finds in service: the fewest over its 16 channels (R142). -/
def diesPerChannel (s : State) (lane : Nat) : Nat :=
  minOf 0 ((List.range 16).map fun c =>
    sumOf ((s.flash.vols.filter fun v => v.st == .inService && channelOf v.port == 16 * lane + c).map fun v =>
      (v.dies.filter fun d => d.inService && !d.failed).length))

/-- Open zones of a lane set. -/
def laneOpen (s : State) (lane : Nat) : Nat := (s.hs.zones.filter fun z => z.isOpen && z.lane == lane).length

/-- Open zones of a die row. -/
def rowOpen (s : State) (lane row : Nat) : Nat :=
  (s.hs.zones.filter fun z => z.isOpen && z.lane == lane && z.row == row).length

/-- The first member of a list with the least measure. -/
def argMin (f : Nat → Nat) : List Nat → Option Nat
  | [] => none
  | a :: as => some (as.foldl (fun b x => if f x < f b then x else b) a)

/-- Lane sets in service in which every channel has a free zone block (R137 step 1). -/
def bindableLanes (s : State) : List Nat :=
  (List.range 8).filter fun l =>
    bitOf s.flash.laneSets l && (List.range 16).all fun c => (roomiestDie s (16 * l + c)).isSome

/-- The member of a channel for a die row (R137 steps 2 and 3). -/
def memberFor (s : State) (lane row c : Nat) : Option Member :=
  let d := diesPerVolume s lane
  let p := 8 * (16 * lane + c) + row / d
  let pick := match bestBlock s p (row % d) with
    | some k => some (p, row % d, k)
    | none => (roomiestDie s (16 * lane + c)).bind fun x => (bestBlock s x.1 x.2).map fun k => (x.1, x.2, k)
  pick.map fun x => { port := x.1, die := x.2.1, block := x.2.2, since := nowNs s }

/-- Bind a zone to 16 blocks of one lane set (R137, R138): the zone with its members, bind number and parity position,
and the state with the next bind number and parity position; none when no block can be bound (R144). -/
def bindZone (z : Zone) (s : State) : Option (Zone × State) :=
  match argMin (laneOpen s) (bindableLanes s) with
  | none => none
  | some lane =>
    let rows := List.range (volumesPerChannel s lane * diesPerVolume s lane)
    match argMin (rowOpen s lane) rows with
    | none => none
    | some row =>
      let ms := (List.range 16).filterMap (memberFor s lane row)
      if ms.length = 16 then
        let par := s.flash.parityNext.getD lane 0
        some ({ z with lane := lane, row := row, parity := par, members := ms, bind := s.flash.bindNext, flashed := 0, ack := 0,
                       placed := 0, rowBusy := [], data := [], lastSeq := 0 },
          { s with
            flash := { s.flash with
              bindNext := (s.flash.bindNext + 1) % 2 ^ 32
              parityNext := s.flash.parityNext.set lane ((par + 1) % 16) } })
      else none

/-- Release a zone's blocks: each is erased before its next use (R84, R137). -/
def unbind (z : Zone) (s : State) : State :=
  z.members.foldl (fun t m => if m.lost then t else modDie m.port m.die (Die.erased m.block) t) s

/-! ### Archive objects -/

/-- An archive object by identifier. -/
def objOf (s : State) (id : Nat) : Option Obj := s.ebb.objs.find? fun o => o.oid == id

/-- Change one object. -/
def modObj (id : Nat) (f : Obj → Obj) (s : State) : State :=
  tideRecord { s with ebb := { s.ebb with objs := modWhere (fun o => o.oid == id) f s.ebb.objs } }

/-- Discard every sealed plan not started, and the plan being built, that holds an object (R212). -/
def discardPlansOf (id : Nat) (s : State) : State :=
  let holds := fun p : Plan => p.extents.any fun e => e.obj == id
  { s with
    ebb := { s.ebb with
      plans := s.ebb.plans.filter (fun p => !holds p)
      building := match s.ebb.building with
        | some p => if holds p then none else some p
        | none => none } }

/-- Retire a Queued object: it leaves the drain queue and its identifier is never used again (R70, R71). -/
def retireObj (id : Nat) (s : State) : State :=
  let s1 := discardPlansOf id s
  tideRecord { s1 with
    ebb := { s1.ebb with
      queue := s1.ebb.queue.filter (· != id)
      objs := s1.ebb.objs.filter (fun o => o.oid != id) } }

/-- An Archived-Resident object becomes Released: it belongs to no zone (R90, Table 2.14). -/
def releaseObj (id : Nat) (s : State) : State :=
  modObj id (fun o => { o with arch := .released, nsid := 0, changed := nowNs s }) s

/-- An Inscribing object whose content an adoption of the tier has taken: it names no namespace (R528). -/
def Obj.contentGone (o : Obj) : Bool :=
  o.arch == .inscribing && o.nsid == 0

/-! ### Transitions -/

/-- Event 047 or 048 of a zone (R99); a reclaim unit is no zone. -/
def zoneEvent (ev : Nat) (z : Zone) (s : State) : State :=
  if isUnit s z then s else raise ev 0 (evBytes 4 z.nsid ++ evBytes 4 z.idx) s

/-- Time of the last archive state change of a zone whose content leaves now (R100). -/
def Zone.changeNow (s : State) (z : Zone) : Nat :=
  if z.arch = .resident ∧ z.st ≠ .recallTarget then z.changed else nowNs s

/-- A zone becomes Empty: its blocks are unbound and erased, its object, if Archived-Resident, is Released (R84, R90). -/
def emptyZone (z : Zone) (s : State) : State :=
  let s1 := if z.arch = .archivedResident then releaseObj z.obj s else s
  setZone { nsid := z.nsid, idx := z.idx } (noteChange z.nsid z.idx (z.changeNow s) (unbind z s1))

/-- A zone becomes Full with Resident content (R90). -/
def fillZone (z : Zone) (s : State) : State :=
  setZone { z with st := .full, arch := .resident } s

/-- A zone goes Offline: its blocks are unbound; a Queued object is retired, an Archived-Resident one Released
(Tables 3.3 and 3.4). -/
def offlineZone (z : Zone) (s : State) : State :=
  let s1 := match z.arch with
    | .queued => retireObj z.obj s
    | .archivedResident => releaseObj z.obj s
    | _ => s
  setZone { nsid := z.nsid, idx := z.idx, st := .offline, changed := z.changeNow s } (unbind z s1)

/-- The object that leaves with a zone's content keeps nothing in the zone. -/
def clearObject (z : Zone) : Zone :=
  { z with obj := 0, objLbas := 0, setId := 0, setK := 0, affinity := 0, realloc := false }

/-- Blocks of a zone can no longer be programmed safely (Table 3.4): event 047. -/
def readOnlyZone (z : Zone) (s : State) : State :=
  match z.st with
  | .implicitOpen | .explicitOpen | .closed | .full => zoneEvent 47 z (setZone { z with st := .readOnly } s)
  | _ => s

/-- A zone's content is lost beyond stripe recovery (Table 3.4): event 048. A zone in Inscribing stays; a recall target
takes new blocks and its recall restarts from the first frame. -/
def contentLost (z : Zone) (s : State) : State :=
  match z.st with
  | .empty | .offline => s
  | .recallTarget =>
    match bindZone z (unbind z s) with
    | some (z', s') =>
      let s2 := setZone { z' with wp := 0, ack := 0, flashed := 0, placed := 0, data := [] } s'
      { s2 with
        ebb := { s2.ebb with
          recalls := modWhere (fun r => r.nsid == z.nsid && r.zone == z.idx) (fun r => { r with frames := 0 }) s2.ebb.recalls } }
    | none => s
  | _ =>
    if z.arch = .inscribing then s
    else zoneEvent 48 z (offlineZone z s)

/-- Outcome of a command on a zone before slots are sought (Table 3.3). -/
inductive ZMove where
  | same | toImplicit | toExplicit | toClosed | toFull | toEmpty | toQueued | toResident | toOffline | toRecall
  deriving DecidableEq, Repr

/-- The columns of Table 3.3. -/
inductive ZCol where
  | write | open | close | finish | reset | offline | archive | cancel | recall
  deriving DecidableEq, Repr

/-- Table 3.3: the status or the move of a command on a zone. -/
def table33 (z : Zone) (c : ZCol) : Except Status ZMove :=
  match z.st with
  | .empty =>
    match c with
    | .write => .ok .toImplicit
    | .open => .ok .toExplicit
    | .finish => .ok .toFull
    | .reset => .ok .same
    | .recall => .ok .toRecall
    | _ => .error .invalidTransition
  | .implicitOpen =>
    match c with
    | .write => .ok .same
    | .open => .ok .toExplicit
    | .close => .ok .toClosed
    | .finish => .ok .toFull
    | .reset => .ok .toEmpty
    | _ => .error .invalidTransition
  | .explicitOpen =>
    match c with
    | .write => .ok .same
    | .open => .ok .same
    | .close => .ok .toClosed
    | .finish => .ok .toFull
    | .reset => .ok .toEmpty
    | _ => .error .invalidTransition
  | .closed =>
    match c with
    | .write => .ok .toImplicit
    | .open => .ok .toExplicit
    | .close => .ok .same
    | .finish => .ok .toFull
    | .reset => .ok .toEmpty
    | _ => .error .invalidTransition
  | .full =>
    match z.arch, c with
    | .queued, .cancel => .ok .toResident
    | .queued, .recall => .error .invalidTransition
    | .queued, _ => .error .zoneArchiving
    | .inscribing, .recall => .error .invalidTransition
    | .inscribing, _ => .error .zoneArchiving
    | _, .write => .error .zoneFull
    | _, .finish => .ok .same
    | _, .reset => .ok .toEmpty
    | .archivedResident, _ => .error .invalidTransition
    | _, .archive => if z.wp = 0 then .error .invalidTransition else .ok .toQueued
    | _, _ => .error .invalidTransition
  | .recallTarget =>
    match c with
    | .recall => .error .invalidTransition
    | _ => .error .zoneArchiving
  | .readOnly =>
    match c with
    | .write | .open | .close | .finish | .reset => .error .zoneReadOnly
    | .recall => .error .invalidTransition
    | .offline =>
      match z.arch with
      | .queued | .inscribing => .error .zoneArchiving
      | _ => .ok .toOffline
    | .archive =>
      match z.arch with
      | .queued | .inscribing => .error .zoneArchiving
      | .archivedResident => .error .invalidTransition
      | _ => if z.wp = 0 then .error .invalidTransition else .ok .toQueued
    | .cancel =>
      match z.arch with
      | .queued => .ok .toResident
      | .inscribing => .error .zoneArchiving
      | _ => .error .invalidTransition
  | .offline =>
    match c with
    | .offline => .ok .same
    | _ => .error .zoneOffline

/-- Close the tenant's least recently written Implicitly Opened zone (R88); a zone with nothing written becomes Empty
(Table 3.3 note 3). -/
def closeLeastRecent (nsid : Nat) (s : State) : Option State :=
  let t := tenantOfNs s nsid
  let mine := s.hs.zones.filter fun z => z.st == .implicitOpen && !isUnit s z && tenantOfNs s z.nsid == t
  match mine with
  | [] => none
  | z :: zs =>
    let v := zs.foldl (fun b x => if x.used < b.used then x else b) z
    some (if v.wp = 0 then emptyZone v s else setZone { v with st := .closed } s)

/-- Take the slots a transition needs (R88): the state with room, or the status. autoClose is the rule for a Write or Zone
Append that implicitly opens a zone. -/
def takeSlots (nsid : Nat) (needActive autoClose : Bool) (s : State) : Except Status State :=
  if needActive ∧ activeFree s nsid = false then .error .tooManyActive
  else if openFree s nsid then .ok s
  else if autoClose then
    match closeLeastRecent nsid s with
    | some s' => if openFree s' nsid then .ok s' else .error .tooManyOpen
    | none => .error .tooManyOpen
  else .error .tooManyOpen

/-- Open a zone into state st: slots, then blocks for an Empty zone (R84, R88, R144). -/
def openZone (z : Zone) (st : ZState) (autoClose : Bool) (s : State) : Except Status (Zone × State) :=
  if z.st = .implicitOpen ∨ z.st = .explicitOpen then
    .ok ({ z with st := st }, s)
  else match takeSlots z.nsid (z.st == .empty) autoClose s with
    | .error e => .error e
    | .ok s1 =>
      if z.st = .empty then
        match bindZone { z with st := st, arch := .resident } s1 with
        | some r => .ok r
        | none => .error .capacityExceeded
      else .ok ({ z with st := st }, s1)

end Sys2Proof.Machine
end

