-- ==== Sys2Proof/Machine/Breakwater.lean ====
section
/-! DEFINITION. Breakwater (R108 to R120, R489, R490): the budgets in force, credits, the start, suspend and resume of
array operations. -/

namespace Sys2Proof.Machine

open Sys2Proof

/-- The activity class with the place n of 2220h.01 to .07. -/
def classOf (n : Nat) : ActClass :=
  match n with
  | 0 => .hostRead
  | 1 => .hostProgram
  | 2 => .erase
  | 3 => .drainRead
  | 4 => .refresh
  | 5 => .scrub
  | _ => .system

/-- The place of an activity class in 2220h. -/
def ActClass.place : ActClass → Nat
  | .hostRead => 0
  | .hostProgram => 1
  | .erase => 2
  | .drainRead => 3
  | .refresh => 4
  | .scrub => 5
  | .system => 6

/-- Profile n of object 4800h: eight UNSIGNED16 values; none when absent (R117). -/
def profileOf (s : State) (n : Nat) : Option (List Nat) :=
  let b := ((dom s 0x4800 0).drop (16 * (n - 1))).take 16
  if n = 0 ∨ b.length < 16 then none
  else some ((List.range 8).map fun i => ofBytes ((b.drop (2 * i)).take 2))

/-- The eight budget values of 2220h.01 to .08. -/
def ownBudgets (s : State) : List Nat := (List.range 8).map fun i => num s 0x2220 (i + 1)

/-- The eight values the active profile selects (R117). A profile is checked when it is selected, not when 4800h is written
under it: a boundary takes the content it then finds, and 2220h.01 to .08 when the profile is no longer there (DESIGN CHOICE,
log 131). -/
def selectedBudgets (s : State) : List Nat :=
  let n := num s 0x2220 0x0A
  if n = 0 then ownBudgets s else (profileOf s n).getD (ownBudgets s)

/-- The sums of R115 stay within 1,000 µs. -/
def budgetsFit (l : List Nat) : Bool :=
  decide (sumOf (l.take 7) ≤ 1000) && decide (sumOf (l.take 6) + l.getD 7 0 ≤ 1000)

/-- Each value of a profile lies in its range (Table 3.9, R117). -/
def budgetsInRange (l : List Nat) : Bool :=
  l.length == 8 && l.all (fun v => decide (v ≤ 1000)) && decide (10 ≤ l.getD 6 0) && decide (10 ≤ l.getD 7 0)

/-- The caps on host program and host read, and that lending is off, in the present state (R489, R490, R514). -/
def capsOf (s : State) : Option (Nat × Nat) :=
  if s.pwr.ps = 2 then some (50, 100)
  else if s.pwr.ps = 1 ∨ s.pwr.thermalCap then some (100, 200)
  else none

/-- A map region is missing or being rebuilt (R124). -/
def rebuildingAny (s : State) : Bool :=
  s.hs.regions != [] || s.hs.promoted != [] || s.hs.rebuilding != []

/-- The budgets a period boundary puts in force (R115, R117, R124, R489, R490). -/
def budgetsAt (s : State) : List Nat :=
  let l := selectedBudgets s
  let sys := if rebuildingAny s then l.getD 7 0 else l.getD 6 0
  match capsOf s with
  | some c => (l.take 6 ++ [sys]).set 0 (min (l.getD 0 0) c.2) |>.set 1 (min (l.getD 1 0) c.1)
  | none => l.take 6 ++ [sys]

/-- Lending at a period boundary (R116, R489). -/
def lendingAt (s : State) : Bool := num s 0x2220 9 == 1 && (capsOf s).isNone

/-- Credit of a class on a die [core cycles]. -/
def Die.credit (d : Die) (c : ActClass) : Int := d.credits.getD c.place 0

/-- Subtract busy time from a class's credit (R113). -/
def Die.charge (d : Die) (c : ActClass) (n : Nat) : Die :=
  let l := if d.credits = [] then List.replicate 7 0 else d.credits
  { d with credits := l.set c.place (l.getD c.place 0 - n) }

/-- Busy time of a tenant in a class within this period (R110). -/
def Die.used (d : Die) (cls t : Nat) : Nat :=
  sumOf ((d.tenantUse.filter fun u => u.1 == cls && u.2.1 == t).map (·.2.2))

/-- Charge the running operation's time up to now (R113, R116); lent time is charged to no credit. -/
def Die.accrue (now : Nat) (d : Die) : Die :=
  match d.op with
  | none => d
  | some o =>
    let n := now - o.charged
    let d1 := if o.lent ∨ o.admin then d else d.charge o.cls n
    { d1 with op := some { o with charged := now }, tenantUse := (o.cls.place, o.tenant, n) :: d.tenantUse }

/-- Credits at a boundary: min(credit + budget, budget) (R112). -/
def Die.refill (budgets : List Nat) (d : Die) : Die :=
  let l := if d.credits = [] then List.replicate 7 0 else d.credits
  { d with
    credits := (List.range 7).map fun i => min (l.getD i 0 + (usCycles (budgets.getD i 0) : Nat)) (usCycles (budgets.getD i 0) : Nat)
    tenantUse := [] }

/-- Change every die. -/
def modDies (f : Die → Die) (s : State) : State :=
  { s with flash := { s.flash with vols := s.flash.vols.map fun v => { v with dies := v.dies.map f } } }

/-- The tenant object and the budgets written take effect, and every class's credit on every die is refilled (R108, R112,
R113, R115, R124, R489). -/
def takeBudgets (s : State) : State :=
  let bs := budgetsAt s
  let s1 := modDies (fun d => Die.refill bs (Die.accrue s.clock d)) s
  { s1 with
    bw := { s1.bw with
      budgets := bs
      rebuildBudget := (selectedBudgets s).getD 7 0
      lending := lendingAt s
      tenants := dom s 0x2210 1
      queueMaps := [dom s 0x2210 2, dom s 0x2210 3, dom s 0x2210 4, dom s 0x2210 5]
      nsMap := dom s 0x2210 6 } }

/-- BUDGET_PERIOD_BOUNDARY (R108, R112). -/
def execBudgetPeriodBoundary (s : State) : Host.Outcome State Fault Refusal :=
  let s1 := takeBudgets s
  .next { s1 with bw := { s1.bw with periods := s.bw.periods + 1 } }

/-! ### Starting operations -/

/-- Operations waiting on a die, first in, first out. -/
def waitingOn (s : State) (port die : Nat) : List FlashOp :=
  (s.bw.waiting.filter fun w => w.port == port && w.die == die).map (·.op)

/-- Order of reads waiting on one die (R118). -/
def readRank (s : State) (o : FlashOp) : Nat :=
  match o.cls with
  | .hostRead => if (tenant s o.tenant).suspendRight then 0 else 1
  | .drainRead => 2
  | .refresh => 3
  | .scrub => 4
  | _ => 5

/-- An operation waits on a die in a class with positive credit (R116). -/
def positiveWaiter (s : State) (port die : Nat) (d : Die) : Bool :=
  (waitingOn s port die).any fun w => !w.spare && decide (0 < d.credit w.cls)

/-- How an operation of a class may start on a die: charged, lent or not at all (R114, R116). -/
def startMode (s : State) (port die : Nat) (d : Die) (cls : ActClass) : Option Bool :=
  if 0 < d.credit cls then some false
  else if s.bw.lending ∧ positiveWaiter s port die d = false then some true
  else none

/-- A read waiting on the die goes first: one of higher rank that could start, or an earlier one among the host reads of tenants
with suspend right (R118). -/
def outranked (s : State) (port die : Nat) (d : Die) (o : FlashOp) : Bool :=
  let l := waitingOn s port die
  let before := l.takeWhile fun w => w != o
  (l.any fun w => w.kind == .read && decide (readRank s w < readRank s o) && (startMode s port die d w.cls).isSome) ||
    (readRank s o == 0 && before.any fun w => w.kind == .read && readRank s w == 0 && (startMode s port die d w.cls).isSome)

/-- A tenant of the class still has its share unused while another tenant's operation waits on the die; unused time goes to
the others in order of their shares (R110). -/
def shareTurn (s : State) (port die : Nat) (d : Die) (cls : ActClass) (tn : Nat) : Bool :=
  if cls ≠ .hostRead ∧ cls ≠ .hostProgram then true
  else
    let share := fun t => if cls = .hostRead then (tenant s t).readShare else (tenant s t).progShare
    let left := fun t => decide (d.used cls.place t < usCycles (s.bw.budgets.getD cls.place 0) * share t / 1000)
    let others := ((waitingOn s port die).filter fun w => w.cls == cls && w.tenant != tn).map (·.tenant)
    if left tn then true
    else others.all fun t => !left t && decide (share t ≤ share tn)

/-- Array operations may start at all: the device runs, outside Harbour; during a dip only reads (R147, R539). -/
def arrayOpen (s : State) (k : OpKind) : Bool :=
  s.phase == .running && decide (s.pwr.ps < 3) && (k == .read || !s.sup.dip)

/-- A die takes operations of a kind: reads also while its volume is retiring (R172). -/
def dieTakes (s : State) (port die : Nat) (k : OpKind) : Bool :=
  if k = .read then dieReadable s port die else dieLive s port die

/-- Whether an operation may start now on a die (R114, R118, R120, R153): charged or lent. -/
def mayStart (s : State) (port die : Nat) (d : Die) (o : FlashOp) : Option Bool :=
  if arrayOpen s o.kind = false ∨ dieTakes s port die o.kind = false ∨ d.op.isSome then none
  else if o.kind ≠ .read ∧ d.susp.isSome then none
  else if o.kind = .read ∧ d.susp.isSome ∧ d.setFeatSusp = false ∧ d.loaded ≠ o.level then none
  else if o.kind = .read ∧ outranked s port die d o then none
  else if o.spare then (if positiveWaiter s port die d then none else some true)
  else if shareTurn s port die d o.cls o.tenant = false then none
  else startMode s port die d o.cls

/-- Kind of operation n. -/
def kindOf (n : Nat) : OpKind :=
  match n with
  | 0 => .read
  | 1 => .program
  | _ => .erase

/-- Add an operation to those waiting. -/
def addWait (port die : Nat) (o : FlashOp) (s : State) : State :=
  { s with bw := { s.bw with waiting := s.bw.waiting ++ [{ port := port, die := die, op := o }] } }

/-- Remove the first waiting entry of an operation. -/
def unwait (port die : Nat) (o : FlashOp) (s : State) : State :=
  { s with bw := { s.bw with waiting := s.bw.waiting.erase { port := port, die := die, op := o } } }

/-- Count n reads of a member block (R158); one whose count crosses 2440h.01 is queued for refresh (R159). -/
def countReads (n port die block : Nat) (s : State) : State :=
  let hit := fun m : Member => m.port == port && m.die == die && m.block == block
  let up := fun m : Member => { m with reads := m.reads + n, refresh := m.refresh || decide (num s 0x2440 1 < m.reads + n) }
  touchLine (tableAddr port die block) true { s with
    hs := { s.hs with
      zones := s.hs.zones.map fun z => { z with members := modWhere hit up z.members } } }

/-- Put an operation on a die's array (R113): a read loads its read-level set (R152). -/
def startOp (port die : Nat) (o : FlashOp) (s : State) : State :=
  let put := fun d : Die =>
    { d with
      op := some { o with started := s.clock, charged := s.clock }
      loaded := if o.kind = .read then o.level else d.loaded }
  let s1 := modDie port die put s
  if o.kind = .read then countReads 1 port die o.block s1 else s1

/-- Start an operation on a die, or let it wait there (R114). -/
def requestOp (port die : Nat) (o : FlashOp) (s : State) : State :=
  match dieOf s port die with
  | none => s
  | some d =>
    match mayStart s port die d o with
    | some lent => startOp port die { o with lent := lent } s
    | none => if dieTakes s port die o.kind then addWait port die o s else s

/-- The operation that asks to start: one that waits on the die for the same block, else a new one. What reclaims an FDP
namespace's space is charged to the host-program class of that namespace's tenant (R107). -/
def askedOp (s : State) (port die op cls tn level block reclaim : Nat) : FlashOp :=
  match (waitingOn s port die).find? fun w => w.kind == kindOf op && w.block == block && w.reclaim == reclaim with
  | some w => w
  | none =>
    if reclaim = 0 then { kind := kindOf op, cls := classOf cls, tenant := tn, level := level, block := block }
    else { kind := kindOf op, cls := .hostProgram, tenant := tenantOfNs s reclaim, level := level, block := block, reclaim := reclaim }

/-- FLASH_OPERATION_START (R107, R110, R113, R114, R116, R118, R120, R153): the operation starts, or it waits. -/
def execFlashOperationStart (port die op cls tenant level block reclaim : Nat) (s : State) : Host.Outcome State Fault Refusal :=
  if reclaim ≠ 0 ∧ ((nsOf s reclaim).map (·.fdp)).getD false = false then .next s
  else
    let o := askedOp s port die op cls tenant level block reclaim
    match dieOf s port die with
    | none => .next s
    | some d =>
      match mayStart s port die d o with
      | some lent => .next (startOp port die { o with lent := lent } (unwait port die o s))
      | none =>
        if dieTakes s port die o.kind ∧ (waitingOn s port die).contains o = false then .next (addWait port die o s) else .next s

/-- A host read of a tenant with suspend right waits on a die (R119). -/
def rightWaits (s : State) (port die : Nat) : Bool :=
  (waitingOn s port die).any fun w => w.kind == .read && w.cls == .hostRead && (tenant s w.tenant).suspendRight

/-- A program or erase may be suspended (R119, R120). -/
def maySuspend (s : State) (port die : Nat) (d : Die) (o : FlashOp) : Bool :=
  o.kind != .read && d.suspendable && d.susp.isNone &&
    decide (usCycles (if o.forced then 100 else 20) ≤ s.clock - o.started) &&
    decide (o.suspends < 16) && rightWaits s port die

/-- PROGRAM_SUSPEND (R119, R120). -/
def execProgramSuspend (port die : Nat) (s : State) : Host.Outcome State Fault Refusal :=
  match dieOf s port die with
  | none => .next s
  | some d =>
    match d.op with
    | none => .next s
    | some o =>
      if maySuspend s port die d o then
        let o1 : FlashOp := { o with suspends := o.suspends + 1, charged := s.clock, suspendedFor := s.clock }
        .next (modDie port die (fun d => { d.accrue s.clock with op := none, susp := some o1 }) s)
      else .next s

/-- Put a die's suspended operation back on its array (R119). -/
def Die.resume (now : Nat) (forced : Bool) (d : Die) : Die :=
  match d.susp with
  | some o => { d with susp := none, op := some { o with started := now, charged := now, forced := forced, suspendedFor := 0 } }
  | none => d

/-- A suspended operation is to go on: no such read waits, or 400 µs have passed since it was suspended (R119). -/
def resumeDue (s : State) (port die : Nat) (d : Die) : Bool :=
  !rightWaits s port die || (d.susp.map fun o => decide (usCycles 400 ≤ s.clock - o.suspendedFor)).getD false

/-- PROGRAM_RESUME (R119): the suspended operation goes on once no read is on the array; while such reads still wait the
resume is a forced one. -/
def execProgramResume (port die : Nat) (s : State) : Host.Outcome State Fault Refusal :=
  match dieOf s port die with
  | none => .next s
  | some d =>
    .next (if d.op.isNone ∧ resumeDue s port die d then modDie port die (Die.resume s.clock (rightWaits s port die)) s else s)

/-! ### Work that the device does in one step of the model (R114, R157, R160, R166, R195) -/

/-- Charge cycles of work to a class on a die, unless it is lent (R113, R116). -/
def chargeWork (port die : Nat) (cls : ActClass) (n : Nat) (lent : Bool) (s : State) : State :=
  if lent then s else modDie port die (fun d => d.charge cls n) s

/-- Work of a class may start on a die: as an operation of that kind may (R114). -/
def workStart (s : State) (port die : Nat) (k : OpKind) (cls : ActClass) (tn : Nat) : Option Bool :=
  (dieOf s port die).bind fun d => mayStart s port die d { kind := k, cls := cls, tenant := tn, level := d.loaded }

end Sys2Proof.Machine
end

