-- ==== Sys2Proof/Machine/Flash.lean ====
section
/-! DEFINITION. The flash tier's own operations (R126 to R173): failures of dies, volumes and channels, bad blocks and
spares, read-level learning, what a read's recovery leads to, tier format, adoption and retirement. -/

namespace Sys2Proof.Machine

open Sys2Proof

/-! ### Tier record (R585) -/

/-- The tier record's entry of a volume port; an unlisted port is recorded absent. -/
def portRec (s : State) (port : Nat) : PortRec :=
  (s.tide.ports.find? fun r => r.port == port).getD { port := port }

/-- Put an entry in volume port order. -/
def insertPort (r : PortRec) : List PortRec → List PortRec
  | [] => [r]
  | q :: qs => if r.port < q.port then r :: q :: qs else if r.port = q.port then r :: qs else q :: insertPort r qs

/-- Record a volume port (R585). -/
def recordPort (r : PortRec) (s : State) : State :=
  tideRecord { s with tide := { s.tide with ports := insertPort r s.tide.ports } }

/-! ### Population -/

/-- Pages per plane block of a die in a cell mode, none when the die cannot serve in it (R131). -/
def Die.pagesIn (d : Die) (mode : Nat) : Option Nat :=
  let n := d.pages * mode
  if d.native = 0 ∨ n % d.native ≠ 0 ∨ d.modes.contains mode = false then none
  else if (mode = 3 ∧ n / d.native % 3 ≠ 0) ∨ (mode = 4 ∧ n / d.native % 4 ≠ 0) then none
  else some (n / d.native)

/-- The volume serves: in service with a die in service, and not being retired. -/
def Vol.serves (v : Vol) : Bool :=
  v.st == .inService && !v.retiring && v.dies.any fun d => d.inService && !d.failed

/-- Volumes that serve on a channel. -/
def servingOn (s : State) (c : Nat) : List Vol :=
  s.flash.vols.filter fun v => v.serves && channelOf v.port == c

/-- A lane set's volumes, of those p selects, meet R14: the same number on each of its 16 channels, at least one, and the
same number of dies in each. Every die found counts here, one beyond the grade too, which R3 only holds deselected (DESIGN
CHOICE, log 132). -/
def laneEven (p : Vol → Bool) (vols : List Vol) (lane : Nat) : Bool :=
  let mine := vols.filter fun v => p v && laneOf v.port == lane
  let counts := (List.range 16).map fun c => (mine.filter fun v => channelOf v.port == 16 * lane + c).length
  counts.all (fun n => decide (0 < n) && n == counts.headD 0) &&
    mine.all fun v => v.dies.length == (mine.head?.map fun w => w.dies.length).getD 0

/-- Zone blocks of a volume's dies in service. -/
def Vol.zoneBlockSum (v : Vol) : Nat :=
  sumOf ((v.dies.filter fun d => d.inService && !d.failed).map (·.zoneBlocks))

/-- Dies that serve, with port and index. -/
def servingDies (s : State) : List (Nat × Nat × Die) :=
  (s.flash.vols.filter Vol.serves).flatMap fun v =>
    ((v.dies.zipIdx).filter fun d => d.1.inService && !d.1.failed).map fun d => (v.port, d.2, d.1)

/-! ### Spares and bad blocks (R163, R173) -/

/-- Available Spare in per cent (Table 4.11); 100 when no die serves. -/
def availableSpare (s : State) : Nat :=
  minOf 100 ((servingDies s).map fun d => if d.2.2.spareInit = 0 then 100 else 100 * d.2.2.spare / d.2.2.spareInit)

/-- Available Spare is below its threshold. -/
def spareLow (s : State) : Bool := decide (availableSpare s < num s 0x2440 6)

/-- Event 099 when the warning becomes set between two states. -/
def spareEvent (before after : State) : State :=
  if spareLow after && !spareLow before then reportSmart 0 2 (raise 99 0 [availableSpare after] after) else after

/-- Event data of Table 16.5: volume port, die and block. -/
def blockData (port die block : Nat) : List Nat := evBytes 2 port ++ [die, 0] ++ evBytes 4 block

/-- A block whose program or erase failed is retired: a spare stands in for it, else a zone block is lost (R163). -/
def growBad (port die block : Nat) (s : State) : State :=
  match dieOf s port die with
  | none => s
  | some d =>
    let d1 : Die :=
      { d with
        grown := d.grown ++ [block]
        spare := d.spare - 1
        zoneBlocks := if d.spare = 0 then d.zoneBlocks - 1 else d.zoneBlocks }
    let s1 := modDie port die (fun _ => d1) s
    let s2 := if d.spare = 0 then { s1 with flash := { s1.flash with unbindable := s1.flash.unbindable + 1 } } else s1
    spareEvent s (tideRecord (raise 102 0 (blockData port die block) s2))

/-! ### Write cache limit (R54, R146) -/

/-- Completed or accepted data not yet programmed, in LBAs (R54). -/
def unprogrammed (s : State) : Nat := sumOf (s.hs.zones.map fun z => z.wp - z.flashed)

/-- LBAs of flash that a staging entry takes: whole pages of four. -/
def Stage.room (e : Stage) : Nat := (e.lbas + e.filler + 3) / 4 * 4

/-- Erased staging capacity in LBAs: eight blocks of each die that serves, in SLC mode, less the pages held (R142, R145). -/
def stagingRoom (s : State) : Nat :=
  sumOf ((servingDies s).map fun d => 32 * d.2.2.planes * (d.2.2.pages / max 1 d.2.2.native)) - sumOf (s.flash.staging.map Stage.room)

/-- A staging page is still wanted: its zone is bound as its header says and has not yet taken its data (R145). -/
def stageWanted (s : State) (e : Stage) : Bool :=
  let z := zoneOf s e.nsid e.idx
  z.bind == e.bind && z.members != [] && decide (z.placed < e.first + max 1 e.lbas)

/-- Release the staging pages whose data lies in its zone, or whose zone is gone (R145). -/
def releaseStaging (s : State) : State :=
  { s with flash := { s.flash with staging := s.flash.staging.filter (stageWanted s) } }

/-- LBAs of one multi-plane program of a staging block, in SLC mode (R140). -/
def stageProgram (s : State) : Nat := 4 * max 1 s.tide.planes

/-- The programs that a span of LBAs takes. -/
def stageSpans (step first len : Nat) : List (Nat × Nat) :=
  (List.range ((len + step - 1) / step)).map fun k => (first + k * step, min step (len - k * step))

/-- The n-th program from now goes to this die, in rotation over the dies given (R147). -/
def rotation (s : State) (dies : List (Nat × Nat)) (n : Nat) : Nat × Nat :=
  dies.getD ((s.flash.stageNext + n) % max 1 dies.length) (0, 0)

/-- Program a span of a zone to staging, spread over dies in rotation (R145, R147); `filler`: the span is filler. -/
def stageSpan (z : Zone) (dies : List (Nat × Nat)) (first len : Nat) (filler : Bool) (s : State) : State :=
  let spans := stageSpans (stageProgram s) first len
  let entries := (spans.zipIdx).map fun x =>
    let d := rotation s dies x.2
    { port := d.1, die := d.2, nsid := z.nsid, idx := z.idx, bind := z.bind, first := x.1.1
      lbas := if filler then 0 else x.1.2, filler := if filler then x.1.2 else 0 : Stage }
  { s with
    flash := { s.flash with
      staging := s.flash.staging ++ entries
      stageNext := (s.flash.stageNext + spans.length) % max 1 dies.length } }

/-- Follow the erased staging capacity with the write cache limit (R146): event 103. -/
def cacheLimitUpdate (s : State) : State :=
  let s1 := releaseStaging s
  let n := min 2097152 (stagingRoom s1)
  if n = s1.hs.cacheLimit then s1
  else raise 103 0 (evBytes 4 (n / 256)) { s1 with hs := { s1.hs with cacheLimit := n } }

/-! ### Failures (R164 to R168) -/

/-- Where the next program row of a zone ends: a complete row, or the last one of a Full zone with its filler (R140,
R141); none when no row can be programmed yet. -/
def rowEnd (s : State) (z : Zone) : Option Nat :=
  if z.placed + rowLbas s ≤ z.wp then some (z.placed + rowLbas s)
  else if z.st = .full ∧ z.placed < z.wp then some z.wp
  else none

/-- The programs of the positions p selects are over; once none is left the row is in the zone's blocks (R140, R145). -/
def Zone.rowDone (s : State) (p : Nat → Bool) (z : Zone) : Zone :=
  if z.rowBusy = [] then z
  else
    let left := z.rowBusy.filter fun i => !p i
    match left, rowEnd s z with
    | [], some n => { z with rowBusy := [], placed := n, flashed := max z.flashed n }
    | _, _ => { z with rowBusy := left }

/-- Members on the dies p selects are lost; a zone that loses a second one loses its content (R166, R167). -/
def loseMembers (p : Member → Bool) (s : State) : State :=
  s.hs.zones.foldl (fun t z0 =>
    let z := zoneOf t z0.nsid z0.idx
    if z.members.any (fun m => p m && !m.lost) then
      let hit := fun i => ((z.members[i]?).map p).getD false
      let z1 := Zone.rowDone s hit { z with members := modWhere p (fun m => { m with lost := true }) z.members }
      if 2 ≤ (z1.members.filter (·.lost)).length then contentLost z1 (setZone z1 t) else setZone z1 t
    else t) s

/-- A lane set goes out of service (R168): event 101, and its zones that could still be programmed go Read Only. -/
def laneOut (lane : Nat) (s : State) : State :=
  let s1 := if bitOf s.flash.laneSets lane then
      reportSmart 2 0 (raise 101 0 [lane] { s with flash := { s.flash with laneSets := s.flash.laneSets - 2 ^ lane } })
    else s
  s1.hs.zones.foldl (fun t z =>
    if z.lane = lane ∧ (z.st = .implicitOpen ∨ z.st = .explicitOpen ∨ z.st = .closed) then readOnlyZone z t else t) s1

/-- A channel fails when none of its volumes serves any more (R164): event 080 + lane set. -/
def failChannel (c : Nat) (s : State) : State :=
  if servingOn s c = [] then laneOut (c / 16) (raise (80 + c / 16) 0 [c] s) else s

/-- A die is failed (R164, R585). The zone blocks of a retiring volume have been counted already, and it keeps its reason (R172). -/
def failDie (port die reason : Nat) (s : State) : State :=
  match dieOf s port die with
  | none => s
  | some d =>
    if d.failed then s
    else
      let lane := laneOf port
      let s1 := modDie port die (fun d => { d with failed := true, inService := false, reason := reason, op := none, susp := none })
        { s with bw := { s.bw with waiting := s.bw.waiting.filter fun w => !(w.port == port && w.die == die) } }
      let retiring := ((volOf s port).map (·.retiring)).getD false
      let s2 := if retiring then s1 else { s1 with flash := { s1.flash with unbindable := s1.flash.unbindable + d.zoneBlocks } }
      let r := portRec s2 port
      let s3 := recordPort { r with failedDies := r.failedDies ++ [die] } s2
      let s4 := raise (64 + lane) reason (evBytes 2 port ++ [die]) s3
      let s5 :=
        if ((volOf s4 port).map fun v => v.dies.all fun d => d.failed || d.reason == 1).getD false then
          raise (72 + lane) reason (evBytes 2 port ++ [die])
            (modVol port (fun v => { v with st := .failed, reason := if v.retiring then v.reason else reason }) s4)
        else s4
      let s6 := loseMembers (fun m => m.port == port && m.die == die) s5
      cacheLimitUpdate (failChannel (channelOf port) (spareEvent s s6))

/-! ### Read levels (R155 to R157) -/

/-- Two counts differ by more than 10 %: the spec does not say of what, and the model takes the larger (DESIGN CHOICE, log 12). -/
def differs (a b : Nat) : Bool := decide (max a b < 10 * (max a b - min a b))

/-- The offset of a level after an evaluation: one step toward the smaller count (R156). The spec gives no sign: the model steps
up when fewer bits were read as 1 that should be 0 than the other way round (DESIGN CHOICE, log 12). -/
def moveLevel (off : Int) (ones zeros : Nat) : Int :=
  if differs ones zeros = false then off
  else if zeros < ones then clampInt (-64) 63 (off + 1)
  else clampInt (-64) 63 (off - 1)

/-- Add two lists of counts. -/
def addCounts (a b : List Nat) : List Nat :=
  (List.range (max a.length b.length)).map fun i => a.getD i 0 + b.getD i 0

/-- One evaluation of a bin's window (R156): a level with no counts does not move. -/
def Bin.evaluate (b : Bin) : Bin :=
  let n := max b.offsets.length (max b.ones.length b.zeros.length)
  let old := (List.range n).map fun i => b.offsets.getD i 0
  let offs := (List.range n).map fun i => moveLevel (b.offsets.getD i 0) (b.ones.getD i 0) (b.zeros.getD i 0)
  let still := if offs = old then b.still + 1 else 0
  { b with offsets := offs, ones := [], zeros := [], still := still, warm := b.warm || decide (3 ≤ still) }

/-- n successful hard decodes of one die and age bin with their counts (R156): an evaluation at every 64th; decodes beyond it
count toward the next. -/
def Bin.learn (n : Nat) (ones zeros : List Nat) (b : Bin) : Bin :=
  let c := { b with ones := addCounts b.ones ones, zeros := addCounts b.zeros zeros }
  if b.decodes + n < 64 then { c with decodes := b.decodes + n } else { c.evaluate with decodes := (b.decodes + n) % 64 }

/-- Learn from decodes of one die (R156). -/
def learn (port die bin n : Nat) (ones zeros : List Nat) (s : State) : State :=
  modDie port die (fun d => { d with bins := modNth d.bins bin (Bin.learn n ones zeros) }) s

/-- Ends of the first seven age bins [h]: 1 h, 1 day, 1 week, 1 month, 3 months, 1 year and 3 years; a month is 30 days and a year
365 (DESIGN CHOICE, log 135). -/
def ageEnds : List Nat := [1, 24, 168, 720, 2160, 8760, 26280]

/-- Age bin of a member block (R155), by the time since its content was programmed. -/
def ageBin (now : Nat) (m : Member) : Nat :=
  (ageEnds.filter fun h => decide (h * 3600000000000 ≤ now - m.since)).length

/-! ### What a read's recovery leads to (R150, R159, R165) -/

/-- Channel position and member of the LBA at offset n of a zone (R586). -/
def memberOf (z : Zone) (n : Nat) : Nat :=
  let j := n % 60 / 4
  if j < z.parity then j else j + 1

/-- Queue a member block for refresh relocation (R159). -/
def queueRefresh (nsid idx pos : Nat) (s : State) : State :=
  let z := zoneOf s nsid idx
  if z.st = .empty then s
  else setZone { z with members := modNth z.members pos fun m => { m with refresh := true } } s

/-- A decode calls for refresh: too many corrected bits, or step 3 or later with 2440h.07 set (R159). -/
def wantsRefresh (s : State) (step bits : Nat) : Bool :=
  decide (num s 0x2440 3 < bits) || (decide (3 ≤ step) && num s 0x2440 7 == 1)

/-- Count a deep or unrecovered read on a die (Table 16.11). -/
def countRecovery (port die step : Nat) (s : State) : State :=
  let s1 := modDie port die (fun d =>
    { d with
      deep := d.deep + (if step = 3 ∨ step = 4 then 1 else 0)
      unrecovered := d.unrecovered + (if 5 ≤ step then 1 else 0) }) s
  if 5 ≤ step then modVol port (fun v => { v with unrecovered := v.unrecovered + 1 }) s1 else s1

/-- The step at which a read of a member ends (R150, R165): a lost member starts at step 4, and step 4 fails when another
member of the stripe is lost too. -/
def effectiveStep (z : Zone) (pos step : Nat) : Nat :=
  let lostAt := fun i => ((z.members[i]?).map (·.lost)).getD false
  let n := if lostAt pos then max 4 step else step
  if n = 4 ∧ (List.range 16).any fun i => i != pos && lostAt i then 5 else n

/-! ### Moving a member's content (R150, R160, R162) -/

/-- Program rows of a zone that its blocks hold. -/
def placedRows (s : State) (z : Zone) : Nat := (z.placed + rowLbas s - 1) / max 1 (rowLbas s)

/-- Busy time of copying a member's written pages [core cycles]: a read of every page, a program of every wordline. -/
def copyCycles (s : State) (z : Zone) (d : Die) : Nat :=
  usCycles (placedRows s z * (s.tide.cellMode * d.tRead + d.tProg))

/-- Event recorded for an FDP namespace when its event type is enabled (feature 1Eh). -/
def recordFdp (nsid handle kind : Nat) (s : State) : State :=
  match nsOf s nsid with
  | none => s
  | some n =>
    if n.fdpEvents.contains (handle, kind) then
      let e : FdpEvent := { kind := kind, time := timestampNow s, nsid := nsid, handle := handle, ruh := n.handles.getD handle 0 }
      { s with hs := { s.hs with fdpLog := (e :: s.hs.fdpLog).take 64 } }
    else s

/-- A block of a reclaim unit has moved: FDP event 80h, media reallocated, for the handle that wrote it. -/
def fdpMoved (z : Zone) (s : State) : State :=
  match nsOf s z.nsid with
  | some n => if n.fdp then recordFdp z.nsid (n.handles.idxOf z.ruh) 0x80 s else s
  | none => s

/-- Put a member's content onto another block of its die (R160): every written page is read and programmed, charged to a class;
the zone map switches in one record; the old block is erased once no read of it is on the array. -/
def moveMember (nsid idx pos block : Nat) (cls : ActClass) (lent : Bool) (s : State) : State :=
  let z := zoneOf s nsid idx
  match z.members[pos]? with
  | none => s
  | some m =>
    let n := ((dieOf s m.port m.die).map (copyCycles s z)).getD 0
    let s1 := setZone { z with members := modNth z.members pos fun m => { m with block := block, reads := 0, ckpt := 0, refresh := false, since := nowNs s } } s
    let s2 := modDie m.port m.die (fun d => { d.erased m.block with refreshes := d.refreshes + 1 }) s1
    fdpMoved z (chargeWork m.port m.die cls n lent s2)

/-- A member cannot be programmed onto any block of its die (R99): a recall target takes new blocks and starts again, any other
zone goes Read Only. -/
def cannotPlace (z : Zone) (s : State) : State :=
  if z.st = .recallTarget then contentLost z s else readOnlyZone z s

/-- Relocate a member block (R150, R160): onto the free block of its die with the lowest erase count. A page that still fails
step 4 loses the zone's content; a die whose blocks do not take the copy leaves the zone Read Only (R99). -/
def relocate (nsid idx pos : Nat) (lost placed lent : Bool) (s : State) : State :=
  let z := zoneOf s nsid idx
  match z.members[pos]? with
  | none => s
  | some m =>
    if lost then contentLost z s
    else match bestBlock s m.port m.die, placed with
      | some k, true => moveMember nsid idx pos k .refresh lent s
      | _, _ => cannotPlace z s

/-- The effects of a flash read of a zone's member on the tier (R150, R158, R159): counts, the refresh queue; after an
unrecovered read event 098, and the relocation of its block at once; `lost`: a page still fails step 4 then. -/
def readEffects (nsid idx pos step bits : Nat) (lost : Bool) (s : State) : State :=
  let z := zoneOf s nsid idx
  match z.members[pos]? with
  | none => s
  | some m =>
    let s1 := countRecovery m.port m.die step s
    let s2 := if wantsRefresh s step bits then queueRefresh nsid idx pos s1 else s1
    if 5 ≤ step then
      let s3 := raise 98 0 (blockData m.port m.die m.block) s2
      if m.lost then (if lost then contentLost (zoneOf s3 nsid idx) s3 else s3) else relocate nsid idx pos lost true false s3
    else s2

/-- Completed, unprogrammed data goes to flash ahead of other program work while the cache is not protected (R56). -/
def urgent (s : State) : Bool := !cacheProtected s && s.hs.zones.any fun z => decide (z.flashed < z.ack)

/-- Housekeeping runs: the tier is this device's (R527), the device runs, no dip or power state below PS2 holds programs, and no
completed data waits for flash unprotected (R56). -/
def upkeepRuns (s : State) : Bool := s.tierState != 2 && arrayOpen s .program && !urgent s

/-! ### Forming lane sets (R14, R131) -/

/-- Every die of a volume out of service. -/
def Vol.allOut (v : Vol) : Vol :=
  { v with dies := v.dies.map fun d => { d with inService := false, op := none, susp := none } }

/-- Exclude the volumes of a lane set that p selects. -/
def excludeLane (reason : Nat) (p : Vol → Bool) (vs : List Vol) : List Vol :=
  modWhere (fun v => v.st == .inService && p v) (fun v => { v.allOut with st := .excluded, reason := reason }) vs

/-- The geometry of a die in a cell mode: planes, pages and spare area; none when it does not serve in that mode. -/
def Die.geometry (d : Die) (mode : Nat) : Option (Nat × Nat × Nat) :=
  (d.pagesIn mode).map fun n => (d.planes, n, d.spareArea)

/-- A lane set agrees with a geometry: every die that may serve. -/
def laneFits (mode : Nat) (g : Option (Nat × Nat × Nat)) (vs : List Vol) (lane : Nat) : Bool :=
  (vs.filter fun v => laneOf v.port == lane && v.st == .inService).all fun v =>
    v.dies.all fun d => !d.inService || (g.isSome && d.geometry mode == g)

/-- The geometry of the tier among lane sets in a cell mode: that of the lowest whose first die serves in it (R131; DESIGN CHOICE,
log 136). -/
def firstGeometry (mode : Nat) (lanes : List Nat) (vs : List Vol) : Option (Nat × Nat × Nat) :=
  lanes.findSome? fun l =>
    (vs.find? fun v => laneOf v.port == l && v.st == .inService).bind fun v =>
      (v.dies.find? Die.inService).bind fun d => d.geometry mode

/-- Of lane sets that meet R14, those whose geometry differs from the tier's are excluded (R131). -/
def judgeLanes (mode : Nat) (lanes : List Nat) (vs : List Vol) : List Vol :=
  let g := firstGeometry mode lanes vs
  excludeLane 3 (fun v => !(lanes.contains (laneOf v.port) && laneFits mode g vs (laneOf v.port))) vs

/-- Apply R14 and R131 to the volumes of a new tier. -/
def formLanes (mode : Option Nat) (vs : List Vol) : List Vol :=
  let even := (List.range 8).filter fun l => laneEven (fun v => v.st == .inService) vs l
  let v1 := excludeLane 2 (fun v => !even.contains (laneOf v.port)) vs
  let first := (v1.find? fun v => v.st == .inService).bind fun v => v.dies.head?
  judgeLanes (mode.getD ((first.map (·.native)).getD 3)) even v1

/-- A volume excluded for its geometry is judged again. -/
def Vol.reconsidered (v : Vol) : Vol :=
  if v.st = .excluded ∧ v.reason = 3 then
    { v with
      st := .inService, reason := 0
      dies := v.dies.map fun d => { d with inService := d.reason != 1 && !d.failed } }
  else v

/-- Judge the lane sets of a formed tier for another cell mode (R131, R143): lane sets that entered the tier stay whatever R14 would
say of them now, the others enter if they meet it. -/
def rejudgeLanes (mode entered : Nat) (vs : List Vol) : List Vol :=
  let v1 := vs.map Vol.reconsidered
  let lanes := (List.range 8).filter fun l => bitOf entered l || laneEven (fun v => v.st == .inService) v1 l
  judgeLanes mode lanes (excludeLane 2 (fun v => !lanes.contains (laneOf v.port)) v1)

/-- Lane sets in service: those of a mask whose 16 channels each have a volume that serves (R164, R168). -/
def lanesServing (s : State) (mask : Nat) : Nat :=
  sumOf (((List.range 8).filter fun l => bitOf mask l && (List.range 16).all fun c => servingOn s (16 * l + c) != []).map (2 ^ ·))

/-! ### Tier format (R131, R142, R143) -/

/-- The default cell mode before the first tier format: the native mode of the lowest in-service die of the lowest lane
set in service (R135). -/
def defaultCellMode (s : State) : Nat :=
  match (servingDies s).head? with
  | some d => d.2.2.native
  | none => 3

/-- Start a tier format in a cell mode: the factory marks are read and the tier geometry is fixed (R143 steps 1 and 2). -/
def startTierFormat (mode : Nat) (s : State) : State :=
  let first := ((servingDies s).head?).map (·.2.2)
  let s1 := modDies (fun d => { d with marksRead := true }) s
  tideRecord { s1 with
    flash := { s1.flash with formatting := true, progress := 0, cellMode := mode }
    tide := { s1.tide with
      cellMode := mode
      planes := (first.map (·.planes)).getD 0
      pages := (first.bind fun d => d.pagesIn mode).getD 0
      spareArea := (first.map (·.spareArea)).getD 0 } }

/-- A tier format of a formed tier, in the cell mode of 2400h.04: the lane sets are judged again for it (R131, R143). -/
def reformTier (mode : Nat) (s : State) : State :=
  let s1 := { s with flash := { s.flash with vols := rejudgeLanes mode s.tide.lanes s.flash.vols } }
  startTierFormat mode { s1 with flash := { s1.flash with laneSets := lanesServing s1 255 } }

/-- The reserves of a die with G good blocks (R142): 8 staging, 6 system, 4 % spare, the rest zone blocks. -/
def Die.reserve (d : Die) : Die :=
  let g := d.good.length
  let sp := (4 * g + 99) / 100
  { d with zoneBlocks := g - 14 - sp, spare := sp, spareInit := sp }

/-- Zone blocks per die of a lane set: the lowest over its dies (R142). -/
def laneBlocks (s : State) (lane : Nat) : Nat :=
  minOf 0 (((servingDies s).filter fun d => laneOf d.1 == lane).map fun d => d.2.2.zoneBlocks)

/-- Zones of a lane set: dies per channel times zone blocks per die (R142). -/
def laneZones (s : State) (lane : Nat) : Nat :=
  diesPerChannel s lane * laneBlocks s lane

/-- Lane sets whose bit is set. -/
def lanesIn (mask : Nat) : List Nat := (List.range 8).filter fun l => bitOf mask l

/-- The unique IDs of a volume's dies. -/
def Vol.uids (v : Vol) : List (BitVec 128) := v.dies.map (·.uid)

/-- The entry of a volume in the tier record (R585): the state it was found in; a failed volume keeps the entry it had. -/
def recordOf (s : State) (v : Vol) : PortRec :=
  if v.st = .failed then portRec s v.port
  else
    { port := v.port, st := v.st, reason := v.reason
      uids := if v.st = .inService ∨ v.st = .retired then v.uids else []
      failedDies := ((v.dies.zipIdx).filter fun d => d.1.failed).map (·.2) }

/-- The tier record of every volume as found, and of the retired ports where none is (R585). -/
def recordAll (s : State) : List PortRec :=
  let kept := s.tide.ports.filter fun r => r.st == .retired && (volOf s r.port).isNone
  kept.foldl (fun l r => insertPort r l) (s.flash.vols.map (recordOf s))

/-- Complete a tier format (R143 steps 3 to 5). -/
def endTierFormat (failures : List (Nat × Nat × Nat)) (s : State) : State :=
  let s1 := failures.foldl (fun t f => modDie f.1 f.2.1 (fun d => { d with grown := d.grown ++ [f.2.2] }) t) s
  let s2 := failures.foldl (fun t f => raise 102 0 (blockData f.1 f.2.1 f.2.2) t) s1
  let s3 := modDies (fun d => if d.inService then Die.reserve { d with eraseBase := d.eraseBase + 1, eraseDue := [] } else d) s2
  let lanes := lanesIn s3.flash.laneSets
  tideRecord { s3 with
    tierState := 1
    flash := { s3.flash with
      formatting := false
      progress := 100
      unbindable := 0
      staging := []
      zoneCount := sumOf (lanes.map (laneZones s3))
      zoneBlocks := minOf 0 (lanes.map (laneBlocks s3)) }
    tide := { s3.tide with
      tier := true
      writer := s3.part.serial
      lanes := s3.flash.laneSets
      ports := recordAll s3 } }

/-! ### Adoption and retirement (R170 to R172) -/

/-- A die has the tier geometry (R131). -/
def geometryFits (s : State) (d : Die) : Bool :=
  d.planes == s.tide.planes && d.spareArea == s.tide.spareArea && d.pagesIn s.tide.cellMode == some s.tide.pages

/-- A die count that the population grade allows (R3, Table 0.1): four dies on grade M, two on grade S. -/
def gradeDies (code : OrderingCode) : Nat := if code = .b16gm then 4 else 2

/-- A volume's die count fits its lane set: that of the volumes in service there, or what the grade allows where none is (R170). -/
def countFits (s : State) (v : Vol) : Bool :=
  match s.flash.vols.find? fun w => laneOf w.port == laneOf v.port && w.st == .inService with
  | some w => v.dies.length == w.dies.length
  | none => decide (v.dies.length ≤ gradeDies s.part.code)

/-- Adopt a volume (R170): the refusals, or the start of its adoption. -/
def adoptVolume (port : Nat) (s : State) : Except Abort State :=
  match volOf s port with
  | none => .error .state
  | some v =>
    if v.st ≠ .quarantined then .error .state
    else if countFits s v = false then .error .range
    else if v.dies.any (fun d => d.reason != 1 && !geometryFits s d) then .error .range
    else .ok (tideRecord (modVol port (fun v =>
      { v with
        st := .adopting
        reason := 0
        progress := 0
        dies := v.dies.map fun d => { d with marksRead := true } }) s))

/-- An adopted volume that waits for its lane set (R171). A quarantined one is not carried (DESIGN CHOICE, log 132). -/
def Vol.waits (v : Vol) : Bool :=
  v.st == .excluded && v.reason == 2 && v.dies.any fun d => decide (0 < d.zoneBlocks)

/-- A die that its grade lets serve comes into service. -/
def Vol.enters (v : Vol) : Vol :=
  { v with st := .inService, reason := 0, dies := v.dies.map fun d => { d with inService := d.reason != 1 && !d.failed } }

/-- Set a bit of a mask. -/
def setBit (mask n : Nat) : Nat := if bitOf mask n then mask else mask + 2 ^ n

/-- A volume's lane set had no volume in service and is now complete (R171): it enters service. 2400h.07 grows by its zones, and
2400h.08 falls by the zone blocks restored, where the lane set had been in the tier before (log 137). -/
def laneEnter (lane : Nat) (s : State) : State :=
  if laneEven Vol.waits s.flash.vols lane then
    let s1 := { s with
      flash := { s.flash with
        vols := modWhere (fun v => v.waits && laneOf v.port == lane) Vol.enters s.flash.vols
        laneSets := setBit s.flash.laneSets lane } }
    let back := sumOf ((s1.flash.vols.filter fun v => laneOf v.port == lane && v.st == .inService).map Vol.zoneBlockSum)
    let s2 := { s1 with
      flash := { s1.flash with
        zoneCount := s1.flash.zoneCount + laneZones s1 lane
        unbindable := if bitOf s.tide.lanes lane then s1.flash.unbindable - back else s1.flash.unbindable }
      tide := { s1.tide with lanes := setBit s1.tide.lanes lane } }
    s2.flash.vols.foldl (fun t v =>
      if laneOf v.port = lane ∧ v.st = .inService then
        recordPort { port := v.port, st := .inService, uids := v.uids } t
      else t) s2
  else s

/-- A die after its adoption (R171); one beyond the grade stays deselected (R3). -/
def Die.adopted (grown : List Nat) (d : Die) : Die :=
  if d.reason = 1 then { d with inService := false }
  else
    Die.reserve { d with
      grown := grown
      eraseBase := d.eraseBase + 1
      eraseCounts := []
      eraseDue := []
      inService := true
      failed := false
      reason := 0
      bins := List.replicate 8 {} }

/-- The erases of an adopted volume have ended (R171): bad blocks by die. -/
def finishAdoption (port : Nat) (bad : List (List Nat)) (s : State) : State :=
  match volOf s port with
  | none => s
  | some v =>
    if v.st ≠ .adopting then s
    else
      let lane := laneOf port
      let empty := !(s.flash.vols.any fun w => w.serves && laneOf w.port == lane)
      let dies := (v.dies.zipIdx).map fun d => d.1.adopted (bad.getD d.2 [])
      let st : VolState := if empty then .excluded else .inService
      let reason := if empty then 2 else 0
      let s1 := modVol port (fun v => { v with st := st, reason := reason, progress := 100, retiring := false, dies := dies }) s
      let s2 := raise 96 0 (evBytes 2 port) s1
      let s3 := recordPort { port := port, st := st, reason := reason, uids := v.uids } s2
      let s4 :=
        if empty then laneEnter lane s3
        else
          let back := (List.range 16).all fun c => servingOn s3 (16 * lane + c) != []
          { s3 with
            flash := { s3.flash with
              unbindable := s3.flash.unbindable - sumOf ((dies.filter Die.inService).map (·.zoneBlocks))
              laneSets := if back then setBit s3.flash.laneSets lane else s3.flash.laneSets } }
      cacheLimitUpdate s4

/-- A retired volume is deselected (R172): event 097; the record keeps the unique IDs that stand at the port (R585). -/
def deselect (port : Nat) (s : State) : State :=
  let ids := match volOf s port with
    | some v => if v.dies = [] then (portRec s port).uids else v.uids
    | none => (portRec s port).uids
  let s1 := modVol port (fun v =>
    { v with
      st := .retired
      reason := 0x0B
      retiring := false
      dies := v.dies.map fun d => { d with inService := false, reason := 0x0B, op := none, susp := none } }) s
  raise 97 0 (evBytes 2 port) (recordPort { port := port, st := .retired, reason := 0x0B, uids := ids } s1)

/-- Retire a volume (R172): the refusals, or the start of its retirement. -/
def retireVolume (port : Nat) (s : State) : Except Abort State :=
  match volOf s port with
  | none => .error .state
  | some v =>
    match v.st with
    | .absent | .adopting | .retired => .error .state
    | .excluded | .quarantined | .failed => .ok (loseMembers (fun m => m.port == port) (deselect port s))
    | .inService =>
      let blocks := v.zoneBlockSum
      let s1 := { s with flash := { s.flash with unbindable := s.flash.unbindable + blocks } }
      if (servingOn s (channelOf port)).all (fun w => w.port == port) then
        let s2 := loseMembers (fun m => m.port == port) (deselect port s1)
        .ok (cacheLimitUpdate (failChannel (channelOf port) s2))
      else
        .ok (cacheLimitUpdate (tideRecord (modVol port (fun v => { v with st := .failed, reason := 0x0B, retiring := true }) s1)))

end Sys2Proof.Machine
end

