-- ==== Sys2Proof/Machine/FlashPage.lean ====
section
/-! DEFINITION. What stands on flash (R138, R139, R141, R586): codewords, the flash header, stripes and their parity page, and the place
of each page. -/

namespace Sys2Proof.Machine

open Sys2Proof

/-! ### Places (R586) -/

/-- The place of a page: stripe, plane and page index within a member block, and channel position. -/
structure PagePlace where
  /-- Stripe of the zone. -/
  stripe : Nat := 0
  /-- Channel position. -/
  pos : Nat := 0
  /-- Program row. -/
  row : Nat := 0
  /-- Plane. -/
  plane : Nat := 0
  /-- Page index of the plane block. -/
  index : Nat := 0
  deriving DecidableEq, Repr

/-- Row, plane and page index of stripe k: planes first, then the wordline's pages. -/
def stripePlace (planes bits k pos : Nat) : PagePlace :=
  let per := max 1 (planes * bits)
  let i := k % per
  { stripe := k, pos := pos, row := k / per, plane := i % max 1 planes, index := k / per * bits + i / max 1 planes }

/-- The page of LBA offset n of a zone. -/
def pagePlace (s : State) (z : Zone) (n : Nat) : PagePlace :=
  stripePlace s.tide.planes s.tide.cellMode (n / 60) (memberOf z n)

/-- Codeword of its page that LBA offset n stands in. -/
def codewordOf (n : Nat) : Nat := n % 4

/-! ### Codewords (R139, Table 4.7) -/

/-- The flash header: bind number, LBA offset, program sequence, CRC-16. -/
def flashHeader (bind off seq : Nat) : List Byte :=
  let h := leBytes 4 bind ++ leBytes 4 off ++ leBytes 6 seq
  h ++ leBytes 2 (crc16 h)

/-- A header's CRC holds. -/
def headerOk (h : List Byte) : Bool :=
  h.length == 16 && crc16 (h.take 14) == ofBytes (h.drop 14)

/-- Bytes of LDPC parity of a codeword for a spare area. -/
def parityBytes (spare : Nat) : Nat := (16384 + spare) / 4 - 4128

/-- Metadata on flash: 16 bytes, of which format 1 uses the low 8. -/
def flashMd (lbaf : Nat) (md : BitVec 128) : List Byte :=
  if lbaf = 0 then bvBytes 16 md else leBytes 8 md.toNat ++ leBytes 8 0

/-- A codeword: data, metadata, header, LDPC parity. -/
def codeword (spare lbaf : Nat) (header : List Byte) (b : Blk) : List Byte :=
  let body := Blk.bytes b ++ flashMd lbaf b.md ++ header
  body ++ Config.ldpcParity (parityBytes spare) body

/-- LBA offset that filler carries (R141). -/
def fillerOffset : Nat := 0xFFFFFFFF

/-- The codeword at LBA offset n of a zone: its block, encrypted in an encrypted namespace, or filler past the last LBA. The bytes of
filler are not given; the model takes zeros (log 146). -/
def zoneCodeword (s : State) (n : Ns) (z : Zone) (seq off : Nat) : List Byte :=
  if off < z.wp then
    codeword s.tide.spareArea n.lbaf (flashHeader z.bind off seq)
      (toFlash n.encrypted n.keyGen n.nsid (z.idx * n.zsze + off) ((getKey off z.data).getD {}))
  else codeword s.tide.spareArea n.lbaf (flashHeader z.bind fillerOffset seq) {}

/-! ### Pages and stripes (R138, R139) -/

/-- Data page j of stripe k. -/
def dataPage (s : State) (n : Ns) (z : Zone) (seq k j : Nat) : List Byte :=
  (List.range 4).flatMap fun c => zoneCodeword s n z seq (60 * k + 4 * j + c)

/-- Exclusive or of two pages. -/
def xorPage (a b : List Byte) : List Byte := List.zipWith (fun x y => x ^^^ y) a b

/-- Exclusive or of pages. -/
def xorPages : List (List Byte) → List Byte
  | [] => []
  | [p] => p
  | p :: ps => xorPage p (xorPages ps)

/-- The parity page of 15 encoded data pages, spare areas included. -/
def parityPage (pages : List (List Byte)) : List Byte := xorPages pages

/-- The 16 pages of stripe k by channel position; each page's program sequence is given by its place in the order of dispatch. -/
def stripePages (s : State) (n : Ns) (z : Zone) (seq k : Nat) : List (List Byte) :=
  let data := (List.range 15).map fun j => dataPage s n z (seq + j) k j
  data.take z.parity ++ [parityPage data] ++ data.drop z.parity

/-- A page of a stripe from the other 15 (step 4 of Table 4.8, R166, R189). -/
def rebuildPage (pages : List (List Byte)) (pos : Nat) : List Byte :=
  xorPages (pages.take pos ++ pages.drop (pos + 1))

/-- A page as it stands in a die: through the data randomizer. -/
def pageInDie (m : Member) (p : PagePlace) (page : List Byte) : List Byte :=
  xorPage page (Config.pageMask m.port m.die m.block p.plane p.index)

/-! ### Open blocks (R141) -/

/-- Name of the profile's open-block read-level set among those a die may have loaded: 0 the learned set, 1 to 8 the retry sets. -/
def openLevel : Nat := 9

/-- A zone became Full short of its capacity: its later wordlines are erased. -/
def Zone.fullShort (z : Zone) (cap : Nat) : Bool := z.st == .full && decide (z.wp < cap)

/-- The read-level set with which pages of a zone are first read. -/
def readLevel (s : State) (z : Zone) : Nat := if Zone.fullShort z (zoneCapacity s) then openLevel else 0

end Sys2Proof.Machine
end

