-- ==== Sys2Proof/Machine/Io.lean ====
section
/-! DEFINITION. The NVMe I/O commands (R37 to R44, R47 to R60, R68, R83 to R107, R149 to R153, R197 to R203, R587): Flush,
Write, Read, Write Zeroes, Dataset Management, Zone Append and the zone management commands, and the checks they share. -/

namespace Sys2Proof.Machine

open Sys2Proof

/-! ### The checks of dispatch (R37) -/

/-- A reservation lets a controller write, or read (NVMe Base; log 13). -/
def reservAllows (n : Ns) (p : PortId) (wr : Bool) : Bool :=
  let reg := n.resv.keys.any fun k => k.1 == p
  let holds := n.resv.holder == some p
  match n.resv.rtype with
  | 1 => !wr || holds
  | 2 => holds
  | 3 => !wr || reg
  | 4 => reg
  | 5 => !wr || reg
  | 6 => reg
  | _ => true

/-- A running or failed Sanitize answers every I/O command (R517, R518). -/
def sanitizeGate (s : State) : Option Status :=
  if s.adm.sanitizeEver = 2 then some .sanitizeInProgress
  else if s.adm.sanitizeFailed then some .sanitizeFailed
  else none

/-- Namespace attachment and format, the first check of R37 (log 14). -/
def nsGate (s : State) (p : PortId) (nsid : Nat) : Except Status Ns :=
  match sanitizeGate s, nsOf s nsid with
  | some e, _ => .error e
  | none, none => .error .invalidNamespace
  | none, some n =>
    if n.attached.contains p = false then .error .invalidNamespace
    else if s.adm.formatNs.contains nsid then .error .formatInProgress
    else .ok n

/-- Zoned namespaces only (R106). -/
def zonedGate (s : State) (p : PortId) (nsid : Nat) : Except Status Ns :=
  match nsGate s p nsid with
  | .error e => .error e
  | .ok n => if n.fdp then .error .invalidOpcode else .ok n

/-- Adoption and reservation, the second and third check of R37. -/
def writeGate (s : State) (p : PortId) (n : Ns) : Option Status :=
  if s.tierState = 2 then some .notAdopted
  else if reservAllows n p true = false then some .reservationConflict
  else none

/-- LBAs of a namespace (NSZE). -/
def Ns.size (n : Ns) : Nat := if n.fdp then n.lbas else n.zones * n.zsze

/-- The write pointer and capacity checks of R91, in order. -/
def wpGate (z : Zone) (n : Ns) (off len : Nat) (append : Bool) : Option Status :=
  if append = false ∧ off ≠ z.wp then some .zoneInvalidWrite
  else if n.zcap < z.wp + len then some .zoneBoundary
  else none

/-- Room for a write in the write cache (R54, R103). -/
def cacheRoom (s : State) (len : Nat) : Bool := decide (unprogrammed s + len ≤ s.hs.cacheLimit)

/-- LBAs of write cache a command needs; 0 for a command that needs none (R103). -/
def cacheNeed : NvmeCmd → Nat
  | .write _ _ blks _ _ _ => blks.length
  | .writeZeroes _ _ n _ _ => n
  | .zoneAppend _ _ blks _ _ => blks.length
  | _ => 0

/-- A command that waits for room in the write cache, fetched and undispatched (R103). -/
def cacheBlocked (s : State) (c : NvmeCmd) : Bool :=
  cacheNeed c != 0 && !cacheRoom s (cacheNeed c)

/-- A write may complete from the cache (R55, R57, R58). -/
def fromCache (s : State) (fua : Bool) : Bool := cacheProtected s && s.hs.wce && !fua

/-- Written LBAs as a list of zone contents; blocks of zeros are what an unlisted LBA reads as. -/
def placeBlks (off : Nat) (blks : List Blk) : List (Nat × Blk) :=
  ((blks.zipIdx).map fun x => (off + x.2, x.1)).filter fun x => x.2 != {}

/-- Who writes, and how: controller, tenant of the queue, write stamp, and whether the write completes from the cache. -/
structure Writer where
  /-- Controller; none for the device's own reclaim. -/
  port : Option PortId
  /-- Tenant of the queue that carries the write (R108, R110). -/
  tenant : Nat
  /-- Write stamp. -/
  stamp : Nat
  /-- Completes from the cache (R55). -/
  cached : Bool
  deriving DecidableEq, Repr

/-- The writer of a command. -/
def writerOf (s : State) (src : Src) (fua : Bool) : Writer :=
  { port := some src.port, tenant := tenantOfQueue s src.port src.sq, stamp := s.hs.stamp + 1, cached := fromCache s fua }

/-- A zone, or a reclaim unit, after len more LBAs (R90, R91): Implicitly Opened unless it was Explicitly Opened, Full at
capacity. -/
def Zone.taken (z : Zone) (cap len : Nat) (w : Writer) : Zone :=
  let wp := z.wp + len
  { z with
    writers := match w.port with
      | some p => putKey p.val wp z.writers
      | none => z.writers
    st := if wp = cap then .full else if z.st = .explicitOpen then .explicitOpen else .implicitOpen
    wp := wp
    ack := if w.cached then wp else z.ack
    used := w.stamp
    qtenant := w.tenant }

/-- A zone after a write of blocks. -/
def Zone.written (z : Zone) (n : Ns) (blks : List Blk) (w : Writer) : Zone :=
  { z.taken n.zcap blks.length w with data := z.data ++ placeBlks z.wp blks }

/-- Lose the zones whose staged lines cannot be rebuilt (R188, R189). -/
def loseStaging (hits : List MemHit) (s : State) : State :=
  (stagingLosses s hits).foldl (fun t z => contentLost (zoneOf t z.1 z.2) t) s

/-- Statistics of a host write. -/
def countWrite (len : Nat) (s : State) : State :=
  { s with hs := { s.hs with writeCmds := s.hs.writeCmds + 1, writeUnits := s.hs.writeUnits + len, stamp := s.hs.stamp + 1 } }

/-- Complete a committed write from the cache, or when its data is programmed (R55, R58). -/
def endWrite (src : Src) (fua : Bool) (t : Targets) (dw0 dw1 : Dword) (s : State) : State :=
  if fromCache s fua then completeWrite src dw0 dw1 s else hold src (.programmed t dw0 dw1) s

/-- Zone offset of an LBA of a namespace. -/
def zoneOffset (n : Ns) (lba : Nat) : Nat × Nat := (lba / n.zsze, lba % n.zsze)

/-- Commit a write whose checks, gather and protection checks have passed (R43, R44, R49): the zone is opened as Table 3.3
and R88 say, the data follows the write pointer. -/
def commitZone (src : Src) (n : Ns) (z : Zone) (blks : List Blk) (append fua : Bool) (s : State) : State :=
  let lba := z.idx * n.zsze + z.wp
  let z1 := z.written n blks (writerOf s src fua)
  let s2 := touchLine (zoneMapAddr s n.nsid z.idx) true (countWrite blks.length (setZone z1 s))
  let dw0 := if append then BitVec.ofNat 32 lba else 0
  let dw1 := if append then BitVec.ofNat 32 (lba / 2 ^ 32) else 0
  endWrite src fua [(n.nsid, z.idx, z1.wp)] dw0 dw1 s2

/-- Open the zone that a write implicitly opens (R88). -/
def openForWrite (z : Zone) (autoClose : Bool) (s : State) : Except Status (Zone × State) :=
  if z.st = .explicitOpen then .ok (z, s) else openZone z .implicitOpen autoClose s

/-- A Write, Write Zeroes or Zone Append on a zoned namespace: zone state, write pointer and capacity, slots, the pointer
walk over what the command moves (`x`), protection information, commit (R37, R49, R88, R91). `mk` gives the stored blocks
from the LBA of the first. -/
def writeZone (src : Src) (n : Ns) (lba len : Nat) (append autoClose fua : Bool) (x : Xfer)
    (mk : Nat → Except PiErr (List Blk)) (s : State) : State :=
  let p := zoneOffset n lba
  let z := zoneOf s n.nsid p.1
  match table33 z .write, wpGate z n p.2 len append, openForWrite z autoClose s, ptrFault s src x, mk (p.1 * n.zsze + z.wp) with
  | .error st, _, _, _, _ => complete src st (s := s)
  | _, some st, _, _, _ => complete src st (s := s)
  | _, _, .error st, _, _ => complete src st (s := s)
  | _, _, _, some f, _ => complete src (PtrFault.status f) (s := s)
  | _, _, _, _, .error err => complete src (PiErr.status err) (s := s)
  | .ok _, none, .ok (z1, s1), none, .ok blks => commitZone src n z1 blks append fua (countRequests src x s1)

/-! ### Flexible Data Placement (R104 to R107) -/

/-- The reclaim unit that an LBA lies in, and its offset there. -/
def Ns.placeOf (n : Ns) (lba : Nat) : Option (Nat × Nat) := getKey lba n.fdpMap

/-- LBAs of a namespace that a reclaim unit holds. -/
def Ns.validIn (n : Ns) (unit : Nat) : List Nat := (n.fdpMap.filter fun x => x.2.1 == unit).map (·.1)

/-- The lowest number of a reclaim unit that is not in use. -/
def freeUnit (s : State) (nsid : Nat) : Nat :=
  let used := (s.hs.zones.filter fun z => z.nsid == nsid).map (·.idx)
  ((List.range (used.length + 1)).find? fun i => !used.contains i).getD 0

/-- The place an LBA has is programmed. -/
def placeFlashed (s : State) (n : Ns) (lba : Nat) : Bool :=
  ((n.placeOf lba).map fun p => decide (p.2 < (zoneOf s n.nsid p.1).flashed)).getD true

/-- A reclaim unit is needed for an LBA that has been written elsewhere since: its new place is not programmed yet (R55). -/
def Ns.backs (s : State) (n : Ns) (unit : Nat) : Bool :=
  n.fdpOld.any fun x => ((x.2.map fun o => o.2.1 == unit).getD false) && !placeFlashed s n x.1

/-- A reclaim unit takes no more data and holds no LBA of its namespace that is still wanted. -/
def unitDead (s : State) (n : Ns) (z : Zone) : Bool :=
  z.nsid == n.nsid && z.st != .implicitOpen && z.rowBusy == [] && n.validIn z.idx == [] && !Ns.backs s n z.idx

/-- Such units of a namespace. -/
def deadUnits (s : State) (n : Ns) : List Zone := s.hs.zones.filter (unitDead s n)

/-- A new reclaim unit for a handle: a superblock bound as a zone is; where none is free, a full unit of the namespace that
holds nothing valid any more gives its blocks. -/
def newUnit (n : Ns) (ruh : Nat) (s : State) : Option (Zone × State) :=
  let fresh := fun t : State => bindZone { nsid := n.nsid, idx := freeUnit t n.nsid, st := .implicitOpen, ruh := ruh } t
  match fresh s, deadUnits s n with
  | some r, _ => some r
  | none, z :: _ => fresh (emptyZone z s)
  | none, [] => none

/-- The reclaim unit that a handle's next LBAs go to. -/
def unitFor (n : Ns) (ruh : Nat) (s : State) : Option (Zone × State) :=
  match s.hs.zones.find? fun z => z.nsid == n.nsid && z.ruh == ruh && z.st == .implicitOpen with
  | some z => some (z, s)
  | none => newUnit n ruh s

/-- An LBA moves to a place; what it held before stands beside it until the write is programmed (R55). -/
def Ns.placeAt (n : Ns) (programmed : Bool) (lba : Nat) (place : Nat × Nat) : Ns :=
  { n with
    fdpMap := putKey lba place n.fdpMap
    fdpOld := if programmed ∨ (getKey lba n.fdpOld).isNone
      then putKey lba ((n.placeOf lba).bind fun p => (getKey lba n.fdpData).map fun b => (b, p)) n.fdpOld else n.fdpOld }

/-- Give LBAs places in the units of a handle, in ascending order; what each unit then must have programmed. None when no unit
can be had. `fuel` bounds the units taken. -/
def placeFdp (nsid ruh : Nat) (w : Writer) : Nat → List Nat → State → Option (Targets × State)
  | _, [], s => some ([], s)
  | 0, _ :: _, _ => none
  | fuel + 1, l :: ls, s =>
    match (nsOf s nsid).bind fun n => unitFor n ruh s with
    | none => none
    | some (z, s1) =>
      let here := (l :: ls).take (zoneCapacity s - z.wp)
      let put := fun n : Ns => (here.zipIdx).foldl (fun m x => m.placeAt (placeFlashed s1 m x.1) x.1 (z.idx, z.wp + x.2)) n
      let z1 := z.taken (zoneCapacity s) here.length w
      (placeFdp nsid ruh w fuel ((l :: ls).drop (zoneCapacity s - z.wp)) (modNs nsid put (setZone z1 s1))).map fun r =>
        ((nsid, z.idx, z1.wp) :: r.1, r.2)

/-- Touch every metadata cache line of a span of HBM. -/
def touchSpan (lo hi : Nat) (dirty : Bool) (s : State) : State :=
  (List.range (hi / 128 + 1 - lo / 128)).foldl (fun t i => touchLine (128 * (lo / 128 + i)) dirty t) s

/-- Touch the map entries of LBAs of an FDP namespace. -/
def touchFdp (s : State) (nsid lba len : Nat) (dirty : Bool) : State :=
  touchSpan (fdpMapAddr s nsid lba) (fdpMapAddr s nsid (lba + (len - 1))) dirty s

/-- Commit a write on an FDP namespace: the LBAs take places, then their content. -/
def commitFdp (src : Src) (n : Ns) (lba ruh : Nat) (blks : List Blk) (fua : Bool) (s : State) : State :=
  match placeFdp n.nsid ruh (writerOf s src fua) (blks.length + 1) ((List.range blks.length).map (lba + ·)) s with
  | none => complete src .capacityExceeded (s := s)
  | some (t, s1) =>
    let put := fun m : Ns =>
      { m with
        fdpWritten := m.fdpWritten + blks.length
        fdpData := (blks.zipIdx).foldl (fun d x => putKey (lba + x.2) x.1 d) m.fdpData }
    let s2 := touchFdp (countWrite blks.length (modNs n.nsid put s1)) n.nsid lba blks.length true
    endWrite src fua t 0 0 (tideRecord s2)

/-- A write on an FDP namespace (R104): an out-of-range placement handle is refused and recorded, before the pointer walk. -/
def writeFdp (src : Src) (n : Ns) (lba : Nat) (fua : Bool) (handle : Option Nat) (x : Xfer)
    (mk : Except PiErr (List Blk)) (s : State) : State :=
  if handle.isSome ∧ n.handles.length ≤ handle.getD 0 then
    complete src .invalidField (s := recordFdp n.nsid (handle.getD 0) 3 s)
  else match ptrFault s src x, mk with
    | some f, _ => complete src (PtrFault.status f) (s := s)
    | none, .error err => complete src (PiErr.status err) (s := s)
    | none, .ok blks => commitFdp src n lba (n.handles.getD (handle.getD 0) 0) blks fua (countRequests src x s)

/-- Write (R43). The spec does not say where the checks of the transfer length and of the LBA range stand among those of R37:
the model makes them after the namespace check and before tier adoption (DESIGN CHOICE, log 133). -/
def ioWrite (src : Src) (nsid slba : Nat) (blks : List Blk) (fua : Bool) (pi : PiCtl) (handle : Option Nat)
    (s : State) : State :=
  match nsGate s src.port nsid with
  | .error st => complete src st (s := s)
  | .ok n =>
    if blks = [] ∨ 1024 < blks.length then complete src .invalidField (s := s)
    else if n.size < slba + blks.length then complete src .lbaRange (s := s)
    else match writeGate s src.port n with
      | some st => complete src st (s := s)
      | none =>
        let x := n.xfer pi false blks.length
        if n.fdp then writeFdp src n slba fua handle x (entryBlks n pi false slba slba 0 blks) s
        else writeZone src n slba blks.length false true fua x (fun a => entryBlks n pi false a a 0 blks) s

/-- Blocks of a Write Zeroes (R587). -/
def zeroBlks (n : Ns) (pi : PiCtl) (lba cnt : Nat) : List Blk :=
  (List.range cnt).map fun i => zeroBlk n pi lba i

/-- Write Zeroes (R587): it moves no data, so no pointer is walked, and it opens no room by closing another zone (R88). -/
def ioWriteZeroes (src : Src) (nsid slba cnt : Nat) (fua : Bool) (pi : PiCtl) (s : State) : State :=
  match nsGate s src.port nsid with
  | .error st => complete src st (s := s)
  | .ok n =>
    if cnt = 0 then complete src .invalidField (s := s)
    else if n.size < slba + cnt then complete src .lbaRange (s := s)
    else match writeGate s src.port n with
      | some st => complete src st (s := s)
      | none =>
        if n.fdp then writeFdp src n slba fua none {} (.ok (zeroBlks n pi slba cnt)) s
        else writeZone src n slba cnt false false fua {} (fun a => .ok (zeroBlks n pi a cnt)) s

/-- Zone Append (R44): at most 2 MiB, addressed to the zone start LBA; Dwords 0 and 1 tell where the data lies. -/
def ioZoneAppend (src : Src) (nsid zslba : Nat) (blks : List Blk) (fua : Bool) (pi : PiCtl) (s : State) : State :=
  match zonedGate s src.port nsid with
  | .error st => complete src st (s := s)
  | .ok n =>
    if blks = [] ∨ 512 < blks.length ∨ n.zsze = 0 ∨ zslba % n.zsze ≠ 0 then complete src .invalidField (s := s)
    else if n.size ≤ zslba then complete src .lbaRange (s := s)
    else match writeGate s src.port n with
      | some st => complete src st (s := s)
      | none =>
        writeZone src n zslba blks.length true true fua (n.xfer pi false blks.length)
          (fun a => entryBlks n pi true zslba a 0 blks) s

/-! ### Reading (R42, R94, R150) -/

/-- What an LBA of a zone reads as (R94). -/
def readBlk (n : Ns) (z : Zone) (off : Nat) : Blk :=
  if off < z.wp then (getKey off z.data).getD {} else unwrittenBlk n

/-- What an LBA of an FDP namespace reads as. -/
def readFdp (n : Ns) (lba : Nat) : Blk := (getKey lba n.fdpData).getD (unwrittenBlk n)

/-- One LBA of a read: its place in the read, its zone or reclaim unit and the offset there, and what was written to it. -/
structure ReadLba where
  /-- Place in the read. -/
  i : Nat
  /-- Zone or reclaim unit. -/
  idx : Nat
  /-- LBA offset there. -/
  off : Nat
  /-- What was written. -/
  blk : Blk
  deriving DecidableEq, Repr

/-- Two LBAs on one page: four codewords of a data page of one stripe (R586). -/
def ReadLba.samePage (a b : ReadLba) : Bool := a.idx == b.idx && a.off / 4 == b.off / 4

/-- The LBAs of a read, page by page. -/
def pagesOf : List ReadLba → List (List ReadLba)
  | [] => []
  | l :: ls =>
    match pagesOf ls with
    | (m :: ms) :: ps => if l.samePage m then (l :: m :: ms) :: ps else [l] :: (m :: ms) :: ps
    | ps => [l] :: ps

/-- What the tier found on the page of these LBAs: the entry for one of them. -/
def mediaOf (media : List Media) (page : List ReadLba) : Media :=
  (media.find? fun m => page.any fun l => l.i == m.off).getD {}

/-- What an LBA decodes to, and what its stripe rebuild gives, decrypted in an encrypted namespace (R530). -/
def decoded (n : Ns) (slba : Nat) (media : List Media) (l : ReadLba) : Blk × Blk :=
  let plain := fun b : Blk => fromFlash n.encrypted n.keyGen n.nsid (slba + l.i) b
  match media.find? fun m => m.off == l.i with
  | some m => ((m.got.map plain).getD l.blk, (m.again.map plain).getD l.blk)
  | none => (l.blk, l.blk)

/-- What one LBA's check gives: its block and whether the stripe rebuild was needed, or the check that failed (R199). -/
def checkLba (n : Ns) (slba : Nat) (media : List Media) (l : ReadLba) : Except PiErr (Blk × Bool) :=
  let d := decoded n slba media l
  let chk := storedCheck n.pi n.lbaf (slba + l.i)
  match chk d.1, chk d.2 with
  | none, _ => .ok (d.1, false)
  | some _, none => .ok (d.2, true)
  | some err, some _ => .error err

/-- The array reads of one page at a ladder step, charged as an operation says: of the page's own member, unless it is lost; at step 4 of
the other 15 members too (R150, R165). -/
def readOps (o : FlashOp) (z : Zone) (pos step : Nat) (s : State) : State :=
  let read := fun (t : State) (m : Member) =>
    if m.lost then t else requestOp m.port m.die { o with level := readLevel s z, block := m.block } t
  let own := (z.members.drop pos).take 1
  let rest := if 4 ≤ step then z.members.take pos ++ z.members.drop (pos + 1) else []
  (own ++ rest).foldl read s

/-- The array read of a host command (R110, R154). -/
def hostReadOp (s : State) (src : Src) : FlashOp :=
  { kind := .read, cls := .hostRead, tenant := tenantOfQueue s src.port src.sq, owner := some (src.port, src.sq) }

/-- What a read has so far: its blocks, its first failure. -/
structure ReadAcc where
  /-- Blocks, in order. -/
  blks : List Blk := []
  /-- First failure. -/
  err : Option Status := none
  deriving DecidableEq, Repr

/-- The blocks of a page after the device's check of each (R199): a block that only the stripe rebuild yields queues its member
block for refresh; one that it does not yield raises event 049 and fails the read. -/
def checkPage (n : Ns) (slba pos : Nat) (media : List Media) (page : List ReadLba) (r : ReadAcc × State) : ReadAcc × State :=
  page.foldl (fun r l =>
    match checkLba n slba media l with
    | .ok (b, false) => ({ r.1 with blks := r.1.blks ++ [b] }, r.2)
    | .ok (b, true) => ({ r.1 with blks := r.1.blks ++ [b] }, queueRefresh n.nsid l.idx pos r.2)
    | .error err =>
      ({ r.1 with err := r.1.err <|> some (PiErr.status err) }, raise 49 0 (evBytes 4 n.nsid ++ evBytes 4 (slba + l.i)) r.2)) r

/-- Read one page (R150, R158, R159, R165, R199): what is not in the zone's own blocks comes from HBM or staging; a unit that
has lost its blocks yields nothing. -/
def readPage (src : Src) (n : Ns) (slba : Nat) (media : List Media) (page : List ReadLba) (r : ReadAcc × State) :
    ReadAcc × State :=
  match page with
  | [] => r
  | l :: _ =>
    let z := zoneOf r.2 n.nsid l.idx
    if z.st = .offline then ({ r.1 with err := r.1.err <|> some .unrecoveredRead }, r.2)
    else if z.placed ≤ l.off then ({ r.1 with blks := r.1.blks ++ page.map (·.blk) }, r.2)
    else
      let pos := memberOf z l.off
      let m := mediaOf media page
      let step := effectiveStep z pos m.step
      let s1 := readEffects n.nsid l.idx pos step m.bits m.lost (readOps (hostReadOp r.2 src) z pos step r.2)
      if 5 ≤ step then ({ r.1 with err := r.1.err <|> some .unrecoveredRead }, s1)
      else checkPage n slba pos media page (r.1, s1)

/-- Read LBAs, page by page; a failed read counts one Media and Data Integrity Error (R173). -/
def readPages (src : Src) (n : Ns) (slba : Nat) (media : List Media) (l : List ReadLba) (s : State) : ReadAcc × State :=
  let r := (pagesOf l).foldl (fun r page => readPage src n slba media page r) ({}, s)
  if r.1.err.isSome then (r.1, { r.2 with hs := { r.2.hs with mediaErrors := r.2.hs.mediaErrors + 1 } }) else r

/-- Count a host read. -/
def countHostRead (cnt : Nat) (s : State) : State :=
  { s with hs := { s.hs with readCmds := s.hs.readCmds + 1, readUnits := s.hs.readUnits + cnt } }

/-- The completion of a read: the media's failure, then the pointer walk's, then the check of R202; `last` is the status when
none of them fails. A read that fails in its pointer walk may have delivered part of its data: the model delivers none (R50,
R51; DESIGN CHOICE, log 134). -/
def readAnswer (src : Src) (n : Ns) (slba : Nat) (pi : PiCtl) (last : Status) (r : ReadAcc) (s : State) : Completion :=
  match r.err, ptrFault s src (n.xfer pi true r.blks.length), exitBlks n pi slba 0 r.blks with
  | some err, _, _ => completionOf src err 0 0 [] []
  | none, some f, _ => completionOf src (PtrFault.status f) 0 0 [] []
  | none, none, .error err => completionOf src (PiErr.status err) 0 0 [] []
  | none, none, .ok out => completionOf src last 0 0 [] out

/-- Deliver a read, decided at dispatch: one with FUA once its LBAs are programmed (R42, R58, R123). -/
def deliverRead (src : Src) (t : Targets) (c : Completion) (s : State) : State :=
  if t = [] then answer src c s else hold src (.answered t false) s c

/-- The LBAs that a read with FUA finds unprogrammed, as targets (R58): of a zone up to the last of them, of reclaim units each. -/
def unflashed (s : State) (nsid : Nat) (l : List ReadLba) : Targets :=
  (l.filter fun x => decide ((zoneOf s nsid x.idx).flashed ≤ x.off)).map fun x => (nsid, x.idx, x.off + 1)

/-- A read of a recall target delivers the LBAs recalled and ends with Zone Boundary Error when it asks for more (R73). -/
def recallLimit (z : Zone) (off cnt : Nat) : Nat × Status :=
  if z.st = .recallTarget ∧ z.wp < off + cnt then (min cnt (z.wp - off), .zoneBoundary) else (cnt, .success)

/-- Read of a zoned namespace once its LBAs may be served. -/
def readZoned (src : Src) (e : Env) (n : Ns) (z : Zone) (slba off cnt : Nat) (fua : Bool) (pi : PiCtl) (s : State) : State :=
  let lim := recallLimit z off cnt
  let l := (List.range lim.1).map fun i => { i := i, idx := z.idx, off := off + i, blk := readBlk n z (off + i) : ReadLba }
  let r := readPages src n slba e.media l (touchLine (zoneMapAddr s n.nsid z.idx) false s)
  let t := if fua then unflashed s n.nsid (l.filter fun x => decide (x.off < z.wp)) else []
  deliverRead src t (readAnswer src n slba pi lim.2 r.1 s) r.2

/-- The LBAs of a read on an FDP namespace; an unwritten one lies beyond every unit. -/
def fdpLbas (s : State) (n : Ns) (slba cnt : Nat) : List ReadLba :=
  (List.range cnt).map fun i =>
    let p := (n.placeOf (slba + i)).getD (freeUnit s n.nsid, 0)
    { i := i, idx := p.1, off := p.2, blk := readFdp n (slba + i) }

/-- Read of an FDP namespace. -/
def readFdpNs (src : Src) (e : Env) (n : Ns) (slba cnt : Nat) (fua : Bool) (pi : PiCtl) (s : State) : State :=
  let l := fdpLbas s n slba cnt
  let r := readPages src n slba e.media l (touchFdp s n.nsid slba cnt false)
  let t := if fua then unflashed s n.nsid (l.filter fun x => (n.placeOf (slba + x.i)).isSome) else []
  deliverRead src t (readAnswer src n slba pi .success r.1 s) r.2

/-- Read (R42, R58, R83, R85, R94). -/
def ioRead (src : Src) (e : Env) (nsid slba cnt : Nat) (fua : Bool) (pi : PiCtl) (s : State) : State :=
  match nsGate s src.port nsid with
  | .error st => complete src st (s := s)
  | .ok n =>
    if cnt = 0 ∨ 1024 < cnt then complete src .invalidField (s := s)
    else if n.size < slba + cnt then complete src .lbaRange (s := s)
    else if reservAllows n src.port false = false then complete src .reservationConflict (s := s)
    else if n.fdp then readFdpNs src e n slba cnt fua pi (countHostRead cnt s)
    else
      let p := zoneOffset n slba
      let z := zoneOf s nsid p.1
      if z.st = .offline then complete src .zoneOffline (s := s)
      else if n.zsze < p.2 + cnt then complete src .zoneBoundary (s := s)
      else readZoned src e n z slba p.2 cnt fua pi (countHostRead cnt s)

/-! ### Flush and Dataset Management -/

/-- Completed data not yet programmed, of one namespace or of all (R59): in its zones or its reclaim units. -/
def dirtyTargets (s : State) (nsid : Option Nat) : Targets :=
  (s.hs.zones.filter fun z => (nsid.isNone || nsid == some z.nsid) && decide (z.flashed < z.ack)).map fun z => (z.nsid, z.idx, z.ack)

/-- A target of a wait is met: its data is programmed, or the zone or reclaim unit holds it no longer. -/
def targetMet (s : State) (t : Nat × Nat × Nat) : Bool :=
  let z := zoneOf s t.1 t.2.1
  decide (t.2.2 ≤ z.flashed) || decide (z.wp < t.2.2)

/-- Flush (R59). -/
def ioFlush (src : Src) (nsid : Nat) (s : State) : State :=
  let go := fun t : Targets => if t = [] then complete src .success (s := s) else hold src (.flush t) s
  if nsid = 0xFFFFFFFF then
    match sanitizeGate s with
    | some e => complete src e (s := s)
    | none => go (dirtyTargets s none)
  else match nsGate s src.port nsid with
    | .error st => complete src st (s := s)
    | .ok n =>
      if reservAllows n src.port true = false then complete src .reservationConflict (s := s)
      else go (dirtyTargets s (some nsid))

/-- LBAs that p selects are deallocated: they read as unwritten. -/
def Ns.forget (n : Ns) (p : Nat → Bool) : Ns :=
  { n with
    fdpData := n.fdpData.filter fun x => !p x.1
    fdpMap := n.fdpMap.filter fun x => !p x.1
    fdpOld := n.fdpOld.filter fun x => !p x.1 }

/-- Dataset Management on an FDP namespace: Deallocate only (R67, Table 2.7). -/
def ioDsm (src : Src) (nsid : Nat) (deallocate : Bool) (ranges : List (Nat × Nat)) (s : State) : State :=
  match nsGate s src.port nsid with
  | .error st => complete src st (s := s)
  | .ok n =>
    if n.fdp = false then complete src .invalidOpcode (s := s)
    else if ranges.any (fun r => decide (n.size < r.1 + r.2)) then complete src .lbaRange (s := s)
    else match writeGate s src.port n with
      | some st => complete src st (s := s)
      | none =>
        let gone := fun l : Nat => ranges.any fun r => decide (r.1 ≤ l) && decide (l < r.1 + r.2)
        if deallocate then complete src .success (s := tideRecord (modNs nsid (fun m => m.forget gone) s))
        else complete src .success (s := s)

/-! ### Zone management (R89, R90, R92, R93, R100) -/

/-- Carry out a move of Table 3.3 for Zone Management Send. -/
def moveZone (z : Zone) (m : ZMove) (s : State) : Except Status State :=
  match m with
  | .toExplicit =>
    match openZone z .explicitOpen false s with
    | .ok (z1, s1) => .ok (setZone z1 s1)
    | .error e => .error e
  | .toClosed => .ok (if z.wp = 0 then emptyZone z s else setZone { z with st := .closed } s)
  | .toFull =>
    if z.st = .empty then
      match bindZone { z with st := .full, arch := .resident } s with
      | some (z1, s1) => .ok (fillZone z1 s1)
      | none => .error .capacityExceeded
    else .ok (fillZone z s)
  | .toEmpty => .ok (emptyZone z s)
  | .toOffline => .ok (offlineZone z s)
  | _ => .ok s

/-- The column of Table 3.3 of a Zone Management Send action. -/
def ZAct.col : ZAct → ZCol
  | .open => .open
  | .close => .close
  | .finish => .finish
  | .reset => .reset
  | .offline => .offline
  | .setExtension => .open

/-- The states an action with Select All considers (R92). -/
def ZAct.considers (a : ZAct) (st : ZState) : Bool :=
  match a with
  | .open => st == .closed
  | .close => st == .implicitOpen || st == .explicitOpen
  | .finish => st == .implicitOpen || st == .explicitOpen || st == .closed
  | .reset => st == .implicitOpen || st == .explicitOpen || st == .closed || st == .full
  | .offline => st == .readOnly
  | .setExtension => false

/-- Select All: every considered zone whose cell is a transition takes it (R92). -/
def moveAll (nsid : Nat) (a : ZAct) (s : State) : State :=
  ((s.hs.zones.filter fun z => z.nsid == nsid && ZAct.considers a z.st).map (·.idx)).foldl (fun t i =>
    let z := zoneOf t nsid i
    match table33 z (ZAct.col a) with
    | .ok m =>
      match moveZone z m t with
      | .ok t' => t'
      | .error _ => t
    | .error _ => t) s

/-- Zone Management Send (R90, R92, R93). -/
def ioZoneSend (src : Src) (nsid slba : Nat) (a : ZAct) (all : Bool) (s : State) : State :=
  match zonedGate s src.port nsid with
  | .error st => complete src st (s := s)
  | .ok n =>
    if a = .setExtension then complete src .invalidField (s := s)
    else if all = false ∧ n.size ≤ slba then complete src .lbaRange (s := s)
    else if all = false ∧ (n.zsze = 0 ∨ slba % n.zsze ≠ 0) then complete src .invalidField (s := s)
    else match writeGate s src.port n with
      | some st => complete src st (s := s)
      | none =>
        if all then complete src .success (s := moveAll nsid a s)
        else
          let z := zoneOf s nsid (slba / n.zsze)
          match table33 z (ZAct.col a) with
          | .error st => complete src st (s := s)
          | .ok m =>
            match moveZone z m (touchLine (zoneMapAddr s nsid z.idx) true s) with
            | .error st => complete src st (s := s)
            | .ok s' => complete src .success (s := s')

/-- Zone state code of a zone descriptor (Zoned Namespace Command Set); a recall target reads Explicitly Opened (R89). -/
def ZState.code : ZState → Nat
  | .empty => 1
  | .implicitOpen => 2
  | .explicitOpen => 3
  | .recallTarget => 3
  | .closed => 4
  | .readOnly => 0xD
  | .full => 0xE
  | .offline => 0xF

/-- Archive state code of Table 3.5; a recall target's is Released. -/
def Zone.archCode (z : Zone) : Nat :=
  if z.st = .recallTarget then 4
  else match z.arch with
    | .resident => 0
    | .queued => 1
    | .inscribing => 2
    | .archivedResident => 3
    | .released => 4

/-- Zone descriptor extension (Table 3.5). -/
def zoneExtension (z : Zone) : List Byte :=
  leBytes 1 z.archCode ++ leBytes 1 ((if z.st = .recallTarget then 1 else 0) + (if z.realloc then 2 else 0)) ++ leBytes 6 0 ++
    leBytes 8 z.obj ++ leBytes 4 z.setId ++ leBytes 1 z.setK ++ leBytes 3 0 ++ leBytes 8 z.objLbas ++ leBytes 8 z.changed ++
    leBytes 4 z.affinity ++ leBytes 20 0

/-- Zone descriptor (Zoned Namespace Command Set; log 15). -/
def zoneDescriptor (n : Ns) (z : Zone) : List Byte :=
  let wp := match z.st with
    | .full | .readOnly | .offline => 2 ^ 64 - 1
    | _ => z.idx * n.zsze + z.wp
  leBytes 1 2 ++ leBytes 1 (16 * z.st.code) ++ leBytes 1 (if z.obj = 0 then 0 else 0x80) ++ leBytes 5 0 ++ leBytes 8 n.zcap ++
    leBytes 8 (z.idx * n.zsze) ++ leBytes 8 wp ++ leBytes 32 0

/-- The zones a report lists: state 0 all, 1 Empty, 2 Implicitly Opened, 3 Explicitly Opened, 4 Closed, 5 Full,
6 Read Only, 7 Offline. -/
def reported (state : Nat) (z : Zone) : Bool :=
  match state with
  | 0 => true
  | 1 => z.st.code == 1
  | 2 => z.st.code == 2
  | 3 => z.st.code == 3
  | 4 => z.st.code == 4
  | 5 => z.st.code == 0xE
  | 6 => z.st.code == 0xD
  | _ => z.st.code == 0xF

/-- Zone Management Receive: Report Zones and Extended Report Zones (R89, R100). -/
def ioZoneReceive (src : Src) (nsid slba : Nat) (extended : Bool) (state len : Nat) (s : State) : State :=
  match zonedGate s src.port nsid with
  | .error st => complete src st (s := s)
  | .ok n =>
    if n.size ≤ slba ∨ n.zsze = 0 then complete src .lbaRange (s := s)
    else if 7 < state then complete src .invalidField (s := s)
    else if reservAllows n src.port false = false then complete src .reservationConflict (s := s)
    else
      let zs := (((List.range n.zones).filter fun i => decide (slba / n.zsze ≤ i)).map (zoneOf s nsid)).filter (reported state)
      let body := zs.flatMap fun z => zoneDescriptor n z ++ (if extended then zoneExtension z else [])
      complete src .success (data := (leBytes 8 zs.length ++ leBytes 56 0 ++ body).take len) (s := s)

end Sys2Proof.Machine
end

