-- ==== Sys2Proof/Machine/DiscFormat.lean ====
section
/-! DEFINITION. The Grakax GX-24 disc format (07): tracks, bands, slots and angles, the placement of outer blocks, the
servo field's codes, and the codes a frame passes through on its way to channel bits. -/

namespace Sys2Proof.Machine

open Sys2Proof

/-! ### Tracks, bands, wedges (R239 to R249) -/

/-- Angle units of a wedge and of a revolution (R341). -/
def wedgeUnits : Nat := 65536

/-- Angle units of a revolution: 960 wedges (R341). -/
def revUnits : Nat := 62914560

/-- Radius of a track's centre in nm (R239). -/
def trackRadius (t : Int) : Int :=
  24000000 + t * 220 + 110

/-- Channel bits N of a data segment by band 0 to 23 (Table 7.5). -/
def bandN : List Nat :=
  [2953, 3127, 3301, 3476, 3650, 3824, 3999, 4173, 4347, 4522, 4696, 4870, 5045, 5219, 5393, 5568, 5742, 5916, 6091,
   6265, 6439, 6614, 6788, 6962]

/-- Frames per sector f by band (Table 7.5). -/
def bandF : List Nat :=
  [12, 13, 14, 15, 16, 16, 17, 18, 19, 20, 21, 21, 22, 23, 24, 25, 26, 26, 27, 28, 29, 30, 30, 31]

/-- Band of a track: 24 is band L (the lead-in); the lead-out uses band 23 (R246). -/
def bandOf (t : Int) : Nat :=
  if t < 0 then 24 else min 23 (t.toNat / 6440)

/-- The band number used for sets and strategy tables: band L counts as band 0 (R285, R381). -/
def bandIndex (t : Int) : Nat :=
  bandOf t % 24

/-- Channel bits of a data segment of a track's band (R245). -/
def segmentBits (t : Int) : Nat :=
  if t < 0 then 2768 else bandN.getD (bandOf t) 0

/-- Guard bits G = ⌊N/32⌋ (Table 7.4). -/
def guardBits (t : Int) : Nat :=
  segmentBits t / 32

/-- Clock word of a bay [0.5 Hz]: N/(0.94 × T), never outside 200 MHz to 1,250 MHz (R315, R346). -/
def clockWordOf (track : Int) (period : Nat) : Nat :=
  if period = 0 then 0
  else max 400000000 (min 2500000000 (segmentBits track * 200 * 10 ^ 12 / (94 * period)))

/-- Payload bits P = N − G − 200 (Table 7.4). -/
def payloadBits (t : Int) : Nat :=
  segmentBits t - guardBits t - 200

/-- Frames per sector of a track. -/
def framesPerSector (t : Int) : Nat :=
  if t < 0 then 12 else bandF.getD (bandOf t) 0

/-- First wedge of sector k of a track on a layer (R247). -/
def sectorStart (layer : Nat) (t : Int) (k : Nat) : Nat :=
  ((40 * layer + 8 * (t / 4) + 192 * k : Int) % 960).toNat

/-- Row of a track (R249). -/
def rowOfTrack (t : Int) : Int :=
  t / 4

/-- Start angle of a row on a layer, in angle units of the revolution (R249). -/
def rowStart (layer : Nat) (q : Int) : Nat :=
  ((40 * layer + 8 * q : Int) % 960).toNat * wedgeUnits

/-- Angle units from its row's start to the first channel bit of the frame in slot s of a track (R241, R245, R247). -/
def frameOffset (t : Int) (slot : Nat) : Nat :=
  let f := framesPerSector t
  let bit := 39600 * (slot % f)
  let seg := bit / payloadBits t
  let chan := 184 + bit % payloadBits t
  (192 * (slot / f) + seg) * wedgeUnits + (6 * segmentBits t + 94 * chan) * wedgeUnits / (100 * segmentBits t)

/-- A physical frame address (R260). -/
def pfaOf (layer : Nat) (t : Int) (slot : Nat) : Nat :=
  layer * 134217728 + (t % 262144).toNat * 512 + slot

/-- Layer of a PFA. -/
def pfaLayer (a : Nat) : Nat :=
  a / 134217728

/-- Track number modulo 2¹⁸ of a PFA. -/
def pfaTrack (a : Nat) : Nat :=
  a / 512 % 262144

/-- Slot of a PFA. -/
def pfaSlot (a : Nat) : Nat :=
  a % 512

/-- The track of a PFA with the lead-in's negative numbers restored (R239). -/
def pfaTrackInt (a : Nat) : Int :=
  if pfaTrack a < 200000 then (pfaTrack a : Int) else (pfaTrack a : Int) - 262144

/-! ### Outer blocks (R204, R257 to R264) -/

/-- Outer blocks of a disc (R204). -/
def outerBlocks : Nat := 3348214

/-- User frames of a disc (R204). -/
def userFrames : Nat := 374999968

/-- Layer and sector of position i < 112 once the parity layers are left out (R258). -/
def placeUser (p : Nat) : Nat → Nat → List Nat → Nat × Nat
  | _, _, [] => (0, 0)
  | 0, _, _ => (0, 0)
  | fuel + 1, n, l :: ls =>
    if l = p then placeUser p fuel n ls
    else
      let cnt := if l = p + 1 then 2 else 5
      if n < cnt then (l, n) else placeUser p fuel (n - cnt) ls

/-- Layer and sector of position i of outer block b (R258). -/
def place (b i : Nat) : Nat × Nat :=
  let p := b % 23
  if 112 ≤ i ∧ i ≤ 116 then (p, i - 112)
  else if 117 ≤ i then (p + 1, i - 115)
  else placeUser p 25 i (List.range 24)

/-- Sum of f over the bands below β (R259). -/
def bandSums : List Nat :=
  [0, 12, 25, 39, 54, 70, 86, 103, 121, 140, 160, 181, 202, 224, 247, 271, 296, 322, 348, 375, 403, 432, 462, 492]

/-- Track and sector offset j of block b on layer l (R259). -/
def locate (b l : Nat) : Nat × Nat :=
  let y := (b + (l / 5) * 669642) % outerBlocks
  let band := (bandSums.filter fun s => 6440 * s ≤ y).length - 1
  let r := y - 6440 * bandSums.getD band 0
  let f := bandF.getD band 1
  (6440 * band + r / f, r % f)

/-- PFA of position i of outer block b (R258 to R260). -/
def pfaOfPosition (b i : Nat) : Nat :=
  let lk := place b i
  let tj := locate b lk.1
  pfaOf lk.1 tj.1 (lk.2 * framesPerSector tj.1 + tj.2)

/-- PFA of a disc's user frame u (R276 step 1). -/
def pfaOfUser (u : Nat) : Nat :=
  pfaOfPosition (u / 112) (u % 112)

/-- Reserve slots of a layer (R264). -/
def reserveSlots : Nat := 79360

/-- PFA of reserve slot z of a layer (R264). -/
def reservePfa (layer z : Nat) : Nat :=
  pfaOf layer ((154048 + z / 155 : Nat) : Int) (z % 155)

/-- A data-area slot that R259 reaches (R261). -/
def slotUsed (t slot : Nat) : Bool :=
  decide (t ≤ 153916) || (t == 153917 && decide (slot % framesPerSector t ≤ 26))

/-- The outer block and position recorded in a data-area slot: the inverse of R258 and R259. -/
def blockOfSlot (l t slot : Nat) : Nat × Nat :=
  let band := t / 6440
  let f := bandF.getD band 1
  let y := 6440 * bandSums.getD band 0 + (t - 6440 * band) * f + slot % f
  let b := (y + outerBlocks - (l / 5) * 669642 % outerBlocks) % outerBlocks
  let k := slot / f
  let i := ((List.range 120).find? fun i => decide (place b i = (l, k))).getD 0
  (b, i)

/-- Areas of a layer (Table 7.2). -/
inductive Area where
  | mediaInfo | testBand | identity | guard | data | reserve | tailMap
  deriving DecidableEq, Repr

/-- Area of a track (R240). -/
def areaOf (t : Int) : Area :=
  if t < -6304 then .mediaInfo
  else if t < -4256 then .testBand
  else if t < -512 then .identity
  else if t < 0 then .guard
  else if t < 154048 then .data
  else if t < 154560 then .reserve
  else .tailMap

/-- Slots that may hold a frame (R240, R261, R263, R268, R270): none in the test band and the inner guard, in the identity area on layers
0 and 1 alone, in the data area those that R259 reaches, in the tail-map area sectors 0 to 3. -/
def slotHolds (layer : Nat) (t : Int) (slot : Nat) : Bool :=
  match areaOf t with
  | .mediaInfo | .reserve => true
  | .testBand | .guard => false
  | .identity => decide (layer ≤ 1)
  | .data => slotUsed t.toNat slot
  | .tailMap => decide (slot < 4 * framesPerSector t)

/-- Rows of a layer that carry data: 0 to 38,479 (R261). -/
def dataRows : Nat := 38480

/-! ### Servo field codes (R242, R243, R244) -/

/-- Binary value of an 18-bit Gray code (R243). -/
def grayDecode (g : Nat) : Nat :=
  let x1 := g ^^^ (g / 2)
  let x2 := x1 ^^^ (x1 / 4)
  let x3 := x2 ^^^ (x2 / 16)
  let x4 := x3 ^^^ (x3 / 256)
  (x4 ^^^ (x4 / 65536)) % 262144

/-- Gray code of a value (R243). -/
def grayEncode (v : Nat) : Nat :=
  v ^^^ (v / 2)

/-- Number of ones in the low n bits. -/
def onesIn : Nat → Nat → Nat
  | 0, _ => 0
  | n + 1, v => v % 2 + onesIn n (v / 2)

/-- The n low bits of a value, most significant first, in biphase: 1 is 10, 0 is 01 (R243). -/
def biphase (n v : Nat) : List Bool :=
  (List.range n).flatMap fun i => [bitOf v (n - 1 - i), !bitOf v (n - 1 - i)]

/-- Value of a biphase field. The first cell of a pair gives its bit (log 153). -/
def fromBiphase : List Bool → Nat → Nat
  | x :: _ :: rest, v => fromBiphase rest (2 * v + x.toNat)
  | _, v => v

/-- A value with its even-parity bit behind it (R243). -/
def withParity (n v : Nat) : Nat :=
  2 * v + onesIn n v % 2

/-- The coded fields of the servo field of a wedge of a track: cells 32 to 101 (Table 7.3). -/
def servoCode (layer wedge : Nat) (t : Int) : List Bool :=
  biphase 6 (withParity 5 layer) ++ biphase 11 (withParity 10 wedge) ++ biphase 18 (grayEncode (t % 262144).toNat)

/-- A servo field up to its bursts: preamble, sync mark, coded fields and gap (Table 7.3). -/
def servoField (layer wedge : Nat) (t : Int) : List Bool :=
  (List.replicate 5 [true, true, false, false]).flatten
    ++ [true, true, true, true, true, false, false, false, false, false, true, false] ++ servoCode layer wedge t ++ [false, false]

/-- Even parity over value bits and parity bit (R243). -/
def parityOk (n v : Nat) : Bool :=
  onesIn n v % 2 == 0

/-! ### Codes of a frame (R253 to R257, R206) -/

/-- Scrambler seed of a slot (R254). -/
def scrambleSeed (layer track slot : Nat) : Nat :=
  let s := ((layer * 262144 + track % 262144) ^^^ (slot * 8191)) % 8388608
  if s = 0 then 1 else s

/-- Scramble a frame's bits from a state of the shift register x²³ + x¹⁸ + 1 (R254). -/
def scramble (st : Nat) : List Bool → List Bool
  | [] => []
  | x :: xs =>
    let top := bitOf st 22
    let fb := if top != bitOf st 17 then 1 else 0
    (x != top) :: scramble (st * 2 % 8388608 + fb) xs

/-- Bits of a byte, most significant first (R237). -/
def byteBits (b : Byte) : List Bool :=
  (List.range 8).map fun i => b.getLsbD (7 - i)

/-- Circulant shift of an information column in a row of the base matrix (R255). -/
def shiftOf (r j : Nat) : Nat :=
  (37 * (r + 1) * (j + 1) + 11 * j * j) % 344

/-- Π^a · v (R255). -/
def rotate (a : Nat) (v : List Bool) : List Bool :=
  v.drop (a % 344) ++ v.take (a % 344)

/-- Sum of two blocks over GF(2). -/
def xorBits (a b : List Bool) : List Bool :=
  List.zipWith (fun x y => x != y) a b

/-- Block column j of 344 bits. -/
def column (x : List Bool) (j : Nat) : List Bool :=
  (x.drop (344 * j)).take 344

/-- The sum lam[r] of a row's information columns (R255). -/
def lamRow (x : List Bool) (r : Nat) : List Bool :=
  (List.range 96).foldl
    (fun acc j => if j % 3 = r % 3 then xorBits acc (rotate (shiftOf r j) (column x j)) else acc)
    (List.replicate 344 false)

/-- Parity blocks p2 to p11 after p1 (R255). -/
def parityTail (p0 : List Bool) : Nat → List Bool → List (List Bool) → List (List Bool)
  | _, _, [] => []
  | r, p, lam :: lams =>
    let q := xorBits (xorBits lam p) (if r = 6 then p0 else List.replicate 344 false)
    q :: parityTail p0 (r + 1) q lams

/-- Encode 33,024 scrambled bits into 37,152 bits (R255). -/
def ldpcEncode (x : List Bool) : List Bool :=
  let lams := (List.range 12).map (lamRow x)
  let p0 := lams.foldl xorBits (List.replicate 344 false)
  let p1 := xorBits (lams.headD []) (rotate 1 p0)
  let tail := parityTail p0 1 p1 ((lams.drop 1).take 10)
  x ++ p0 ++ p1 ++ tail.flatten

/-- The constrained code: the eighth bit of each 16-bit word is repeated (R256). -/
def constrain : Nat → List Bool → List Bool
  | 0, _ => []
  | fuel + 1, l =>
    if l.length < 16 then []
    else l.take 8 ++ (l.drop 7).take 1 ++ (l.drop 8).take 8 ++ constrain fuel (l.drop 16)

/-- Frame preamble and sync of R250. -/
def frameHead : List Bool :=
  (List.replicate 21 [true, true, false, false]).flatten ++ List.replicate 12 true ++ List.replicate 12 false
    ++ [true, true, false, false, true, true, false, false, true, true, false, true, false, false, true, true, false,
        false]

/-- The 39,600 channel bits of a frame's 4,128 bytes in a slot (R250, R253 to R256). -/
def channelBits (layer track slot : Nat) (frame : List Byte) : List Bool :=
  let x := scramble (scrambleSeed layer track slot) (frame.flatMap byteBits)
  frameHead ++ constrain 2322 (ldpcEncode x)

/-- Double an element of GF(2⁸) under 11Dh (R206, R257). -/
def gfDouble (a : Nat) : Nat :=
  if a < 128 then 2 * a else (2 * a) ^^^ 0x11D

/-- Product in GF(2⁸) under 11Dh, by the bits of the first factor. -/
def gfMulBits : Nat → Nat → Nat → Nat
  | 0, _, _ => 0
  | n + 1, a, b => (if a % 2 = 1 then b else 0) ^^^ gfMulBits n (a / 2) (gfDouble b)

/-- Product in GF(2⁸) (R206, R257). -/
def gfMul (a b : Nat) : Nat :=
  gfMulBits 8 a b

/-- P of the bytes of the data discs (R206). -/
def parityP (ds : List Nat) : Nat :=
  ds.foldl (· ^^^ ·) 0

/-- Q of the bytes of the data discs in index order: Horner's rule in g = 02h (R206). -/
def parityQ (ds : List Nat) : Nat :=
  ds.foldr (fun d q => d ^^^ gfDouble q) 0

/-- The generator polynomial of RS(120,112), highest coefficient first, without the leading 1 (R257). -/
def rsGenerator : List Nat :=
  let step := fun (g : List Nat) (root : Nat) =>
    List.zipWith (· ^^^ ·) (g ++ [0]) (0 :: g.map (gfMul root))
  let roots := [1, 2, 4, 8, 16, 32, 64, 128]
  (roots.foldl step [1]).drop 1

/-- The eight parity bytes of 112 message bytes, c0 first (R257). -/
def rsParity (msg : List Nat) : List Nat :=
  msg.foldl
    (fun r m =>
      let fb := m ^^^ r.headD 0
      List.zipWith (· ^^^ ·) (r.drop 1 ++ [0]) (rsGenerator.map (gfMul fb)))
    (List.replicate 8 0)

/-- Inverse in GF(2⁸): the 254th power. -/
def gfInv (a : Nat) : Nat :=
  let a2 := gfMul a a
  let a4 := gfMul a2 a2
  let a8 := gfMul a4 a4
  let a16 := gfMul a8 a8
  let a32 := gfMul a16 a16
  let a64 := gfMul a32 a32
  let a128 := gfMul a64 a64
  gfMul a128 (gfMul a64 (gfMul a32 (gfMul a16 (gfMul a8 (gfMul a4 a2)))))

/-- g to the power i. -/
def gfPow : Nat → Nat
  | 0 => 1
  | i + 1 => gfDouble (gfPow i)

/-! ### Erasure decoding of an outer block (R257, R304) -/

/-- Where position i stands in the codeword's polynomial: α to the power of its exponent (R257). -/
def locator (i : Nat) : Nat := gfPow (119 - i)

/-- A polynomial, lowest coefficient first, times x + r. -/
def timesRoot (p : List Nat) (r : Nat) : List Nat :=
  List.zipWith (· ^^^ ·) (0 :: p) (p.map (gfMul r) ++ [0])

/-- Value of a polynomial, lowest coefficient first. -/
def polyAt (p : List Nat) (x : Nat) : Nat :=
  p.foldr (fun c v => c ^^^ gfMul x v) 0

/-- Weights of the syndromes in the byte of position i when the others are erased beside it: the polynomial that is 1 at its locator and
0 at theirs. -/
def erasureWeights (i : Nat) (others : List Nat) : List Nat :=
  let p := (others.map locator).foldl timesRoot [1]
  p.map (gfMul (gfInv (polyAt p (locator i))))

/-- Syndrome j of the bytes at the positions that were read. -/
def syndrome (known : List (Nat × Nat)) (j : Nat) : Nat :=
  (known.map fun c => gfMul c.2 (gfPow (j * (119 - c.1)))).foldl (· ^^^ ·) 0

/-- The byte of an erased position (R304). -/
def erasedByte (weights : List Nat) (known : List (Nat × Nat)) : Nat :=
  (weights.mapIdx fun j w => gfMul w (syndrome known j)).foldl (· ^^^ ·) 0

/-- Step 3: position i of an outer block from the others that were read; none with more than 8 positions erased (R304). -/
def outerDecode (block : List (Nat × List Byte)) (i : Nat) : Option (List Byte) :=
  let known := block.filter fun c => decide (c.1 < 120) && c.1 != i
  let others := (List.range 120).filter fun n => n != i && !known.any fun c => c.1 == n
  if 8 ≤ others.length then none
  else
    let w := erasureWeights i others
    some ((List.range (maxOf (known.map fun c => c.2.length))).map fun n =>
      BitVec.ofNat 8 (erasedByte w (known.map fun c => (c.1, cellByte c.2 n))))

end Sys2Proof.Machine
end

