-- ==== Sys2Proof/Machine/Motion.lean ====
section
/-! DEFINITION. The step-by-step profile generator of a stepper (R418 to R423) in fixed point (log 40): speeds in 10⁻⁶
full steps/s, intervals in ps. -/

namespace Sys2Proof.Machine

open Sys2Proof

/-- One Newton step of an integer root search, by bisection on bits: the largest r below the next power of two with
f r ≤ n. -/
def rootBits (f : Nat → Nat) (n : Nat) : Nat → Nat → Nat
  | 0, r => r
  | k + 1, r => if f (r + 2 ^ k) ≤ n then rootBits f n k (r + 2 ^ k) else rootBits f n k r

/-- Integer square root. -/
def isqrt (n : Nat) : Nat :=
  rootBits (fun r => r * r) n 80 0

/-- Integer cube root. -/
def icbrt (n : Nat) : Nat :=
  rootBits (fun r => r * r * r) n 50 0

/-- Limits of a move: V in full steps/s, A in full steps/s², J in full steps/s³, 0 none (R420). -/
structure StepLim where
  /-- Velocity limit. -/
  v : Nat
  /-- Acceleration limit. -/
  a : Nat
  /-- Jerk limit. -/
  j : Nat
  deriving DecidableEq, Repr

/-- The first interval of a move [ps] (R420). -/
def firstInterval (lim : StepLim) (n : Nat) : Nat :=
  if lim.j = 0 then isqrt (2 * 10 ^ 24 / (n * max 1 lim.a)) else icbrt (6 * 10 ^ 36 / (n * lim.j))

/-- Load the timer with an interval (R420): rounded to 10 ns, the rest carried. -/
def Stepper.load (h : Nat) (t : Stepper) : Stepper :=
  let total : Int := (h : Int) + t.carry
  let n := ((total + 5000) / 10000).toNat
  { t with interval := n, h := total.toNat, carry := total - n * 10000 }

/-- Start a move (R420). -/
def Stepper.start (lim : StepLim) (t : Stepper) : Stepper :=
  let h := firstInterval lim t.res
  ({ t with
    moving := true
    v := 0
    a := 0
    carry := 0
    turn := false
    stopped := false
    energised := true
    creep := 10 ^ 18 / (t.res * max 1 h) }).load h

/-- Resolution for a speed with the hysteresis of Table 12.4 [10⁻⁶ full steps/s]. -/
def resolutionFor (res v : Nat) : Nat :=
  let u := v / 1000000
  let over' := fun k => decide (v > k * 1000000)
  if res = 256 then
    if over' 3000 then 1 else if over' 1500 then 4 else if over' 600 then 16 else if over' 150 then 64 else 256
  else if res = 64 then
    if over' 3000 then 1 else if over' 1500 then 4 else if over' 600 then 16 else if u < 135 then 256 else 64
  else if res = 16 then
    if over' 3000 then 1 else if over' 1500 then 4
    else if u < 135 then 256 else if u < 540 then 64 else 16
  else if res = 4 then
    if over' 3000 then 1
    else if u < 135 then 256 else if u < 540 then 64 else if u < 1350 then 16 else 4
  else
    if u < 135 then 256 else if u < 540 then 64 else if u < 1350 then 16 else if u < 2700 then 4 else 1

/-- A change to a coarser resolution waits for a whole multiple of the coarser step (R419). -/
def Stepper.follow (t : Stepper) : Stepper :=
  let n := resolutionFor t.res t.v
  if n < t.res ∧ t.pos % ((256 / n : Nat) : Int) ≠ 0 then { t with resNext := n }
  else { t with res := n, resNext := n }

/-- next_accel of R420; speeds in 10⁻⁶ full steps/s, accelerations in 10⁻⁶ full steps/s², h in ps. -/
def nextAccel (lim : StepLim) (v goal : Nat) (a : Int) (h : Nat) : Int :=
  let dv : Int := (goal : Int) - v
  let sgn : Int := if dv < 0 then -1 else if dv = 0 then 0 else 1
  let amax : Int := lim.a * 1000000
  if lim.j = 0 then sgn * min amax (dv.natAbs * 10 ^ 12 / max 1 h : Nat)
  else
    let near := decide ((dv.natAbs : Int) ≤ a * a / (2 * lim.j * 1000000))
    let aGoal := if near ∧ (0 < a) = (0 < dv) ∧ (a < 0) = (dv < 0) then 0 else sgn * amax
    let jh : Int := (lim.j * h / 1000000 : Nat)
    a + clampInt (-jh) jh (aGoal - a)

/-- stop_distance of R420 in 10⁻⁶ full steps. -/
def stopDistance (lim : StepLim) (v : Nat) (a : Int) : Nat :=
  if lim.j = 0 then v * v / (2 * max 1 lim.a * 1000000)
  else
    let ap := a.toNat
    let s := v * ap / (lim.j * 1000000) + ap * ap * ap / (3 * lim.j * lim.j * 10 ^ 12)
    let v' := v + ap * ap / (2 * lim.j * 1000000)
    let t := if v' * lim.j ≥ lim.a * lim.a * 1000000 then v' / max 1 lim.a + lim.a * 1000000 / lim.j
      else 2 * isqrt (v' * 1000000 / lim.j)
    s + v' * t / 2000000

/-- Goal speed of a step (R420): the target's stop distance, or the velocity command; a command against the direction
of travel, or below the creep speed, calls for a stop (R421). -/
def Stepper.goalSpeed (lim : StepLim) (t : Stepper) : Nat :=
  if t.vmode then
    let c := t.cmd.natAbs * 1000000
    if (t.cmd < 0 ∧ 0 < t.dir) ∨ (0 < t.cmd ∧ t.dir < 0) then 0 else min c (lim.v * 1000000)
  else
    let d := (t.goal - t.pos).natAbs * 1000000 / 256
    let against := (t.goal < t.pos ∧ 0 < t.dir) ∨ (t.pos < t.goal ∧ t.dir < 0)
    if against ∨ d ≤ stopDistance lim t.v t.a + 1000000 / t.res then 0 else lim.v * 1000000

/-- The end of a move: hold current (R420). -/
def Stepper.rest (t : Stepper) : Stepper :=
  { t with moving := false, v := 0, a := 0, carry := 0, interval := 0, turn := false }

/-- Speed, resolution and interval after a step (R420, R421). -/
def Stepper.pace (lim : StepLim) (t : Stepper) : Stepper :=
  let goal := t.goalSpeed lim
  let a := nextAccel lim t.v goal t.a t.h
  let vn : Int := t.v + a * t.h / 10 ^ 12
  let hit := decide ((0 < a ∧ (goal : Int) ≤ vn) ∨ (a < 0 ∧ 0 < goal ∧ vn ≤ goal))
  let v' := if hit then goal else vn.toNat
  let t1 : Stepper := ({ t with v := max v' t.creep, a := if hit then 0 else a }).follow
  t1.load (10 ^ 18 / (t1.v * t1.res))

/-- Which way the target or command lies: 1, -1, or 0 for nowhere to go. -/
def Stepper.wanted (t : Stepper) : Int :=
  if t.vmode then (if t.cmd < 0 then -1 else if t.cmd = 0 then 0 else 1)
  else if t.goal < t.pos then -1 else if t.goal = t.pos then 0 else 1

/-- The timer of a moving stepper expires (R420, R421): one step, then the next interval; a stepper that has slowed to
creep against its goal holds still for one interval and starts anew. -/
def Stepper.tick (lim : StepLim) (t : Stepper) : Stepper :=
  if t.turn then
    if t.wanted = 0 then t.rest else ({ t with dir := t.wanted }).start lim
  else
    let t1 := { t with pos := t.pos + t.dir * ((256 / t.res : Nat) : Int) }
    if t1.vmode = false ∧ t1.pos = t1.goal then t1.rest
    else if t1.vmode ∧ t1.cmd.natAbs * 1000000 < t1.creep then t1.rest
    else if t1.wanted ≠ t1.dir ∧ t1.v ≤ t1.creep then { t1 with turn := true }
    else t1.pace lim

/-- Send a stepper to a position (R418): a target where it stands ends at once. -/
def Stepper.moveTo (lim : StepLim) (goal : Int) (t : Stepper) : Stepper :=
  let t1 := { t with vmode := false, goal := goal }
  if t.moving then t1
  else if goal = t.pos then { t1 with stopped := false, energised := true }
  else ({ t1 with dir := if goal < t.pos then -1 else 1 }).start lim

/-- Give a stepper a velocity command (R418, R421). -/
def Stepper.velocity (lim : StepLim) (cmd : Int) (t : Stepper) : Stepper :=
  let t1 := { t with vmode := true, cmd := cmd }
  if t.moving ∨ cmd = 0 then t1 else ({ t1 with dir := if cmd < 0 then -1 else 1 }).start lim

/-- End every step at once (R425): the position is possibly lost. -/
def Stepper.halt (t : Stepper) : Stepper :=
  { t.rest with lost := true, stopped := true, homing := false, vmode := false }

end Sys2Proof.Machine
end

