-- ==== Sys2Proof/Machine/Bay.lean ====
section
/-! DEFINITION. What every chapter of a bay shares: its events, its angle, its disc of a set, register writes to the
head, the drop of the write gate (R221, R333), loss of focus and tracking (R395, R396), stops and parks of its motors,
and the entry to bay-Harbour (R450). -/

namespace Sys2Proof.Machine

open Sys2Proof

/-- A bay. -/
def bayAt (s : State) (b : BayId) : Bay :=
  s.bays.get b

/-- Raise a bay's event (Table 16.7). -/
def raiseBay (b : BayId) (off cause : Nat) (data : List Nat) (s : State) : State :=
  raise (bayEvent b off) cause data s

/-! ### Angle (R341 to R345) -/

/-- Core-clock time [ps] (R343). -/
def nowPs (s : State) : Nat :=
  s.clock * 625

/-- Angle of a timebase at a time [ps] before or after its last update, at its uniform rate. -/
def Tb.angleAt (t : Tb) (ps : Nat) : Int :=
  if t.state = 0 ∨ t.rate = 0 then t.angle
  else (t.angle : Int) + ((ps : Int) - (t.anchor : Int)) * (wedgeUnits : Nat) / (t.rate : Nat)

/-- Present angle of a bay: the angle at its last update and what the disc has turned since, at a uniform rate (R345). -/
def presentAngle (s : State) (b : BayId) : Nat :=
  let t := (bayAt s b).tb
  if t.state = 0 ∨ t.rate = 0 then t.angle else t.angle + (nowPs s - t.anchor) * wedgeUnits / t.rate

/-- The angle stamp of an absolute angle (Table 10.2). -/
def stampOf (a : Nat) : Nat :=
  (a / revUnits % 4194304) * 67108864 + (a / wedgeUnits % 960) * 65536 + a % 65536

/-- Angle units in a number of ns at a bay's wedge period. -/
def unitsOfNs (t : Tb) (ns : Nat) : Nat :=
  if t.period = 0 then 0 else ns * 1000 * wedgeUnits / t.period

/-! ### The sample counter (R315, R316, R343) -/

/-- Core-clock time of a value of the sample counter [ps]: from the last cell that gave one, at the frequency of the clock word (R343). -/
def Cway.timeOf (c : Cway) (sc : Nat) : Nat :=
  ((c.scAt : Int) + signedOf 4 (sc + (2 ^ 32 - c.sc % 2 ^ 32)) * 2 * 10 ^ 12 / (max 1 c.clockWord : Nat)).toNat

/-- A value of the sample counter at a core-clock time [ps] (R356). -/
def Cway.scOf (c : Cway) (ps : Nat) : Nat :=
  (((c.sc : Int) + ((ps : Int) - (c.scAt : Int)) * (c.clockWord : Nat) / (2 * 10 ^ 12 : Nat)) % (2 ^ 32 : Nat)).toNat

/-- Angle units by which a trailing spot lies behind A0: its along-track offset at its track's radius (R343, Table 9.11). -/
def spotOffset (y : Bay) (spot : Nat) : Int :=
  let off := signedOf 2 (cellField y.cway.identity (64 + 2 * (3 + spot)) 2)
  off * 100 * (revUnits : Nat) * 113 / (710 * trackRadius (y.servo.track + (spot : Nat)))

/-! ### Discs of started sets (R213, R224) -/

/-- A disc a bay is being written for: claimed and neither closed nor failed. -/
def SetDisc.live (d : SetDisc) : Bool :=
  d.claimed && d.status != .closed && d.status != .failed

/-- The disc of a started set that a bay holds or waits for, with its set. -/
def discOn (s : State) (b : BayId) : Option (Nat × SetDisc) :=
  s.ebb.sets.findSome? fun st =>
    (st.discs.find? fun d => d.live && d.bay == b.val).map fun d => (st.sid, d)

/-- Change the disc of a role of a set. -/
def modDisc (sid role : Nat) (f : SetDisc → SetDisc) (s : State) : State :=
  { s with
    ebb := { s.ebb with
      sets := modWhere (fun st => st.sid == sid)
        (fun st => { st with discs := modWhere (fun d => d.role == role) f st.discs }) s.ebb.sets } }

/-! ### Library requests (R478, R479) -/

/-- Post a request, or withdraw it with code 0: a new sequence when anything changes (R477). -/
def postRequest (b : BayId) (code reason : Nat) (serial : List Byte) (s : State) : State :=
  modBay b
    (fun y =>
      if y.reqCode = code ∧ y.reqReason = reason ∧ y.reqSerial = serial then y
      else { y with
        reqCode := code
        reqReason := reason
        reqSerial := serial
        reqSeq := (y.reqSeq + 1) % 256
        reqAt := s.clock }) s

/-- Withdraw the standing request (R478). -/
def withdraw (b : BayId) (s : State) : State :=
  postRequest b 0 0 [] s

/-! ### Head front end (R328, R333) -/

/-- Any laser of the bay is on (R428): the reported mode, unless CW_LEN is low (R331). -/
def Bay.laserOn (y : Bay) : Bool :=
  y.cway.len && y.cway.laser != 0

/-- Send a register write, or queue it behind the one outstanding (R328). -/
def Cway.write (addr v : Nat) (c : Cway) : Cway :=
  if c.regOut.isNone then { c with regSeq := (c.regSeq + 1) % 256, regOut := some (addr, v, 1) }
  else { c with regQueue := c.regQueue ++ [(addr, v)] }

/-- The next queued register write goes out once the last is acknowledged (R328). -/
def Cway.acked (c : Cway) : Cway :=
  match c.regQueue with
  | [] => { c with regOut := none }
  | (a, v) :: rest => { c with regSeq := (c.regSeq + 1) % 256, regOut := some (a, v, 1), regQueue := rest }

/-- The new epoch and the clearing of the sticky fault bits after a gate drop (R333). -/
def Cway.newEpoch (c : Cway) : Cway :=
  let e := (c.epoch + 1) % 16
  (({ c with epoch := e }).write 3 e).write 4 c.faults.toNat

/-! ### Slips and failed discs (R220, R223) -/

/-- A failed disc's bay stops writing it. -/
def Bay.noDisc (y : Bay) : Bay :=
  { y with
    work := 0
    role := 255
    chan := { y.chan with rowActive := false, frames := [], resumeFrom := none } }

/-- Fail a disc of a set (R223): event 114; its bay is released and its request for a blank disc withdrawn. -/
def discFailed (sid role cause : Nat) (s : State) : State :=
  match (s.ebb.sets.find? fun st => st.sid == sid).bind fun st => st.discs.find? fun d => d.role == role && d.live with
  | none => s
  | some d =>
    let s1 := modDisc sid role (fun d => { d with status := .failed, claimed := false, staged := 0 }) s
    let s2 :=
      if h : d.bay < 16 then
        let b : BayId := ⟨d.bay, h⟩
        let s3 := modBay b Bay.noDisc s1
        if (bayAt s3 b).reqCode = 1 ∨ (bayAt s3 b).reqReason = 5 then withdraw b s3 else s3
      else s1
    raise 114 cause (evBytes 4 sid ++ [role]) s2

/-- A frame of a disc is slipped (R220): it takes the next unused reserve slot of its layer; a layer with none left
fails the disc (R223). -/
def slipFrame (sid role planned : Nat) (s : State) : State :=
  match (s.ebb.sets.find? fun st => st.sid == sid).bind fun st => st.discs.find? fun d => d.role == role with
  | none => s
  | some d =>
    if reserveSlots ≤ d.slot then discFailed sid role 1 s
    else modDisc sid role
      (fun d => { d with slips := d.slips ++ [(planned, d.slot)], slot := d.slot + 1, slipped := d.slipped + 1 }) s

/-- A frame of a set's own content, which slips; the records of lead-in and tail map do not (R271, log 41). -/
def FrameW.slips (f : FrameW) : Bool :=
  let t := pfaTrackInt f.planned
  decide (0 ≤ t ∧ t < 154048)

/-- Channel policy n of a bay: that of its last row start (R308). -/
def policyOf (s : State) (b : BayId) (n : Nat) : Nat :=
  if (bayAt s b).chan.policy = [] then num s 0x2830 n else (bayAt s b).chan.policy.getD (n - 1) 0

/-- A row of the bay starts: what was written to 2830h takes effect, and a new read power goes to the head (R308, Table 9.10). -/
def takePolicy (s : State) (y : Bay) : Bay :=
  let power := num s 0x2830 6
  { y with
    chan := { y.chan with policy := (List.range 7).map fun i => num s 0x2830 (i + 1) }
    cway := if y.cway.state = 2 ∧ y.cway.readPower ≠ power then { (y.cway.write 1 power) with readPower := power } else y.cway }

/-! ### The write gate (R221, R280, R333, R334) -/

/-- Frames of a row at a gate drop: those with marks begun and not confirmed are slipped; behind them on each spot, as
many as were held issued are withdrawn (R279, R280). -/
def sortFrames (start lat drop ahead : Nat) (fs : List FrameW) : List FrameW × Nat × Nat × List Nat :=
  let begun := fun (f : FrameW) => decide (f.st < 3 ∧ start + f.start + lat ≤ drop)
  let waiting := fun (spot : Nat) (f : FrameW) => f.spot == spot && decide (f.st < 3) && !begun f
  let issued := (List.range 4).flatMap fun spot => ((fs.filter (waiting spot)).take ahead).map fun f => (f.pfa, f.spot)
  let out := fs.map fun f =>
    if begun f then { f with st := 4 } else if f.st < 3 ∧ issued.contains (f.pfa, f.spot) then { f with st := 5 } else f
  (out, (fs.filter begun).length, issued.length, (fs.filter fun f => begun f && f.slips).map FrameW.planned)

/-- Index of the first frame to be written when the bay resumes (R221). -/
def firstUnwritten (fs : List FrameW) : Option Nat :=
  fs.findIdx? fun f => decide (f.st < 3 ∨ f.st = 5)

/-- Drop a bay's write gate if it is high (R221, R333, R334): run-ahead is undone, the event of the drop is raised with
its angle stamp and the number of frames slipped, a new epoch is written, and the servo returns to follow (R394). How
many whole frames were held issued on each spot is between one and three and otherwise free (R279, log 42). -/
def dropGate (b : BayId) (cause : Nat) (s : State) : State :=
  let y := bayAt s b
  if y.cway.wg = false then s
  else
    let now := presentAngle s b
    let drop := now + unitsOfNs y.tb y.cway.gateOff
    let ahead := 1 + (freeOf s).toNat % 3
    let r := sortFrames y.chan.rowStart (unitsOfNs y.tb y.cway.latency) drop ahead y.chan.frames
    let begun := r.2.1
    let chan := { y.chan with
      frames := r.1
      resumeFrom := firstUnwritten r.1
      begun := satAdd 18446744073709551615 y.chan.begun begun
      slipped := satAdd 18446744073709551615 y.chan.slipped begun
      withdrawn := satAdd 18446744073709551615 y.chan.withdrawn r.2.2.1
      byCriterion := modNth y.chan.byCriterion 7 fun n => satAdd 4294967295 n begun }
    let s1 := modBay b
      (fun y => { y with
        chan := chan
        cway := ({ y.cway with wg := false }).newEpoch
        servo := if y.servo.state = 6 then { y.servo with state := 3, mode := 1, settled := 0 } else y.servo }) (spend s)
    let s2 := match discOn s b with
      | some (sid, d) => r.2.2.2.foldl (fun t p => slipFrame sid d.role p t) s1
      | none => s1
    raiseBay b 3 cause (evBytes 6 (stampOf drop) ++ [min 255 begun]) s2

/-- Drop the gates of every bay. -/
def dropAllGates (cause : Nat) (s : State) : State :=
  allBays.foldl (fun t b => dropGate b cause t) s

/-! ### Loops, loss of focus and tracking (R395, R396) -/

/-- Open the loops a selector names: their outputs are held at 0 and nothing waits to be applied. -/
def openLoops (p : Nat → Bool) (v : Servo) : Servo :=
  { v with loops := v.loops.mapIdx fun i l => if p i then { l with isOpen := true, out := 0, next := none } else l }

/-- Loop types other than the spindle's (Table 11.1). -/
def notSpindle (i : Nat) : Bool :=
  i != 4 && i != 5

/-- A loop of a bay is closed. -/
def Servo.closed (v : Servo) (i : Nat) : Bool :=
  match v.loops[i]? with
  | some l => !l.isOpen
  | none => false

/-- Change one loop. -/
def Servo.modLoop (i : Nat) (f : Loop → Loop) (v : Servo) : Servo :=
  { v with loops := modNth v.loops i f }

/-- Stop the sled's following: it slows to hold where it is (R396). -/
def Stepper.stand (t : Stepper) : Stepper :=
  if t.vmode then { t with cmd := 0 } else t

/-- Tracking is lost (R395, R396): row is the row of Table 11.8. The output ramps to zero over 16 wedges and the sled
stops; with focus closed the bay then seeks back to the row it lost. -/
def trackingLost (b : BayId) (row gateCause : Nat) (s : State) : State :=
  let y := bayAt s b
  if y.servo.closed 1 = false then dropGate b gateCause s
  else
    let s1 := dropGate b gateCause s
    let s2 := modBay b
      (fun y => { y with
        servo := { (openLoops (fun i => i == 3) (y.servo.modLoop 1 fun l => { l with isOpen := true, next := none })) with
          trackLost := satAdd 4294967295 y.servo.trackLost 1
          rampOut := 16
          lostRow := some (rowOfTrack y.servo.track)
          state := if y.servo.closed 0 then 4 else y.servo.state
          mode := if y.servo.closed 0 then 2 else y.servo.mode
          rampT := {}
          eRun := 0
          settled := 0
          writeAsked := false }
        sled := y.sled.stand }) s1
    raiseBay b 1 row ([y.servo.layer, 0, 0, 0] ++ evBytes 4 (y.servo.track % 4294967296).toNat) s2

/-- Drive the lens to park: the actuator's rest position, depth −150 µm (R388, R396). -/
def Servo.park (v : Servo) : Servo :=
  { (openLoops notSpindle v) with
    mode := 0
    layer := 255
    prof := { v.prof with on := true, r := -150 * 16777216, p := v.estP / (147456 / 2), v := 0, a := 0 }
    profT := {}
    rampF := {}
    rampT := {}
    confirming := false
    sCount := 0
    settling := 0
    lowSum := 0
    feRun := 0
    focusRuns := 0
    writeAsked := false }

/-- Focus is lost (R395, R396): every loop but the spindle's opens, the lens goes to park, and the lost layer is to be
captured again. -/
def focusLost (b : BayId) (row gateCause : Nat) (s : State) : State :=
  let y := bayAt s b
  if y.servo.closed 0 = false then dropGate b gateCause s
  else
    let s1 := trackingLost b row gateCause s
    let s2 := modBay b
      (fun y => { y with
        servo := { y.servo.park with
          state := 1
          target := y.servo.layer
          focusLost := satAdd 4294967295 y.servo.focusLost 1
          lostRow := some (rowOfTrack y.servo.track) }
        sled := y.sled.stand }) s1
    raiseBay b 0 row [y.servo.layer] s2

/-- The timebase leaves its state for acquire or off (R359): the gate drops first, tracking is lost when it was closed
(Table 11.8), and every queued entry is discarded. -/
def leaveLock (b : BayId) (goal gateCause : Nat) (s : State) : State :=
  let was := (bayAt s b).tb.state
  let s1 := dropGate b gateCause s
  let s2 := if was = 2 ∨ was = 3 then (if (bayAt s b).servo.closed 1 then trackingLost b 4 6 s1 else s1) else s1
  let a := presentAngle s b
  modBay b
    (fun y => { y with
      tb := { y.tb with
        state := goal
        queue := []
        lockRun := []
        missed := 0
        closed := none
        angle := a
        anchor := nowPs s
        rate := if goal = 0 then 0 else y.tb.rate } }) s2

/-- A Causeway error (R339): the gate drops with cause Causeway, then the error's own event. -/
def causewayError (b : BayId) (cause : Nat) (s : State) : State :=
  raiseBay b 7 cause (evBytes 2 (bayAt s b).cway.faults.toNat) (dropGate b 3 s)

/-! ### Motors (R409, R414, R425, R427) -/

/-- The spindle bridge is latched off (Table 13.8 bit 0). -/
def Bay.spindleFault (y : Bay) : Bool :=
  y.cald.faults.getLsbD 0

/-- A spindle that counts as starting (R409). -/
def Spin.starting (p : Spin) : Bool :=
  p.state == 1 || p.state == 2 || (p.state == 3 && (!p.sensorless || p.rampUp))

/-- Spindles that are starting. -/
def startingCount (s : State) : Nat :=
  (allBays.filter fun b => (bayAt s b).spin.starting).length

/-- The spindle's two loops open: nothing drives its bridge. -/
def Bay.undriven (y : Bay) : Bay :=
  { y with servo := openLoops (fun i => i == 4 || i == 5) y.servo }

/-- Watch before driving (R404): every gate off. -/
def Spin.watch (target : Nat) (p : Spin) : Spin :=
  { p with
    state := 1
    target := target
    gates := 0
    duty := 0
    sensorless := false
    rampUp := false
    rampDue := false
    runAt := none
    ramp := {}
    forced := 0
    goodRun := 0
    missedRun := 0
    crossed := false
    duePred := 0
    retryDue := false
    waitStart := none
    afterBrake := false
    brakeHold := false
    dipCoast := false }

/-- A new target for a spindle that runs sensorless: the set-point ramps to it from the measured speed (R408). -/
def Spin.retarget (target : Nat) (p : Spin) : Spin :=
  { p with
    state := 3
    target := target
    rampUp := decide (p.speed < target)
    rampDue := true
    runAt := none
    waitStart := none }

/-- A waiting start gets its place: a spindle that runs goes to its new target, any other is watched first. -/
def Bay.admitted (y : Bay) : Bay :=
  let t := y.spin.waitStart.getD 7200
  if y.spin.sensorless then { y with spin := y.spin.retarget t } else { y.undriven with spin := y.spin.watch t }

/-- Give waiting starts the free places, in the order they arrived (R409). -/
def admitStarts : Nat → State → State
  | 0, s => s
  | n + 1, s =>
    let ready := allBays.filter fun b => (bayAt s b).spin.waitStart.isSome && (bayAt s b).spin.state != 6
    if ready = [] ∨ 4 ≤ startingCount s then s
    else
      let least := minOf 0 (ready.map fun b => (bayAt s b).spin.order)
      match ready.find? fun b => (bayAt s b).spin.order == least with
      | none => s
      | some b => admitStarts n (modBay b Bay.admitted s)

/-- Coast (R414): all gates off; a start ends (R429); a faulted spindle stays faulted. -/
def Spin.coast (p : Spin) : Spin :=
  { p with
    state := if p.state = 0 ∨ p.state = 8 then p.state else 7
    gates := 0
    duty := 0
    sensorless := false
    rampUp := false
    rampDue := false
    runAt := none
    ramp := {}
    duePred := 0
    retryDue := false
    waitStart := none
    afterBrake := false
    brakeHold := false
    dipCoast := false }

/-- Brake (R406, R414): the low sides together; a bridge that is faulted coasts. A spindle below 30 rpm goes to the hold
at once. -/
def Bay.brake (y : Bay) : Bay :=
  if y.spin.state = 0 ∨ y.spin.state = 8 ∨ y.spindleFault then
    { y.undriven with spin := { y.spin.coast with target := 0 } }
  else { y.undriven with
    spin := { y.spin.coast with
      state := 6
      gates := if y.spin.speed < 30 then 3 else 2
      brakeHold := decide (y.spin.speed < 30)
      target := 0
      counts := modNth y.spin.counts 2 (satAdd 4294967295 1) } }

/-- Estimated line-to-line back-EMF at a speed [mV] (3020h.06). -/
def backEmf (s : State) (b : BayId) (rpm : Nat) : Nat :=
  bnum s b 0x20 6 * rpm / 1000

/-- Duty of a brake [per mille]: min(1, I_lim × resistance / E) (R406). -/
def brakeDuty (s : State) (b : BayId) : Nat :=
  let e := backEmf s b (bayAt s b).spin.speed
  if e = 0 then 1000 else min 1000 (bnum s b 0x20 8 * bnum s b 0x20 0x10 / e)

/-- The duty of a spindle that brakes. -/
def setBrakeDuty (b : BayId) (s : State) : State :=
  if (bayAt s b).spin.gates = 2 then
    modBay b (fun y => { y with spin := { y.spin with duty := brakeDuty s b } }) s
  else s

/-- Brake a bay's spindle and let the next waiting start in. -/
def spinBrake (b : BayId) (s : State) : State :=
  admitStarts 16 (setBrakeDuty b (modBay b Bay.brake s))

/-- Coast a bay's spindle and let the next waiting start in. -/
def spinCoast (b : BayId) (s : State) : State :=
  admitStarts 16 (modBay b (fun y => { y.undriven with spin := { y.spin.coast with target := 0 } }) s)

/-- Limits of the sled (3030h); while the gate is high or the bay is in mode write, the neap limit (R424). -/
def sledLim (s : State) (b : BayId) : StepLim :=
  let y := bayAt s b
  let v := if y.servo.mode = 3 ∨ y.cway.wg then 359 else bnum s b 0x30 6
  { v := v, a := bnum s b 0x30 7, j := bnum s b 0x30 8 }

/-- Limits of the loader (3040h). -/
def loaderLim (s : State) (b : BayId) : StepLim :=
  { v := bnum s b 0x40 7, a := bnum s b 0x40 8, j := bnum s b 0x40 9 }

/-- Limits of the collimator (3040h). -/
def collLim (s : State) (b : BayId) : StepLim :=
  { v := bnum s b 0x40 0x0E, a := bnum s b 0x40 0x0F, j := bnum s b 0x40 0x10 }

/-- Position of the collimator for a layer (R397): the accepted value, else C0 + C1 × d(l). -/
def collTarget (s : State) (b : BayId) (layer : Nat) : Int :=
  match ((bayAt s b).servo.colPos[layer]?).join with
  | some v => v
  | none =>
    bint s 4 b 0x40 0x0C + (bnum s b 0x40 0x0D : Int) * ((bayAt s b).recDepths.getD layer 0 : Nat) / 160

/-- The sled's state and current at rest after a move (Table 12.6). -/
def Bay.sledRest (hold : Nat) (y : Bay) : Bay :=
  { y with sled := { y.sled with current := hold }, sledState := if y.sled.stopped then 4 else 0 }

/-- Stop the sled at once (R425): held at hold current, possibly lost; event 5 with cause stepper stop. -/
def haltSled (b : BayId) (s : State) : State :=
  let hold := bnum s b 0x30 0x0B
  raiseBay b 5 2 []
    (modBay b
      (fun y => { y with
        sled := { y.sled.halt with current := hold }
        sledState := 4
        sledCounts := modNth (modNth y.sledCounts 2 (satAdd 4294967295 1)) 4 (satAdd 4294967295 1) }) s)

/-- Stop the loader at once (R425): its position is possibly lost. -/
def haltLoader (b : BayId) (s : State) : State :=
  modBay b (fun y => { y with loader := { y.loader.halt with clampHold := false }, loaderState := 4 }) s

/-- Stop the collimator at once (R425). -/
def haltColl (b : BayId) (s : State) : State :=
  let hold := bnum s b 0x40 0x13
  modBay b (fun y => { y with coll := { y.coll.halt with current := hold }, collState := 4 }) s

/-- Move the sled to a position (R418). -/
def sledTo (b : BayId) (goal : Int) (s : State) : State :=
  let lim := sledLim s b
  let cur := bnum s b 0x30 9
  modBay b
    (fun y => { y with
      sled := { (y.sled.moveTo lim goal) with current := cur, homing := false }
      sledState := if goal = y.sled.pos ∧ y.sled.moving = false then 0 else 1
      sledCounts := modNth y.sledCounts 0 (satAdd 4294967295 1) }) s

/-- Move the collimator to a position. -/
def collTo (b : BayId) (goal : Int) (s : State) : State :=
  let lim := collLim s b
  let cur := bnum s b 0x40 0x12
  modBay b
    (fun y => { y with
      coll := { (y.coll.moveTo lim goal) with current := cur, homing := false }
      collState := if goal = y.coll.pos ∧ y.coll.moving = false then 1 else 2 }) s

/-- Park the sled and the collimator (R427): a moving one stops at once and stays where it stopped; one whose position
is lost or whose bridge is faulted is left. -/
def parkSteppers (b : BayId) (s : State) : State :=
  let y := bayAt s b
  let s1 := if y.sled.moving then haltSled b s
    else if y.sled.lost ∨ y.cald.faults.getLsbD 1 then s
    else sledTo b (bint s 4 b 0x30 0x0D) s
  if y.coll.moving then haltColl b s1
  else if y.coll.lost ∨ y.cald.faults.getLsbD 3 then s1
  else collTo b (collTarget s b 0) s1

/-- Some coil is above 250 mA and not yet below 225 mA again (R440). -/
def Cald.overload (c : Cald) : Bool :=
  c.coilOver.any id

/-- Every gate and coil output of a bay is off (R434, R435, R442). -/
def Cald.outputsOff (c : Cald) : Cald :=
  { c with coils := [0, 0, 0], rampLeft := 0, gates := 0, duty := 0 }

/-- The focus and tilt commands ramp to 0 over 2 ms and the tracking command is 0 (Table 13.5 step 4). -/
def Cald.startRamp (c : Cald) : Cald :=
  { c with rampFrom := [c.coils.getD 0 0, 0, c.coils.getD 2 0], rampLeft := 768 }

/-- The lens commands ramp to 0 over 2 ms (Table 17.4 step 5). -/
def Cald.startLensRamp (c : Cald) : Cald :=
  { c with rampFrom := c.coils, rampLeft := 768 }

/-- Every output of a bay is off and every stepper de-energised (R434, R435, R442): steps in progress stop, positions possibly lost (R425). -/
def deEnergise (b : BayId) (s : State) : State :=
  let y := bayAt s b
  let s1 := if y.sled.moving ∨ y.sled.lost = false then haltSled b s else s
  let s2 := if y.loader.moving then haltLoader b s1 else s1
  let s3 := if y.coll.moving then haltColl b s2 else s2
  modBay b
    (fun y => { y with
      sled := { y.sled with energised := false, current := 0, lost := true }
      loader := { y.loader with energised := false, current := 0, lost := true, clampHold := false }
      coll := { y.coll with energised := false, current := 0, lost := true }
      sledState := 6
      collState := 4
      cald := y.cald.outputsOff }) s3

/-! ### Bay-Harbour (R450) -/

/-- A recall served by a bay goes back to waiting for one (log 43); one that only had frames to reallocate has ended. The
other bays that an affected recall holds are given back. -/
def freeRecalls (b : BayId) (s : State) : State :=
  let hit := fun (r : Recall) => r.bay == some b || r.others.contains b
  let given := (s.ebb.recalls.filter hit).flatMap Recall.others
  let s1 := modBays (fun i y => if given.contains i then { y with work := 0 } else y) s
  { s1 with
    ebb := { s1.ebb with
      recalls := (s.ebb.recalls.filter fun r => !(r.full && r.bay == some b)).map fun r =>
        if r.bay = some b then { r with bay := none, loaded := false, frames := 0, others := [], step4 := false }
        else if r.others.contains b then { r with others := [] }
        else r } }

/-- Put a bay in bay-Harbour once (R447, Table 13.5). `off` says that every output of the bay is off, so that the
spindle coasts and no stepper parks. -/
def enterBayHarbour (b : BayId) (cause gateCause : Nat) (off : Bool) (s : State) : State :=
  let y := bayAt s b
  if y.harbour ∨ bayEnabled s b = false then s
  else
    let s1 := dropGate b gateCause s
    let s2 := modBay b
      (fun y => { y with
        harbour := true
        cause := cause
        cway := { y.cway with len := false }
        cald := y.cald.startRamp
        servo := { y.servo.park with
          prof := {}
          state := if cause = 0x11 then 7 else if y.spin.speed < 30 then 0 else 1 } }) s1
    let s3 := if off ∨ y.spindleFault then spinCoast b s2 else spinBrake b s2
    let s4 := if off then deEnergise b s3 else parkSteppers b s3
    let s5 := match discOn s4 b with
      | some (sid, d) => discFailed sid d.role 2 s4
      | none => s4
    leaveLock b 0 gateCause (freeRecalls b (modBay b (fun y => { y with work := 0 }) s5))

/-- Every calibration of a bay becomes stale (R399). -/
def Bay.stale (y : Bay) : Bay :=
  { y with servo := { y.servo with fresh := 0 } }

/-- Values that describe the disc in a bay return to their defaults (R309, R400). -/
def Bay.newDisc (y : Bay) : Bay :=
  { y.stale with
    servo := { y.servo with
      fresh := 0
      depths := y.recDepths
      swings := List.replicate 24 0
      focusOffsets := List.replicate 24 0
      pitchTrims := List.replicate 6 0
      tilts := List.replicate 6 0
      colPos := List.replicate 24 none }
    chan := { y.chan with
      power := List.replicate 24 0
      trims := [0, 0, 0, 0]
      saturated := 0
      rejects := List.replicate 24 0
      opcAt := List.replicate 24 none
      testRow := List.replicate 24 0
      frames := []
      rowActive := false
      resumeFrom := none } }

/-- Bays that count for the width of a set (R16): enabled, not in bay-Harbour, and without a failed link (R336). -/
def bayCounts (s : State) (b : BayId) : Bool :=
  bayEnabled s b && !(bayAt s b).harbour && (bayAt s b).cway.state != 3

/-- H of R16. -/
def faultFree (s : State) : Nat :=
  (allBays.filter (bayCounts s)).length

/-- A bay is free (R213), and its disc does not wait for an unload (R229). -/
def bayFree (s : State) (b : BayId) : Bool :=
  bayCounts s b && (bayAt s b).started && (bayAt s b).work == 0 && (discOn s b).isNone
    && (bayAt s b).unloadDue.isNone && (bayAt s b).reqCode != 3

end Sys2Proof.Machine
end

