-- ==== Sys2Proof/Machine/Link.lean ====
section
/-! DEFINITION. What a Causeway link carries bit for bit (R312, R313, Tables 9.2, 9.8, 9.9): blocks, ordered sets, scrambling, the lanes of
a cell, the cells the device sends, and the data segments that a row in writing puts on the disc (R245, R248, R324). -/

namespace Sys2Proof.Machine

open Sys2Proof

/-! ### Blocks (R312) -/

/-- Lane seed: upstream lanes 0 to 3, then the downstream lane (R312). -/
def laneSeed (lane : Nat) : Nat :=
  [0x1DBFBC, 0x0607BB, 0x1EC760, 0x18C0DB, 0x010F12].getD lane 0

/-- Position of the downstream lane among the seeds. -/
def downLane : Nat := 4

/-- Bits of a byte, least significant first. -/
def lsbBits (b : Byte) : List Bool :=
  (List.range 8).map fun i => b.getLsbD i

/-- Bits back to bytes, least significant first. -/
def lsbBytes : Nat → List Bool → List Byte
  | 0, _ => []
  | n + 1, l => BitVec.ofNat 8 ((l.take 8).foldr (fun b v => b.toNat + 2 * v) 0) :: lsbBytes n (l.drop 8)

/-- The lane scrambler's next state (R312). -/
def laneNext (st : Nat) : Nat :=
  let fb := [22, 20, 15, 7, 4, 1].foldl (fun x i => x != bitOf st i) false
  st * 2 % 8388608 + fb.toNat

/-- Scramble, or descramble, payload bits from a state; and the state after them. -/
def laneScramble (st : Nat) : List Bool → List Bool × Nat
  | [] => ([], st)
  | x :: xs =>
    let r := laneScramble (laneNext st) xs
    ((x != bitOf st 22) :: r.1, r.2)

/-- A data block: header 01, scrambled payload; and the scrambler's state after it. -/
def dataBlock (st : Nat) (payload : List Byte) : List Bool × Nat :=
  let r := laneScramble st (payload.flatMap lsbBits)
  (false :: true :: r.1, r.2)

/-- An ordered-set block: header 10, payload as it is. -/
def orderedBlock (set : List Byte) : List Bool :=
  true :: false :: set.flatMap lsbBits

/-- TS1 or TS2 of a lane (Table 9.2). -/
def trainingSet (second : Bool) (lane bay : Nat) : List Byte :=
  [if second then 0x2D#8 else 0x1E#8] ++ leBytes 1 lane ++ leBytes 1 bay ++ [1#8]
    ++ List.replicate 12 (if second then 0x45#8 else 0x4A#8)

/-- ALIGN of a lane (Table 9.2). -/
def alignSet (lane : Nat) : List Byte :=
  [0x3C#8] ++ leBytes 1 lane ++ List.replicate 14 0#8

/-- Data blocks between two ALIGN ordered sets (R313). -/
def alignEvery : Nat := 16384

/-- The blocks of a lane from its entry to the active state: data blocks, with an ALIGN after every 16,384 that loads the seed again; n
data blocks have been sent since the last. -/
def laneStream (lane seed : Nat) : Nat → Nat → List (List Byte) → List (List Bool)
  | _, _, [] => []
  | n, st, p :: ps =>
    let fresh := n == alignEvery
    let r := dataBlock (if fresh then laneSeed seed else st) p
    (if fresh then [orderedBlock (alignSet lane)] else []) ++ r.1 :: laneStream lane seed (if fresh then 1 else n + 1) r.2 ps

/-- The payload of a received data block; none when its header is not 01. -/
def blockPayload (st : Nat) (block : List Bool) : Option (List Byte) :=
  if block.take 2 = [false, true] ∧ block.length = 130 then some (lsbBytes 16 (laneScramble st (block.drop 2)).1) else none

/-- The 16-byte parts of a cell: one on each upstream lane, or four downstream blocks in a row (R313). -/
def cellParts (cell : List Byte) : List (List Byte) :=
  (List.range 4).map fun n => (cell.drop (16 * n)).take 16

/-- What the downstream lane carries for cells sent from entry to the active state (R312, R313). -/
def downStream (cells : List (List Byte)) : List (List Bool) :=
  laneStream 0 downLane 0 (laneSeed downLane) (cells.flatMap cellParts)

/-! ### Training (R335, R336) -/

/-- A TS1 received on upstream lane n of a bay names that lane and bay and protocol version 01h. -/
def trainingSetOk (b : BayId) (lane : Nat) (set : List Byte) : Bool :=
  set == trainingSet false lane b.val

/-- The ordered sets of lanes 0 to 3 are each their lane's TS1 (R336). -/
def lanesOk (b : BayId) (sets : List (List Byte)) : Bool :=
  sets.length == 4 && (sets.zipIdx).all fun p => trainingSetOk b p.2 p.1

/-! ### Cells the device sends (R313, R314, R322, Tables 9.8 and 9.9) -/

/-- A cell: type and low bits of byte 0, bytes 1 to 59, CRC-32 (R313, R314). -/
def makeCell (type low : Nat) (body : List Byte) : List Byte :=
  let c := leBytes 1 (16 * type + low) ++ takePad 59 body
  c ++ leBytes 4 (crc32 c)

/-- The idle cell (R314). -/
def idleCell : List Byte :=
  makeCell 0 0 []

/-- A register write cell. -/
def registerCell (seq addr value : Nat) : List Byte :=
  makeCell 0xC 0 (leBytes 1 seq ++ leBytes 2 addr ++ leBytes 4 value)

/-- The register write outstanding, as each of its sends puts it on the lane (R328). -/
def Cway.registerOut (c : Cway) : Option (List Byte) :=
  c.regOut.map fun r => registerCell c.regSeq r.1 r.2.1

/-- A clock cell: the SC at which its word takes effect, and the word (R316). -/
def clockCell (sc word : Nat) : List Byte :=
  makeCell 0xB 0 (leBytes 3 0 ++ leBytes 4 sc ++ leBytes 4 word)

/-- A power cell: epoch, the SC at which it takes effect, and power sets 0 to 3 of A0, then A1, A2, A3 (R327). -/
def powerCell (epoch sc : Nat) (powers : List Nat) : List Byte :=
  makeCell 9 0 (leBytes 1 (16 * epoch) ++ leBytes 2 0 ++ leBytes 4 sc ++ powers.flatMap (leBytes 2))

/-- The four load cells of a strategy table (R326). -/
def loadCells (slot : Nat) (table : List Byte) : List (List Byte) :=
  (List.range 4).map fun p =>
    makeCell 0xA slot (leBytes 1 p ++ leBytes 6 0 ++ ((takePad 192 table).drop (48 * p)).take 48)

/-- The write symbol cells of channel bits on a spot from an SC on: at most 384 bits each (Table 9.8). -/
def symbolCells (spot epoch slot set : Nat) : Nat → Nat → List Bool → List (List Byte)
  | 0, _, _ => []
  | fuel + 1, sc, bits =>
    if bits = [] then []
    else
      let here := bits.take 384
      let bytes := (List.range ((here.length + 7) / 8)).map fun i =>
        BitVec.ofNat 8 (((here.drop (8 * i)).take 8 ++ List.replicate 8 false).take 8 |>.foldl (fun v b => 2 * v + b.toNat) 0)
      makeCell 8 spot (leBytes 1 (16 * epoch + slot) ++ leBytes 2 (16384 * set + (here.length - 1)) ++ leBytes 4 (sc % 2 ^ 32) ++ bytes)
        :: symbolCells spot epoch slot set fuel (sc + here.length) (bits.drop 384)

/-! ### Data segments (R245, R247, R248) -/

/-- Segment preamble and sync, after 16 blank bits of splice gap (Table 7.4). -/
def segmentHead : List (Option Bool) :=
  List.replicate 16 none ++ ((List.replicate 36 [true, true, false, false]).flatten
    ++ List.replicate 6 true ++ List.replicate 6 false ++ [true, true, true, false, false, false, true, true, true, false, false, false]).map some

/-- The channel bit that stream bit n of a sector gets when frames are written; none where the write makes no marks of its own. -/
def streamBit (t : Int) (k : Nat) (frames : List (Nat × List Bool)) (n : Nat) : Option Bool :=
  let f := framesPerSector t
  if n / 39600 < f then (frames.find? fun p => p.1 == k * f + n / 39600).bind fun p => p.2[n % 39600]? else none

/-- Slots of a track that have bits in data segment w of sector k. -/
def slotsIn (t : Int) (k w : Nat) : List Nat :=
  let f := framesPerSector t
  (List.range f).filterMap fun j =>
    if 39600 * j < (w + 1) * payloadBits t ∧ w * payloadBits t < 39600 * (j + 1) then some (k * f + j) else none

/-- What a write of frames, given by slot, puts into data segment w of sector k of a track: none is blank. Slots of `before` were marked by
an earlier write, so that what these share with the segment stands already (R248). -/
def segmentImage (t : Int) (k w : Nat) (frames : List (Nat × List Bool)) (before : List Nat) : List (Option Bool) :=
  let here := slotsIn t k w
  let writes := here.any fun s => frames.any fun p => p.1 == s
  let headOnce := !here.any before.contains
  let p := payloadBits t
  let last := ((w + 1) * p - 1) / 39600
  let toEnd := decide (last < framesPerSector t) && frames.any fun q => q.1 == k * framesPerSector t + last
  if writes = false then List.replicate (segmentBits t) none
  else (if headOnce then segmentHead else List.replicate 184 none)
    ++ ((List.range p).map fun i => streamBit t k frames (w * p + i))
    ++ (if toEnd then ((List.replicate 4 [true, true, false, false]).flatten).map some else List.replicate 16 none)
    ++ List.replicate (guardBits t) none

end Sys2Proof.Machine
end

