-- ==== Sys2Proof/Machine/ReadChannel.lean ====
section
/-! DEFINITION. The read channel (R294, R296 to R299, R301, R302): samples placed in data segments, equalizer, canceller, detector and
defect flags. The spec gives no number format: the model computes with exact fractions, and what it leaves open of the circuits is in
Config (log 148). -/

namespace Sys2Proof.Machine

open Sys2Proof

/-! ### Filters -/

/-- The windows of m consecutive values of a list. -/
def windows {α : Type} (m : Nat) : List α → List (List α)
  | [] => []
  | x :: xs => if xs.length + 1 < m then [] else (x :: xs).take m :: windows m xs

/-- Each value with the h values before and after it; z stands beyond the ends. -/
def around {α : Type} (h : Nat) (z : α) (l : List α) : List (List α) :=
  windows (2 * h + 1) (List.replicate h z ++ l ++ List.replicate h z)

/-- Sum of products. -/
def dot (a b : List Rat) : Rat :=
  (List.zipWith (· * ·) a b).foldl (· + ·) 0

/-- A signal through a filter with an odd number of taps. -/
def firFilter (taps signal : List Rat) : List Rat :=
  (around (taps.length / 2) 0 signal).map (dot taps)

/-- Taps after least mean squares over a signal: at each value that is not frozen they move against the error. -/
def lmsAdapt (signal : List Rat) (err : List Rat) (frozen : List Bool) (taps : List Rat) : List Rat :=
  ((around (taps.length / 2) 0 signal).zip (err.zip frozen)).foldl
    (fun c p => if p.2.2 then c else List.zipWith (fun c x => c - Config.lmsStep * p.2.1 * x) c p.1) taps

/-- Difference of two signals. -/
def minus (a b : List Rat) : List Rat :=
  List.zipWith (· - ·) a b

/-! ### The detector (R299) -/

/-- Channel bit as the detector's target takes it. -/
def level (bit : Nat) : Rat :=
  if bit = 0 then -1 else 1

/-- What the target gives for bit u after the three bits of a state, the newest in its bit 0. -/
def ideal (target : List Rat) (st u : Nat) : Rat :=
  dot target [level u, level (st % 2), level (st / 2 % 2), level (st / 4 % 2)]

/-- Metric of a branch. -/
def branch (target : List Rat) (y : Rat) (st u : Nat) : Rat :=
  let d := y - ideal target st u
  (-1 : Rat) * (d * d)

/-- Best metrics of the eight states after one more value. -/
def forward (target a : List Rat) (y : Rat) : List Rat :=
  (List.range 8).map fun st =>
    let from_ := fun (p : Nat) => a.getD p 0 + branch target y p (st % 2)
    max (from_ (st / 2)) (from_ (st / 2 + 4))

/-- Best metrics of the eight states before a value. -/
def backward (target b : List Rat) (y : Rat) : List Rat :=
  (List.range 8).map fun st =>
    let to_ := fun (u : Nat) => b.getD ((2 * st + u) % 8) 0 + branch target y st u
    max (to_ 0) (to_ 1)

/-- The best metric of a bit value over the branches of the eight states. -/
def bestWith (target a b : List Rat) (y : Rat) (u : Nat) : Rat :=
  let m := (List.range 8).map fun st => a.getD st 0 + branch target y st u + b.getD ((2 * st + u) % 8) 0
  (m.drop 1).foldl max (m.headD 0)

/-- Max-log ratio of each channel bit, positive for a mark, and the metrics before the first (log 148). -/
def maxLog (target : List Rat) : List Rat → List Rat → List Rat × List Rat
  | _, [] => ([], List.replicate 8 0)
  | a, y :: ys =>
    let r := maxLog target (forward target a y) ys
    ((bestWith target a r.2 y 1 - bestWith target a r.2 y 0) :: r.1, backward target r.2 y)

/-- A signed 8-bit ratio. -/
def llr8 (x : Rat) : Int :=
  clampInt (-128) 127 (x * Config.llrScale).floor

/-- The detected bits give the signal that the target makes of them. -/
def targetSignal (target : List Rat) : Nat → List Rat → List Rat
  | _, [] => []
  | st, r :: rs =>
    let u := if 0 < r then 1 else 0
    ideal target st u :: targetSignal target ((2 * st + u) % 8) rs

/-! ### Defect flags (R301) -/

/-- An envelope value lies below the threshold [%] of the mean of those before it, or above 150 % of it. -/
def outOfEnvelope (threshold : Nat) (hist : List Rat) (v : Rat) : Bool :=
  let n : Rat := (hist.length : Nat)
  let sum := hist.foldl (· + ·) 0
  hist != [] && (decide (100 * n * v < (threshold : Nat) * sum) || decide (150 * sum < 100 * n * v))

/-- Raw flags of envelope values, and the last 4,096 values, newest first. -/
def rawFlags (threshold : Nat) : List Rat → List Rat → List Bool × List Rat
  | hist, [] => ([], hist)
  | hist, v :: vs =>
    let r := rawFlags threshold ((v :: hist).take 4096) vs
    (outOfEnvelope threshold hist v :: r.1, r.2)

/-- Flags widened by 32 channel bits on each side. -/
def widen (f : List Bool) : List Bool :=
  (around 32 false f).map fun w => w.any id

/-- Lengths of the runs of flagged bits. -/
def runsOf : Nat → List Bool → List Nat
  | n, [] => if n = 0 then [] else [n]
  | n, true :: fs => runsOf (n + 1) fs
  | n, false :: fs => if n = 0 then runsOf 0 fs else n :: runsOf 0 fs

/-! ### Step 2 of the ladder (Table 8.7) -/

/-- The widened equalizer and the row's own canceller are in use: revolutions 1 and 3. -/
def wideOn (step2 : Nat) : Bool :=
  step2 == 1 || step2 == 3

/-- The detector's target. -/
def targetOf (step2 : Nat) : List Rat :=
  if step2 = 2 then [1, 3, 3, 1] else [1, 2, 2, 1]

/-- Train the widened equalizers and the row's canceller afresh. -/
def Rx.afresh (r : Rx) : Rx :=
  { r with
    spots := r.spots.map fun p => { p with wide := ({} : SpotRx).wide }
    cancelWide := ({} : Rx).cancelWide }

/-- Samples of a segment averaged with those of the revolutions before, value by value. -/
def averaged (past : List (List (Nat × Nat × List Rat))) (spot wedge : Nat) (x : List Rat) : List Rat :=
  let olds := past.filterMap fun r => (r.find? fun p => p.1 == spot && p.2.1 == wedge).map fun p => p.2.2
  let n : Rat := (olds.length + 1 : Nat)
  (olds.foldl (List.zipWith (· + ·)) x).map (· / n)

/-! ### A data segment of the row (R297, R298) -/

/-- Samples without their DC level: the mean of the segment (log 148). -/
def withoutDc (x : List Rat) : List Rat :=
  let m := x.foldl (· + ·) 0 / ((max 1 x.length : Nat) : Rat)
  x.map (· - m)

/-- Samples of a segment on the channel bits: DC level removed, asymmetry corrected, timing recovered afresh (R297). -/
def onBits (bits : Nat) (x : List Rat) : List Rat :=
  let y := withoutDc x
  let z := y.map (Config.evenOut y)
  (List.range bits).map (Config.retime z)

/-- One spot's segment on its way: values on channel bits, flags, equalized signal. -/
structure SpotWork where
  /-- Values on channel bits. -/
  bits : List Rat
  /-- Defect flags. -/
  flags : List Bool
  /-- Equalized signal. -/
  eq : List Rat

/-- The signal of a neighbour as the canceller takes it: in revolution 2 of step 2 without its flagged samples (Table 8.7). -/
def neighbourSignal (step2 : Nat) (eq : List Rat) (flags : List Bool) : List Rat :=
  if step2 = 2 then List.zipWith (fun y f => if f then 0 else y) eq flags else eq

/-- Neighbours of spot i: its inner side, then its outer (R298). The inner neighbour of spot 0 is the stored track 4q − 1, when the
previous revolution read row q − 1; spot 3 has no outer one (R294: track 4q + 4 is blank or not read). -/
def neighbours (r : Rx) (step2 wedge : Nat) (w : List SpotWork) (i : Nat) : List (Nat × List Rat) :=
  let at_ := fun (j : Nat) => (w[j]?).map fun x => neighbourSignal step2 x.eq x.flags
  let stored :=
    if r.prevRow = some (r.row - 1) then
      (r.prev.find? fun g => g.wedge == wedge).map fun g => neighbourSignal step2 g.signal g.flags
    else none
  let inner := if i = 0 then stored else at_ (i - 1)
  let outer := if i < 3 then at_ (i + 1) else none
  (inner.toList.map fun y => (2 * i, y)) ++ outer.toList.map fun y => (2 * i + 1, y)

/-- The canceller's output for a signal (R298). -/
def cancelled (coef : List (List Rat)) (eq : List Rat) (ns : List (Nat × List Rat)) : List Rat :=
  ns.foldl (fun y n => minus y (firFilter (coef.getD n.1 []) n.2)) eq

/-- The row's segment at a wedge has been received on all four spots: it is equalized, cancelled and detected, the filters adapt on the
detected bits, frozen where flagged, and flagged bits get ratio 0 (R297 to R299, R301). Also the flagged runs found. -/
def Rx.take (bits threshold step2 wedge : Nat) (r : Rx) : Rx × Nat :=
  let wide := wideOn step2
  let target := targetOf step2
  let coef := if wide then r.cancelWide else r.cancel
  let raw := fun (p : SpotRx) => p.segment.map fun (v : Int) => (v : Rat)
  let used := fun (i : Nat) (p : SpotRx) => if step2 = 3 then averaged (r.past.drop 1) i wedge (raw p) else raw p
  let flagged := r.spots.map fun p => rawFlags threshold p.envelope ((List.range bits).map (Config.envelope (raw p)))
  let work := r.spots.mapIdx fun i p =>
    let x := onBits bits (used i p)
    ({ bits := x, flags := widen ((flagged.getD i ([], [])).1), eq := firFilter (if wide then p.wide else p.taps) x } : SpotWork)
  let step := fun (i : Nat) (w : SpotWork) =>
    let y := cancelled coef w.eq (neighbours r step2 wedge work i)
    let l := (maxLog target (List.replicate 8 0) y).1
    (l, minus y (targetSignal target 0 l))
  let done := work.mapIdx step
  let errOf := fun (i : Nat) => (done.getD i ([], [])).2
  let spots := (r.spots.zip work).mapIdx fun i p =>
    let adapt := lmsAdapt p.2.bits (errOf i) p.2.flags
    { p.1 with
      taps := if wide then p.1.taps else adapt p.1.taps
      wide := if wide then adapt p.1.wide else p.1.wide
      envelope := (flagged.getD i ([], [])).2 }
  let coef' := (List.range 4).foldl
    (fun c i => (neighbours r step2 wedge work i).foldl
      (fun c n => modNth c n.1 (lmsAdapt n.2 ((errOf i).map (- ·)) ((work[i]?.map SpotWork.flags).getD []))) c) coef
  let segments := work.mapIdx fun i w =>
    ({ spot := i, wedge := wedge, signal := w.eq
       llrs := List.zipWith (fun f x => if f then 0 else llr8 x) w.flags (done.getD i ([], [])).1, flags := w.flags } : RxSegment)
  ({ r with
     spots := spots
     cancel := if wide then r.cancel else coef'
     cancelWide := if wide then coef' else r.cancelWide
     segments := segments.reverse ++ r.segments
     past := match r.past with
       | [] => [r.spots.mapIdx fun i p => (i, wedge, raw p)]
       | now :: before => (r.spots.mapIdx (fun i p => (i, wedge, raw p)) ++ now) :: before },
   sumOf (work.map fun w => (runsOf 0 w.flags).length))

/-! ### Samples (R296, R318) -/

/-- First angle unit of the data segment of a wedge: servo cell 144 of 2,400 (R241). -/
def segmentStart : Nat := 3933

/-- A new revolution of the row begins: the outermost track of the last one is what the next row's canceller takes; a row that stays in
reading keeps its samples (R298, Table 8.7). -/
def Rx.turn (revolution : Nat) (row : Int) (step2 : Nat) (r : Rx) : Rx :=
  { r with
    revolution := revolution
    row := row
    prevRow := some r.row
    prev := r.segments.filter fun g => g.spot == 3
    segments := []
    past := if step2 = 0 then [[]] else [] :: r.past }

/-- All four spots have this segment whole. -/
def Rx.whole (r : Rx) : Bool :=
  r.spots.all fun p => p.segment != []

/-- The segment that was being received ends: what each spot has received of it stands whole. -/
def Rx.close (wedge : Nat) (r : Rx) : Rx :=
  { r with wedge := wedge, spots := r.spots.map fun p => { p with raw := [], segment := p.raw.reverse } }

/-- One sample of a spot at an angle counted from the start of the first data segment. Samples of servo fields, which end each segment's
wedge, are not taken (R297). -/
def Rx.sample (spot angle : Nat) (v : Int) (r : Rx) : Rx :=
  if wedgeUnits ≤ angle % wedgeUnits + segmentStart ∨ angle / wedgeUnits ≠ r.wedge then r
  else { r with spots := modNth r.spots spot fun p => { p with raw := v :: p.raw } }

/-- A cell's samples on a trailing spot, the first at an angle counted from the start of the row's first data segment. The first that lies
in a later segment ends the one before, which the channel then takes: also the flagged runs found there. -/
def Rx.cell (bits threshold step2 spot angle unitsPerBit : Nat) (row : Int) (samples : List Int) (r : Rx) : Rx × Nat :=
  let wedge := (angle + samples.length * unitsPerBit / 1000) / wedgeUnits
  let closed :=
    if r.wedge < wedge then
      let q := r.close wedge
      if q.whole then q.take bits threshold step2 (r.wedge % 960) else (q, 0)
    else (r, 0)
  let rev := wedge / 960
  let turned := if closed.1.revolution < rev then closed.1.turn rev row step2 else closed.1
  ((samples.zipIdx).foldl (fun q p => q.sample spot (angle + p.2 * unitsPerBit / 1000) p.1) turned, closed.2)

/-! ### A frame of the row (R256, R299) -/

/-- Payload of a segment: what lies after splice gap, preamble and sync (Table 7.4). -/
def payloadOf {α : Type} (t : Int) (l : List α) : List α :=
  (l.drop 184).take (payloadBits t)

/-- The 39,600 values of a slot of a track, from the payloads of its sector's segments. -/
def frameValues {α : Type} (t : Int) (slot : Nat) (pick : RxSegment → List α) (r : Rx) : List α :=
  let f := framesPerSector t
  let k := slot / f
  let stream := (List.range 192).flatMap fun w =>
    match r.segments.find? fun g => g.spot == (t % 4).toNat && g.wedge == 192 * k + w with
    | some g => payloadOf t (pick g)
    | none => []
  (stream.drop (39600 * (slot % f))).take 39600

/-- The ninth value of each 17 is dropped after its ratio is added to that of d7 (R256, R299). -/
def unconstrain : Nat → List Int → List Int
  | 0, _ => []
  | fuel + 1, l =>
    if l.length < 17 then []
    else l.take 7 ++ [l.getD 7 0 + l.getD 8 0] ++ (l.drop 9).take 8 ++ unconstrain fuel (l.drop 17)

/-- The ratios of a frame that the decoders take: its coded bits, after preamble and sync (Table 7.6). -/
def frameLlrs (t : Int) (slot : Nat) (r : Rx) : List Int :=
  unconstrain 2322 ((frameValues t slot RxSegment.llrs r).drop 126)

/-- Longest flagged run inside a frame. -/
def frameRun (t : Int) (slot : Nat) (r : Rx) : Nat :=
  maxOf (runsOf 0 (frameValues t slot RxSegment.flags r))

/-- More than half of a frame's bits are flagged: it goes straight to the soft decoder (R301). -/
def mostlyFlagged (t : Int) (slot : Nat) (r : Rx) : Bool :=
  decide (39600 < 2 * ((frameValues t slot RxSegment.flags r).filter id).length)

end Sys2Proof.Machine
end

