-- ==== Sys2Proof/Machine/Causeway.lean ====
section
/-! DEFINITION. The Causeway bay link (09): cells, training and retraining, register writes, link faults. -/

namespace Sys2Proof.Machine

open Sys2Proof

/-- Bytes 60 to 63 of a cell hold the CRC-32 of bytes 0 to 59 (R313). -/
def cellCrcOk (cell : List Byte) : Bool :=
  cell.length == 64 && crc32 (cell.take 60) == cellField cell 60 4

/-- Type of a cell: bits 7:4 of byte 0 (R314). -/
def cellType (cell : List Byte) : Nat :=
  cellByte cell 0 / 16

/-- Fields of the identity block (Table 9.11). -/
def identitySerial (identity : List Byte) : List Byte :=
  trimZeros ((identity.drop 40).take 16)

/-- The CRC of an identity block checks (Table 9.11). -/
def identityCrc (identity : List Byte) : Bool :=
  identity.length == 128 && crc32 (identity.take 124) == cellField identity 124 4

/-- The identity block that counts: the first of up to three reads whose CRC checks (R336). -/
def identityRead (reads : List (List Byte)) : Option (List Byte) :=
  (reads.take 3).find? identityCrc

/-- An identity block is a head front end's of protocol version 01h with four upstream lanes (Table 9.11, R336). -/
def identityOk (identity : List Byte) : Bool :=
  identity.take 4 == ascii "CWID" && cellByte identity 4 == 1 && cellByte identity 5 == 4

/-- Hold CW_RST_N low and begin an attempt (R336): the head's epoch is 0 and its slots are empty (R331). -/
def Cway.beginTraining (c : Cway) : Cway :=
  { c with
    state := 1
    rstN := true
    retraining := false
    wg := false
    laser := 0
    inhibit := false
    faults := 0
    epoch := 0
    headEpoch := 0
    regSeq := 0
    regOut := none
    regQueue := []
    seqs := List.replicate 8 none
    slots := []
    dnSeen := 0
    rejSeen := 0
    servoOn := false
    missing := 0
    errorsAt := [] }

/-- Begin training a bay's link (R335): three attempts are left. -/
def startTraining (b : BayId) (s : State) : State :=
  modBay b (fun y => { y with cway := { y.cway.beginTraining with attempts := 0 } }) s

/-- An attempt ends without a link (R336): a new one, or after the third the link is failed. -/
def trainingFailed (b : BayId) (s : State) : State :=
  let n := (bayAt s b).cway.attempts + 1
  if n < 3 then modBay b (fun y => { y with cway := { y.cway.beginTraining with attempts := n } }) s
  else
    raiseBay b 7 1 (evBytes 2 (bayAt s b).cway.faults.toNat)
      (modBay b (fun y => { y with cway := { y.cway with state := 3, attempts := 3, rstN := false, len := false } }) s)

/-- A head front end with another serial (R338): recorded, event, stale calibrations, and writing withheld until
calibration and the optimum power calibration of R286. -/
def newHead (b : BayId) (serial : List Byte) (s : State) : State :=
  raiseBay b 7 5 (evBytes 2 (bayAt s b).cway.faults.toNat)
    (tideRecord (modBay b
      (fun y => { y.stale with
        cway := { y.cway with serial := serial, newHead := true }
        chan := { y.chan with opcAt := List.replicate 24 none, opcDue := true, rejects := List.replicate 24 0 } }) s))

/-- First clock word of a link (Table 9.13 step 7): that of a disc at 7,200 rpm (log 153). -/
def firstClockWord (track : Int) : Nat :=
  clockWordOf track 8680556

/-- The register writes of step 7 of Table 9.13: laser mode 0, read power, spot mask B0 to B3, servo cells on. -/
def Cway.firstWrites (readPower : Nat) (c : Cway) : Cway :=
  ((((c.write 0 0).write 1 readPower).write 2 0xF0).write 5 1)

/-- The link is up (R335 steps 6 to 8): identity, delays and register writes; the serial is compared (R338). -/
def linkUp (b : BayId) (identity : List Byte) (us delay : Nat) (s : State) : State :=
  let power := num s 0x2830 6
  let lat := cellField identity 60 2
  let off := cellField identity 62 2
  let s1 := modBay b
    (fun y => { y with
      cway := ({ y.cway with
        state := 2
        identity := identity
        trainTime := us
        attempts := 0
        retraining := false
        latency := lat
        gateOff := off
        readPower := power
        dnPreset := bnum s b 0x70 0x0A
        upPreset := bnum s b 0x70 0x0B
        clockWord := if y.cway.clockWord = 0 then firstClockWord y.servo.track else y.cway.clockWord
        spotMask := 0xF0
        servoOn := true
        errorsAt := []
        seqs := List.replicate 8 none
        missing := 0 }).firstWrites power
      servo := { y.servo with cellSeq := none }
      tb := { y.tb with delay := delay } }) s
  if identitySerial identity = (bayAt s b).cway.serial then s1 else newHead b (identitySerial identity) s1

/-- Steps 2 to 6 of Table 9.13 end: with a good identity block, each lane's TS1 and all of it within 200 ms the link is up, else the
attempt has failed (R336). -/
def trained (b : BayId) (reads sets : List (List Byte)) (us delay : Nat) (s : State) : State :=
  match identityRead reads with
  | none => trainingFailed b s
  | some identity =>
    if identityOk identity ∧ lanesOk b sets ∧ us ≤ 200000 then linkUp b identity us delay s else trainingFailed b s

/-- LINK_TRAINING (R335, R336, R338): a link in training comes up, or its attempt ends. -/
def execLinkTraining (b : BayId) (reads sets : List (List Byte)) (us delay : Nat) (s : State) :
    Host.Outcome State Fault Refusal :=
  if (bayAt s b).cway.state ≠ 1 ∨ (bayAt s b).cway.retraining then .next s
  else .next (trained b reads sets us delay s)

/-- TRAINING_TIMEOUT (R336). -/
def execTrainingTimeout (b : BayId) (s : State) : Host.Outcome State Fault Refusal :=
  if (bayAt s b).cway.state = 1 then .next (trainingFailed b s) else .next s

/-- A retrain begins (R337): the gate drops, the Causeway error is raised, and the missing samples are loss of focus and
tracking (Table 11.8). -/
def retrain (b : BayId) (s : State) : State :=
  if (bayAt s b).cway.state ≠ 2 then s
  else
    let s1 := causewayError b 2 s
    focusLost b 7 3 (modBay b
      (fun y => { y with
        cway := { y.cway with
          state := 1
          retraining := true
          retrains := satAdd 4294967295 y.cway.retrains 1
          regOut := none
          regQueue := []
          errorsAt := [] } }) s1)

/-- Note n cell errors at this moment; when those of the last 10 ms exceed 3070h.0C, the link retrains (R337). -/
def cellErrors (b : BayId) (n : Nat) (s : State) : State :=
  let l := (List.replicate (min n 256) s.clock
    ++ (bayAt s b).cway.errorsAt.filter fun t => decide (s.clock < t + usCycles 10000)).take 256
  let s1 := modBay b (fun y => { y with cway := { y.cway with errorsAt := l } }) s
  if bnum s b 0x70 0x0C < l.length then retrain b s1 else s1

/-- An upstream cell that fails its CRC or has a reserved type is discarded and counted (R314, R339). -/
def badCell (b : BayId) (s : State) : State :=
  cellErrors b 1
    (modBay b (fun y => { y with cway := { y.cway with upErrors := satAdd 4294967295 y.cway.upErrors 1 } }) s)

/-- A cell passes its checks and is of a known type. -/
def cellKnown (cell : List Byte) : Bool :=
  cellCrcOk cell && decide (cellType cell ≤ 3)

/-- The samples of a spot sample cell, signed 8-bit (Table 9.3). -/
def cellSamples (cell : List Byte) : List Int :=
  ((cell.drop 8).take (min 52 (cellByte cell 2))).map BitVec.toInt

/-- A value of the sample counter has arrived: the head had it the upstream delay ago (R316, R343). -/
def noteSc (b : BayId) (sc : Nat) (s : State) : State :=
  modBay b
    (fun y => { y with cway := { y.cway with sc := sc % 2 ^ 32, scAt := nowPs s - 1000 * y.tb.delay } }) s

/-- Where a sample of a trailing spot lies, counted from the start of the first data segment of its row: the angle when it was taken, less
the spot's offset (R296, R343). -/
def cellAngle (y : Bay) (spot sc : Nat) : Nat :=
  let start := rowStart y.servo.layer (rowOfTrack y.servo.track) + segmentStart
  (y.tb.angleAt (y.cway.timeOf sc) + (revUnits : Nat) - (start : Nat) - spotOffset y spot).toNat

/-- A bay's read channel takes a cell's samples of a trailing spot while the timebase knows the angle, and counts the flagged runs it finds
(R296 to R299, R301). -/
def takeSamples (s : State) (spot sc : Nat) (samples : List Int) (y : Bay) : Bay :=
  if y.tb.state < 2 ∨ samples = [] then y
  else
    let bits := segmentBits y.servo.track
    let threshold := if y.chan.policy = [] then num s 0x2830 7 else y.chan.policy.getD 6 0
    let r := y.chan.rx.cell bits threshold y.chan.step2 spot (cellAngle y spot sc) (61603840 / bits) (rowOfTrack y.servo.track) samples
    let y1 := { y with chan := { y.chan with rx := r.1, flaggedRuns := satAdd 4294967295 y.chan.flaggedRuns r.2 } }
    if r.1.revolution = y.chan.rx.revolution then y1 else takePolicy s y1

/-- SPOT_SAMPLE_CELL (R296 to R299, R301, R317, R318, R339): the samples of a trailing spot go to the read channel; a sequence gap is
counted, and the frames its spot reads are not confirmed. -/
def execSpotSampleCell (b : BayId) (cell : List Byte) (s : State) : Host.Outcome State Fault Refusal :=
  if (bayAt s b).cway.state ≠ 2 then .next s
  else if cellKnown cell = false then .next (badCell b s)
  else if cellType cell ≠ 1 then .next s
  else
    let spot := cellByte cell 0 % 16
    let seq := cellByte cell 1
    let ok := match ((bayAt s b).cway.seqs[spot]?).join with
      | some p => (p + 1) % 256 == seq
      | none => true
    let first := cellField cell 4 4
    let s1 := modBay b
      (fun y =>
        let y1 := if 4 ≤ spot ∧ spot < 8 then takeSamples s (spot - 4) first (cellSamples cell) y else y
        { y1 with cway := { y1.cway with seqs := modNth y1.cway.seqs spot fun _ => some seq } })
      (noteSc b (first + cellByte cell 2 - 1) s)
    if ok then .next s1
    else .next (modBay b
      (fun y => { y with
        cway := { y.cway with upErrors := satAdd 4294967295 y.cway.upErrors 1 }
        chan := { y.chan with
          gaps := if 4 ≤ spot ∧ y.chan.gaps.contains (spot - 4) = false then (spot - 4) :: y.chan.gaps
            else y.chan.gaps } }) s1)

/-- The 16 quadrants of a servo cell (Table 9.4). -/
def quadrants (cell : List Byte) : List Int :=
  (List.range 16).map fun i => signedOf 2 (cellField cell (8 + 2 * i) 2)

/-- Servo cells are missing (R339): counted; two in a row are a Causeway error. -/
def servoCellsMissing (b : BayId) (n : Nat) (s : State) : State :=
  if n = 0 then s
  else
    let s1 := modBay b
      (fun y => { y with cway := { y.cway with servoMissing := satAdd 4294967295 y.cway.servoMissing n } }) s
    if n < 2 then s1 else causewayError b 4 s1

/-- SERVO_CELL (R319, R339): the quadrants join those of this engine cycle; a gap in the sequence is missing cells. -/
def execServoCell (b : BayId) (cell : List Byte) (s : State) : Host.Outcome State Fault Refusal :=
  if (bayAt s b).cway.state ≠ 2 then .next s
  else if cellKnown cell = false then .next (badCell b s)
  else if cellType cell ≠ 2 then .next s
  else
    let seq := cellByte cell 1
    let gap := match (bayAt s b).servo.cellSeq with
      | some p => (seq + 255 - p) % 256
      | none => 0
    .next (servoCellsMissing b gap (modBay b
      (fun y => { y with
        servo := { y.servo with
          cellSeq := some seq
          cells := (quadrants cell :: y.servo.cells).take 4 } }) (noteSc b (cellField cell 4 4) s)))

/-- Fault bits 4 to 7 call for a new epoch and the clearing of the bits (R330, R333, Table 9.14). -/
def inhibitFault (b : BayId) (s : State) : State :=
  let high := (bayAt s b).cway.wg
  let s1 := causewayError b 3 s
  if high then s1 else modBay b (fun y => { y with cway := y.cway.newEpoch }) s1

/-- Fault bits 0 and 1 (Table 9.14): lasers off; a second such fault within 60 s puts the bay in bay-Harbour. -/
def laserFault (b : BayId) (s : State) : State :=
  let again := match (bayAt s b).cway.faultAt with
    | some t => decide (s.clock < t + usCycles 60000000)
    | none => false
  let s1 := modBay b (fun y => { y with cway := { y.cway with len := false, faultAt := some s.clock } })
    (causewayError b 3 s)
  if again then enterBayHarbour b 0x10 3 false s1 else s1

/-- Fault bits newly set, handled as Table 9.14 shows; CW_LEN rises again when bits 2 and 3 have cleared. -/
def faultBits (b : BayId) (f : BitVec 16) (s : State) : State :=
  let old := (bayAt s b).cway.faults
  let new' := f &&& ~~~ old
  let s1 := modBay b (fun y => { y with cway := { y.cway with faults := f } }) s
  let s2 := if new' &&& 0x00F0#16 = 0 then s1 else inhibitFault b s1
  let s3 := if new' &&& 0x000C#16 = 0 then s2
    else modBay b (fun y => { y with cway := { y.cway with len := false } }) (causewayError b 3 s2)
  let s4 := if new' &&& 0x0003#16 = 0 then s3 else laserFault b s3
  if old &&& 0x000C#16 ≠ 0 ∧ f &&& 0x000F#16 = 0 ∧ (bayAt s4 b).harbour = false then
    modBay b (fun y => { y with cway := { y.cway with len := true } }) s4
  else s4

/-- STATUS_CELL (R321, R328, R339): mode, gates, acknowledge, epoch, error counts and fault bits as reported. -/
def execStatusCell (b : BayId) (cell : List Byte) (s : State) : Host.Outcome State Fault Refusal :=
  if (bayAt s b).cway.state ≠ 2 then .next s
  else if cellKnown cell = false then .next (badCell b s)
  else if cellType cell ≠ 3 then .next s
  else
    let c := (bayAt s b).cway
    let dn := cellField cell 14 2
    let ack := cellByte cell 6
    let c1 := { c with
      laser := cellByte cell 2
      inhibit := bitOf (cellByte cell 3) 1
      headEpoch := cellByte cell 7 % 16
      dnErrors := satAdd 4294967295 c.dnErrors (dn - c.dnSeen)
      dnSeen := dn
      rejected := satAdd 4294967295 c.rejected (cellField cell 16 4 - c.rejSeen)
      rejSeen := cellField cell 16 4 }
    let c2 := if c.regOut.isSome ∧ ack = c.regSeq then c1.acked else c1
    let s1 := noteSc b (cellField cell 8 4) (modBay b (fun y => { y with cway := c2 }) s)
    let s2 := if c.dnSeen < dn then cellErrors b (dn - c.dnSeen) s1 else s1
    let s3 := if cellByte cell 2 = 0 ∧ (bayAt s2 b).tb.state ≠ 0 then leaveLock b 0 3 s2 else s2
    .next (faultBits b (BitVec.ofNat 16 (cellField cell 4 2)) s3)

/-- CW_FLT_N_LOW (R339): the bits read over the sideband, handled as those of a status cell. -/
def execCwFltNLow (b : BayId) (faults : BitVec 16) (s : State) : Host.Outcome State Fault Refusal :=
  if (bayAt s b).cway.state = 2 then .next (faultBits b faults s) else .next s

/-- REGISTER_ACK_TIMEOUT (R328): the cell is sent again, at most 8 times; then the link retrains. -/
def execRegisterAckTimeout (b : BayId) (s : State) : Host.Outcome State Fault Refusal :=
  match (bayAt s b).cway.regOut with
  | some (addr, v, n) =>
    if n < 8 then .next (modBay b (fun y => { y with cway := { y.cway with regOut := some (addr, v, n + 1) } }) s)
    else .next (retrain b s)
  | none => .next s

/-- LINK_RETRAIN (R337, R338): steps 2 to 7 of Table 9.13 without CW_RST_N; a retrain that finds no good identity block
goes on as an ordinary training. -/
def execLinkRetrain (b : BayId) (reads sets : List (List Byte)) (us delay : Nat) (s : State) :
    Host.Outcome State Fault Refusal :=
  let s1 := retrain b s
  if (bayAt s1 b).cway.retraining = false then .next s1
  else .next (trained b reads sets us delay s1)

/-- LASER_FAULT_CLEAR (R339): the fault bits are cleared and laser mode 1 is set. -/
def execLaserFaultClear (b : BayId) (s : State) : Host.Outcome State Fault Refusal :=
  let y := bayAt s b
  if y.cway.state ≠ 2 ∨ y.cway.faults &&& 0x0003#16 = 0 ∨ y.harbour then .next s
  else .next (modBay b
    (fun y => { y with
      cway := (({ y.cway with len := y.cway.faults &&& 0x000C#16 = 0 }).write 4 (y.cway.faults &&& 0x0003#16).toNat).write 0 1 })
    s)

/-- Clear the Causeway counts (R340). -/
def clearCauseway (b : BayId) (s : State) : State :=
  modBay b
    (fun y => { y with
      cway := { y.cway with upErrors := 0, dnErrors := 0, servoMissing := 0, rejected := 0, retrains := 0 } }) s

end Sys2Proof.Machine
end

