-- ==== Sys2Proof/Machine/Servo.lean ====
section
/-! DEFINITION. The servo engine's arithmetic and its coefficient sets (R365 to R367, R379 to R384), set-points (R386,
R387), the event queue (R355 to R358), and the changes of layer, mode and speed of a bay. -/

namespace Sys2Proof.Machine

open Sys2Proof

/-! ### Arithmetic (R365, R366) -/

/-- Saturate to 16 bits. -/
def sat16 (r : Int) : Int :=
  clampInt (-32768) 32767 r

/-- Convert an accumulator to a 16-bit result (R366). -/
def to16 (acc : Int) (sh : Nat) : Int :=
  sat16 ((acc * (2 ^ sh : Nat) + 32768) / 65536)

/-- The divide step: quotient in Q1.15, rounded to nearest and saturated (R366). -/
def divQ (a b : Int) : Int :=
  if b = 0 then 0 else sat16 ((a * 65536 + b) / (2 * b))

/-! ### Coefficient sets (Table 11.3) -/

/-- Signed 16-bit field of a set. -/
def setI16 (set : List Byte) (off : Nat) : Int :=
  signedOf 2 (cellField set off 2)

/-- Unsigned 16-bit field of a set. -/
def setU16 (set : List Byte) (off : Nat) : Nat :=
  cellField set off 2

/-- A set's fields stand in their ranges, its CRC and its number check (R379, R382). -/
def setOk (n : Nat) (set : List Byte) : Bool :=
  set.length == 128 && cellByte set 0 == n && decide (cellByte set 1 ≤ 6) && decide (cellByte set 2 ≤ 4)
    && (List.range 4).all (fun k => decide (cellByte set (4 + 12 * k + 10) ≤ 3))
    && decide (cellByte set 54 ≤ 7) && decide (cellByte set 55 ≤ 3)
    && decide (setI16 set 60 ≤ setI16 set 62)
    && crc16 (set.take 126) == cellField set 126 2

/-- The section states of a loop. -/
structure SecState where
  /-- x[k] one and two samples ago, y[k] one and two samples ago. -/
  x1 : Int
  /-- Input two samples ago. -/
  x2 : Int
  /-- Output one sample ago. -/
  y1 : Int
  /-- Output two samples ago. -/
  y2 : Int
  deriving DecidableEq, Repr

/-- One section of R367: its output and new states. -/
def section1 (set : List Byte) (k : Nat) (x : Int) (st : SecState) : Int × SecState :=
  let f := fun i => setI16 set (4 + 12 * k + 2 * i)
  let acc := 2 * (f 0 * x + f 1 * st.x1 + f 2 * st.x2 - f 3 * st.y1 - f 4 * st.y2)
  let y := to16 acc (cellByte set (4 + 12 * k + 10))
  (y, { x1 := x, x2 := st.x1, y1 := y, y2 := st.y1 })

/-- The sections in order (R367). -/
def sections (set : List Byte) : Nat → Nat → Int → List SecState → Int × List SecState
  | 0, _, x, sts => (x, sts)
  | _ + 1, _, x, [] => (x, [])
  | n + 1, k, x, st :: sts =>
    let r := section1 set k x st
    let q := sections set n (k + 1) r.1 sts
    (q.1, r.2 :: q.2)

/-- Section states of a loop. -/
def Loop.states (l : Loop) : List SecState :=
  (List.range 4).map fun k =>
    { x1 := l.x1.getD k 0, x2 := l.x2.getD k 0, y1 := l.y1.getD k 0, y2 := l.y2.getD k 0 }

/-- Write section states back. -/
def Loop.withStates (sts : List SecState) (l : Loop) : Loop :=
  { l with
    x1 := sts.map SecState.x1
    x2 := sts.map SecState.x2
    y1 := sts.map SecState.y1
    y2 := sts.map SecState.y2 }

/-- The loop program of R367: the output, and the loop with its new section states. -/
def Loop.compute (e ff : Int) (l : Loop) : Int × Loop :=
  let set := l.set
  let cal := to16 (2 * ((e - l.calOffset) * l.calGain)) 1
  let x := to16 (2 * (setI16 set 52 * cal)) (cellByte set 54)
  let r := sections set (cellByte set 2) 0 x l.states
  let u := to16 (2 * (setI16 set 56 * r.1 + setI16 set 64 * ff + setI16 set 58 * 32767)) (cellByte set 55)
  let lo := setI16 set 60
  let hi := setI16 set 62
  let clamped := decide (u < lo ∨ hi < u)
  (clampInt lo hi u, if clamped ∧ cellByte set 3 % 2 = 1 then l else l.withStates r.2)

/-- A loop swaps to its completed shadow at its sample boundary (R380, R384): the section states carry over. -/
def Loop.swap (l : Loop) : Loop :=
  let l1 := match l.shadow with
    | some x => { l with set := x, shadow := none, bank := !l.bank }
    | none => l
  match l1.calPending with
  | some (o, g) =>
    { l1 with calOffset := o, calGain := g, calPending := none, bank := if l.shadow.isSome then l1.bank else !l.bank }
  | none => l1

/-! ### Library, region table, regions (R381 to R384) -/

/-- Set n of the library in effect. -/
def librarySet (s : State) (n : Nat) : List Byte :=
  takePad 128 ((dom s 0x4000 (n / 16 + 1)).drop (128 * (n % 16)))

/-- Set that region r names for a loop type. -/
def regionSet (s : State) (r i : Nat) : Nat :=
  cellByte (dom s 0x4000 0x11) (8 * r + i)

/-- Speed class of a speed, with 120 rpm of hysteresis at each threshold (R381). -/
def speedClass (old rpm : Nat) : Nat :=
  if old = 0 then (if 8400 < rpm then 2 else if 4800 ≤ rpm then 1 else 0)
  else if old = 1 then (if 8400 < rpm then 2 else if rpm < 4680 then 0 else 1)
  else (if rpm < 4680 then 0 else if rpm < 8280 then 1 else 2)

/-- Layer the region takes: the layer in focus, or the target layer during capture and during a jump (R381). -/
def Servo.regionLayer (v : Servo) : Nat :=
  if v.state = 2 ∨ v.state = 5 then v.target % 24 else v.layer % 24

/-- Region index (R381). -/
def Servo.regionOf (v : Servo) : Nat :=
  (((v.regionLayer / 4) * 6 + bandIndex v.track / 4) * 3 + v.speedClass) * 4 + v.mode

/-- The region is evaluated again (R383): every loop whose entry names another set gets it copied to its shadow. -/
def evalRegion (b : BayId) (s : State) : State :=
  let r := (bayAt s b).servo.regionOf
  modBay b
    (fun y => { y with
      servo := { y.servo with
        region := r
        loops := y.servo.loops.mapIdx fun i l =>
          let n := regionSet s r i
          let current := match l.shadow with
            | some x => x
            | none => l.set
          if current = librarySet s n then l else { l with shadow := some (librarySet s n) } } }) s

/-- Load every loop of a bay at start, before any loop closes (R385). -/
def loadLoops (b : BayId) (s : State) : State :=
  let r := (bayAt s b).servo.regionOf
  modBay b
    (fun y => { y with
      servo := { y.servo with
        region := r
        loops := (List.range 7).map fun i => { set := librarySet s (regionSet s r i) } } }) s

/-- Put a bay into a servo state and mode and evaluate its region (R383). -/
def setMode (b : BayId) (state mode : Nat) (s : State) : State :=
  evalRegion b (modBay b (fun y => { y with servo := { y.servo with state := state, mode := mode } }) s)

/-! ### Set-points (R386, R387) -/

/-- Start a soft-start ramp (R386): V_r in Q8.8 units per ms, T_min in µs, values in Q17.15, h in ns. -/
def Ramp.start (m0 r : Int) (vr tmin h : Nat) : Ramp :=
  let d := (r - m0).natAbs
  { on := true, m0 := m0, r := r, t := 0, h := h,
    dur := max (tmin * 1000) (if vr = 0 then 0 else 3 * d * 256 * 1000000 / (2 * 32768 * vr)) }

/-- Set-point of a ramp at its present time: m0 + (r − m0)(3τ² − 2τ³) (R386). -/
def Ramp.value (p : Ramp) : Int :=
  if p.dur ≤ p.t then p.r
  else p.m0 + (p.r - p.m0) * ((3 * p.t * p.t * p.dur - 2 * p.t * p.t * p.t : Nat) : Int) / ((p.dur * p.dur * p.dur : Nat) : Int)

/-- One sample boundary later. -/
def Ramp.tick (p : Ramp) : Ramp :=
  { p with t := p.t + p.h }

/-- The ramp has ended. -/
def Ramp.done (p : Ramp) : Bool :=
  decide (p.dur ≤ p.t)

/-- One step of the profile generator with h = 1/n ms (R387), in units of 2⁻²⁴. -/
def Profile.step (n : Nat) (p : Profile) : Profile :=
  let d := p.r - p.p
  let root : Int := isqrt (2 * p.aMax * d.natAbs)
  let vc := clampInt (-(p.vMax : Int)) p.vMax (if d < 0 then -root else root)
  let ac := clampInt (-(p.aMax : Int)) p.aMax ((vc - p.v) * n)
  let jh : Int := p.jMax / n
  let a := p.a + clampInt (-jh) jh (ac - p.a)
  let v := p.v + a / n
  { p with a := a, v := v, p := p.p + v / n }

/-- The profile's end: |d| and |v| below one unit and one unit per ms (R387). -/
def Profile.ended (p : Profile) : Bool :=
  decide ((p.r - p.p).natAbs < 16777216 ∧ p.v.natAbs < 16777216)

/-- Give the profile generator a set's V, A and J (R387). -/
def Profile.launch (set : List Byte) (p0 v0 r held : Int) : Profile :=
  { on := true, p := p0, v := v0, a := 0, r := r, held := held,
    vMax := setU16 set 70 * 65536, aMax := setU16 set 72 * 65536, jMax := setU16 set 74 * 65536 }

/-! ### The event queue (R355 to R358) -/

/-- Entries fire by stamp, then by the order of Table 10.5. -/
def QEvent.before (a c : QEvent) : Bool :=
  decide (a.stamp < c.stamp ∨ (a.stamp = c.stamp ∧ a.kind < c.kind))

/-- Put an entry in its place. -/
def insertEvent (e : QEvent) : List QEvent → List QEvent
  | [] => [e]
  | q :: qs => if e.before q then e :: q :: qs else q :: insertEvent e qs

/-- A stamp stands in the guard of a wedge: fractions 874 to 2,185 (R357). -/
def inGuard (stamp : Nat) : Bool :=
  decide (874 ≤ stamp % wedgeUnits ∧ stamp % wedgeUnits ≤ 2185)

/-- What becomes of an entry (R356 to R358): true when it is queued. An entry ahead by more than 16 revolutions, in the
guard, or beyond the queue's 512 is refused. -/
def mayQueue (now : Nat) (e : QEvent) (q : List QEvent) : Bool :=
  decide (now ≤ e.stamp ∧ e.stamp ≤ now + 16 * revUnits ∧ q.length < 512) && !inGuard e.stamp

/-- Fire a loop update (Table 10.5 kind 4): the computed output is applied. -/
def Servo.applyLoop (i : Nat) (v : Servo) : Servo :=
  v.modLoop i fun l => match l.next with
    | some u => { l with out := u, next := none }
    | none => l

/-- What a capture copies: timebase and servo state at an angle (R356). -/
def Bay.snap (y : Bay) (arg angle : Nat) : Snap :=
  { arg := arg, stamp := stampOf angle, tbState := y.tb.state, period := y.tb.period, pred := y.tb.pred, missed := y.tb.missed
    mode := y.servo.mode, layer := y.servo.layer, track := y.servo.track, errors := y.servo.lastE, focus := y.servo.lastFE
    outs := y.servo.loops.map Loop.out }

/-- Queue an entry (R355 to R358). A late loop update or capture fires at once and is counted; a late write gate low
fires at once; a late write gate high or power change is not queued. -/
def enqueue (b : BayId) (e : QEvent) (s : State) : State :=
  let now := presentAngle s b
  let y := bayAt s b
  if mayQueue now e y.tb.queue then
    modBay b (fun y => { y with tb := { y.tb with queue := insertEvent e y.tb.queue } }) s
  else if now ≤ e.stamp then s
  else if e.kind = 4 then
    modBay b (fun y => { y with
      tb := { y.tb with late := satAdd 4294967295 y.tb.late 1, updates := y.tb.updates + 1 }
      servo := y.servo.applyLoop e.arg }) s
  else if e.kind = 3 then
    modBay b (fun y => { y with
      tb := { y.tb with late := satAdd 4294967295 y.tb.late 1, captured := some (y.snap e.arg now) } }) s
  else if e.kind = 1 then modBay b (fun y => { y with cway := { y.cway with wg := false } }) s
  else s

/-! ### Speed, start and calibration rejections -/

/-- The measured speed of a bay becomes rpm (R374, R381, R383). Below 4,680 rpm with focus closed the gate drops, the
loops open, the lens goes to park and the timebase is off (R346). -/
def setSpeed (b : BayId) (rpm : Nat) (s : State) : State :=
  let y := bayAt s b
  let c := speedClass y.servo.speedClass rpm
  let s1 := modBay b
    (fun y => { y with
      spin := { y.spin with speed := rpm }
      servo := { y.servo with speedClass := c, state := if y.servo.state = 0 ∧ 30 ≤ rpm then 1 else y.servo.state } }) s
  let s2 := if c = y.servo.speedClass then s1 else evalRegion b s1
  if rpm < 4680 ∧ y.servo.closed 0 then
    leaveLock b 0 4
      (modBay b (fun y => { y with servo := { y.servo.park with state := 1 }, sled := y.sled.stand }) (dropGate b 4 s2))
  else s2

/-- An unload that waits for the spindle to stand is posted (R479). -/
def unloadReady (b : BayId) (s : State) : State :=
  match (bayAt s b).unloadDue with
  | some r =>
    if (bayAt s b).spin.state = 0 ∧ (bayAt s b).reqCode ≠ 3 then
      postRequest b 3 r [] (modBay b (fun y => { y with unloadDue := none }) s)
    else s
  | none => s

/-- Stopped: the spindle state is 0, the timebase is off (R344), and an unload that waited is posted. -/
def spinStopped (b : BayId) (s : State) : State :=
  let s1 := leaveLock b 0 4 s
  unloadReady b <| modBay b
    (fun y => { y with
      spin := { y.spin.coast with state := 0, speed := 0, target := 0, waitStart := y.spin.waitStart }
      servo := { y.servo with
        state := if y.servo.state = 7 then 7 else 0
        speedClass := 0
        layer := 255
        mode := 0 } }) s1

/-- Record a servo calibration's refusal or rejection (R398): 3011h.08 and event 8. -/
def rejectServo (b : BayId) (cal reason layer group : Nat) (s : State) : State :=
  let rev := presentAngle s b / revUnits % 4194304
  let r := [cal, reason, layer, group] ++ evBytes 4 rev
  raiseBay b 8 1 r (modBay b (fun y => { y with servo := { y.servo with rejection := r } }) s)

/-- A capture attempt fails (R389): the loop opens, the lens goes to park, and after 3010h.0A failures in a row the bay
enters bay-Harbour. -/
def captureFailed (b : BayId) (reason : Nat) (s : State) : State :=
  let n := (bayAt s b).servo.attempts + 1
  let l := (bayAt s b).servo.target
  let s1 := rejectServo b 1 reason l 0
    (modBay b (fun y => { y with servo := { y.servo.park with state := 1, attempts := n } }) s)
  if bnum s b 0x10 0x0A ≤ n then enterBayHarbour b 0x11 4 false s1 else s1

/-- Turn the lasers to read power (R335 step 8): CW_LEN high and laser mode 1. -/
def laserRead (b : BayId) (s : State) : State :=
  modBay b (fun y => { y with cway := ({ y.cway with len := true }).write 0 1 }) s

/-- Turn the lasers off (R479). -/
def laserOff (b : BayId) (s : State) : State :=
  modBay b (fun y => { y with cway := { (y.cway.write 0 0) with len := false, wg := false } }) (dropGate b 10 s)

end Sys2Proof.Machine
end

