-- ==== Sys2Proof/Machine/Focus.lean ====
section
/-! DEFINITION. Focus capture, layer jumps, seeks, mode write and the servo calibrations (R388 to R399). -/

namespace Sys2Proof.Machine

open Sys2Proof

/-- Depth of a layer in the layer table D [0.1 µm] (R388). -/
def Servo.depthOf (v : Servo) (l : Nat) : Nat :=
  v.depths.getD l 0

/-- A depth in 0.1 µm as a profile position. -/
def profUnits (d : Int) : Int :=
  d * 16777216 / 10

/-- A depth in 0.1 µm as the depth estimate (R388): units of 2⁻²³/147,456 µm. -/
def estUnits (d : Int) : Int :=
  d * 8388608 * 147456 / 10

/-- The depth estimate in Q17.15. -/
def Servo.estQ (v : Servo) : Int :=
  v.estP / (256 * 147456)

/-- The spindle turns in speed class 1 or 2 within ±1 % of its target (R388, R398). -/
def spinSteady (y : Bay) : Bool :=
  decide (1 ≤ y.servo.speedClass ∧ 0 < y.spin.target
    ∧ ((y.spin.speed : Int) - y.spin.target).natAbs * 100 ≤ y.spin.target)

/-- The collimator stands at a layer's position (R388, R397). -/
def collAt (s : State) (b : BayId) (l : Nat) : Bool :=
  let c := (bayAt s b).coll
  !c.lost && !c.moving && c.pos == collTarget s b l

/-- The preconditions of a capture (R388 step 1). -/
def captureReady (s : State) (b : BayId) (l : Nat) : Bool :=
  let y := bayAt s b
  !y.harbour && y.cway.state == 2 && spinSteady y && y.cway.laser == 1 && y.cway.len && collAt s b l

/-- Begin a capture (R388 steps 2 and 3): mode capture, and the profile generator sweeps from park toward D[l] + 4 µm. -/
def startCapture (b : BayId) (l : Nat) (s : State) : State :=
  let s1 := modBay b
    (fun y => { y with
      servo := { (openLoops notSpindle y.servo) with
        state := 2
        mode := 0
        target := l
        layer := 255
        sCount := 0
        sAbove := false
        crossed := false
        settling := 0
        confirming := false
        estP := estUnits (-1500)
        estV := 0
        lowSum := 0 } }) s
  let s2 := evalRegion b s1
  let set := librarySet s2 (regionSet s2 (bayAt s2 b).servo.region 0)
  modBay b
    (fun y => { y with
      servo := { y.servo with
        prof := Profile.launch set (profUnits (-1500)) 0 (profUnits (y.servo.depthOf l + 40)) 0 } }) s2

/-- FOCUS_CAPTURE (R388, R389): refused with its reason when a precondition fails. -/
def execFocusCapture (b : BayId) (layer : Nat) (s : State) : Host.Outcome State Fault Refusal :=
  let y := bayAt s b
  if 24 ≤ layer ∨ y.harbour ∨ bayEnabled s b = false ∨ y.servo.closed 0 then .next s
  else if captureReady s b layer then .next (startCapture b layer s)
  else .next (rejectServo b 1 1 layer 0 s)

/-- CAPTURE_SETTLE_TIMEOUT (R389): settling has not completed within 50 ms of the loop's closing. -/
def execCaptureSettleTimeout (b : BayId) (s : State) : Host.Outcome State Fault Refusal :=
  let y := bayAt s b
  if y.servo.state = 2 ∧ y.servo.closed 0 then .next (captureFailed b 4 s) else .next s

/-- Begin a layer jump (R390 steps 1 and 2): tracking and sled are held, the collimator starts, the focus set-point
ramps from the estimate to D[l']. -/
def startJump (b : BayId) (l : Nat) (s : State) : State :=
  let s1 := modBay b
    (fun y => { y with
      servo := { (y.servo.modLoop 1 fun x => { x with isOpen := true, next := none }) with
        state := 5
        mode := 2
        target := l
        lastLayer := y.servo.layer
        settling := 0
        settled := 0
        disturbed := false
        crossed := false
        sAbove := true
        jumps := satAdd 4294967295 y.servo.jumps 1 }
      sled := y.sled.stand }) s
  let s2 := evalRegion b s1
  let v := (bayAt s2 b).servo
  let set := librarySet s2 (regionSet s2 v.region 0)
  let s3 := modBay b
    (fun y => { y with
      servo := { y.servo with
        rampF := Ramp.start y.servo.estQ (y.servo.depthOf l * 32768 / 10 : Nat) (setU16 set 66) (setU16 set 68) 2604 } })
    s2
  collTo b (collTarget s3 b l) s3

/-- LAYER_JUMP (R390): focus closed and the write gate low. -/
def execLayerJump (b : BayId) (layer : Nat) (s : State) : Host.Outcome State Fault Refusal :=
  let y := bayAt s b
  if 24 ≤ layer ∨ y.servo.closed 0 = false ∨ y.cway.wg ∨ y.servo.layer = 255 ∨ y.servo.state = 5
      ∨ y.servo.layer = layer then .next s
  else .next (startJump b layer s)

/-- The layer of a capture or a fall-back is confirmed by the first accepted candidates (R388 step 7): another layer is
left by a jump, and a second failure fails the capture. -/
def confirmLayer (b : BayId) (l : Nat) (s : State) : State :=
  let v := (bayAt s b).servo
  if v.confirming = false then s
  else if l = v.target then
    setMode b 3 1 (modBay b
      (fun y => { y with
        servo := { y.servo with confirming := false, confirms := 0, attempts := 0, layer := l, lastLayer := l } }) s)
  else if v.confirms = 0 then
    startJump b v.target (modBay b
      (fun y => { y with servo := { y.servo with confirms := 1, layer := l } }) s)
  else captureFailed b 3 s

/-- Position of the sled with A0 at a radius [nm]: 15 µm a full step from the inner stop (R239, Table 12.6). -/
def sledPosition (s : State) (b : BayId) (radius : Int) : Int :=
  (radius - (bnum s b 0x30 0x0C : Nat)) * 256 / 15000

/-- Start the ramp of the tracking set-point to a row (R392 step 3). -/
def seekRamp (b : BayId) (row : Int) (s : State) : State :=
  let v := (bayAt s b).servo
  let set := librarySet s (regionSet s v.region 1)
  modBay b
    (fun y => { y with
      servo := { (y.servo.modLoop 1 fun l => { l with isOpen := false }) with
        track := 4 * row
        rampOut := 0
        eGood := 0
        rampT := Ramp.start (y.servo.unwrapped / 2 + 49152) (4 * row * 32768 + 49152) (setU16 set 66) (setU16 set 68)
          (y.tb.period / 1000) } }) s

/-- Begin a seek (R392): beyond 256 tracks the sled moves first, with the tracking output held. -/
def startSeek (b : BayId) (row : Int) (s : State) : State :=
  let s1 := setMode b 4 2
    (modBay b (fun y => { y with servo := { y.servo with expectRow := row, lostRow := none, settled := 0 } }) s)
  let v := (bayAt s b).servo
  if 256 < (4 * row - v.unwrapped / 65536).natAbs then
    sledTo b (sledPosition s b (trackRadius (4 * row + 2) - 110))
      (modBay b (fun y => { y with servo := { y.servo with rampT := {} } }) s1)
  else seekRamp b row s1

/-- SEEK (R392): only with focus closed and the timebase locked. -/
def execSeek (b : BayId) (row : Int) (s : State) : Host.Outcome State Fault Refusal :=
  let y := bayAt s b
  if row < -1704 ∨ 39207 < row ∨ y.servo.closed 0 = false ∨ y.tb.state ≠ 2 ∨ y.cway.wg ∨ y.servo.state = 5
      ∨ y.harbour then .next s
  else .next (startSeek b row s)

/-- Focus and tracking have kept their write limits long enough, and the sled stands in neap (R394, R424). -/
def writeReady (s : State) (b : BayId) : Bool :=
  let y := bayAt s b
  y.servo.state == 3 && y.servo.closed 0 && y.servo.closed 1 && decide (bnum s b 0x10 9 ≤ y.servo.settled)
    && !y.sled.spring

/-- Enter mode write (R394): the lasers go write-ready. -/
def enterWrite (b : BayId) (s : State) : State :=
  setMode b 6 3 (modBay b
    (fun y => { y with cway := y.cway.write 0 2, servo := { y.servo with writeAsked := false } }) s)

/-- WRITE_MODE_ENTRY (R394, R424): the bay enters mode write now, or once its conditions hold. -/
def execWriteModeEntry (b : BayId) (s : State) : Host.Outcome State Fault Refusal :=
  let y := bayAt s b
  if y.harbour ∨ y.work ≠ 3 ∧ y.work ≠ 5 then .next s
  else if writeReady s b then .next (enterWrite b s)
  else .next (modBay b (fun y => { y with servo := { y.servo with writeAsked := true } }) s)

/-! ### Calibrations (R398, R399) -/

/-- The trial offset with the fewest corrected bits, the first of equals (Table 11.9, log 153). -/
def bestTrial : List (Int × Nat) → Int
  | [] => 0
  | p :: ps => (ps.foldl (fun a c => if c.2 < a.2 then c else a) p).1

/-- Pitch trim of the untrimmed errors [per mille]: (−1.5ε₀ − 0.5ε₁ + 0.5ε₂ + 1.5ε₃)/5 of their means, to the nearest (R371, Table 11.9). -/
def trimOf (sums : List Int) (n : Nat) : Int :=
  let v := fun (i : Nat) => sums.getD i 0
  let top := (3 * (v 3 - v 0) + (v 2 - v 1)) * 1000
  let den : Int := (655360 * max 1 n : Nat)
  (2 * top + den) / (2 * den)

/-- Determinant of three rows. -/
def det3 (a b c d e f g h i : Int) : Int :=
  a * (e * i - f * h) - b * (d * i - f * g) + c * (d * h - e * g)

/-- Peak, to the nearest microstep, of the parabola fitted by least squares through positions and swings; none when it has no peak. -/
def parabolaPeak (ps : List (Int × Int)) : Option Int :=
  let s := fun (n : Nat) => (ps.map fun p => p.1 ^ n).foldl (· + ·) 0
  let t := fun (n : Nat) => (ps.map fun p => p.1 ^ n * p.2).foldl (· + ·) 0
  let a := det3 (t 2) (s 3) (s 2) (t 1) (s 2) (s 1) (t 0) (s 1) (s 0)
  let b := det3 (s 4) (t 2) (s 2) (s 3) (t 1) (s 1) (s 2) (t 0) (s 0)
  if a < 0 then some ((b - a) / (-2 * a)) else none

/-- The result of a calibration: depth [0.1 µm], focus offset [nm], pitch trim [per mille], tilt [Q1.15] or collimator position; none
where the fit gives none (Table 11.9). -/
def calResult (v : Servo) (cal : Nat) (r : CalIn) : Option Int :=
  match cal with
  | 1 => some (r.depth : Int)
  | 2 => some (bestTrial r.trials)
  | 3 => some (trimOf v.trimSum v.trimN)
  | 4 => some r.tilt
  | _ => parabolaPeak r.swings

/-- Preconditions of a servo calibration (Table 11.9). -/
def calReady (s : State) (b : BayId) (cal : Nat) (r : CalIn) : Bool :=
  let y := bayAt s b
  let focus := y.servo.closed 0
  let track := y.servo.closed 1
  let follow := y.servo.state == 3
  match cal with
  | 1 => spinSteady y && y.cway.laser == 1 && decide (25 ≤ r.sum ∧ r.sum ≤ 400)
  | 2 => focus && follow && track && r.trials.length == 7
  | 3 => follow && track && decide (64 ≤ y.servo.trimN)
  | 4 => focus && follow && track
  | 5 => focus && follow && spinSteady y && r.swings.length == 5
  | _ => false

/-- A result stands within its bounds (Table 11.9). -/
def calBounds (s : State) (b : BayId) (cal l : Nat) (r : CalIn) (v : Int) : Bool :=
  let depth : Int := ((bayAt s b).recDepths.getD l 0 : Nat)
  match cal with
  | 1 => decide (300 ≤ r.swing ∧ (v - depth).natAbs ≤ 30)
  | 2 => decide (v.natAbs ≤ 400)
  | 3 => decide (v.natAbs ≤ 80)
  | 4 => decide (v.natAbs ≤ 8192)
  | _ => (r.swings.any fun p => decide (p.1 ≤ v)) && (r.swings.any fun p => decide (v ≤ p.1))
      && decide ((v - (bint s 4 b 0x40 0x0C + (bnum s b 0x40 0x0D : Int) * depth / 160)).natAbs ≤ 200)

/-- A focus offset as the loop takes it, Q1.15. -/
def rawOffset (r : CalIn) (v : Int) : Int :=
  sat16 (v * 32768 / (max 1 r.nm : Nat))

/-- An accepted result goes into 3011h and the shadow calibration record (R384, R398). -/
def acceptCal (cal l g : Nat) (r : CalIn) (value : Int) (v : Servo) : Servo :=
  match cal with
  | 1 => { v with
      depths := modNth v.depths l fun _ => value.toNat
      swings := modNth v.swings l fun _ => r.swing }
  | 2 => { (v.modLoop 0 fun x => { x with calPending := some (rawOffset r value, x.calGain) }) with
      focusOffsets := modNth v.focusOffsets l fun _ => value
      fresh := v.fresh ||| BitVec.ofNat 64 (2 ^ l) }
  | 3 => { v with
      pitchTrims := modNth v.pitchTrims g fun _ => value
      fresh := v.fresh ||| BitVec.ofNat 64 (2 ^ (48 + g)) }
  | 4 => { (v.modLoop 2 fun x => { x with calPending := some (value, x.calGain) }) with
      tilts := modNth v.tilts g fun _ => value
      fresh := v.fresh ||| BitVec.ofNat 64 (2 ^ (54 + g)) }
  | _ => { v with
      colPos := modNth v.colPos l fun _ => some value
      fresh := v.fresh ||| BitVec.ofNat 64 (2 ^ (24 + l)) }

/-- The write of an accepted result to the shadow calibration record of its loop: one 16-bit field of a word, so a read-modify-write of
the coefficient store (R186, R384). Whether it is performed. -/
def recordWrite (b : BayId) (cal : Nat) (r : CalIn) (value : Int) (s : State) : Bool × State :=
  let i := if cal = 2 then 0 else 2
  let shadow := !(((bayAt s b).servo.loops[i]?).map Loop.bank).getD false
  if cal = 2 ∨ cal = 4 then
    writeNarrow ((if shadow then 131072 else 0) + loopBase (7 * b.val + i) + 16) r.flips 0xFFFF
      (BitVec.ofInt 64 (if cal = 2 then rawOffset r value else value)) s
  else (true, s)

/-- A record whose write was not performed keeps what it held. -/
def Servo.unlessWritten (v : Servo) (done : Bool) (old : Servo) : Servo :=
  if done then v
  else { v with loops := v.loops.mapIdx fun i l => { l with calPending := (old.loops[i]?).bind Loop.calPending } }

/-- SERVO_CALIBRATION (R398): refused on a failed precondition, rejected outside its bounds, else accepted. -/
def execServoCalibration (b : BayId) (cal layer : Nat) (r : CalIn) (s : State) : Host.Outcome State Fault Refusal :=
  let g := bandIndex (bayAt s b).servo.track / 4
  if cal = 0 ∨ 5 < cal ∨ 24 ≤ layer ∨ bayEnabled s b = false then .next s
  else if calReady s b cal r = false then .next (rejectServo b cal 1 layer g s)
  else match calResult (bayAt s b).servo cal r with
    | none => .next (rejectServo b cal 2 layer g s)
    | some v =>
      if calBounds s b cal layer r v = false then .next (rejectServo b cal 2 layer g s)
      else
        let w := recordWrite b cal r v s
        .next (modBay b (fun y => { y with servo := (acceptCal cal layer g r v y.servo).unlessWritten w.1 y.servo }) w.2)

/-- The calibrations a bay needs before it writes a layer in a band group have been accepted on this disc (R399). -/
def Servo.calibrated (v : Servo) (l g : Nat) : Bool :=
  v.fresh.getLsbD l && v.fresh.getLsbD (24 + l) && v.fresh.getLsbD (48 + g) && v.fresh.getLsbD (54 + g)

end Sys2Proof.Machine
end

