-- ==== Sys2Proof/Machine/Timebase.lean ====
section
/-! DEFINITION. Disc angle as the time base (10): windows and their candidates, the prediction loop, coasting, the event
queue's firing, and the sled encoder. -/

namespace Sys2Proof.Machine

open Sys2Proof

/-! ### Candidates (R348 to R350) -/

/-- A candidate placed in time, with its decoded fields. -/
structure Placed where
  /-- Trailing spot B0 to B3. -/
  spot : Nat
  /-- Correlation, per cent of ideal. -/
  corr : Nat
  /-- Core-clock time at which A0 stood where the candidate was read [ps]. -/
  t : Nat
  /-- Layer field: 5 bits, then the parity bit. -/
  layer : Nat
  /-- Wedge index field: 10 bits, then the parity bit. -/
  wedge : Nat
  /-- Track number field: 18 bits, Gray code. -/
  track : Nat
  /-- Amplitude of burst A. -/
  burstA : Nat
  /-- Amplitude of burst B. -/
  burstB : Nat

/-- The wedge period, before the timebase has one that of the measured speed [ps]. -/
def wedgeTime (y : Bay) : Nat :=
  if y.tb.state < 2 then (if y.spin.speed = 0 then 0 else 60 * 10 ^ 12 / (960 * y.spin.speed)) else y.tb.period

/-- A candidate placed by its SC, the upstream delay and its spot's offset (R343), its fields decoded (R243). -/
def placeCand (y : Bay) (c : Cand) : Placed :=
  { spot := c.spot
    corr := c.corr
    t := ((y.cway.timeOf c.sc : Int) - spotOffset y c.spot * (wedgeTime y : Nat) / (wedgeUnits : Nat)).toNat
    layer := fromBiphase (c.code.take 12) 0
    wedge := fromBiphase ((c.code.drop 12).take 22) 0
    track := fromBiphase ((c.code.drop 34).take 36) 0
    burstA := c.burstA
    burstB := c.burstB }

/-- Half the width of a window: 2 % of T [ps] (R348). -/
def halfWindow (period : Nat) : Nat :=
  period / 50

/-- A candidate lies inside the window (R348). -/
def insideWindow (t : Tb) (c : Placed) : Bool :=
  decide (t.pred ≤ c.t + halfWindow t.period ∧ c.t ≤ t.pred + halfWindow t.period)

/-- Farthest a Gray track number may lie from the spot's track (Table 10.4): 1, or ⌈v × T⌉ + 1 during a seek, v × T being
what the ramp moves in a wedge. -/
def trackSlack (v : Servo) : Nat :=
  if v.rampT.on then
    ((v.rampT.tick.value - v.rampT.value).natAbs + 32767) / 32768 + 1
  else 1

/-- Distance of two track numbers modulo 2¹⁸ (R239). -/
def trackGap (a c : Nat) : Nat :=
  min ((a + 262144 - c) % 262144) ((c + 262144 - a) % 262144)

/-- The layer a candidate is compared with: the target during a jump (Table 10.4). -/
def Servo.expectLayer (v : Servo) : Nat :=
  if v.state = 5 then v.target else v.layer

/-- First check of Table 10.4 that a candidate fails: 1 track number, 2 layer, 3 wedge index; 0 none. A field whose
parity fails is not compared (R349). -/
def candFails (v : Servo) (t : Tb) (c : Placed) : Nat :=
  let want := ((v.track + c.spot : Int) % 262144).toNat
  let far := !(v.state == 4 && !v.rampT.on) && decide (trackSlack v < trackGap (grayDecode c.track) want)
  if v.closed 1 ∧ far then 1
  else if parityOk 6 c.layer ∧ c.layer / 2 ≠ v.expectLayer then 2
  else if parityOk 11 c.wedge ∧ c.wedge / 2 ≠ t.wedge % 960 then 3
  else 0

/-- The better of two standing candidates of a spot (R350). -/
def betterCand (pred : Nat) (a c : Placed) : Placed :=
  let d := fun (x : Placed) => ((x.t : Int) - pred).natAbs
  if c.corr < a.corr then a else if a.corr < c.corr then c else if d a ≤ d c then a else c

/-- The standing candidate of a spot (R350). -/
def standingOf (pred spot : Nat) (cs : List Placed) : Option Placed :=
  match cs.filter fun c => c.spot == spot with
  | [] => none
  | c :: rest => some (rest.foldl (betterCand pred) c)

/-- R244's radial position error of a candidate in Q1.15: (A − B)/(A + B) × (−1)^t. -/
def burstError (track : Int) (c : Placed) : Int :=
  let q := divQ ((c.burstA : Int) - c.burstB) (c.burstA + c.burstB : Nat)
  if track % 2 = 0 then q else sat16 (-q)

/-- WINDOW_CLOSE (R348 to R352): candidates outside the window and those a check rejects are counted; the outcome waits
for its commit. A window that closes empty while locked coasts. -/
def execWindowClose (b : BayId) (cands : List Cand) (s : State) : Host.Outcome State Fault Refusal :=
  let y := bayAt s b
  let t := y.tb
  if (t.state ≠ 2 ∧ t.state ≠ 3) ∨ t.closed.isSome then .next s
  else
    let real := (cands.map (placeCand y)).filter fun c => decide (c.spot < 4 ∧ bnum s b 0x80 3 ≤ c.corr)
    let inw := real.filter (insideWindow t)
    let good := inw.filter fun c => candFails y.servo t c == 0
    let stand := (List.range 4).filterMap fun i => standingOf t.pred i good
    let counts := [real.length - inw.length, (inw.filter fun c => candFails y.servo t c == 1).length,
      (inw.filter fun c => candFails y.servo t c == 2).length, (inw.filter fun c => candFails y.servo t c == 3).length]
    let mean := if stand = [] then none else some (sumOf (stand.map Placed.t) / stand.length)
    .next (modBay b
      (fun y => { y with
        tb := { y.tb with
          state := if stand = [] then 3 else y.tb.state
          rejectedC := (y.tb.rejectedC.zip counts).map fun p => satAdd 4294967295 p.1 p.2
          closed := some mean
          standing := stand.map fun c => (c.spot, burstError (y.servo.track + c.spot) c, grayDecode c.track)
          kp := bnum s b 0x80 4
          kf := bnum s b 0x80 5
          coastLim := bnum s b 0x80 6 } }) s)

/-! ### Acquire (R347) -/

/-- Three candidates in a row: consecutive wedge indices, spaced a wedge apart to within ±2 % of the wedge period that
the spindle's measured speed gives. -/
def lockFits (rpm : Nat) : List (Nat × Nat) → Bool
  | (w3, t3) :: (w2, t2) :: (w1, t1) :: _ =>
    let p : Nat := if rpm = 0 then 0 else 60 * 10 ^ 12 / (960 * rpm)
    let near := fun (a c : Nat) => decide (a < c ∧ (((c - a : Nat) : Int) - (p : Int)).natAbs * 50 ≤ p)
    decide (w2 = (w1 + 1) % 960 ∧ w3 = (w2 + 1) % 960) && near t1 t2 && near t2 t3
  | _ => false

/-- The first absolute wedge number with an index whose timing point does not lie behind an angle. -/
def wedgeFrom (angle index : Nat) : Nat :=
  let base := angle / revUnits * 960 + index
  if base * wedgeUnits + 874 < angle then base + 960 else base

/-- The timebase locks on the third candidate (R347). -/
def lockOn (b : BayId) (index t1 t3 : Nat) (s : State) : State :=
  let period := (t3 - t1) / 2
  let w := wedgeFrom (presentAngle s b) index
  modBay b
    (fun y => { y with
      tb := { y.tb with
        state := 2
        period := period
        pred := t3 + period
        wedge := w + 1
        angle := w * wedgeUnits + 874
        anchor := t3
        rate := period
        lockRun := []
        missed := 0
        closed := none } }) s

/-- ACQUIRE_LOCK (R344, R347): a candidate counts only when the parity of its layer and wedge index checks. -/
def execAcquireLock (b : BayId) (seen : Cand) (s : State) : Host.Outcome State Fault Refusal :=
  let y := bayAt s b
  let cand := placeCand y seen
  if y.tb.state ≠ 1 ∨ parityOk 6 cand.layer = false ∨ parityOk 11 cand.wedge = false then .next s
  else
    let run := ((cand.wedge / 2, cand.t) :: y.tb.lockRun).take 3
    if lockFits y.spin.speed run then
      let t1 := (run.getD 2 (0, 0)).2
      .next (confirmLayer b (cand.layer / 2) (lockOn b (cand.wedge / 2) t1 cand.t s))
    else .next (modBay b (fun y => { y with tb := { y.tb with lockRun := run } }) s)

/-! ### Commit (R345, R346, R351 to R353) -/

/-- Trimmed errors ε of the standing spots in units of 1/65,536,000 track pitch (R371). -/
def trimmed (v : Servo) (st : List (Nat × Int × Nat)) : List Int :=
  let d := v.pitchTrims.getD (bandIndex v.track / 4) 0
  st.map fun c => 1000 * c.2.1 - (2 * (c.1 : Int) - 3) * d * 32768

/-- An error exceeds a limit given in per mille of pitch. -/
def beyond (limit : Nat) (e : Int) : Bool :=
  decide (65536 * limit < e.natAbs)

/-- The mean of the errors exceeds a limit. -/
def meanBeyond (limit : Nat) (es : List Int) : Bool :=
  decide (65536 * limit * es.length < (es.foldl (· + ·) 0).natAbs)

/-- The sled's position is re-established at a wedge accepted in follow (R362): position and encoder count become those
of A0's radius less the actuator's displacement; a homing ends (R429). -/
def reestablish (b : BayId) (lens : Int) (s : State) : State :=
  let y := bayAt s b
  if y.servo.state ≠ 3 ∨ y.servo.closed 1 = false ∨ (y.tb.uncertain = false ∧ y.sled.lost = false ∧ y.sled.homing = false)
  then s
  else
    let r := trackRadius y.servo.track - lens
    let pos := sledPosition s b r
    let cnt := (r - (bnum s b 0x30 0x0C : Nat)) * (bnum s b 0x80 0x0D : Nat) / 1000000
    modBay b
      (fun y => { y with
        sled := { (if y.sled.homing then y.sled.rest else y.sled) with pos := pos, lost := false, homed := true, homing := false }
        sledState := if y.sled.homing then 0 else y.sledState
        tb := { y.tb with uncertain := false, encoder := cnt } }) s

/-- The wedges' effects on tracking (R392 to R395): limits on the write gate, loss of tracking, settle counts. -/
def judgeWedge (b : BayId) (s : State) : State :=
  let v := (bayAt s b).servo
  let es := if v.rampT.on ∧ v.state = 6 then [] else v.lastE
  let off := es.any (beyond (bnum s b 0x10 7))
  let focusOk := decide (v.lastFE.natAbs ≤ bnum s b 0x10 8)
  let eOut := meanBeyond (bnum s b 0x10 6) es
  let eIn := !(meanBeyond (bnum s b 0x10 7) es) && es != []
  let s1 := modBay b
    (fun y => { y with
      servo := { y.servo with
        settled := if off ∨ es = [] ∨ focusOk = false then 0 else y.servo.settled + 1
        eGood := if eIn then y.servo.eGood + 1 else 0
        eRun := if eOut then y.servo.eRun + 1 else 0 } }) s
  let s2 := if off then dropGate b 5 s1 else s1
  if 2 ≤ (bayAt s2 b).servo.eRun ∧ v.closed 1 ∧ v.rampT.on = false then trackingLost b 3 6 s2 else s2

/-- A seek's end, a seek back after a loss, and a mode write that waits (R392, R394, R396). -/
def seekOn (b : BayId) (s : State) : State :=
  let v := (bayAt s b).servo
  if v.state = 4 ∧ v.rampT.on ∧ v.rampT.done ∧ bnum s b 0x10 9 ≤ v.eGood then
    let close := fun (l : Loop) => { l with isOpen := false }
    setMode b 3 1 (modBay b
      (fun y => { y with
        servo := { (((y.servo.modLoop 2 close).modLoop 3 close).modLoop 6 close) with rampT := {}, settled := 0 } }) s)
  else
    match v.lostRow with
    | some q => if v.state = 4 ∧ v.closed 1 = false ∧ v.rampOut = 0 ∧ v.closed 0 then startSeek b q s else s
    | none =>
      if v.writeAsked ∧ writeReady s b then enterWrite b s
      else if v.state = 6 ∧ v.rampT.on ∧ v.rampT.done then
        modBay b (fun y => { y with servo := { y.servo with rampT := {} } }) s
      else s

/-- What every commit does to the set-points that move by the wedge (R386, R387, R396): the ramps advance; a lost tracking
output goes linearly to zero; a seek whose wedge gives no track number goes on by the profile generator. -/
def wedgeTick (missed : Bool) (period : Nat) (set : List Byte) (v : Servo) : Servo :=
  let n : Nat := 10 ^ 9 / max 1 period
  let fall := missed && v.state == 4 && v.rampT.on
  let slope := (v.rampT.tick.value - v.rampT.value) * 512 * n
  let prof := if fall then
      Profile.launch set (v.rampT.value * 512) slope (v.rampT.r * 512) ((v.loops[1]?.map Loop.out).getD 0)
    else if v.profT.on then v.profT.step n else v.profT
  let stop := v.profT.on && prof.ended
  { (v.modLoop 1 fun l =>
      if v.rampOut = 0 then l else { l with out := l.out * ((v.rampOut - 1 : Nat) : Int) / (v.rampOut : Int) }) with
    rampT := if fall then { v.rampT with on := false }
      else if stop then { v.rampT with on := true, t := v.rampT.dur }
      else if v.rampT.on then v.rampT.tick else v.rampT
    profT := if stop then {} else prof
    fallbacks := if fall then satAdd 4294967295 v.fallbacks 1 else v.fallbacks
    rampOut := v.rampOut - 1
    trackSum := v.trackSum + (v.loops[1]?.map Loop.out).getD 0
    tiltN := v.tiltN + 1 }

/-- The spindle speed the wedges show [rpm] (R374). -/
def rpmOf (period : Nat) : Nat :=
  if period = 0 then 0 else 60 * 10 ^ 12 / (960 * period)

/-- Unwrapped position of B0 in 1/65,536 track: its Gray track number plus e[0] (R392). -/
def unwrap (v : Servo) (st : List (Nat × Int × Nat)) : Int :=
  match st.find? fun c => c.1 == 0 with
  | some c => (if c.2.2 < 200000 then (c.2.2 : Int) else (c.2.2 : Int) - 262144) * 65536 + c.2.1
  | none => v.unwrapped

/-- The untrimmed errors of a wedge that shows all four spots in follow join those of the pitch trim (Table 11.9); they begin anew outside
follow and in a new band group. -/
def trimTick (st : List (Nat × Int × Nat)) (v : Servo) : Servo :=
  if v.state ≠ 3 ∨ v.closed 1 = false then { v with trimSum := [0, 0, 0, 0], trimN := 0 }
  else if st.length ≠ 4 then v
  else { v with
    trimSum := v.trimSum.mapIdx fun i e => e + ((getKey i st).map Prod.fst).getD 0
    trimN := v.trimN + 1 }

/-- WEDGE_COMMIT (R345, R346, R351 to R353, R359, R362, R383, R392 to R395). -/
def commitWedge (b : BayId) (out : Option Nat) (lens : Int) (s : State) : State :=
  let y := bayAt s b
  let t := y.tb
  let e : Int := match out with
    | some o => (o : Int) - t.pred
    | none => 0
  let pred := ((t.pred + t.period : Nat) + (t.kp : Int) * e / 256).toNat
  let period := ((t.period : Int) + (t.kf : Int) * e / 256).toNat
  let missed := if out.isSome then 0 else t.missed + 1
  let es := if out.isSome then trimmed y.servo t.standing else []
  let group := bandIndex y.servo.track / 4
  let s1 := modBay b
    (fun y => { y with
      tb := { y.tb with
        state := if out.isSome then 2 else 3
        period := period
        pred := pred
        wedge := t.wedge + 1
        angle := t.wedge * wedgeUnits + 874
        anchor := t.pred
        rate := pred - t.pred
        accepted := if out.isSome then satAdd 18446744073709551615 y.tb.accepted 1 else y.tb.accepted
        coasted := if out.isSome then y.tb.coasted else satAdd 4294967295 y.tb.coasted 1
        missed := missed
        closed := none }
      cway := { y.cway with clockWord := clockWordOf y.servo.track period }
      servo := { (trimTick (if out.isSome then t.standing else []) (wedgeTick out.isNone t.period (librarySet s (regionSet s y.servo.region 1)) y.servo)) with
        lastE := es
        settled := if out.isSome then y.servo.settled else 0
        unwrapped := if out.isSome then unwrap y.servo t.standing else y.servo.unwrapped
        wedgeDue := some (t.wedge % 960, out.isNone || decide (es.length < 2)) } }) s
  let s2 := setSpeed b (rpmOf period) s1
  if out.isSome then
    let s3 := seekOn b (reestablish b lens (judgeWedge b s2))
    if bandIndex (bayAt s3 b).servo.track / 4 = group then s3
    else evalRegion b (modBay b (fun y => { y with servo := { y.servo with trimSum := [0, 0, 0, 0], trimN := 0 } }) s3)
  else if (bayAt s b).cway.wg then (if missed = 2 then dropGate b 2 s2 else s2)
  else if t.coastLim ≤ missed then raiseBay b 2 0 [] (leaveLock b 1 2 s2)
  else s2

/-- WEDGE_COMMIT (R351): the outcome of the window that closed. -/
def execWedgeCommit (b : BayId) (lens : Int) (s : State) : Host.Outcome State Fault Refusal :=
  let t := (bayAt s b).tb
  match t.closed with
  | some out => if t.state = 2 ∨ t.state = 3 then .next (commitWedge b out lens s) else .next s
  | none => .next s

/-! ### The event queue fires (R354 to R356, R393) -/

/-- A bay may raise its write gate (R333, R354, R393, R394, R413, R440). -/
def mayRaiseGate (s : State) (b : BayId) : Bool :=
  let y := bayAt s b
  y.tb.state == 2 && y.servo.state == 6 && y.cway.state == 2 && y.cway.len && !y.cway.inhibit && y.cway.laser == 2
    && y.cway.regOut.isNone && y.cway.regQueue.isEmpty && y.cway.headEpoch == y.cway.epoch
    && (y.spin.state == 4 || (y.spin.state == 7 && y.spin.dipCoast))
    && decide (((y.spin.speed : Int) - 7200).natAbs ≤ 36)
    && y.servo.lastE != [] && !y.servo.lastE.any (beyond (bnum s b 0x10 7))
    && decide (y.servo.lastFE.natAbs ≤ bnum s b 0x10 8)
    && !y.cald.overload && !y.harbour && !s.sup.dip && !s.sup.vfldDip && s.phase == .running

/-- The effect of an entry (Table 10.5). A gate that may not rise lets the row pass (R219). -/
def fireEvent (b : BayId) (e : QEvent) (s : State) : State :=
  match e.kind with
  | 1 => modBay b (fun y => { y with cway := { y.cway with wg := false } }) s
  | 2 => modBay b (fun y => { y with tb := { y.tb with powerInForce := e.arg } }) s
  | 3 => modBay b (fun y => { y with tb := { y.tb with captured := some (y.snap e.arg (presentAngle s b)) } }) s
  | 4 =>
    let lim := sledLim s b
    modBay b
      (fun y =>
        let v := y.servo.applyLoop e.arg
        { y with
          servo := v
          sled := if e.arg = 3 ∧ v.closed 3 then y.sled.velocity lim (((v.loops[3]?.map Loop.out).getD 0) * 3000 / 32768)
            else y.sled
          sledState := if e.arg = 3 ∧ v.closed 3 then 2 else y.sledState
          tb := { y.tb with updates := y.tb.updates + 1 } }) s
  | 5 =>
    if mayRaiseGate s b then
      modBay b (fun y => { y with cway := { y.cway with wg := true }, chan := { y.chan with resumeFrom := none } }) s
    else modBay b
      (fun y => { y with
        chan := { y.chan with
          rowActive := false, frames := if y.chan.resumeFrom.isSome then y.chan.frames else [] } }) s
  | _ => s

/-- EVENT_FIRE (R355, R356): the angle has reached the first entry's stamp. -/
def execEventFire (b : BayId) (s : State) : Host.Outcome State Fault Refusal :=
  match (bayAt s b).tb.queue with
  | [] => .next s
  | e :: rest =>
    let now := presentAngle s b
    .next (fireEvent b e (modBay b
      (fun y => { y with
        tb := { y.tb with
          queue := rest
          angle := max now e.stamp
          anchor := max y.tb.anchor (nowPs s) } }) s))

/-! ### The sled encoder (R360, R361) -/

/-- The step a pair of samples makes in the quadrature order 00, 01, 11, 10: none when both lines change. -/
def quadStep (old new' : Nat) : Option Int :=
  let pos := fun n => if n = 0 then 0 else if n = 1 then 1 else if n = 3 then 2 else 3
  let d := (pos new' + 4 - pos old) % 4
  if d = 0 then some 0 else if d = 1 then some 1 else if d = 3 then some (-1) else none

/-- Net count change over 1,024 samples beyond which the position is uncertain (R361). -/
def encLimit (res : Nat) : Nat :=
  (res * 576 + 99999) / 100000

/-- ENCODER_COUNT (R360, R361): the count moves, or a skip is counted; two skips within 1,024 samples or too large a net
change make the sled position uncertain. -/
def execEncoderCount (b : BayId) (lineA lineB : Bool) (samples : Nat) (s : State) : Host.Outcome State Fault Refusal :=
  if bnum s b 0x80 0x0C ≠ 1 then .next s
  else
    let t := (bayAt s b).tb
    let ab := lineA.toNat * 2 + lineB.toNat
    let now := t.encAt + max 1 samples
    let step := quadStep t.encAB ab
    let cnt := t.encoder + step.getD 0
    let hist := (now, cnt) :: t.encHist.filter fun p => decide (now < p.1 + 1024)
    let base := match (t.encHist.find? fun p => decide (p.1 + 1024 ≤ now)) with
      | some p => p.2
      | none => t.encBase
    let twice := step.isNone && (match t.encSkipAt with
      | some k => decide (now < k + 1024)
      | none => false)
    let lim := encLimit (bnum s b 0x80 0x0D)
    let wide := decide (lim < (cnt - base).natAbs) || hist.any fun p => decide (lim < (cnt - p.2).natAbs)
    let s1 := modBay b
      (fun y => { y with
        tb := { y.tb with
          encAB := ab
          encAt := now
          encoder := cnt
          encHist := hist
          encBase := base
          skips := if step.isNone then satAdd 4294967295 y.tb.skips 1 else y.tb.skips
          encSkipAt := if step.isNone then some now else y.tb.encSkipAt
          uncertain := y.tb.uncertain || twice || wide } }) s
    if (twice ∨ wide) ∧ t.uncertain = false then .next (raiseBay b 5 1 [] s1) else .next s1

/-- Clear the timebase counts (R363). -/
def clearTimebase (b : BayId) (s : State) : State :=
  modBay b
    (fun y => { y with
      tb := { y.tb with accepted := 0, coasted := 0, rejectedC := [0, 0, 0, 0], late := 0, skips := 0 } }) s

end Sys2Proof.Machine
end

