-- ==== Sys2Proof/Machine/Engine.lean ====
section
/-! DEFINITION. The servo control engine at its cycle boundaries (R364 to R391, R395 to R397): focus samples, capture,
jumps, the wedge slot, the spindle current and collimator loops, overruns, and the slot schedule. -/

namespace Sys2Proof.Machine

open Sys2Proof

/-! ### The slot schedule (R376, R377) -/

/-- Entries of a schedule, 64 bits each (Table 11.4). -/
def schedEntries (d : List Byte) : List Nat :=
  (List.range (d.length / 8)).map fun i => ofBytes ((d.drop (8 * i)).take 8)

/-- Kind of an entry. -/
def entKind (e : Nat) : Nat := bitsOf e 60 63

/-- Bay of an entry. -/
def entBay (e : Nat) : Nat := bitsOf e 56 59

/-- Lane of an entry. -/
def entLane (e : Nat) : Nat := bitsOf e 54 55

/-- Start clock of an entry. -/
def entStart (e : Nat) : Nat := bitsOf e 40 51

/-- Budget of an entry. -/
def entBudget (e : Nat) : Nat := bitsOf e 30 39

/-- Period of an entry in engine cycles. -/
def entPeriod (e : Nat) : Nat := bitsOf e 21 29

/-- Phase of an entry. -/
def entPhase (e : Nat) : Nat := bitsOf e 12 20

/-- Smallest budget of a kind (Table 11.6). -/
def minBudget (kind : Nat) : Nat :=
  match kind with
  | 0 => 64
  | 1 => 96
  | 2 => 48
  | _ => 32

/-- Period of a kind (Table 11.4). -/
def kindPeriod (kind : Nat) : Nat :=
  if kind = 2 then 8 else if kind = 3 then 384 else 1

/-- Two entries fall into one engine cycle: their phases agree modulo the greatest common divisor of their periods. -/
def meet (a c : Nat) : Bool :=
  entPhase a % Nat.gcd (entPeriod a) (entPeriod c) == entPhase c % Nat.gcd (entPeriod a) (entPeriod c)

/-- Two entries of one lane overlap in some engine cycle. -/
def overlap (a c : Nat) : Bool :=
  entLane a == entLane c && meet a c
    && decide (entStart a < entStart c + entBudget c ∧ entStart c < entStart a + entBudget a)

/-- No two entries of a list overlap. -/
def noOverlap : List Nat → Bool
  | [] => true
  | e :: es => es.all (fun c => !overlap e c) && noOverlap es

/-- One entry keeps its ranges, budget and end (R377). -/
def entryOk (e : Nat) : Bool :=
  decide (entKind e ≤ 3 ∧ entBudget e ≤ 1023 ∧ minBudget (entKind e) ≤ entBudget e
    ∧ entPeriod e = kindPeriod (entKind e) ∧ entPhase e < entPeriod e ∧ entStart e + entBudget e ≤ 2080)

/-- A schedule passes R377. -/
def scheduleOk (s : State) (d : List Byte) : Bool :=
  let es := schedEntries d
  decide (8 ≤ d.length ∧ d.length ≤ 2048 ∧ d.length % 8 = 0) && es.all entryOk && noOverlap es
    && allBays.all fun b => !bayEnabled s b
      || (List.range 4).all fun k => (es.filter fun e => entKind e == k && entBay e == b.val).length == 1

/-- Clocks an entry list takes in an engine cycle. -/
def cycleLoad (es : List Nat) (n : Nat) : Nat :=
  sumOf ((es.filter fun e => n % (max 1 (entPeriod e)) == entPhase e).map entBudget)

/-- Worst-cycle load, per mille of 4 × 2,080 lane clocks (4C00h.02), rounded to nearest. -/
def worstLoad (d : List Byte) : Nat :=
  let es := schedEntries d
  (maxOf ((List.range 384).map (cycleLoad es)) * 1000 + 4160) / 8320

/-- Phase of the entry of a kind of a bay in the schedule in effect. -/
def phaseOf (s : State) (kind : Nat) (b : BayId) : Option Nat :=
  ((schedEntries (dom s 0x4C00 1)).find? fun e => entKind e == kind && entBay e == b.val).map entPhase

/-! ### One computation (R367, R368, R385) -/

/-- Count a missing sample of a loop (R375). -/
def missSample (b : BayId) (i : Nat) (s : State) : State :=
  modBay b (fun y => { y with
    servo := { y.servo with missing := modNth y.servo.missing i fun n => satAdd 4294967295 n 1 } }) s

/-- A loop's feedforward input where its set uses one: the spec names its source only for the profile generator, so it
is free (log 44). -/
def feedforward (s : State) (l : Loop) : Int :=
  if bitOf (cellByte l.set 3) 1 then signedOf 2 (freeOf s).toNat else 0

/-- A loop computes its output from an error; the output waits for the next boundary (R367, R369). -/
def computeLoop (b : BayId) (i : Nat) (e : Int) (s : State) : State :=
  match (bayAt s b).servo.loops[i]? with
  | none => s
  | some l =>
    let r := l.compute e (feedforward s l)
    modBay b
      (fun y => { y with
        servo := y.servo.modLoop i fun _ => { r.2 with next := some r.1, saved := l.x1 ++ l.x2 ++ l.y1 ++ l.y2 } })
      (if bitOf (cellByte l.set 3) 1 then spend s else s)

/-- Last value accepted in 3011h for a loop's calibration record (R385): offset and gain. -/
def lastRecord (y : Bay) (nm i : Nat) : Int × Int :=
  if i = 0 then (sat16 (y.servo.focusOffsets.getD y.servo.layer 0 * 32768 / (max 1 nm : Nat)), 16384)
  else if i = 2 then (y.servo.tilts.getD (bandIndex y.servo.track / 4) 0, 16384)
  else (0, 16384)

/-- Freshness bit of the calibration of a loop (3011h.07). -/
def freshBit (y : Bay) (i : Nat) : Nat :=
  if i = 0 then 2 ^ (y.servo.layer % 24) else if i = 2 then 2 ^ (54 + bandIndex y.servo.track / 4) else 0

/-- A loop's computation reads an uncorrectable coefficient word (R185, R385): its output is held; a damaged set is
loaded again from the library, a damaged record replaced by the last accepted value and marked stale. -/
def badWord (b : BayId) (i : Nat) (inp : EngineIn) (s : State) : State :=
  let y := bayAt s b
  let bank := (y.servo.loops[i]?.map Loop.bank).getD false
  let s1 := memError { part := .coeff, addr := (if bank then 131072 else 0) + inp.badAddr % 131072, errs := [0, 1] } s
  let set := librarySet s (regionSet s y.servo.region i)
  let rec' := lastRecord y inp.nm i
  modBay b
    (fun y => { y with
      servo := if inp.badRecord then
          { (y.servo.modLoop i fun l => { l with calPending := some rec' }) with
            fresh := y.servo.fresh &&& ~~~ BitVec.ofNat 64 (freshBit y i) }
        else y.servo.modLoop i fun l => { l with shadow := some set } }) s1

/-- A loop runs on a sample: none is a missing sample (R375). -/
def runLoop (b : BayId) (i : Nat) (inp : EngineIn) (e : Option Int) (s : State) : State :=
  match e with
  | none => missSample b i s
  | some x => if inp.badLoop = i then badWord b i inp s else computeLoop b i x s

/-- A loop's sample boundary: it swaps (R380). -/
def swapLoop (b : BayId) (i : Nat) (s : State) : State :=
  modBay b (fun y => { y with servo := y.servo.modLoop i Loop.swap }) s

/-- The profile generator's output: Kff × a plus the output held when it began (R387). -/
def Profile.output (p : Profile) (set : List Byte) : Int :=
  sat16 (p.held + setI16 set 64 * (p.a / 512) / 32768)

/-! ### The focus sample (R370) -/

/-- Sum of a list of integers. -/
def sumInt (l : List Int) : Int :=
  l.foldl (· + ·) 0

/-- Quadrants summed over the cells of the cycle, less the dark offsets of R452. -/
def quadSums (y : Bay) : List Int :=
  (List.range 16).map fun i =>
    sumInt (y.servo.cells.map fun c => c.getD i 0) - y.servo.cells.length * y.cald.offsets.getD (10 + i) 0

/-- S[m] of a spot. -/
def spotSum (q : List Int) (m : Nat) : Int :=
  q.getD (4 * m) 0 + q.getD (4 * m + 1) 0 + q.getD (4 * m + 2) 0 + q.getD (4 * m + 3) 0

/-- FE[m] of a spot, Q1.15. -/
def spotFocus (q : List Int) (m : Nat) : Int :=
  divQ (q.getD (4 * m) 0 + q.getD (4 * m + 2) 0 - (q.getD (4 * m + 1) 0 + q.getD (4 * m + 3) 0)) (spotSum q m)

/-- ((Q1 + Q2) − (Q0 + Q3)) / S of a spot, Q1.15 (R372). -/
def spotTilt (q : List Int) (m : Nat) : Int :=
  divQ (q.getD (4 * m + 1) 0 + q.getD (4 * m + 2) 0 - (q.getD (4 * m) 0 + q.getD (4 * m + 3) 0)) (spotSum q m)

/-- The focus sample of a cycle. -/
structure FocusSample where
  /-- Focus error, Q1.15. -/
  fe : Int
  /-- Sum level of the four spots together. -/
  sum : Int
  /-- The sum level is at or above the focus-OK threshold. -/
  above : Bool
  deriving DecidableEq, Repr

/-- The focus sample of R370; none when it is missing. -/
def focusSample (s : State) (b : BayId) (inp : EngineIn) : Option FocusSample :=
  let y := bayAt s b
  let q := quadSums y
  let thr : Int := (bnum s b 0x10 4 * inp.ref : Nat)
  let ok := (List.range 4).filter fun m => decide (thr ≤ 100 * spotSum q m)
  let sum := sumInt ((List.range 4).map (spotSum q))
  if y.servo.cells.length < 4 then none
  else if ok.length < 2 then (if y.servo.closed 0 then none else some { fe := 0, sum := sum, above := false })
  else some
    { fe := sumInt (ok.map (spotFocus q)) / (ok.length : Int), sum := sum, above := decide (4 * thr ≤ 100 * sum) }

/-- The sum level of a cycle is below the loss threshold; judged whenever four cells arrived (R395). -/
def sumLow (s : State) (b : BayId) (inp : EngineIn) : Option Bool :=
  let y := bayAt s b
  if y.servo.cells.length < 4 then none
  else some (decide (100 * sumInt ((List.range 4).map (spotSum (quadSums y))) < 4 * ((bnum s b 0x10 4 * inp.ref : Nat) : Int)))

/-- The depth estimate integrates the applied focus command through the actuator model gain (R388). -/
def Servo.estimate (v : Servo) : Servo :=
  match v.loops[0]? with
  | some l =>
    let w := v.estV + l.out * (setU16 l.set 76 : Nat)
    { v with estV := w, estP := v.estP + w }
  | none => v

/-- Depth estimate in 0.1 µm. -/
def Servo.estDepth (v : Servo) : Int :=
  v.estP * 10 / (8388608 * 147456)

/-! ### S-curves (R388, R389, R390) -/

/-- What a sample shows of the S-curve being passed: whether it is the first above the threshold, and whether FE crosses
zero in it. -/
def Servo.scan (f : FocusSample) (fullNm : Nat) (v : Servo) : Servo × Bool :=
  let nm := f.fe * (fullNm : Nat) / 32768
  let first := f.above && !v.sAbove
  let cross := f.above && v.sAbove && !v.crossed
    && decide ((v.lastFE < 0 ∧ 0 ≤ nm) ∨ (0 < v.lastFE ∧ nm ≤ 0))
  ({ v with
    sAbove := f.above
    crossed := if first then false else v.crossed || cross
    feMax := if first then f.fe else max v.feMax f.fe
    feMin := if first then f.fe else min v.feMin f.fe
    lastFE := if f.above then nm else 0 }, cross)

/-- Layer of the n-th S-curve of a sweep: the first is the entrance surface, later ones layers 23, 22 and so on. -/
def layerOfCurve (n : Nat) : Option Nat :=
  if n < 2 ∨ 25 < n then none else some (25 - n)

/-- A layer's depth is measured at its S-curve (R388, R398 calibration 1): kept within ±3 µm of the recorded depth and
with the sum level between 25 % and 400 % of its expected value, else rejected. The estimate is reset to the layer's
depth. -/
def measureDepth (b : BayId) (l : Nat) (f : FocusSample) (inp : EngineIn) (s : State) : State :=
  let v := (bayAt s b).servo
  let d := v.estDepth
  let old := v.depthOf l
  let okSum := decide ((inp.ref : Int) ≤ f.sum ∧ f.sum ≤ 16 * (inp.ref : Int))
  let near := decide ((d - (((bayAt s b).recDepths.getD l 0 : Nat) : Int)).natAbs ≤ 30)
  let s1 := if okSum = false then rejectServo b 1 1 l 0 s else if near then s else rejectServo b 1 2 l 0 s
  modBay b
    (fun y =>
      let depths := if okSum ∧ near then modNth y.servo.depths l fun _ => d.toNat else y.servo.depths
      { y with
        servo := { y.servo with
          depths := depths
          oldDepth := old
          estP := estUnits (depths.getD l 0 : Nat) } }) s1

/-- An S-curve has been passed in a sweep: its swing (R388, R389). -/
def endCurve (b : BayId) (inp : EngineIn) (s : State) : State :=
  let v := (bayAt s b).servo
  match if v.crossed then layerOfCurve v.sCount else none with
  | none => s
  | some l =>
    let swing := (v.feMax - v.feMin).toNat * 1000 / max 1 inp.swing
    if swing < 300 then
      captureFailed b 2 (modBay b
        (fun y => { y with servo := { y.servo with depths := modNth y.servo.depths l fun _ => y.servo.oldDepth } }) s)
    else modBay b
      (fun y => { y with servo := { y.servo with swings := modNth y.servo.swings l fun _ => min 65535 swing } }) s

/-- Close the focus loop with FE as its error (R388 step 5). -/
def closeFocus (b : BayId) (s : State) : State :=
  modBay b
    (fun y => { y with
      servo := { (y.servo.modLoop 0 fun l => { l with isOpen := false }) with
        prof := {}
        settling := 0
        lowSum := 0
        feRun := 0 } }) s

/-- The profile generator of the focus loop runs one sample and drives its output (R387). -/
def focusProfile (b : BayId) (s : State) : State :=
  modBay b
    (fun y =>
      let p := y.servo.prof.step 384
      let set := (y.servo.loops[0]?.map Loop.set).getD []
      { y with
        servo := { (y.servo.modLoop 0 fun l => { l with next := some (p.output set) }) with prof := p } }) s

/-- A sample of a capture's sweep (R388 steps 3 to 5, R389). -/
def sweepSample (b : BayId) (inp : EngineIn) (f : Option FocusSample) (s : State) : State :=
  let s1 := focusProfile b s
  match f with
  | none => if (bayAt s1 b).servo.prof.ended then captureFailed b 3 s1 else s1
  | some x =>
    let was := (bayAt s1 b).servo.sAbove
    let r := (bayAt s1 b).servo.scan x inp.nm
    let s2 := modBay b (fun y => { y with servo := r.1 }) s1
    if r.2 then
      let n := r.1.sCount + 1
      let s3 := modBay b (fun y => { y with servo := { y.servo with sCount := n } }) s2
      match layerOfCurve n with
      | none => s3
      | some l =>
        let s4 := measureDepth b l x inp s3
        if l = r.1.target then closeFocus b s4 else s4
    else
      let s3 := if was ∧ x.above = false then endCurve b inp s2 else s2
      if (bayAt s3 b).servo.state = 2 ∧ (bayAt s3 b).servo.prof.ended then captureFailed b 3 s3 else s3

/-- The timebase acquires (R347). -/
def acquire (b : BayId) (s : State) : State :=
  let s1 := leaveLock b 1 4 s
  modBay b (fun y => { y with
    tb := { y.tb with rate := if y.spin.speed = 0 then 0 else 60 * 10 ^ 12 / (960 * y.spin.speed) } }) s1

/-- The count of consecutive samples within the write focus limit (R388 step 6). -/
def settleCount (b : BayId) (nm : Int) (s : State) : State :=
  let lim := bnum s b 0x10 8
  modBay b
    (fun y => { y with
      servo := { y.servo with
        lastFE := nm
        settling := if nm.natAbs ≤ lim then y.servo.settling + 1 else 0 } }) s

/-- A sample of a capture that settles (R388 steps 6 and 7). -/
def settleSample (b : BayId) (inp : EngineIn) (f : Option FocusSample) (s : State) : State :=
  let s1 := runLoop b 0 inp (f.map FocusSample.fe) s
  match f with
  | none => s1
  | some x =>
    let s2 := settleCount b (x.fe * (inp.nm : Nat) / 32768) s1
    if (bayAt s2 b).servo.settling < 384 then s2
    else
      let s3 := modBay b
        (fun y => { y with
          servo := { y.servo with layer := y.servo.target, lastLayer := y.servo.target, confirming := true } }) s2
      acquire b (setMode b 3 1 s3)

/-! ### Layer jumps (R390, R391) -/

/-- The next layer a jump passes. -/
def Servo.nextLayer (v : Servo) : Nat :=
  if v.target < v.lastLayer then v.lastLayer - 1 else if v.lastLayer < v.target then v.lastLayer + 1 else v.lastLayer

/-- A jump falls back on the profile generator, from the estimate's position and velocity (R391). -/
def jumpFallback (b : BayId) (s : State) : State :=
  let v := (bayAt s b).servo
  let set := librarySet s (regionSet s v.region 0)
  let d : Int := (v.depthOf v.target : Nat)
  let r := if v.estDepth < d then d + 40 else d - 40
  modBay b
    (fun y => { y with
      servo := { (y.servo.modLoop 0 fun l => { l with isOpen := true, next := none }) with
        disturbed := true
        fallbacks := satAdd 4294967295 y.servo.fallbacks 1
        rampF := {}
        prof := Profile.launch set (v.estP / 73728) (v.estV / 192) (profUnits r)
          ((v.loops[0]?.map Loop.out).getD 0) } }) s

/-- A zero crossing during a jump's ramp (R390 step 3, R391). -/
def jumpCrossing (b : BayId) (f : FocusSample) (inp : EngineIn) (s : State) : State :=
  let v := (bayAt s b).servo
  let n := v.nextLayer
  let near := fun (l : Nat) => decide ((v.estDepth - ((v.depthOf l : Nat) : Int)).natAbs ≤ 20)
  if near n then
    if n = v.target then s
    else measureDepth b n f inp (modBay b (fun y => { y with servo := { y.servo with lastLayer := n } }) s)
  else if near v.lastLayer then s
  else jumpFallback b s

/-- The estimate has left the window of the next layer without its crossing (R391). -/
def Servo.passed (v : Servo) : Bool :=
  let d : Int := (v.depthOf v.nextLayer : Nat)
  if v.target < v.lastLayer then decide (v.estDepth < d - 20)
  else if v.lastLayer < v.target then decide (d + 20 < v.estDepth)
  else false

/-- The landing of a jump: the error source becomes FE and the layer in focus the target (R390 step 4). -/
def landJump (b : BayId) (s : State) : State :=
  evalRegion b (modBay b
    (fun y => { y with
      servo := { y.servo with
        rampF := {}
        layer := y.servo.target
        lastLayer := y.servo.target
        settling := 0
        estP := estUnits (y.servo.depthOf y.servo.target : Nat) } }) s)

/-- A sample of a jump's ramp (R390 steps 2 to 4). -/
def rampSample (b : BayId) (inp : EngineIn) (f : Option FocusSample) (s : State) : State :=
  let s0 := modBay b (fun y => { y with servo := { y.servo with rampF := y.servo.rampF.tick } }) s
  let v0 := (bayAt s0 b).servo
  let s1 := runLoop b 0 inp (f.map fun _ => sat16 (v0.rampF.value - v0.estQ)) s0
  match f with
  | none => s1
  | some x =>
    let r := (bayAt s1 b).servo.scan x inp.nm
    let s2 := modBay b (fun y => { y with servo := r.1 }) s1
    let s3 := if r.2 then jumpCrossing b x inp s2 else s2
    let v := (bayAt s3 b).servo
    if v.rampF.on = false then s3
    else if v.rampF.done ∧ x.above ∧ x.fe.natAbs < 16384 then landJump b s3
    else if v.passed then jumpFallback b s3
    else s3

/-- A sample of a jump's fall-back (R391): the count goes on from the last layer verified; a profile that ends without
the target ends the jump at park. -/
def fallbackSample (b : BayId) (inp : EngineIn) (f : Option FocusSample) (s : State) : State :=
  let s1 := focusProfile b s
  let s2 := match f with
    | none => s1
    | some x =>
      let r := (bayAt s1 b).servo.scan x inp.nm
      let s3 := modBay b (fun y => { y with servo := r.1 }) s1
      if r.2 = false then s3
      else
        let n := r.1.nextLayer
        let s4 := measureDepth b n x inp (modBay b (fun y => { y with servo := { y.servo with lastLayer := n } }) s3)
        if n = r.1.target then landJump b (closeFocus b s4) else s4
  let v := (bayAt s2 b).servo
  if v.prof.on ∧ v.prof.ended then
    modBay b (fun y => { y with servo := { y.servo.park with state := 1, target := v.target, disturbed := false } }) s2
  else s2

/-- A sample of a landed jump (R390 step 5): mode follow once settled with the collimator in position; a landing of the
fall-back is confirmed as a capture's is (R391). -/
def landedSample (b : BayId) (inp : EngineIn) (f : Option FocusSample) (s : State) : State :=
  let s1 := runLoop b 0 inp (f.map FocusSample.fe) s
  match f with
  | none => s1
  | some x =>
    let s2 := settleCount b (x.fe * (inp.nm : Nat) / 32768) s1
    let v := (bayAt s2 b).servo
    if v.settling < 384 ∨ collAt s2 b v.target = false then s2
    else
      let s3 := setMode b 3 1 s2
      if v.disturbed ∨ v.confirming then
        acquire b (modBay b (fun y => { y with servo := { y.servo with disturbed := false, confirming := true } }) s3)
      else s3

/-! ### Focus in follow, seek and write -/

/-- Loss of focus and the gate's focus limit (Table 11.8). -/
def judgeFocus (b : BayId) (low : Option Bool) (nm : Option Int) (s : State) : State :=
  let lim := bnum s b 0x10 8
  let y := bayAt s b
  let lows := match low with
    | some true => y.servo.lowSum + 1
    | some false => 0
    | none => y.servo.lowSum
  let fes := match nm with
    | some d => if lim < d.natAbs then y.servo.feRun + 1 else 0
    | none => y.servo.feRun
  let s1 := modBay b
    (fun y => { y with
      servo := { y.servo with lowSum := lows, feRun := fes, lastFE := nm.getD y.servo.lastFE } }) s
  let s2 := if 2 ≤ fes ∧ y.cway.wg then dropGate b 4 s1 else s1
  if bnum s b 0x10 5 ≤ lows then focusLost b 5 4 s2 else s2

/-- A focus sample of a bay in follow, seek-settle or write. -/
def followSample (b : BayId) (inp : EngineIn) (f : Option FocusSample) (s : State) : State :=
  let low := sumLow s b inp
  judgeFocus b low (f.map fun x => x.fe * (inp.nm : Nat) / 32768) (runLoop b 0 inp (f.map FocusSample.fe) s)

/-- A lens driven to park (R396): the generator runs until its profile ends. -/
def parkSample (b : BayId) (s : State) : State :=
  let s1 := focusProfile b s
  if (bayAt s1 b).servo.prof.ended then
    modBay b (fun y => { y with servo := { (y.servo.modLoop 0 fun l => { l with next := none, out := 0 }) with prof := {} } }) s1
  else s1

/-- The focus slot of a bay (R369, R370, R388 to R391, R395). -/
def focusSlot (b : BayId) (inp : EngineIn) (s : State) : State :=
  let s1 := modBay b
    (fun y => { y with
      servo := { ((y.servo.modLoop 0 Loop.swap).applyLoop 0).estimate with
        focusRuns := if y.servo.overrun then y.servo.focusRuns else 0
        overrun := false } }) s
  let v := (bayAt s1 b).servo
  let f := focusSample s1 b inp
  let s2 :=
    if v.state = 2 then (if v.closed 0 then settleSample b inp f s1 else sweepSample b inp f s1)
    else if v.state = 5 then
      if v.rampF.on then rampSample b inp f s1
      else if v.prof.on then fallbackSample b inp f s1
      else landedSample b inp f s1
    else if v.closed 0 then followSample b inp f s1
    else if v.prof.on then parkSample b s1
    else s1
  let short := 4 - v.cells.length
  let tilted := modBay b
    (fun y =>
      let q := quadSums y
      { y with
        servo := { y.servo with
          tiltQ := if y.servo.tiltQ = [] then q else (y.servo.tiltQ.zip q).map fun p => p.1 + p.2
          cells := [] } }) s2
  if (bayAt tilted b).cway.state = 2 ∧ (bayAt tilted b).cway.servoOn ∧ 0 < short then
    servoCellsMissing b short tilted
  else tilted

/-! ### The wedge slot (R369, R371 to R374) -/

/-- Queue the loop-update event that applies a wedge loop's output one wedge after its boundary. -/
def queueUpdate (b : BayId) (i : Nat) (s : State) : State :=
  enqueue b { stamp := (bayAt s b).tb.wedge * wedgeUnits + 2186, kind := 4, arg := i } s

/-- The tracking loop's error, Q1.15: E, or the distance from the moving set-point (R371, R392). -/
def trackError (v : Servo) : Int :=
  if v.rampT.on ∧ v.rampT.done = false then sat16 (v.unwrapped / 2 + 49152 - v.rampT.value)
  else if v.lastE = [] then 0
  else sat16 (sumInt v.lastE / (2000 * (v.lastE.length : Int)))

/-- The sled feed follows the tracking output (R373). -/
def feedUpdate (b : BayId) (s : State) : State :=
  modBay b
    (fun y =>
      let l := (y.servo.loops[1]?).getD ({ } : Loop)
      let u := l.next.getD l.out
      { y with
        servo := { y.servo with
          feed := sat16 (y.servo.feed + to16 (2 * (setI16 l.set 76 * (u - y.servo.feed))) 0) } }) s

/-- The tracking loop at its boundary. -/
def trackSlot (b : BayId) (inp : EngineIn) (missed : Bool) (s : State) : State :=
  let s1 := swapLoop b 1 s
  let v := (bayAt s1 b).servo
  if v.closed 1 = false then s1
  else if v.profT.on then
    let set := (v.loops[1]?.map Loop.set).getD []
    feedUpdate b (queueUpdate b 1 (modBay b
      (fun y => { y with servo := y.servo.modLoop 1 fun l => { l with next := some (v.profT.output set) } }) s1))
  else
    let s2 := runLoop b 1 inp (if missed then none else some (trackError v)) s1
    if missed ∨ inp.badLoop = 1 then s2 else feedUpdate b (queueUpdate b 1 s2)

/-- The tilt error of R372, Q1.15. -/
def tiltError (v : Servo) : Int :=
  let c := setI16 ((v.loops[2]?.map Loop.set).getD []) 76
  let mean := sumInt ((List.range 4).map (spotTilt v.tiltQ)) / 4
  let u := if v.tiltN = 0 then 0 else v.trackSum / (v.tiltN : Int)
  sat16 (mean - to16 (2 * (c * u)) 0)

/-- The tilt loop at its boundary. -/
def tiltSlot (b : BayId) (inp : EngineIn) (s : State) : State :=
  let s1 := swapLoop b 2 s
  let v := (bayAt s1 b).servo
  let s2 := if v.closed 2 = false then s1
    else
      let e := if v.tiltQ = [] then none else some (tiltError v)
      let s3 := runLoop b 2 inp e s1
      if e.isNone ∨ inp.badLoop = 2 then s3 else queueUpdate b 2 s3
  modBay b (fun y => { y with servo := { y.servo with tiltQ := [], tiltN := 0, trackSum := 0 } }) s2

/-- The sled loop at its boundary: its error is the feed (R373). -/
def sledSlot (b : BayId) (inp : EngineIn) (s : State) : State :=
  let s1 := swapLoop b 3 s
  let v := (bayAt s1 b).servo
  if v.closed 3 = false then s1
  else
    let s2 := runLoop b 3 inp (some v.feed) s1
    if inp.badLoop = 3 then s2 else queueUpdate b 3 s2

/-- The speed set-point [Q17.15 rpm] (R386, R405). -/
def Spin.setPoint (p : Spin) : Int :=
  if p.ramp.on ∧ p.ramp.done = false then p.ramp.value else (p.target : Int) * 32768

/-- The spindle speed loop's error, Q1.15: (target − measured) / target (R374). -/
def speedError (p : Spin) : Int :=
  divQ (p.setPoint - (p.speed : Int) * 32768) (p.target * 32768 : Nat)

/-- The speed set-point moves on at a boundary h ns after the last; a ramp that is due starts from the measured speed
(R386, R405, R408). -/
def Spin.rampOn (set : List Byte) (h : Nat) (p : Spin) : Spin :=
  if p.rampDue then
    { p with
      rampDue := false
      ramp := Ramp.start ((p.speed : Int) * 32768) ((p.target : Int) * 32768) (setU16 set 66) (setU16 set 68) h }
  else if p.ramp.on then { p with ramp := ({ p.ramp with h := h }).tick }
  else p

/-- Move a bay's speed set-point on. -/
def speedRamp (b : BayId) (h : Nat) (s : State) : State :=
  modBay b (fun y => { y with spin := y.spin.rampOn ((y.servo.loops[4]?.map Loop.set).getD []) h }) s

/-- The spindle speed loop at a wedge. -/
def speedSlot (b : BayId) (inp : EngineIn) (coasted : Bool) (s : State) : State :=
  let s1 := speedRamp b ((bayAt s b).tb.period * 16 / 1000) (swapLoop b 4 s)
  if (bayAt s1 b).servo.closed 4 = false then s1
  else
    let s2 := runLoop b 4 inp (if coasted then none else some (speedError (bayAt s1 b).spin)) s1
    if coasted ∨ inp.badLoop = 4 then s2 else queueUpdate b 4 s2

/-- The wedge slot: tracking, and at most one of tilt, sled and speed (R369). -/
def wedgeSlot (b : BayId) (inp : EngineIn) (s : State) : State :=
  match (bayAt s b).servo.wedgeDue with
  | none => s
  | some (w, missed) =>
    let s1 := modBay b (fun y => { y with servo := { y.servo with wedgeDue := none } }) s
    let s2 := trackSlot b inp missed s1
    if w % 4 = 1 then tiltSlot b inp s2
    else if w % 16 = 2 then sledSlot b inp s2
    else if w % 16 = 3 then speedSlot b inp ((bayAt s2 b).tb.state == 3) s2
    else s2

/-! ### Spindle current and collimator (R369, R397, R401) -/

/-- The current loop's output becomes the bridge duty, within 3020h.0F. -/
def dutyOf (limit : Nat) (u : Int) : Nat :=
  min limit (u * 1000 / 32768).toNat

/-- A stepper current [mA] from a sample of its 12-bit converter: ±250 mV is full scale, less the accepted offset of input
n (R443). -/
def senseMa (s : State) (b : BayId) (n : Nat) (raw : Int) : Int :=
  Int.tdiv (raw * 250000) (2048 * max 1 (bnum s b 0x60 5) : Nat) - (bayAt s b).cald.offsets.getD n 0

/-- The spindle current, Q1.15, from a sample of its converter, less the accepted offset (R443). -/
def senseSpindle (s : State) (b : BayId) (raw : Int) : Int :=
  sat16 (16 * raw - Int.tdiv ((bayAt s b).cald.offsets.getD 0 0 * 32768 * bnum s b 0x60 4) 250000)

/-- The spindle current loop at its boundaries; a disc supply over-voltage withholds negative set-points (R435). -/
def currentSlot (b : BayId) (inp : EngineIn) (s : State) : State :=
  let lim := bnum s b 0x20 0x0F
  let s1 := modBay b
    (fun y =>
      let v := (y.servo.modLoop 5 Loop.swap).applyLoop 5
      { y with
        servo := v
        spin := if v.closed 5 ∧ y.spin.gates = 1 then
            { y.spin with duty := dutyOf lim ((v.loops[5]?.map Loop.out).getD 0) }
          else y.spin }) s
  let v := (bayAt s1 b).servo
  if v.closed 5 = false then s1
  else
    let u := (v.loops[4]?.map Loop.out).getD 0
    let sp := if s.sup.drive.getLsbD 2 then max 0 u else u
    runLoop b 5 inp (some (sat16 (sp - senseSpindle s b inp.sample))) s1

/-- The collimator loop at its boundaries (R397): its output is the stepper's target. -/
def collSlot (b : BayId) (inp : EngineIn) (s : State) : State :=
  let s1 := swapLoop b 6 s
  let l := ((bayAt s1 b).servo.loops[6]?).getD ({ } : Loop)
  let s2 := match l.next with
    | some u =>
      let s3 := modBay b (fun y => { y with servo := y.servo.applyLoop 6 }) s1
      if (bayAt s3 b).coll.goal = u then s3 else collTo b u s3
    | none => s1
  let y := bayAt s2 b
  if y.servo.closed 6 = false ∨ y.coll.lost then s2
  else runLoop b 6 inp (some (sat16 (collTarget s2 b y.servo.regionLayer - y.coll.pos))) s2

/-- One bay at an engine cycle boundary. -/
def engineBay (b : BayId) (inp : EngineIn) (s : State) : State :=
  if (bayAt s b).started = false ∨ bayEnabled s b = false then s
  else
    let s1 := wedgeSlot b inp (focusSlot b inp s)
    let s2 := if phaseOf s 2 b = some (s.servoPhase % 8) then currentSlot b inp s1 else s1
    if phaseOf s 3 b = some (s.servoPhase % 384) then collSlot b inp s2 else s2

/-- Command of a coil: its loop's output, or in bay-Harbour and Harbour the ramp to 0 (R433, Tables 13.5 and 17.4). -/
def coilCommand (stop : Bool) (y : Bay) (i : Nat) : Int :=
  if y.cald.coilOff.getD i false then 0
  else if y.harbour ∨ stop then Int.tdiv (y.cald.rampFrom.getD i 0 * y.cald.rampLeft) 768
  else (y.servo.loops[i]?.map Loop.out).getD 0

/-- The command frame crosses the barrier: Caldera applies the commands at the end of the cycle, or keeps the previous
ones (R433). A latched spindle bridge stays off (R447). -/
def frameCommands (stop : Bool) (y : Bay) : Bay :=
  let off := y.cald.faults.getLsbD 0 || !y.cald.drvEn
  { y with
    cald := { y.cald with
      coils := if y.cald.drvEn then (List.range 3).map (coilCommand stop y) else [0, 0, 0]
      rampLeft := y.cald.rampLeft - 1
      gates := if off then 0 else y.spin.gates
      comm := y.spin.comm
      duty := if off then 0 else y.spin.duty } }

/-- The RMS values filter the squares of the coil currents with a time constant of 1 s, 384,000 engine cycles; ±32,768 is
±600 mA (R439, R440). -/
def Cald.filter (c : Cald) : Cald :=
  { c with
    rmsAcc := (List.range 3).map fun i =>
      let q := c.rmsAcc.getD i 0
      q - q / 384000 + ((c.coils.getD i 0).natAbs * 600 / 32768) ^ 2 }

/-- 3060h.0F: RMS values of the coils [mA] (R440). -/
def Cald.rms (c : Cald) : List Nat :=
  c.rmsAcc.map fun q => isqrt (q / 384000)

/-- ENGINE_CYCLE_BOUNDARY (R364, R369, R433): every bay's slots run in order. -/
def execEngineCycleBoundary (ins : List EngineIn) (frameOk : Bool) (s : State) : Host.Outcome State Fault Refusal :=
  if s.phase ≠ .running ∧ s.phase ≠ .harbour then .next s
  else
    let stop := s.phase == .harbour
    let s1 := if stop then s else allBays.foldl (fun t b => engineBay b (ins.getD b.val {}) t) s
    let s2 := if frameOk ∧ s.sup.barrier = 2 then modBays (fun _ y => frameCommands stop y) s1 else s1
    let s3 := modBays (fun _ y => { y with cald := y.cald.filter }) s2
    .next { s3 with servoPhase := s.servoPhase + 1 }

/-- Put back the section states a computation found (R368). -/
def Loop.restore (l : Loop) : Loop :=
  if l.saved.length = 16 then
    { l with x1 := l.saved.take 4, x2 := (l.saved.drop 4).take 4, y1 := (l.saved.drop 8).take 4,
             y2 := (l.saved.drop 12).take 4, next := none }
  else { l with next := none }

/-- LOOP_OVERRUN (R368, R378): the loop keeps its previous output and states; the third focus overrun in a row is loss
of focus. -/
def execLoopOverrun (b : BayId) (loop : Nat) (s : State) : Host.Outcome State Fault Refusal :=
  if 7 ≤ loop ∨ bayEnabled s b = false then .next s
  else
    let s1 := modBay b
      (fun y => { y with
        servo := { (y.servo.modLoop loop Loop.restore) with
          overruns := modNth y.servo.overruns loop fun n => satAdd 4294967295 n 1
          focusRuns := if loop = 0 then y.servo.focusRuns + 1 else y.servo.focusRuns
          overrun := y.servo.overrun || loop == 0 } }) s
    let s2 := raise 16 0 [b.val, loop] s1
    if loop = 0 ∧ 3 ≤ (bayAt s2 b).servo.focusRuns then .next (focusLost b 6 4 s2) else .next s2

/-- Clear the servo counts (R400). -/
def clearServo (b : BayId) (s : State) : State :=
  modBay b
    (fun y => { y with
      servo := { y.servo with
        overruns := List.replicate 7 0
        missing := List.replicate 7 0
        focusLost := 0
        trackLost := 0
        jumps := 0
        fallbacks := 0 } }) s

end Sys2Proof.Machine
end

