-- ==== Sys2Proof/Machine/Spindle.lean ====
section
/-! DEFINITION. The spindle (R401 to R417): start commands and their queue, the watch, synchronising, start from rest,
sensorless running, locked rotors, brakes and coasts. Times are in units of 100 ns. -/

namespace Sys2Proof.Machine

open Sys2Proof

/-- What a phase of the bridge does. -/
inductive PhaseDrive where
  /-- Both sides off. -/
  | float
  /-- High side switched at the duty, low side recirculating. -/
  | high
  /-- Low side on. -/
  | low
  /-- Low side switched at the duty. -/
  | brake
  deriving DecidableEq, Repr

/-- Phases driven high and low in a commutation state; 0 U, 1 V, 2 W (Table 12.1). -/
def drivenPair (st : Nat) : Nat × Nat :=
  [(0, 1), (0, 2), (1, 2), (1, 0), (2, 0), (2, 1)].getD st (0, 1)

/-- The bridge outputs of phases U, V and W (R401, R406). -/
def Spin.bridge (p : Spin) : List PhaseDrive :=
  (List.range 3).map fun ph =>
    if p.gates = 1 then
      (if (drivenPair p.comm).1 = ph then .high else if (drivenPair p.comm).2 = ph then .low else .float)
    else if p.gates = 2 then .brake else if p.gates = 3 then .low else .float

/-- The state of Table 12.1 whose floating phase and forward edge a crossing shows; 6 none. -/
def crossingState (c : Crossing) : Nat :=
  ((List.range 6).find? fun st =>
    let d := drivenPair st
    c.phase + d.1 + d.2 == 3 && c.rising == (st % 2 == 1)).getD 6

/-! ### The watch (R404) -/

/-- Two crossings in a row come in the phase order of forward, or of backward, rotation. -/
def inOrder (forward : Bool) (a c : Crossing) : Bool :=
  c.phase == (a.phase + if forward then 2 else 1) % 3

/-- Consecutive pairs of a list. -/
def pairsOf {α : Type} (l : List α) : List (α × α) :=
  l.zip (l.drop 1)

/-- Forward order is established: at least two crossings, all in forward order. -/
def EmfWatch.forward (w : EmfWatch) : Bool :=
  decide (2 ≤ w.crossings.length) && (pairsOf w.crossings).all fun p => inOrder true p.1 p.2

/-- Crossings came in backward order. -/
def EmfWatch.backward (w : EmfWatch) : Bool :=
  (pairsOf w.crossings).any fun p => inOrder false p.1 p.2

/-- Mean interval between the crossings of a watch [100 ns]. -/
def EmfWatch.interval (w : EmfWatch) : Nat :=
  match w.crossings.head?, w.crossings.getLast? with
  | some a, some c => (c.t - a.t) / max 1 (w.crossings.length - 1)
  | _, _ => 0

/-- Speed a watch shows [rpm]: from the intervals between crossings, with fewer than two from the amplitude (R404). -/
def watchSpeed (s : State) (b : BayId) (w : EmfWatch) : Nat :=
  if 2 ≤ w.crossings.length then 600000000 / (max 1 (bnum s b 0x20 5) * 6 * max 1 (EmfWatch.interval w))
  else w.amp * 1000 / max 1 (bnum s b 0x20 6)

/-- A current of the spindle as the current loop takes it, Q1.15: the shunt's ±250 mV is full scale (R443). -/
def spindleCurrent (s : State) (b : BayId) (ma : Nat) : Int :=
  min 32767 (ma * 32768 * bnum s b 0x60 4 / 250000 : Nat)

/-- A bay holds a disc of a writing set that is neither closed nor failed (R475, R480). -/
def holdsDisc (s : State) (b : BayId) : Bool :=
  match discOn s b with
  | some (_, d) => d.serial != []
  | none => false

/-- A spindle command of the dictionary's is refused (R417). -/
def spindleBusy (s : State) (b : BayId) : Bool :=
  (bayAt s b).work != 0 || holdsDisc s b

/-- A start is refused (R416). -/
def startRefused (s : State) (b : BayId) : Bool :=
  let y := bayAt s b
  y.loaderState != 3 || y.spindleFault

/-- Place of the next waiting start in line. -/
def nextOrder (s : State) : Nat :=
  1 + maxOf (allBays.map fun b => if (bayAt s b).spin.waitStart.isSome then (bayAt s b).spin.order else 0)

/-- Make a start wait its turn (R409, R429). -/
def queueStart (b : BayId) (rpm : Nat) (s : State) : State :=
  let n := nextOrder s
  admitStarts 16 (modBay b (fun y => { y with spin := { y.spin with waitStart := some rpm, order := n } }) s)

/-- Start a spindle at, or take it to, a speed (R404, R408, R409, R429): a running one only moves its set-point; one in
brake, or a fifth start, waits. -/
def startSpindle (b : BayId) (rpm : Nat) (s : State) : State :=
  let p := (bayAt s b).spin
  if p.sensorless ∧ (p.state = 3 ∨ p.state = 4 ∨ p.state = 5) then
    if p.target = rpm then s
    else if rpm ≤ p.speed then modBay b (fun y => { y with spin := y.spin.retarget rpm }) s
    else queueStart b rpm s
  else if p.starting then modBay b (fun y => { y with spin := { y.spin with target := rpm } }) s
  else queueStart b rpm s

/-- Close the current loop at a set-point (R407), or with the speed loop (R405). -/
def closeSpindle (speed : Bool) (current : Int) (y : Bay) : Bay :=
  { y with
    servo := (y.servo.modLoop 5 fun l => { l with isOpen := false, next := none }).modLoop 4
      fun l => { l with isOpen := !speed, out := if speed then l.out else current, next := none } }

/-- A start from rest begins with position detection (R407 step 1). -/
def startFromRest (b : BayId) (rpm : Nat) (s : State) : State :=
  modBay b
    (fun y => { y.undriven with
      spin := { (y.spin.watch rpm) with state := 2, counts := modNth y.spin.counts 0 (satAdd 4294967295 1) } }) s

/-- SPINDLE_WATCH_END (R404, Table 12.2): 20 ms of back-EMF. -/
def execSpindleWatchEnd (b : BayId) (seen : EmfWatch) (s : State) : Host.Outcome State Fault Refusal :=
  let y := bayAt s b
  if y.spin.state ≠ 1 then .next s
  else
    let target := y.spin.target
    let speed := watchSpeed s b seen
    let s1 := setSpeed b speed s
    if EmfWatch.forward seen ∧ 300 < speed then
      let t := EmfWatch.interval seen
      .next (modBay b
        (fun y => { y with
          spin := { y.spin with state := 3, tPrev := t, counts := modNth y.spin.counts 1 (satAdd 4294967295 1) } }) s1)
    else if EmfWatch.backward seen ∨ 30 ≤ speed then
      .next (setBrakeDuty b (modBay b
        (fun y =>
          let z := y.brake
          { z with spin := { z.spin with target := target, afterBrake := true } }) s1))
    else .next (startFromRest b target s1)

/-- Number of forced commutations: pole pairs × 15 × T_s (R407). -/
def forcedCount (s : State) (b : BayId) : Nat :=
  bnum s b 0x20 5 * 15 * bnum s b 0x20 0x0B / 1000

/-- Time of forced commutation n after the first [100 ns]: T_s × √(n / N). -/
def forcedTime (s : State) (b : BayId) (n : Nat) : Nat :=
  isqrt ((bnum s b 0x20 0x0B * 10000) ^ 2 * n / max 1 (forcedCount s b))

/-- The two highest of six peaks. -/
def topTwo (l : List Nat) : Nat × Nat :=
  l.foldl (fun p v => if p.1 < v then (v, p.1) else if p.2 < v then (p.1, v) else p) (0, 0)

/-- The state whose pulse ended at the highest current; the pulses drive the pairs of states 0, 3, 1, 4, 2 and 5. -/
def peakState (l : List Nat) : Nat :=
  ([0, 3, 1, 4, 2, 5] : List Nat).getD ((l.findIdx? fun v => v == (topTwo l).1).getD 0) 0

/-- Position found (R407 step 1): the second set decides when the first two peaks lie less than 3 % apart. -/
def rotorState (peaks again : List Nat) : Nat :=
  let t := topTwo peaks
  if t.1 * 100 < t.2 * 103 then peakState again else peakState peaks

/-- FORCED_COMMUTATION (R407): the first ends position detection and drives state (k + 2) mod 6 at the start current; the
later ones step on. From N/2 on, an interval without its crossing in the second half breaks the run. -/
def execForcedCommutation (b : BayId) (peaks again : List Nat) (t : Nat) (s : State) : Host.Outcome State Fault Refusal :=
  let y := bayAt s b
  if y.spin.state = 2 then
    let cur := spindleCurrent s b (bnum s b 0x20 7)
    .next (modBay b
      (fun y => { (closeSpindle false cur y) with
        spin := { y.spin with
          state := 3, gates := 1, comm := (rotorState peaks again + 2) % 6, forced := 0, goodRun := 0, lastComm := t
          crossed := false } }) s)
  else if y.spin.state = 3 ∧ y.spin.gates = 1 ∧ y.spin.sensorless = false ∧ y.spin.forced < forcedCount s b then
    let broke := decide (forcedCount s b ≤ 2 * y.spin.forced) && !y.spin.crossed
    .next (modBay b
      (fun y => { y with
        spin := { y.spin with
          comm := (y.spin.comm + 1) % 6
          forced := y.spin.forced + 1
          lastComm := t
          crossed := false
          goodRun := if broke then 0 else y.spin.goodRun } }) s)
  else .next s

/-- Time from a crossing to its commutation: (T_prev / 2) × (30 − advance) / 30 (R402). -/
def commDelay (s : State) (b : BayId) (tPrev : Nat) : Nat :=
  tPrev * (30 - bnum s b 0x20 0x0A) / 60

/-- Go over to sensorless running from a crossing (R405, R407 step 3): the speed loop closes and its set-point ramps. -/
def goSensorless (y : Bay) : Bay :=
  { (closeSpindle true 0 y) with
    spin := { y.spin with
      state := 3, gates := 1, sensorless := true, rampUp := decide (y.spin.speed < y.spin.target), rampDue := true
      missedRun := 0 } }

/-- A crossing during the forced schedule (R407 step 3): after six good intervals in a row the next one hands over. -/
def forcedCrossing (b : BayId) (t : Nat) (s : State) : State :=
  let p := (bayAt s b).spin
  let gap := forcedTime s b (p.forced + 1) - forcedTime s b p.forced
  let n := forcedCount s b
  if 2 * p.forced < n ∨ p.crossed ∨ 4 * (t - p.lastComm) < gap then s
  else if 6 ≤ p.goodRun then
    let due := t + commDelay s b gap
    modBay b
      (fun y => { (goSensorless y) with
        spin := { (goSensorless y).spin with tPrev := gap, crossed := true, duePred := due } }) s
  else
    let good := decide (gap ≤ 2 * (t - p.lastComm))
    modBay b
      (fun y => { y with
        spin := { y.spin with crossed := true, goodRun := if good then y.spin.goodRun + 1 else 0 } }) s

/-- ZERO_CROSSING (R402, R405, R407, R415): blanking, the wrong edge and a second crossing are ignored. -/
def execZeroCrossing (b : BayId) (c : Crossing) (s : State) : Host.Outcome State Fault Refusal :=
  let p := (bayAt s b).spin
  let st := crossingState c
  let t := c.t
  let due := t + commDelay s b p.tPrev
  if 6 ≤ st then .next s
  else if p.sensorless ∨ p.dipCoast then
    if p.crossed ∨ st ≠ p.comm ∨ 4 * (t - p.lastComm) < p.tPrev then .next s
    else .next (modBay b
      (fun y => { y with spin := { y.spin with crossed := true, duePred := due, missedRun := 0 } }) s)
  else if p.state = 3 ∧ p.gates = 0 then
    if p.crossed then .next s
    else .next (modBay b
      (fun y => { y with
        spin := { y.spin with comm := st, crossed := true, duePred := due, lastComm := due - p.tPrev } }) s)
  else if p.state = 3 ∧ st = p.comm then .next (forcedCrossing b t s)
  else .next s

/-- Measured speed from a commutation interval [rpm] (R403). -/
def rpmFromInterval (s : State) (b : BayId) (t : Nat) : Nat :=
  600000000 / (max 1 (bnum s b 0x20 5) * 6 * max 1 t)

/-- The speed loop at a commutation while the timebase is not locked or coasting (R369, R374): the last output is applied
and a new one computed. -/
def speedAtCommutation (b : BayId) (s : State) : State :=
  let y := bayAt s b
  if y.servo.closed 4 = false then s
  else
    let s1 := speedRamp b (y.spin.tPrev * 100) (modBay b (fun y => { y with
      servo := (y.servo.modLoop 4 Loop.swap).applyLoop 4 }) s)
    computeLoop b 4 (speedError (bayAt s1 b).spin) s1

/-- What follows a commutation: the measured speed, the overspeed limit (R411) and the speed loop's sample. -/
def afterCommutation (b : BayId) (s : State) : State :=
  let t := (bayAt s b).tb.state
  if t = 2 ∨ t = 3 then
    if 10080 < (bayAt s b).spin.speed then raiseBay b 4 3 [] (spinBrake b s) else s
  else
    let s1 := setSpeed b (rpmFromInterval s b (bayAt s b).spin.tPrev) s
    if 10080 < (bayAt s1 b).spin.speed then raiseBay b 4 3 [] (spinBrake b s1) else speedAtCommutation b s1

/-- COMMUTATION (R401, R402): the commutation timed from the accepted crossing. A synchronising spindle starts to drive
with the duty E / VFLD and closes its loops (R405). -/
def execCommutation (b : BayId) (s : State) : Host.Outcome State Fault Refusal :=
  let p := (bayAt s b).spin
  if p.duePred = 0 then .next s
  else
    let step := fun (q : Spin) => { q with
      comm := (q.comm + 1) % 6, tPrev := q.duePred - q.lastComm, lastComm := q.duePred, crossed := false, duePred := 0 }
    if p.state = 3 ∧ p.gates = 0 then
      let duty := min (bnum s b 0x20 0x0F) (backEmf s b p.speed * 1000 / max 1 s.sup.vfld)
      .next (modBay b
        (fun y =>
          let z := goSensorless y
          { z with spin := { (step z.spin) with duty := duty } }) s)
    else
      let s1 := modBay b (fun y => { y with spin := step y.spin }) s
      if p.sensorless then .next (afterCommutation b s1) else .next s1

/-- A start fails or the rotor is locked (R410): every gate off, the fault event, and a retry after 1 s, until the
retries are used up. -/
def startFailed (b : BayId) (cause : Nat) (s : State) : State :=
  let p := (bayAt s b).spin
  let fresh := match p.runAt with
    | some t => decide (t + usCycles 60000000 ≤ s.clock)
    | none => false
  let n := if fresh then 0 else p.retries
  let s1 := modBay b
    (fun y => { y.undriven with
      spin := { y.spin.coast with
        retries := n
        retryDue := true
        counts := modNth y.spin.counts (if cause = 1 then 3 else 4) (satAdd 4294967295 1) } }) s
  let s2 := raiseBay b 4 cause [] s1
  if n < bnum s b 0x20 0x0C then admitStarts 16 s2
  else
    enterBayHarbour b 0x12 4 false (modBay b
      (fun y => { y with spin := { y.spin with state := 8, retryDue := false, target := 0 } }) s2)

/-- MISSED_WINDOW (R403, R410): 1.5 × T_prev have passed with no accepted crossing: commutation on the prediction. The
fifth in a row is a locked rotor. -/
def execMissedWindow (b : BayId) (s : State) : Host.Outcome State Fault Refusal :=
  let p := (bayAt s b).spin
  if (p.sensorless = false ∧ p.dipCoast = false) ∨ p.crossed then .next s
  else
    let s1 := modBay b
      (fun y => { y with
        spin := { y.spin with
          comm := (y.spin.comm + 1) % 6
          lastComm := y.spin.lastComm + y.spin.tPrev
          missedRun := y.spin.missedRun + 1 } }) s
    if p.sensorless = false then .next s1
    else if 5 ≤ p.missedRun + 1 then .next (startFailed b 1 s1)
    else .next (afterCommutation b s1)

/-- START_TIMEOUT (R407 step 4): 500 ms after the last forced commutation without a handover. -/
def execStartTimeout (b : BayId) (s : State) : Host.Outcome State Fault Refusal :=
  let p := (bayAt s b).spin
  if p.state = 3 ∧ p.sensorless = false ∧ p.gates = 1 then .next (startFailed b 2 s) else .next s

/-- SPINDLE_RETRY (R410): 1 s after a failed start; the retry counts as a start (R409). -/
def execSpindleRetry (b : BayId) (s : State) : Host.Outcome State Fault Refusal :=
  let p := (bayAt s b).spin
  if p.retryDue = false then .next s
  else .next (queueStart b p.target (modBay b
    (fun y => { y with spin := { y.spin with retryDue := false, retries := y.spin.retries + 1 } }) s))

/-- The measured speed stands within ±0.5 % of the target. -/
def Spin.onTarget (p : Spin) : Bool :=
  decide (((p.speed : Int) - p.target).natAbs * 200 ≤ p.target)

/-- SPINDLE_RUNNING (R408, R409): the speed has stayed within ±0.5 % of the target for 100 ms. -/
def execSpindleRunning (b : BayId) (s : State) : Host.Outcome State Fault Refusal :=
  let p := (bayAt s b).spin
  if p.sensorless ∧ (p.state = 3 ∨ p.state = 5) ∧ p.onTarget ∧ 0 < p.target then
    .next (admitStarts 16 (modBay b
      (fun y => { y with spin := { y.spin with state := 4, rampUp := false, ramp := {}, runAt := some s.clock } }) s))
  else .next s

/-- SPEED_LIMITED (R412): the duty at its maximum and the speed more than 0.5 % below the target for 100 ms. -/
def execSpeedLimited (b : BayId) (s : State) : Host.Outcome State Fault Refusal :=
  let p := (bayAt s b).spin
  if p.sensorless ∧ (p.state = 3 ∨ p.state = 4) ∧ p.duty = bnum s b 0x20 0x0F ∧ p.speed * 200 < p.target * 199 then
    .next (admitStarts 16 (modBay b
      (fun y => { y with
        spin := { y.spin with state := 5, rampUp := false, counts := modNth y.spin.counts 5 (satAdd 4294967295 1) } }) s))
  else .next s

/-- BRAKE_CHECK (R406): all gates off for 4 ms, the speed measured as the watch does; below 30 rpm the low sides are held
on. A coasting or faulted spindle's speed is measured too; below 30 rpm a coast has ended (log 45). -/
def execBrakeCheck (b : BayId) (seen : EmfWatch) (s : State) : Host.Outcome State Fault Refusal :=
  let speed := watchSpeed s b seen
  let p := (bayAt s b).spin
  if p.state = 6 ∧ p.brakeHold = false then
    let s1 := setSpeed b speed s
    if speed < 30 then
      .next (modBay b (fun y => { y with spin := { y.spin with brakeHold := true, gates := 3, duty := 1000 } }) s1)
    else .next (setBrakeDuty b s1)
  else if p.state = 7 ∧ p.retryDue = false ∧ p.dipCoast = false then
    if speed < 30 then .next (admitStarts 16 (spinStopped b s)) else .next (setSpeed b speed s)
  else if p.state = 8 then .next (setSpeed b speed s)
  else .next s

/-- BRAKE_END (R406, R404, R429): 200 ms after the hold began. A start that waits goes on. -/
def execBrakeEnd (b : BayId) (s : State) : Host.Outcome State Fault Refusal :=
  let p := (bayAt s b).spin
  if p.state = 6 ∧ p.brakeHold then
    let s1 := spinStopped b s
    if p.waitStart.isSome then .next (admitStarts 16 s1)
    else if p.afterBrake then .next (startFromRest b p.target s1)
    else .next s1
  else .next s

/-- Coast with observation for a supply dip (R415): the prediction runs on while nothing is driven. -/
def dipCoast (y : Bay) : Bay :=
  if y.spin.sensorless then
    { y.undriven with
      spin := { y.spin.coast with
        dipCoast := true, target := y.spin.target, crossed := y.spin.crossed, duePred := y.spin.duePred, gates := 0 } }
  else if y.spin.state = 0 ∨ y.spin.state = 8 then y
  else { y.undriven with spin := { y.spin.coast with target := y.spin.target, waitStart := none } }

/-- The drive is given back after a ridden dip (R415): within 1 s it synchronises at the next accepted crossing. -/
def resumeSpindle (b : BayId) (s : State) : State :=
  let p := (bayAt s b).spin
  if p.state = 7 ∧ p.dipCoast then
    modBay b
      (fun y => { y with
        spin := { y.spin with
          state := 3, dipCoast := false, crossed := false, duePred := 0
          counts := modNth y.spin.counts 1 (satAdd 4294967295 1) } }) s
  else if p.state = 7 ∧ 0 < p.target ∧ p.retryDue = false then queueStart b p.target s
  else s

/-- COAST_OBSERVATION_TIMEOUT (R415): 1 s after the coast began, a start goes through the watch again. -/
def execCoastObservationTimeout (b : BayId) (s : State) : Host.Outcome State Fault Refusal :=
  if (bayAt s b).spin.dipCoast then
    .next (modBay b (fun y => { y with spin := { y.spin with dipCoast := false, duePred := 0, crossed := false } }) s)
  else .next s

/-- Clear the spindle counts (3020h.11). -/
def clearSpindle (b : BayId) (s : State) : State :=
  modBay b (fun y => { y with spin := { y.spin with counts := List.replicate 6 0 } }) s

end Sys2Proof.Machine
end

