-- ==== Sys2Proof/Machine/Steppers.lean ====
section
/-! DEFINITION. The sled, loader and collimator (R418 to R430) and the library's loader commands (R480). -/

namespace Sys2Proof.Machine

open Sys2Proof

/-- Homing runs at 300 full steps/s without a jerk limit (R426). -/
def homeLim (a : Nat) : StepLim :=
  { v := 300, a := a, j := 0 }

/-- Home the sled (R426): toward the inner stop in neap, at half the neap current, for the travel plus 10 %. -/
def homeSled (b : BayId) (s : State) : State :=
  if (bayAt s b).cald.faults.getLsbD 1 then s
  else
    let lim := homeLim (bnum s b 0x30 7)
    let cur := bnum s b 0x30 9 / 2
    let far : Int := (bnum s b 0x30 0x0E * 11 / 10 : Nat)
    modBay b
      (fun y =>
        let t : Stepper := { y.sled with spring := false, stopped := false }
        { y with
          sled := { (t.moveTo lim (y.sled.pos - far)) with homing := true, lost := true, current := cur }
          sledState := 3
          sledCounts := modNth y.sledCounts 3 (satAdd 4294967295 1) }) s

/-- Home the collimator toward its home stop for its travel plus 10 % (R426); the spec gives no travel (log 46). -/
def homeColl (b : BayId) (s : State) : State :=
  if (bayAt s b).cald.faults.getLsbD 3 then s
  else
    let lim := homeLim (bnum s b 0x40 0x0F)
    let cur := bnum s b 0x40 0x12
    let far : Int := (Config.collimatorTravel * 11 / 10 : Nat)
    modBay b
      (fun y => { y with
        coll := { (y.coll.moveTo lim (y.coll.pos - far)) with homing := true, lost := true, current := cur }
        collState := 3 }) s

/-- A bay's loader bridge is faulted. -/
def Bay.loaderFault (y : Bay) : Bool :=
  y.cald.faults.getLsbD 2

/-- A loader command is refused (R428): 1 the spindle turns, 2 a laser is on; 0 it may go. -/
def loaderRefused (y : Bay) : Nat :=
  if y.spin.state ≠ 0 ∨ 30 ≤ y.spin.speed then 1 else if y.laserOn then 2 else 0

/-- Open the loader (R428): to position 0; a loader whose position is lost homes to its open stop (R426). -/
def openLoader (b : BayId) (s : State) : State :=
  let y := bayAt s b
  if y.loaderFault then s
  else if y.loader.lost then
    let lim := homeLim (bnum s b 0x40 8)
    let cur := bnum s b 0x40 5
    let far : Int := ((bnum s b 0x40 4 + 256) * 11 / 10 : Nat)
    modBay b
      (fun y => { y with
        loader := { (y.loader.moveTo lim (y.loader.pos - far)) with homing := true, clampHold := false, current := cur }
        loaderState := 2 }) s
  else
    let lim := loaderLim s b
    let cur := bnum s b 0x40 5
    modBay b
      (fun y =>
        let t := y.loader.moveTo lim 0
        { y with
          loader := { t with homing := false, clampHold := false, current := cur }
          loaderState := if t.moving then 2 else 1 }) s

/-- Target of a clamp: one full step beyond the clamp position (R428). -/
def clampGoal (s : State) (b : BayId) : Int :=
  bint s 4 b 0x40 4 + 256

/-- Clamp the loader (R428): it ends held at the clamp current. -/
def clampLoader (b : BayId) (s : State) : State :=
  let y := bayAt s b
  if y.loaderFault then s
  else
    let lim := loaderLim s b
    let cur := bnum s b 0x40 5
    let hold := bnum s b 0x40 6
    let goal := clampGoal s b
    modBay b
      (fun y =>
        let t := y.loader.moveTo lim goal
        { y with
          loader := { t with homing := false, clampHold := !t.moving, current := if t.moving then cur else hold }
          loaderState := if t.moving then 2 else 3 }) s

/-! ### Library commands (R480) -/

/-- A library command has ended or is refused: its result, then its sequence. -/
def libraryAck (b : BayId) (seq result : Nat) (s : State) : State :=
  modBay b (fun y => { y with ackResult := result, ackSeq := seq, running := none }) s

/-- Carry out a library command (R480): open and clamp run until the loader stands. -/
def libraryRun (b : BayId) (cmd seq : Nat) (s : State) : State :=
  let y := bayAt s b
  let go := fun (t : State) =>
    if (bayAt t b).loader.moving then modBay b (fun y => { y with running := some seq }) t else libraryAck b seq 0 t
  if cmd = 1 then
    if loaderRefused y ≠ 0 then libraryAck b seq (loaderRefused y) s
    else if holdsDisc s b then libraryAck b seq 3 s
    else if y.loaderFault then libraryAck b seq 4 s
    else go (openLoader b s)
  else if cmd = 2 then
    if loaderRefused y ≠ 0 then libraryAck b seq (loaderRefused y) s
    else if y.loaderFault then libraryAck b seq 4 s
    else go (clampLoader b s)
  else if cmd = 3 then libraryAck b seq 0 (if y.loader.moving then haltLoader b s else s)
  else libraryAck b seq 5 s

/-- The command that waited is carried out once the last has ended (R480). -/
def libraryNext (b : BayId) (s : State) : State :=
  match (bayAt s b).waiting, (bayAt s b).running with
  | some (cmd, seq), none => libraryRun b cmd seq (modBay b (fun y => { y with waiting := none }) s)
  | _, _ => s

/-- Library commands and answers are taken (R482): the EtherCAT state machine is in Op, its watchdog has not expired, and
the device is up and not in PS4 (R492). -/
def libraryOpen (s : State) : Bool :=
  s.doors.ecat == .op && !s.doors.watchdog && (s.phase == .running || s.phase == .harbour) && s.pwr.ps != 4

/-- The receive PDO brings a library command (R480, R482): acted on when its sequence differs from the acknowledge. -/
def libraryCommand (b : BayId) (cmd seq : Nat) (s : State) : State :=
  if libraryOpen s = false ∨ bayEnabled s b = false then s
  else
    let s1 := modBay b (fun y => { y with libCmd := cmd, libSeq := seq }) s
    let y := bayAt s1 b
    if seq = y.ackSeq ∨ y.running = some seq then s1
    else if y.running.isSome then modBay b (fun y => { y with waiting := some (cmd, seq) }) s1
    else libraryNext b (libraryRun b cmd seq s1)

/-- LIBRARY_OPEN_LOADER (R480). -/
def execLibraryOpenLoader (b : BayId) (seq : Nat) (s : State) : Host.Outcome State Fault Refusal :=
  .next (libraryCommand b 1 (seq % 256) s)

/-- LIBRARY_CLAMP (R480). -/
def execLibraryClamp (b : BayId) (seq : Nat) (s : State) : Host.Outcome State Fault Refusal :=
  .next (libraryCommand b 2 (seq % 256) s)

/-- LIBRARY_STOP_LOADER (R480). -/
def execLibraryStopLoader (b : BayId) (seq : Nat) (s : State) : Host.Outcome State Fault Refusal :=
  .next (libraryCommand b 3 (seq % 256) s)

/-! ### Steps (R420 to R424, R426) -/

/-- The sled's drive mode for its speed (R423, R424): a change waits for a position that is a multiple of 64. -/
def Stepper.mode (neapOnly : Bool) (t : Stepper) : Stepper :=
  if t.pos % 64 ≠ 0 then t
  else if t.spring then (if t.v < 360000000 ∨ neapOnly then { t with spring := false } else t)
  else if 400000000 < t.v ∧ neapOnly = false then { t with spring := true }
  else t

/-- A sled move has ended (R420, R426): hold current; a homing sets the position to 0; a seek that waited for the sled
goes on (R392). -/
def sledEnd (b : BayId) (s : State) : State :=
  let hold := bnum s b 0x30 0x0B
  let was := (bayAt s b).sled.homing
  let s1 := modBay b
    (fun y => { y with
      sled := { y.sled with
        current := hold
        spring := false
        homing := false
        pos := if was then 0 else y.sled.pos
        lost := if was then false else y.sled.lost
        homed := y.sled.homed || was }
      sledState := if y.sled.vmode then 2 else 0 }) s
  let v := (bayAt s1 b).servo
  if v.state = 4 ∧ v.rampT.on = false ∧ v.profT.on = false ∧ v.lostRow = none ∧ v.closed 0 ∧ was = false
      ∧ (bayAt s1 b).sled.vmode = false then seekRamp b v.expectRow s1
  else s1

/-- One step of the sled. -/
def sledStep (b : BayId) (s : State) : State :=
  let y := bayAt s b
  let lim := if y.sled.homing then homeLim (bnum s b 0x30 7) else sledLim s b
  let only := y.sled.homing || y.servo.mode == 3 || y.cway.wg
  let t := (y.sled.tick lim).mode only
  let entered := t.spring && !y.sled.spring
  let cur := if t.homing then t.current else if t.spring then bnum s b 0x30 0x0A else bnum s b 0x30 9
  let s1 := modBay b
    (fun y => { y with
      sled := { t with
        current := cur
        wasCurrent := if t.spring = y.sled.spring then t.wasCurrent else y.sled.current
        modeAt := if t.spring = y.sled.spring then t.modeAt else some s.clock }
      sledCounts := if entered then modNth y.sledCounts 1 (satAdd 4294967295 1) else y.sledCounts }) s
  if t.moving then s1 else sledEnd b s1

/-- A loader move has ended (R426, R428, R480). -/
def loaderEnd (b : BayId) (s : State) : State :=
  let y := bayAt s b
  let goal := clampGoal s b
  let hold := bnum s b 0x40 6
  let clamped := !y.loader.homing && y.loader.pos == goal
  let s1 := modBay b
    (fun y => { y with
      loader := { y.loader with
        pos := if y.loader.homing then 0 else y.loader.pos
        lost := if y.loader.homing then false else y.loader.lost
        homed := y.loader.homed || y.loader.homing
        homing := false
        clampHold := clamped
        current := if clamped then hold else y.loader.current }
      loaderState := if clamped then 3 else if y.loader.homing ∨ y.loader.pos = 0 then 1 else 0 }) s
  match y.running with
  | some seq => libraryNext b (libraryAck b seq 0 s1)
  | none => s1

/-- One step of the loader. -/
def loaderStep (b : BayId) (s : State) : State :=
  let y := bayAt s b
  let lim := if y.loader.homing then homeLim (bnum s b 0x40 8) else loaderLim s b
  let s1 := modBay b (fun y => { y with loader := y.loader.tick lim }) s
  if (bayAt s1 b).loader.moving then s1 else loaderEnd b s1

/-- A collimator move has ended. -/
def collEnd (b : BayId) (s : State) : State :=
  let hold := bnum s b 0x40 0x13
  let home := bint s 4 b 0x40 0x16
  modBay b
    (fun y => { y with
      coll := { y.coll with
        pos := if y.coll.homing then home else y.coll.pos
        goal := if y.coll.homing then home else y.coll.goal
        lost := if y.coll.homing then false else y.coll.lost
        homed := y.coll.homed || y.coll.homing
        homing := false
        current := hold }
      collState := 1 }) s

/-- One step of the collimator. -/
def collStep (b : BayId) (s : State) : State :=
  let y := bayAt s b
  let lim := if y.coll.homing then homeLim (bnum s b 0x40 0x0F) else collLim s b
  let s1 := modBay b (fun y => { y with coll := y.coll.tick lim }) s
  if (bayAt s1 b).coll.moving then s1 else collEnd b s1

/-! ### The chopper's adaptive offset (R422) -/

/-- cos(2π n / 1,024) × 32,768 for n from 0 to 256, from the Taylor polynomial of degree 8 (log 47). -/
def quarterCos (n : Nat) : Int :=
  let x : Int := (n : Int) * 32768 * 31416 / (512 * 10000)
  let x2 := x * x / 32768
  let x4 := x2 * x2 / 32768
  let x6 := x4 * x2 / 32768
  let x8 := x6 * x2 / 32768
  32768 - x2 / 2 + x4 / 24 - x6 / 720 + x8 / 40320

/-- cos(2π p / 1,024) × 32,768. -/
def cosOf (p : Int) : Int :=
  let n := (p % 1024).toNat
  if n ≤ 256 then quarterCos n
  else if n ≤ 512 then -quarterCos (512 - n)
  else if n ≤ 768 then -quarterCos (n - 512)
  else quarterCos (1024 - n)

/-- Drive current in effect [mA]: for 1 ms after a change of mode it moves linearly from the old mode's to the new one's (R423). -/
def Stepper.currentAt (clock : Nat) (t : Stepper) : Nat :=
  let ms := usCycles 1000
  match t.modeAt with
  | some k =>
    if clock < k + ms then
      (((t.wasCurrent : Int) * (ms : Nat) + ((t.current : Int) - t.wasCurrent) * ((clock - k : Nat) : Int)) / (ms : Nat)).toNat
    else t.current
  | none => t.current

/-- Target currents of a stepper's windings [mA]: I cos and I sin of its position. -/
def windings (clock : Nat) (t : Stepper) : Int × Int :=
  let i := t.currentAt clock
  ((i : Int) * cosOf t.pos / 32768, (i : Int) * cosOf (t.pos - 256) / 32768)

/-- Hysteresis window of a target current [mA]. -/
def windowOf (percent : Nat) (target : Int) : Int :=
  (target.natAbs * percent / 100 : Nat)

/-- One µs of a winding's chopper (R422): it drives until the sensed current reaches target + offset + H/2, then lets it decay to target +
offset − H/2, fast while the target falls; it turns on at most every 10 µs. -/
def Chop.tick (percent : Nat) (target off sensed : Int) (c : Chop) : Chop :=
  let toward := fun (x : Int) => if target < 0 then -x else x
  let half := windowOf percent target / 2
  let x := toward (sensed - target - off)
  if c.drive then (if half ≤ x then { c with drive := false, fast := decide (target.natAbs < c.last.natAbs), on := min 10 (c.on + 1) }
    else { c with on := min 10 (c.on + 1) })
  else if x ≤ -half ∧ 10 ≤ c.on then { c with drive := true, on := 0 }
  else { c with on := min 10 (c.on + 1) }

/-- A chopper over a millisecond of sensed currents. -/
def Chop.over (percent : Nat) (target off : Int) (sensed : List Int) (c : Chop) : Chop :=
  { sensed.foldl (fun d x => d.tick percent target off x) c with last := target }

/-- The adaptive offset moves by an eighth of the difference between target and mean current, within ±H (R422). -/
def newOffset (percent : Nat) (target off : Int) (sensed : List Int) : Int :=
  let h := windowOf percent target
  let mean : Int := sensed.foldl (fun x y => x + y) 0 / (max 1 sensed.length : Nat)
  if sensed = [] then off else clampInt (-h) h (off + (target - mean) / 8)

/-- The choppers and adaptive offsets of a stepper's windings over a millisecond (R422). -/
def Stepper.adapt (clock percent : Nat) (sensedA sensedB : List Int) (t : Stepper) : Stepper :=
  let w := windings clock t
  { t with
    chopA := t.chopA.over percent w.1 t.offA sensedA
    chopB := t.chopB.over percent w.2 t.offB sensedB
    offA := newOffset percent w.1 t.offA sensedA
    offB := newOffset percent w.2 t.offB sensedB }

/-- CHOPPER_OFFSET_UPDATE (R422): loader and collimator always, the sled in spring mode. -/
def execChopperOffsetUpdate (b : BayId) (which : Nat) (sensedA sensedB : List Int) (s : State) :
    Host.Outcome State Fault Refusal :=
  let h := bnum s b 0x40 0x11
  let as := sensedA.map (senseMa s b (1 + 2 * which))
  let bs := sensedB.map (senseMa s b (2 + 2 * which))
  .next (modBay b
    (fun y =>
      if which = 0 ∧ y.sled.spring then { y with sled := y.sled.adapt s.clock h as bs }
      else if which = 1 ∧ y.loader.energised then { y with loader := y.loader.adapt s.clock h as bs }
      else if which = 2 ∧ y.coll.energised then { y with coll := y.coll.adapt s.clock h as bs }
      else y) s)

/-! ### Commands of the dictionary (3030h.0F, 3030h.10, 3040h.03, 3040h.17) -/

/-- De-energise the sled (3030h.0F = 4): a step in progress ends at once and the position is possibly lost. -/
def deEnergiseSled (b : BayId) (s : State) : State :=
  let s1 := if (bayAt s b).sled.moving then haltSled b s else s
  modBay b
    (fun y => { y with sled := { y.sled with energised := false, current := 0, lost := true }, sledState := 6 }) s1

/-- A sled command (3030h.0F). A lost sled is not sent to a position (R427). -/
def sledCommand (b : BayId) (v : Nat) (s : State) : State :=
  let y := bayAt s b
  match v with
  | 1 => homeSled b s
  | 2 => if y.sled.lost ∨ y.cald.faults.getLsbD 1 then s else sledTo b (bint s 4 b 0x30 0x0D) s
  | 3 => if y.sled.moving then haltSled b s else s
  | _ => deEnergiseSled b s

/-- A loader command of the dictionary's (3040h.03). -/
def loaderCommand (b : BayId) (v : Nat) (s : State) : State :=
  match v with
  | 1 => openLoader b s
  | 2 => clampLoader b s
  | _ => if (bayAt s b).loader.moving then
      match (bayAt s b).running with
      | some seq => libraryNext b (libraryAck b seq 0 (haltLoader b s))
      | none => haltLoader b s
    else s

/-- A collimator command (3040h.17). -/
def collCommand (b : BayId) (v : Nat) (s : State) : State :=
  if v = 1 then homeColl b s else if (bayAt s b).coll.moving then haltColl b s else s

/-- A target for the sled (3030h.10). -/
def sledTarget (b : BayId) (goal : Int) (s : State) : State :=
  if (bayAt s b).cald.faults.getLsbD 1 then s else sledTo b goal s

end Sys2Proof.Machine
end

