-- ==== Sys2Proof/Machine/Caldera.lean ====
section
/-! DEFINITION. The Caldera drive side (R433 to R453): the barrier, drive-side supplies, coil and bridge faults, drive-side
calibrations, and the start, restart and disabling of a bay (R451, R475, R557, R569). -/

namespace Sys2Proof.Machine

open Sys2Proof

/-- A drive-side fault of a bay (R445): its count, its bit and its event. -/
def driveFault (b : BayId) (cause bit : Nat) (s : State) : State :=
  raiseBay b 6 cause []
    (modBay b
      (fun y => { y with
        cald := { y.cald with
          counts := modNth y.cald.counts (cause - 1) (satAdd 4294967295 1)
          faults := y.cald.faults ||| BitVec.ofNat 16 (2 ^ bit) } }) s)

/-- Clear a fault bit. -/
def clearBit (bit : Nat) (y : Bay) : Bay :=
  { y with cald := { y.cald with faults := y.cald.faults &&& ~~~ BitVec.ofNat 16 (2 ^ bit) } }

/-- Outputs of a bay off whether or not it is in bay-Harbour already (R434, R442). -/
def outputsOff (b : BayId) (cause : Nat) (s : State) : State :=
  if (bayAt s b).harbour then deEnergise b (spinCoast b s) else enterBayHarbour b cause 8 true s

/-! ### The barrier (R434) -/

/-- The barrier link is lost: every bay's outputs are off and every bay is in bay-Harbour, its spindle coasting. -/
def barrierLost (down : Bool) (s : State) : State :=
  if s.sup.barrier ≠ 2 then s
  else
    let s1 := allBays.foldl
      (fun t b =>
        if bayEnabled t b then
          outputsOff b 8 (driveFault b 8 10 (modBay b (fun y => { y with cway := { y.cway with len := false } }) t))
        else t) s
    let s2 := { s1 with
      sup := { s1.sup with
        barrier := if down then 0 else 1
        barrierTries := 0
        barrierLosses := satAdd 4294967295 s1.sup.barrierLosses 1 } }
    raise 7 1 [] s2

/-- BARRIER_LOSS (R434). -/
def execBarrierLoss (s : State) : Host.Outcome State Fault Refusal :=
  .next (barrierLost false s)

/-! ### Drive-side calibrations (R452) -/

/-- Record a drive-side calibration's refusal or rejection (R452). -/
def rejectDrive (b : BayId) (cal reason input : Nat) (s : State) : State :=
  raiseBay b 8 2 [cal, reason, input, 0]
    (modBay b (fun y => { y with cald := { y.cald with rejection := [cal, reason, input, 0] } }) s)

/-- Accepted offsets from input n on. -/
def putOffsets (n : Nat) (vs : List Int) (y : Bay) : Bay :=
  { y with
    cald := { y.cald with
      offsets := y.cald.offsets.mapIdx fun i o => if n ≤ i ∧ i < n + vs.length then vs.getD (i - n) 0 else o } }

/-- Values within a bound. -/
def within (bound : Nat) (vs : List Int) : Bool :=
  vs.all fun v => decide (v.natAbs ≤ bound)

/-- First value out of a bound. -/
def firstOut (bound : Nat) (vs : List Int) : Nat :=
  (vs.findIdx? fun v => decide (bound < v.natAbs)).getD 0

/-- One stepper of the stepper current-sense zero: k 0 sled, 1 loader, 2 collimator. -/
def stepperZero (b : BayId) (c : DriveCal) (s : State) (k : Nat) : State :=
  let y := bayAt s b
  let t := if k = 0 then y.sled else if k = 1 then y.loader else y.coll
  let vs := (c.values.drop (2 * k)).take 2
  let bound := 250000 / max 1 (bnum s b 0x60 5) / 20
  if t.energised ∨ c.offUs < 1000 ∨ c.stillUs.getD k 0 < 10000 then rejectDrive b 2 1 (1 + 2 * k) s
  else if within bound vs = false ∨ 10 ≤ c.noise then rejectDrive b 2 2 (1 + 2 * k + firstOut bound vs) s
  else modBay b (putOffsets (1 + 2 * k) vs) s

/-- A calibration of Table 13.6 with what it measures: refused, rejected, or accepted. -/
def runDriveCal (b : BayId) (cal : Nat) (c : DriveCal) (s : State) : State :=
  let y := bayAt s b
  let open' := y.servo.loops.all Loop.isOpen
  match cal with
  | 1 =>
    let bound := 250000 / max 1 (bnum s b 0x60 4) / 20
    if y.spin.gates ≠ 0 ∨ y.cald.gates ≠ 0 ∨ c.offUs < 1000 ∨ 200 ≤ c.mv then rejectDrive b 1 1 0 s
    else if within bound c.values = false ∨ 10 ≤ c.noise then rejectDrive b 1 2 0 s
    else modBay b (putOffsets 0 (c.values.take 1)) s
  | 2 => [0, 1, 2].foldl (stepperZero b c) s
  | 3 =>
    if y.spin.state ≠ 0 ∨ 30 ≤ y.spin.speed ∨ s.sup.vfld < 18000 ∨ 56000 < s.sup.vfld ∨ y.spin.gates ≠ 0 then
      rejectDrive b 3 1 0 s
    else
      let dev := c.values.map fun v => 100 * (v - (s.sup.vfld : Int))
      if within (3 * s.sup.vfld) dev = false then rejectDrive b 3 2 (firstOut (3 * s.sup.vfld) dev) s
      else s
  | 4 =>
    if open' = false ∨ y.cald.coils.any (· != 0) ∨ c.offUs < 10000 then rejectDrive b 4 1 7 s
    else if within 10 c.values = false then rejectDrive b 4 2 (7 + firstOut 10 c.values) s
    else modBay b (putOffsets 7 (c.values.take 3)) s
  | _ =>
    if y.cway.laser ≠ 0 ∨ y.cway.state ≠ 2 then rejectDrive b 5 1 10 s
    else if within 655 c.values = false then rejectDrive b 5 2 (10 + firstOut 655 c.values) s
    else modBay b (putOffsets 10 (c.values.take 16)) s

/-- What a calibration measures where no command carries it: values the spec leaves open, so free ones (log 48). -/
def freeCal (s : State) (cal : Nat) : DriveCal :=
  let n := if cal = 1 then 1 else if cal = 2 then 6 else if cal = 5 then 16 else 3
  { offUs := (Config.freeValue (s.free + n)).toNat
    stillUs := (List.range 3).map fun i => (Config.freeValue (s.free + n + 2 + i)).toNat
    mv := (Config.freeValue (s.free + n + 5)).toNat
    values := (List.range n).map fun i => signedOf 2 (Config.freeValue (s.free + i)).toNat
    noise := (Config.freeValue (s.free + n + 1)).toNat }

/-- Use up n free values. -/
def spendN (n : Nat) (s : State) : State :=
  { s with free := s.free + n }

/-- The calibrations of a bay that a mask selects (bit n is calibration n + 1), with their results, or free ones. -/
def driveCals (b : BayId) (mask : Nat) (results : List DriveCal) (s : State) : State :=
  (List.range 5).foldl
    (fun t n =>
      if bitOf mask n = false then t
      else match results[n]? with
        | some c => runDriveCal b (n + 1) c t
        | none => runDriveCal b (n + 1) (freeCal t (n + 1)) (spendN 22 t)) s

/-- BARRIER_RETRAIN (R434, R452): the link is up again with every output off, or after the third failure is failed. -/
def execBarrierRetrain (ok : Bool) (results : List (List DriveCal)) (s : State) : Host.Outcome State Fault Refusal :=
  if s.sup.barrier ≠ 1 then .next s
  else if ok then
    let s1 := { s with sup := { s.sup with barrier := 2, barrierTries := 0 } }
    let s2 := modBays (fun _ y => clearBit 10 y) s1
    let s3 := allBays.foldl (fun t b => if bayEnabled t b then driveCals b 31 (results.getD b.val []) t else t) s2
    .next (raise 7 2 [] s3)
  else if s.sup.barrierTries + 1 < 3 then
    .next { s with sup := { s.sup with barrierTries := s.sup.barrierTries + 1 } }
  else .next (raise 7 3 [] { s with sup := { s.sup with barrier := 3, barrierTries := 3 } })

/-! ### Drive-side supplies (R435, R436) -/

/-- Record a supply's value. -/
def putSupply (level mv : Nat) (s : State) : State :=
  if level ≤ 4 then { s with sup := { s.sup with vfld := mv } }
  else if level = 5 then { s with sup := { s.sup with vdrv := mv } }
  else if level = 6 then { s with sup := { s.sup with vcoil := mv } }
  else { s with sup := { s.sup with vdl := mv } }

/-- Fault bit 9 and cause 09h of every bay at a crossing that acts on the bays (Table 13.4). -/
def supplyFault (s : State) : State :=
  allBays.foldl (fun t b => if bayEnabled t b then driveFault b 9 9 t else t) s

/-- Every bay in bay-Harbour for a supply; `off` when the bridges are off. -/
def supplyHarbour (off : Bool) (s : State) : State :=
  allBays.foldl (fun t b => if off ∧ bayEnabled t b then outputsOff b 9 t else enterBayHarbour b 9 8 false t) s

/-- The value lies beyond a level of Table 13.1. -/
def beyondLevel (level mv : Nat) : Bool :=
  match level with
  | 1 => decide (mv < 17000)
  | 2 => decide (mv < 16000)
  | 3 => decide (57000 < mv)
  | 4 => decide (59000 < mv)
  | 5 => decide (mv < 9500)
  | 6 => decide (mv < 10000)
  | _ => decide (mv < 2900)

/-- The value has recovered from a level of Table 13.1. -/
def levelRecovered (level mv : Nat) : Bool :=
  match level with
  | 1 | 2 => decide (18000 < mv)
  | 3 | 4 => decide (mv < 56000)
  | 5 => decide (10500 < mv)
  | 6 => decide (10800 < mv)
  | _ => decide (2900 ≤ mv)

/-- DRIVE_SUPPLY_CROSSING (R435, Table 13.1). -/
def execDriveSupplyCrossing (level mv : Nat) (s : State) : Host.Outcome State Fault Refusal :=
  if level = 0 ∨ 7 < level then .next s
  else
    let s1 := putSupply level mv s
    if beyondLevel level mv = false then .next s1
    else if level = 7 then
      .next (if s.sup.barrier = 1 then { s1 with sup := { s1.sup with barrier := 0 } } else barrierLost true s1)
    else if s.sup.drive.getLsbD (level - 1) then .next s1
    else
      let s2 := { s1 with sup := { s1.sup with drive := s1.sup.drive ||| BitVec.ofNat 8 (2 ^ (level - 1)) } }
      let s3 := supplyFault (raise 6 level (evBytes 2 mv) s2)
      match level with
      | 1 =>
        .next (modBays (fun _ y => { (dipCoast y) with sled := y.sled.stand })
          (dropAllGates 9 { s3 with sup := { s3.sup with vfldDip := true } }))
      | 3 => .next (modBays (fun _ y => { y with spin := { y.spin with syncRect := false } }) s3)
      | 6 => .next (modBays
          (fun _ y => { y with cald := { y.cald with coils := [0, 0, 0], rampLeft := 0 } }) (supplyHarbour false s3))
      | _ => .next (supplyHarbour true s3)

/-- Bays resume after a dip when neither kind of dip stands (R415, R436). -/
def resumeBays (s : State) : State :=
  if s.sup.dip ∨ s.sup.vfldDip then s
  else allBays.foldl (fun t b => if (bayAt t b).harbour ∨ bayEnabled t b = false then t else resumeSpindle b t) s

/-- DRIVE_SUPPLY_RECOVERY (R435, R436): the level no longer stands; a VFLD dip is ridden, or Caldera restarts and the link
retrains. -/
def execDriveSupplyRecovery (level mv : Nat) (s : State) : Host.Outcome State Fault Refusal :=
  if level = 0 ∨ 7 < level then .next s
  else
    let s1 := putSupply level mv s
    if levelRecovered level mv = false then .next s1
    else if level = 7 then
      .next (if s.sup.barrier = 0 then { s1 with sup := { s1.sup with barrier := 1 } } else s1)
    else
      let s2 := { s1 with sup := { s1.sup with drive := s1.sup.drive &&& ~~~ BitVec.ofNat 8 (2 ^ (level - 1)) } }
      let s3 := if s2.sup.drive = 0 then modBays (fun _ y => clearBit 9 y) s2 else s2
      match level with
      | 1 => .next (resumeBays { s3 with sup := { s3.sup with vfldDip := false } })
      | 3 => .next (modBays (fun _ y => { y with spin := { y.spin with syncRect := true } }) s3)
      | _ => .next s3

/-! ### Coils (R440, R441, R446) -/

/-- A coil output is between its first limit and its latch (R446). -/
def coilRetrying (y : Bay) (coil : Nat) : Bool :=
  !y.cald.faults.getLsbD (4 + coil) && (y.cald.coilOff.getD coil false || decide (0 < y.cald.retries.getD coil 0))

/-- Bit 7 falls when no coil retries any more (Table 13.8). -/
def settleRetry (y : Bay) : Bay :=
  if (List.range 3).any (coilRetrying y) then y else clearBit 7 y

/-- Latch a coil output (R446): bay-Harbour. -/
def latchCoil (b : BayId) (coil cause : Nat) (s : State) : State :=
  enterBayHarbour b cause 8 false (modBay b
    (fun y => settleRetry { y with
      cald := { y.cald with
        faults := y.cald.faults ||| BitVec.ofNat 16 (2 ^ (4 + coil))
        coilOff := modNth y.cald.coilOff coil fun _ => true
        coils := modNth y.cald.coils coil fun _ => 0
        retries := modNth y.cald.retries coil fun _ => 0 } }) s)

/-- What a coil output that is off means for the bay (R446): focus lost, tracking lost, or a gate drop. -/
def coilLost (b : BayId) (coil : Nat) (s : State) : State :=
  if coil = 0 then focusLost b 5 4 s else if coil = 1 then trackingLost b 3 6 s else dropGate b 8 s

/-- COIL_CURRENT_LIMIT (R439, R446): off for 10 ms, or latched after the third retry. -/
def execCoilCurrentLimit (b : BayId) (coil : Nat) (s : State) : Host.Outcome State Fault Refusal :=
  let y := bayAt s b
  if 3 ≤ coil ∨ bayEnabled s b = false ∨ y.cald.faults.getLsbD (4 + coil) then .next s
  else
    let s1 := driveFault b 5 7 (modBay b
      (fun y => { y with
        cald := { y.cald with
          coilOff := modNth y.cald.coilOff coil fun _ => true
          coils := modNth y.cald.coils coil fun _ => 0 } }) s)
    let s2 := if y.harbour then s1 else coilLost b coil s1
    if 3 ≤ y.cald.retries.getD coil 0 then .next (latchCoil b coil 5 s2) else .next s2

/-- COIL_RETRY (R446): the output is enabled again at zero command. -/
def execCoilRetry (b : BayId) (coil : Nat) (s : State) : Host.Outcome State Fault Refusal :=
  let y := bayAt s b
  if y.cald.coilOff.getD coil false = false ∨ y.cald.faults.getLsbD (4 + coil) ∨ 3 ≤ coil then .next s
  else .next (modBay b
    (fun y => { y with
      cald := { y.cald with
        coilOff := modNth y.cald.coilOff coil fun _ => false
        retries := modNth y.cald.retries coil (· + 1) } }) s)

/-- COIL_RETRY_EPISODE_END (R446). -/
def execCoilRetryEpisodeEnd (b : BayId) (coil : Nat) (s : State) : Host.Outcome State Fault Refusal :=
  let y := bayAt s b
  if 3 ≤ coil ∨ y.cald.retries.getD coil 0 = 0 ∨ y.cald.coilOff.getD coil false then .next s
  else .next (modBay b
    (fun y =>
      settleRetry { y with cald := { y.cald with retries := modNth y.cald.retries coil fun _ => 0 } }) s)

/-- Mark a coil's overload (R440). -/
def markOver (coil : Nat) (on : Bool) (y : Bay) : Bay :=
  { y with cald := { y.cald with coilOver := modNth y.cald.coilOver coil fun _ => on } }

/-- A coil overload begins (R440): counted, its event, and the write gate dropped. -/
def coilOverload (b : BayId) (coil : Nat) (s : State) : State :=
  dropGate b 8 (raiseBay b 6 6 [] (modBay b
    (fun y =>
      let z := markOver coil true y
      { z with cald := { z.cald with counts := modNth z.cald.counts 5 (satAdd 4294967295 1) } }) s))

/-- COIL_RMS_THRESHOLD (R440, R447): the overload drops the gate, and latches the coil above 300 mA or while it
retries. -/
def execCoilRmsThreshold (b : BayId) (coil : Nat) (s : State) : Host.Outcome State Fault Refusal :=
  let y := bayAt s b
  let ma := y.cald.rms.getD coil 0
  let fresh := !y.cald.coilOver.getD coil false
  if 3 ≤ coil ∨ bayEnabled s b = false then .next s
  else if 250 < ma then
    let s1 := if fresh then coilOverload b coil s else s
    if y.cald.faults.getLsbD (4 + coil) = false ∧ (300 < ma ∨ (fresh ∧ coilRetrying y coil)) then
      .next (latchCoil b coil 6 s1)
    else .next s1
  else if ma < 225 then .next (modBay b (markOver coil false) s)
  else .next s

/-- Sum of a bay's three RMS values. -/
def Bay.rmsSum (y : Bay) : Nat :=
  sumOf y.cald.rms

/-- 2030h.05: sum of the 48 RMS values [mA]. -/
def coilSum (s : State) : Nat :=
  sumOf (allBays.map fun b => (bayAt s b).rmsSum)

/-- The bay with the highest RMS sum among those not in bay-Harbour; the lowest-numbered of equals (R441). -/
def highestBay (s : State) : Option BayId :=
  let ready := allBays.filter fun b => bayEnabled s b && !(bayAt s b).harbour
  let top := maxOf (ready.map fun b => (bayAt s b).rmsSum)
  ready.find? fun b => (bayAt s b).rmsSum == top

/-- Put the highest bay in bay-Harbour (R441). -/
def shedBay (s : State) : State :=
  match highestBay s with
  | some b =>
    enterBayHarbour b 0x14 8 false
      { s with sup := { s.sup with aggregate := true, harbourSeq := s.sup.harbourSeq + 1 } }
  | none => s

/-- AGGREGATE_COIL_LIMIT (R441). -/
def execAggregateCoilLimit (s : State) : Host.Outcome State Fault Refusal :=
  let n := coilSum s
  if n ≤ 7000 then .next { s with sup := { s.sup with aggregate := false } }
  else
    let s1 := raise 6 7 (evBytes 2 n) s
    if 8000 < n then .next (shedBay s1) else .next s1

/-- AGGREGATE_COIL_REPEAT (R441): repeated once a second while the sum stays above 8.0 A. -/
def execAggregateCoilRepeat (s : State) : Host.Outcome State Fault Refusal :=
  if s.sup.aggregate = false then .next s
  else if 8000 < coilSum s then .next (shedBay (raise 6 7 (evBytes 2 (coilSum s)) s))
  else .next { s with sup := { s.sup with aggregate := false } }

/-! ### Interlock and bridge faults (R442, R445) -/

/-- DRV_EN_LOW (R442). -/
def execDrvEnLow (b : BayId) (s : State) : Host.Outcome State Fault Refusal :=
  let s1 := modBay b (fun y => { y with cald := { y.cald with drvEn := false } }) s
  if bayEnabled s b = false ∨ (bayAt s b).cald.drvEn = false then .next s1
  else .next (outputsOff b 7 (driveFault b 7 8 s1))

/-- DRV_EN_HIGH (R442): the outputs stay off until the bay is restarted. -/
def execDrvEnHigh (b : BayId) (s : State) : Host.Outcome State Fault Refusal :=
  .next (modBay b (fun y => clearBit 8 { y with cald := { y.cald with drvEn := true } }) s)

/-- A latched bridge (R425, R429): the spindle coasts and is faulted when it was starting; a stepper's steps stop and it
stands de-energised, its position possibly lost. -/
def bridgeOff (b : BayId) (bridge : Nat) (s : State) : State :=
  let y := bayAt s b
  match bridge with
  | 0 =>
    let starting := y.spin.starting
    let s1 := modBay b (fun y => { y with cald := { y.cald with gates := 0, duty := 0 } }) (spinCoast b s)
    if starting then modBay b (fun y => { y with spin := { y.spin with state := 8 } }) s1 else s1
  | 1 =>
    let s1 := if y.sled.moving ∨ y.sled.lost = false then haltSled b s else s
    modBay b (fun y => { y with sled := { y.sled with energised := false, current := 0, lost := true }, sledState := 5 }) s1
  | 2 =>
    let s1 := match y.running with
      | some seq => libraryAck b seq 4 s
      | none => s
    modBay b (fun y => { y with
      loader := { y.loader.halt with energised := false, current := 0, clampHold := false }
      loaderState := 5 }) s1
  | _ => modBay b (fun y => { y with coll := { y.coll.halt with energised := false, current := 0 }, collState := 5 }) s

/-- DRIVE_SIDE_FAULT (R445, R447, R450): latched, counted, and bay-Harbour at the first. -/
def execDriveSideFault (b : BayId) (cause bridge : Nat) (s : State) : Host.Outcome State Fault Refusal :=
  if cause = 0 ∨ 4 < cause ∨ 3 < bridge ∨ (2 < cause ∧ bridge ≠ 0) ∨ bayEnabled s b = false then .next s
  else .next (enterBayHarbour b cause 8 false (bridgeOff b bridge (driveFault b cause bridge s)))

/-- Clear latched faults (R449): no output changes; a fault that is still present is a new DRIVE_SIDE_FAULT. -/
def clearFaults (b : BayId) (mask : Nat) (s : State) : State :=
  modBay b
    (fun y => { y with
      cald := { y.cald with
        faults := y.cald.faults &&& ~~~ BitVec.ofNat 16 (mask % 128)
        coilOff := y.cald.coilOff.mapIdx fun i o => o && !(bitOf mask (4 + i) && y.cald.faults.getLsbD (4 + i))
        retries := y.cald.retries.mapIdx fun i n => if bitOf mask (4 + i) && y.cald.faults.getLsbD (4 + i) then 0 else n } }) s

/-- A fault clear is refused (R449). -/
def clearRefused (s : State) (b : BayId) : Bool :=
  !(bayAt s b).harbour || decide (30 ≤ (bayAt s b).spin.speed)

/-! ### Start, restart and disabling (R451, R475, R557, R569) -/

/-- The domains a bay's loops and link need are powered (R490, Table 15.1). -/
def bayPowered (s : State) (b : BayId) : Bool :=
  [10, 12, 15, 35, phyDomain b, driverDomain b].all fun d => domainCond s d == .on

/-- Conditions of a bay's start (R557). -/
def bayMayStart (s : State) (b : BayId) : Bool :=
  decide (b.val < s.part.code.bays) && bnum s b 0 2 == 1 && bayPowered s b && s.sup.barrier == 2 && s.sup.drive == 0

/-- A bay starts (R385, R557, R569): CW_SBDI is sampled; a fitted bay loads its loops and trains its link, and spins when
it holds a clamped disc; with DRV_EN low it enters bay-Harbour instead (R442). -/
def startBay (b : BayId) (sbdi clamped : Bool) (s : State) : State :=
  let s1 := modBay b (fun y => { y with fitted := sbdi }) s
  if sbdi = false ∨ bayMayStart s1 b = false then s1
  else if (bayAt s1 b).cald.drvEn = false then outputsOff b 7 (driveFault b 7 8 s1)
  else
    let s2 := modBay b
      (fun y => { y.stale with started := true, loaderState := if clamped then 3 else y.loaderState }) s1
    let s3 := startTraining b (loadLoops b { s2 with mem := { s2.mem with coeffWritten := true } })
    let y := bayAt s3 b
    if y.present ∧ y.loaderState = 3 ∧ y.spindleFault = false then startSpindle b 7200 s3 else s3

/-- BAY_START (R557). -/
def execBayStart (b : BayId) (sbdi clamped : Bool) (s : State) : Host.Outcome State Fault Refusal :=
  if s.phase ≠ .running ∨ (bayAt s b).started ∨ (bayAt s b).harbour ∨ bayMayStart s b = false then .next s
  else .next (startBay b sbdi clamped s)

/-- A restart is refused (R451, R475). -/
def restartRefused (s : State) (b : BayId) : Bool :=
  let y := bayAt s b
  !y.harbour || y.cald.faults &&& 0x007F#16 != 0 || !y.cald.drvEn || s.sup.drive != 0 || s.sup.barrier != 2

/-- Home every stepper of a bay whose position is lost (R451); a loader only where R428 lets it move. -/
def homeLost (b : BayId) (s : State) : State :=
  let s1 := if (bayAt s b).sled.lost then homeSled b s else s
  let s2 := if (bayAt s1 b).coll.lost then homeColl b s1 else s1
  if (bayAt s2 b).loader.lost ∧ loaderRefused (bayAt s2 b) = 0 then openLoader b s2 else s2

/-- Restart a bay (R451, R452, R569). -/
def restartBay (b : BayId) (sbdi : Bool) (results : List DriveCal) (s : State) : State :=
  let s1 := modBay b
    (fun y => { y with
      harbour := false
      cause := 0
      spin := { y.spin with state := if y.spin.state = 8 then (if y.spin.speed < 30 then 0 else 7) else y.spin.state, retries := 0 }
      servo := { y.servo with state := if y.spin.speed < 30 then 0 else 1, attempts := 0 } }) s
  if sbdi then startBay b true ((bayAt s b).loaderState == 3) (homeLost b (driveCals b 31 results s1))
  else startBay b false false s1

/-- A bay is disabled (R475): every output off, no link, and nothing of it runs. It does not leave bay-Harbour (R451). -/
def disableBay (b : BayId) (s : State) : State :=
  let s1 := deEnergise b (spinCoast b (dropGate b 10 s))
  let s2 := leaveLock b 0 10 (freeRecalls b s1)
  modBay b
    (fun y => { y with
      started := false
      work := 0
      servo := { y.servo.park with state := 0, prof := {} }
      cway := { y.cway with
        state := 0, rstN := false, len := false, wg := false, laser := 0, servoOn := false, regOut := none, regQueue := [] } })
    s2

end Sys2Proof.Machine
end

