-- ==== Sys2Proof/Machine/Rows.lean ====
section
/-! DEFINITION. What a disc of a set holds and where (R204 to R206, R218, R267 to R274): the frames of each row in
writing order, strategy tables and write power (R283 to R285), and the outer parity of a set (R206, R305). -/

namespace Sys2Proof.Machine

open Sys2Proof

/-! ### Plans (R208 to R212) -/

/-- Objects of a plan on a data disc, in placement order. -/
def Plan.onDisc (p : Plan) (disc : Nat) : List Extent :=
  p.extents.filter fun e => e.disc == disc

/-- Directory frames of a disc of a set: ⌈objects / 128⌉ and at least 1 on a data disc, none on P and Q (R267, R268). -/
def Plan.directoryFrames (p : Plan) (role : Nat) : Nat :=
  if 0x80 ≤ role then 0 else max 1 (((p.onDisc role).length + 127) / 128)

/-- Object and frame index at a user frame of a data disc; none for filler. -/
def Plan.at' (p : Plan) (disc u : Nat) : Option (Nat × Nat) :=
  ((p.onDisc disc).find? fun e => decide (e.first ≤ u ∧ u < e.first + e.count)).map fun e => (e.obj, u - e.first)

/-! ### Rows in writing order (R218, R267, R268, R270) -/

/-- Number of reserve slots in a row of the reserve ring. -/
def ringRow : Nat := 620

/-- Frames of a row that are not yet written, as a frame list: PFA, spot, start and content. -/
def frameOf (layer : Nat) (t : Int) (slot planned : Nat) : FrameW :=
  { pfa := pfaOf layer t slot, spot := (t % 4).toNat, start := frameOffset t slot, planned := planned }

/-- Frames of a track from a list of its slots, each carrying its own position's content. -/
def trackFrames (layer : Nat) (t : Int) (slots : List Nat) : List FrameW :=
  slots.map fun s => frameOf layer t s (pfaOf layer t s)

/-- Row i of the lead-in records of layer 0 or 1 (R267, R268): the five identity copies, then the directory. -/
def leadRow (layer dirs i : Nat) : List FrameW :=
  (List.range 4).flatMap fun (n : Nat) =>
    let t : Int := -4256 + 4 * (i : Int) + (n : Int)
    if t = -4256 then trackFrames layer t [0, 12, 24, 36, 48]
    else
      let first : Nat := (4 * i + n - 1) * 60
      trackFrames layer t (List.range (min 60 (dirs - first)))

/-- Rows that the lead-in records take. -/
def leadRows (dirs : Nat) : Nat :=
  ((dirs + 59) / 60 + 1 + 3) / 4

/-- Row q of the data area of a layer (R261): the slots the outer blocks reach on its four tracks. -/
def dataRow (layer q : Nat) : List FrameW :=
  (List.range 4).flatMap fun n =>
    let t := 4 * q + n
    trackFrames layer (t : Int) ((List.range (5 * framesPerSector (t : Int))).filter (slotUsed t))

/-- The slipped frames to be written in the reserve row that holds the next slot z (R218 step 4). -/
def ringFrames (layer z : Nat) (slips : List (Nat × Nat)) : Option (Nat × List FrameW) :=
  match slips.filter fun p => decide (z ≤ p.2) with
  | [] => none
  | p :: ps =>
    let r := minOf p.2 (ps.map Prod.snd) / ringRow
    let here := (p :: ps).filter fun x => x.2 / ringRow == r
    some (r, here.map fun x => frameOf layer ((154048 + x.2 / 155 : Nat) : Int) (x.2 % 155) x.1)

/-- Planned positions of a layer with a slip, each once. -/
def plannedOnce (slips : List (Nat × Nat)) : List Nat :=
  (slips.map Prod.fst).eraseDups

/-- Records a layer's tail map needs: a remap record per slipped position and the layer-complete record (R274). -/
def layerRecords (slips : List (Nat × Nat)) : Nat :=
  (plannedOnce slips).length + 1

/-- The frames of tail-map pair n (R270): primary and copy. -/
def pairFrames (layer n : Nat) : List FrameW :=
  let q := n % 62
  let j := q % 31
  let k := 2 * (q / 31)
  trackFrames layer ((154560 + n / 62 : Nat) : Int) [31 * k + j, 31 * (k + 1) + j]

/-- Row of a layer's tail-map pair n. A writer appends one pair, and the next once it knows whether that one is torn (R271). -/
def tailRow (n : Nat) : Nat :=
  (154560 + n / 62) / 4

/-- The next row of a disc in writing order (R218): its row number and its frames; none when all is written. -/
def nextRow (plan : Plan) (d : SetDisc) : Option (Int × List FrameW) :=
  match d.part with
  | 0 => some (-1064 + (d.row : Int), leadRow d.layer (plan.directoryFrames d.role) d.row)
  | 1 => some ((d.row : Int), dataRow d.layer d.row)
  | 2 =>
    match ringFrames d.layer d.row d.slips with
    | some (r, fs) => some (((154048 / 4 + r : Nat) : Int), fs)
    | none => none
  | 3 => some ((tailRow d.tailPair : Int), pairFrames d.layer d.tailPair)
  | _ => none

/-- A tail-map pair is valid when either of its frames is confirmed (R271). -/
def pairValid (fs : List FrameW) (layer n : Nat) : Bool :=
  (pairFrames layer n).any fun f => fs.any fun g => g.pfa == f.pfa && g.st == 3

/-- Records of a layer appended once a pair is written: at most 255 in a valid pair, on layer 23 the closure record in a pair of its own
after them (R274); a torn pair's records are written again in the next (R271). -/
def tailAfter (valid : Bool) (total done : Nat) : Nat :=
  if valid = false then done else if done < total then min total (done + 255) else total + 1

/-- What the next layer begins with: its own copy of the lead-in on layer 1, else its rows. -/
def SetDisc.toLayer (l : Nat) (d : SetDisc) : SetDisc :=
  { d with
    layer := l, row := 0, part := if l ≤ 1 then 0 else 1, slot := 0, slips := [], superseded := [], tailPair := 0, tailDone := 0
    identity := false, confirmedRows := 0, progLayer := l, progRow := 0, progSlot := 0 }

/-- A disc's position after the rows of a part have ended. -/
def SetDisc.nextPart (plan : Plan) (d : SetDisc) : SetDisc :=
  if d.part = 0 ∧ leadRows (plan.directoryFrames d.role) ≤ d.row then { d with part := 1, row := 0 }
  else if d.part = 1 ∧ dataRows ≤ d.row then
    { d with part := if d.slips = [] then 3 else 2, row := 0 }
  else if d.part = 2 ∧ (ringFrames d.layer d.row d.slips).isNone then { d with part := 3, row := 0 }
  else d

/-! ### Strategy tables and write power (R283 to R285) -/

/-- Strategy table t of family f, 176 bytes. -/
def strategyTable (s : State) (f t : Nat) : List Byte :=
  ((dom s (0x4410 + f) (t / 16 + 1)).drop (176 * (t % 16))).take 176

/-- Strategy index of a position: the plan's map for a data-area position; reserve slots and lead-in records use the map
in effect, band L as band 0 (R285). -/
def strategyIndex (s : State) (plan : Plan) (layer : Nat) (t : Int) : Nat :=
  let inData := decide (0 ≤ t ∧ t < 154048)
  let m := if inData ∧ plan.strategy ≠ [] then plan.strategy else dom s 0x4400 3
  cellByte m (24 * layer + bandIndex t)

/-- Power factor F of a table. -/
def tableFactor (tbl : List Byte) : Nat :=
  cellByte tbl 4

/-- Target asymmetry of a table [per mille]. -/
def tableTarget (tbl : List Byte) : Int :=
  signedOf 2 (cellField tbl 6 2)

/-- Family of a disc by its media lot (R285). -/
def familyOf (s : State) (lot : List Byte) : Nat :=
  let n := num s 0x4400 1
  let fits := fun (f : Nat) =>
    let p := (((dom s 0x4400 2).drop (8 * f)).take 8).takeWhile (· != 0#8)
    p.isPrefixOf lot
  ((List.range 8).find? fun f => decide (1 ≤ f ∧ f < n) && fits f).getD 0

/-- W[l] (R285, R290): the accepted value, or where none has been accepted the start write power (log 49). -/
def basePower (y : Bay) (l : Nat) : Nat :=
  if y.chan.power.getD l 0 = 0 then y.startPower.getD l 0 else y.chan.power.getD l 0

/-- Write power of a frame before the limit of 2830h.05 [0.01 mW] (R285). -/
def rawPower (y : Bay) (l spot factor : Nat) : Nat :=
  (((basePower y l * factor : Nat) : Int) * (1000 + y.chan.trims.getD spot 0) / 128000).toNat

/-- Frames of a row whose power is limited (R285). -/
def saturatedIn (s : State) (b : BayId) (layer : Nat) (factor : Nat) (fs : List FrameW) : Nat :=
  (fs.filter fun f => decide (num s 0x2830 5 < rawPower (bayAt s b) layer f.spot factor)).length

/-- Argument of a row's power change: the four spots' powers (R282, R285). -/
def powerArg (s : State) (b : BayId) (layer factor : Nat) : Nat :=
  let p := fun spot => min (num s 0x2830 5) (rawPower (bayAt s b) layer spot factor)
  p 0 + 65536 * (p 1 + 65536 * (p 2 + 65536 * p 3))

/-- A value of an object of strategy tables passes R284: every table that is not all zero keeps its ranges, its index and
its CRC. -/
def tableOk (t : Nat) (tbl : List Byte) : Bool :=
  tbl.all (· == 0#8)
    || (cellField tbl 0 2 == t
      && decide (64 ≤ cellByte tbl 4 ∧ cellByte tbl 4 ≤ 192 ∧ 8 ≤ cellByte tbl 5 ∧ cellByte tbl 5 ≤ 64)
      && (decide (cellByte tbl 2 < 24) || cellByte tbl 2 == 255) && (decide (cellByte tbl 3 < 24) || cellByte tbl 3 == 255)
      && (List.range 20).all (fun i =>
        let e := ofBytes ((tbl.drop (16 + 8 * i)).take 8)
        let sh := fun (lo : Nat) => signedOf 1 (bitsOf e lo (lo + 7))
        decide ((sh 56).natAbs ≤ 64 ∧ (sh 48).natAbs ≤ 64 ∧ 64 ≤ bitsOf e 40 47 ∧ bitsOf e 40 47 ≤ 160
          ∧ 32 ≤ bitsOf e 32 39 ∧ bitsOf e 32 39 ≤ 128 ∧ bitsOf e 24 31 ≤ 64 ∧ bitsOf e 16 23 ≤ 128))
      && crc16 (tbl.take 14 ++ (tbl.drop 16).take 160) == cellField tbl 14 2)

/-! ### Outer parity of a set (R206, R305) -/

/-- Byte of a role among the sources: data disc index, 80h P, 81h Q. -/
def sourceByte (src : List (Nat × Nat)) (role : Nat) : Option Nat :=
  getKey role src

/-- Partial P and Q over the data discs among the sources. -/
def partialPQ (k : Nat) (src : List (Nat × Nat)) : Nat × Nat :=
  (List.range k).foldl
    (fun a i => match sourceByte src i with
      | some d => (a.1 ^^^ d, a.2 ^^^ gfMul (gfPow i) d)
      | none => a) (0, 0)

/-- Rebuild every data byte the sources leave open: at most two are missing (R206, R305). -/
def solveData (k : Nat) (src : List (Nat × Nat)) : Option (List Nat) :=
  let miss := (List.range k).filter fun i => (sourceByte src i).isNone
  let pq := partialPQ k src
  let fill := fun (vals : List (Nat × Nat)) => (List.range k).map fun i => (getKey i vals).getD ((sourceByte src i).getD 0)
  match miss, sourceByte src 0x80, sourceByte src 0x81 with
  | [], _, _ => some (fill [])
  | [i], some p, _ => some (fill [(i, p ^^^ pq.1)])
  | [i], none, some q => some (fill [(i, gfMul (gfInv (gfPow i)) (q ^^^ pq.2))])
  | [i, j], some p, some q =>
    let px := p ^^^ pq.1
    let qx := q ^^^ pq.2
    let di := gfMul (gfInv (gfPow i ^^^ gfPow j)) (gfMul (gfPow j) px ^^^ qx)
    some (fill [(i, di), (j, di ^^^ px)])
  | _, _, _ => none

/-- The byte of a role rebuilt from k of the other discs (R305). -/
def rebuildByte (k role : Nat) (src : List (Nat × Nat)) : Option Nat :=
  (solveData k src).map fun ds =>
    if role = 0x80 then parityP ds else if role = 0x81 then parityQ ds else ds.getD role 0

/-- A position rebuilt byte by byte from the sources' frames, which are those of k other discs. -/
def rebuildFrame (k role : Nat) (src : List (Nat × List Byte)) : Option (List Byte) :=
  let n := maxOf (src.map fun p => p.2.length)
  if src.length < k then none
  else (List.range n).mapM fun i =>
    (rebuildByte k role (src.map fun p => (p.1, cellByte p.2 i))).map (BitVec.ofNat 8)

end Sys2Proof.Machine
end

