-- ==== Sys2Proof/Machine/Frames.lean ====
section
/-! DEFINITION. What a GX-24 disc holds, byte for byte (R205, R206, R251, R252, R265 to R276): the 4,128 bytes of each frame, the
system frames of the lead-in, the tail map and its records, and the checks of a frame that is read (R200). -/

namespace Sys2Proof.Machine

open Sys2Proof

/-! ### Frames (R205, R251) -/

/-- The archive object identifier of system frames, which no object bears (R252). -/
def systemObject : Nat := 0xFFFFFFFFFFFFFFFF

/-- The 16-byte header of a frame (Table 7.7). -/
def frameHeader (obj index sid role : Nat) : List Byte :=
  leBytes 8 obj ++ leBytes 4 index ++ leBytes 3 sid ++ leBytes 1 role

/-- Data and protection information of a block as a frame carries them: format 1 is followed by zero bytes (R197). -/
def frameBody (lbaf : Nat) (b : Blk) : List Byte :=
  Blk.bytes b ++ flashMd lbaf b.md

/-- The block that a frame carries. -/
def frameBlk (f : List Byte) : Blk :=
  { data := BitVec.ofNat 32768 (ofBytes ((f.drop 16).take 4096)), md := BitVec.ofNat 128 (ofBytes ((f.drop 4112).take 16)) }

/-- Frame index of a void frame (Table 6.1). -/
def voidIndex : Nat := 0xFFFFFFFF

/-- The frame of LBA i of an object: as stored on flash, plain; void when its source could not be read (R205, R208, R530). -/
def objectFrame (s : State) (sid role : Nat) (voids : List (Nat × Nat)) (obj i : Nat) : List Byte :=
  match objOf s obj with
  | none => frameHeader obj voidIndex sid role ++ leBytes 4112 0
  | some o =>
    if o.contentGone ∨ voids.contains (obj, i) then frameHeader obj voidIndex sid role ++ leBytes 4112 0
    else
      let b := readBlk { pi := o.pi, lbaf := o.lbaf } (zoneOf s o.nsid o.zone) i
      frameHeader obj i sid role ++ frameBody o.lbaf b

/-- User frame u of a data disc: an object's frame, or filler (Table 6.1). -/
def userFrame (s : State) (p : Plan) (role : Nat) (voids : List (Nat × Nat)) (u : Nat) : List Byte :=
  match p.at' role u with
  | some (obj, i) => objectFrame s p.setId role voids obj i
  | none => frameHeader 0 0 p.setId role ++ leBytes 4112 0

/-- The bytes at one offset of several frames. -/
def byteAcross (fs : List (List Byte)) (n : Nat) : List Nat :=
  fs.map fun f => cellByte f n

/-- RS parity frame j of 112 frames (R257). -/
def rsFrame (msg : List (List Byte)) (j : Nat) : List Byte :=
  (List.range 4128).map fun n => BitVec.ofNat 8 ((rsParity (byteAcross msg n)).getD j 0)

/-- Position i of outer block b of a data disc (R205). -/
def dataFrame (s : State) (p : Plan) (role : Nat) (voids : List (Nat × Nat)) (b i : Nat) : List Byte :=
  if i < 112 then userFrame s p role voids (112 * b + i)
  else rsFrame ((List.range 112).map fun m => userFrame s p role voids (112 * b + m)) (i - 112)

/-- Position i of outer block b of the disc of any role (R205, R206). -/
def blockFrame (s : State) (p : Plan) (role : Nat) (voids : List (Nat × Nat)) (b i : Nat) : List Byte :=
  let ds := (List.range p.k).map fun j => dataFrame s p j voids b i
  let across := fun (code : List Nat → Nat) => (List.range 4128).map fun n => BitVec.ofNat 8 (code (byteAcross ds n))
  if role = 0x80 then across parityP else if role = 0x81 then across parityQ else dataFrame s p role voids b i

/-! ### System frames (R265 to R268, Tables 7.8 to 7.12) -/

/-- A system frame: header, body, CRC-32 over bytes 0 to 4,111, reserved bytes. -/
def systemFrame (type seq sid role : Nat) (body : List Byte) : List Byte :=
  let f := frameHeader systemObject (type * 16777216 + seq) sid role ++ takePad 4096 body
  f ++ leBytes 4 (crc32 f) ++ leBytes 12 0

/-- A frame is a system frame of a type and sequence whose CRC checks. -/
def systemOk (type seq : Nat) (f : List Byte) : Bool :=
  f.length == 4128 && cellField f 0 8 == systemObject && cellField f 8 4 == type * 16777216 + seq
    && crc32 (f.take 4112) == cellField f 4112 4

/-- First filler user frame of a disc (Table 7.10). -/
def Plan.firstFiller (p : Plan) (role : Nat) : Nat :=
  if 0x80 ≤ role then userFrames else maxOf ((p.onDisc role).map fun e => e.first + e.count)

/-- Copy n of the identity record of a disc (R267, R526). -/
def identityFrame (s : State) (a : ArchSet) (d : SetDisc) (n : Nat) : List Byte :=
  systemFrame 2 n a.sid d.role
    (ascii "GXID" ++ leBytes 1 1 ++ leBytes 1 d.role ++ leBytes 1 a.k ++ leBytes 1 (a.sid % (a.k + 2)) ++ leBytes 4 a.sid
      ++ leBytes 4 (a.plan.onDisc d.role).length ++ takePad 16 d.serial ++ takePad 16 s.part.serial
      ++ bvBytes 48 Config.certificateDigest ++ bvBytes 8 a.plan.digest ++ leBytes 8 a.startedAt
      ++ leBytes 4 (a.plan.directoryFrames d.role) ++ leBytes 4 (a.plan.firstFiller d.role) ++ takePad 16 d.replaced)

/-- A directory entry (Table 7.11). -/
def directoryEntry (s : State) (e : Extent) : List Byte :=
  let o := (objOf s e.obj).getD {}
  leBytes 8 e.obj ++ leBytes 4 e.first ++ leBytes 4 e.count ++ leBytes 8 o.zslba ++ leBytes 1 o.lbaf ++ leBytes 1 o.pi
    ++ leBytes 6 0

/-- Directory frame n of a disc (R268). -/
def directoryFrame (s : State) (a : ArchSet) (d : SetDisc) (n : Nat) : List Byte :=
  systemFrame 3 n a.sid d.role ((((a.plan.onDisc d.role).drop (128 * n)).take 128).flatMap (directoryEntry s))

/-! ### The tail map (R270 to R275) -/

/-- User frame number of a planned position; FFFFFFFFh for a position of RS parity. -/
def userNumber (pfa : Nat) : Nat :=
  let p := blockOfSlot (pfaLayer pfa) (pfaTrack pfa) (pfaSlot pfa)
  if p.2 < 112 then 112 * p.1 + p.2 else 0xFFFFFFFF

/-- A remap record: reason, planned position, reserve slot (Table 7.13). -/
def remapRecord (reason planned slot : Nat) : List Byte :=
  [1#8] ++ leBytes 1 reason ++ leBytes 2 0 ++ leBytes 4 planned ++ leBytes 4 slot ++ leBytes 4 (userNumber planned)

/-- A layer-complete record: slipped frames, next unused reserve slot (Table 7.13). -/
def layerRecord (layer slipped next : Nat) : List Byte :=
  [2#8] ++ leBytes 1 layer ++ leBytes 2 0 ++ leBytes 4 slipped ++ leBytes 4 next ++ leBytes 4 0

/-- A closure record (Table 7.13). -/
def closureRecord (role : Nat) (replacement : Bool) (sid slipped time : Nat) : List Byte :=
  [3#8] ++ leBytes 1 role ++ leBytes 1 (if replacement then 1 else 0) ++ leBytes 1 0 ++ leBytes 4 (sid % 16777216)
    ++ leBytes 4 slipped ++ leBytes 4 (time % 2 ^ 32)

/-- The slot that a slipped position holds at last. -/
def finalSlot (slips : List (Nat × Nat)) (planned : Nat) : Nat :=
  ((slips.filter fun p => p.1 == planned).getLast?.map Prod.snd).getD 0

/-- The records that a layer's tail map takes: a remap record for each slipped position, then the layer-complete record (R274). -/
def layerTail (d : SetDisc) : List (List Byte) :=
  (plannedOnce d.slips).map (fun p =>
    remapRecord (if d.superseded.contains p then 3 else 1) p (reservePfa d.layer (finalSlot d.slips p)))
    ++ [layerRecord d.layer (plannedOnce d.slips).length d.slot]

/-- Both frames of tail-map pair n of a layer (Table 7.12). -/
def tailFrame (layer n sid role : Nat) (records : List (List Byte)) : List Byte :=
  systemFrame 4 n sid role (ascii "GXTM" ++ leBytes 1 layer ++ leBytes 1 records.length ++ leBytes 10 0 ++ records.flatten)

/-- The records of the pair that a writer appends next (R271, R274): at most 255 of those the layer lacks, then closure. -/
def nextRecords (s : State) (a : ArchSet) (d : SetDisc) : List (List Byte) :=
  if d.tailDone < (layerTail d).length then ((layerTail d).drop d.tailDone).take 255
  else [closureRecord d.role d.replacement a.sid d.slipped (nowNs s)]

/-- The content of a position of a disc (R251): lead-in records, frames of the outer blocks, tail map. A frame of a disc that is
reconstructed is the one rebuilt for it (R230). -/
def discContent (s : State) (a : ArchSet) (d : SetDisc) (pfa : Nat) : List Byte :=
  let t := pfaTrackInt pfa
  if t = -4256 then identityFrame s a d (pfaSlot pfa / 12)
  else if t < 0 then directoryFrame s a d ((t + 4255).toNat * 60 + pfaSlot pfa)
  else if 154560 ≤ t then
    tailFrame (pfaLayer pfa) ((t.toNat - 154560) * 62 + pfaSlot pfa / 31 / 2 * 31 + pfaSlot pfa % 31) a.sid d.role
      (nextRecords s a d)
  else match (if s.ebb.recon.status = 2 ∧ s.ebb.recon.setId = a.sid then getKey pfa s.ebb.recon.frames else none) with
    | some f => f
    | none =>
      let p := blockOfSlot (pfaLayer pfa) (pfaTrack pfa) (pfaSlot pfa)
      blockFrame s a.plan d.role (a.voids ++ d.voids) p.1 p.2

/-- The channel bits that a frame of a row is written as: its staged content, with the seed of the slot that takes it (R253, R278, R281). -/
def FrameW.bits (f : FrameW) : List Bool :=
  channelBits (pfaLayer f.pfa) (pfaTrack f.pfa) (pfaSlot f.pfa) f.content

/-! ### Reading the tail map (R271, R275, R276) -/

/-- The valid content of a pair: the first of its frames that checks; none when the pair is torn (R271). -/
def TailPair.content (p : TailPair) : Option (List Byte) :=
  [p.primary, p.copy].find? fun f => systemOk 4 p.n f

/-- The records of a pair, in order; none of a torn pair. -/
def TailPair.records (p : TailPair) : List (List Byte) :=
  match TailPair.content p with
  | none => []
  | some f => (List.range (cellByte f 21)).map fun i => (f.drop (32 + 16 * i)).take 16

/-- Pairs of a layer from pair n on, up to the first with no marks (R276). -/
def pairsFrom (tails : List TailPair) (layer : Nat) : Nat → Nat → List TailPair
  | 0, _ => []
  | fuel + 1, n =>
    match tails.find? fun p => p.layer == layer && p.n == n with
    | none => []
    | some p => p :: pairsFrom tails layer fuel (n + 1)

/-- The pairs of a layer that hold marks, in pair order. -/
def layerPairs (tails : List TailPair) (layer : Nat) : List TailPair :=
  pairsFrom tails layer tails.length 0

/-- A layer's records in order. -/
def recordsOf (tails : List TailPair) (layer : Nat) : List (List Byte) :=
  (layerPairs tails layer).flatMap TailPair.records

/-- Where a position's frame stands: the reserve slot that the governing remap record names, which is that of the highest pair and in
it the later one; else the position itself (R275, R276). -/
def placeOfFrame (tails : List TailPair) (pfa : Nat) : Nat :=
  let rs := (recordsOf tails (pfaLayer pfa)).filter fun r => cellByte r 0 == 1 && cellField r 4 4 == pfa
  (rs.getLast?.map fun r => cellField r 8 4).getD pfa

/-- The position whose frame stands in a slot: in the data area its own, unless a remap record has moved it; in the reserve ring the one
that a governing remap record names, if any (R264, R276). -/
def positionIn (tails : List TailPair) (pfa : Nat) : Option Nat :=
  if areaOf (pfaTrackInt pfa) ≠ .reserve then (if placeOfFrame tails pfa = pfa then some pfa else none)
  else
    let named := (recordsOf tails (pfaLayer pfa)).filter fun r =>
      cellByte r 0 == 1 && cellField r 8 4 == pfa && placeOfFrame tails (cellField r 4 4) == pfa
    named.getLast?.map fun r => cellField r 4 4

/-- Append a pair of records to a layer's tail map, at the first pair after the last that holds marks (R271). -/
def appendTail (layer sid role : Nat) (records : List (List Byte)) (tails : List TailPair) : List TailPair :=
  let n := (layerPairs tails layer).length
  let f := tailFrame layer n sid role records
  tails ++ [{ layer := layer, n := n, primary := f, copy := f }]

/-! ### Lead-ins (R265, R266, R277) -/

/-- The media information record checks: a system frame of its type with its CRC, set identifier 0, role FFh, and the format's name. -/
def LeadIn.readable (l : LeadIn) : Bool :=
  systemOk 1 (cellField l.record 8 3) l.record && cellField l.record 12 3 == 0 && cellByte l.record 15 == 255
    && (l.record.drop 16).take 4 == ascii "GX24"

/-- Format version of the media information record. -/
def LeadIn.version (l : LeadIn) : Nat :=
  cellByte l.record 20

/-- Disc serial of the media information record. -/
def LeadIn.serial (l : LeadIn) : List Byte :=
  (l.record.drop 24).take 16

/-- Media lot of the media information record. -/
def LeadIn.lot (l : LeadIn) : List Byte :=
  (l.record.drop 40).take 8

/-- A table of 24 two-byte values of the media information record. -/
def LeadIn.perLayer (l : LeadIn) (at' : Nat) : List Nat :=
  (List.range 24).map fun i => cellField l.record (at' + 2 * i) 2

/-- A valid closure record stands in the tail map of layer 23 (R274). -/
def LeadIn.closed (l : LeadIn) : Bool :=
  (recordsOf l.tails 23).any fun r => cellByte r 0 == 3

/-- Pair 0 of some layer's tail map holds marks (R277). -/
def LeadIn.tail (l : LeadIn) : Bool :=
  l.tails.any fun p => p.n == 0

/-! ### The catalogue (R225) -/

/-- Discs of an archived set, in role order. -/
def archivedDiscs (s : State) (sid : Nat) : List SetDisc :=
  ((s.ebb.archived.find? fun p => p.1 == sid).map Prod.snd).getD []

/-- Width of the set of an object. -/
def widthOf (s : State) (sid : Nat) : Nat :=
  (archivedDiscs s sid).length - 2

/-- The plan of an archived set, from its catalogue. -/
def cataloguePlan (s : State) (sid : Nat) : Plan :=
  { setId := sid
    k := widthOf s sid
    strategy := dom s 0x4400 3
    extents := (s.ebb.objs.filter fun o => o.setId == sid).map fun o =>
      { obj := o.oid, disc := o.role, first := o.first, count := o.lbas } }

/-! ### The checks of a disc read (R200, R203) -/

/-- A frame header names the object and frame expected. -/
def headerNames (f : List Byte) (obj i : Nat) : Bool :=
  cellField f 0 8 == obj && cellField f 8 4 == i

/-- The check of a frame of an object: header, guard, and for type 1 the reference tag, which counts from the object's original zone
start LBA (R200). Without protection only the header is checked (R203). -/
def objectFrameOk (o : Obj) (i : Nat) (header : List Byte) (b : Blk) : Bool :=
  headerNames header o.oid i && (storedCheck o.pi o.lbaf (o.zslba + i) b).isNone

/-- The check of a frame read where a plan places it: a data disc's user frame must be the object's or filler's; frames of RS parity, and
of P and Q, carry no header of their own (R200, R205, R206). -/
def planFrameOk (s : State) (p : Plan) (role pos : Nat) (f : List Byte) : Bool :=
  let b := blockOfSlot (pfaLayer pos) (pfaTrack pos) (pfaSlot pos)
  if 0x80 ≤ role ∨ 112 ≤ b.2 then true
  else match p.at' role (112 * b.1 + b.2) with
    | none => headerNames f 0 0
    | some (obj, i) => match objOf s obj with
      | some o => objectFrameOk o i f (frameBlk f)
      | none => headerNames f obj i

/-- A lead-in or tail-map frame checks by its header and its CRC. -/
def systemReadOk (f : List Byte) : Bool :=
  cellField f 0 8 == systemObject && crc32 (f.take 4112) == cellField f 4112 4

end Sys2Proof.Machine
end

