-- ==== Sys2Proof/Machine/Channel.lean ====
section
/-! DEFINITION. Writing and reading through eight spots (R218 to R225, R278 to R309): rows in writing, frame decisions,
what follows a row, a layer and a disc, optimum power calibration, and the statistics of the channels. -/

namespace Sys2Proof.Machine

open Sys2Proof

/-! ### Sets, discs and bays -/

/-- A started set. -/
def setOf (s : State) (sid : Nat) : Option ArchSet :=
  s.ebb.sets.find? fun a => a.sid == sid

/-- The set, its plan and the disc that a bay writes. -/
def writingOn (s : State) (b : BayId) : Option (ArchSet × SetDisc) :=
  (discOn s b).bind fun p => (setOf s p.1).map fun a => (a, p.2)

/-- A set that is only here because one of its discs is reconstructed (R230): it was archived before. -/
def isRecon (s : State) (sid : Nat) : Bool :=
  s.ebb.archived.any fun p => p.1 == sid

/-- Ask the library to unload a bay's disc (R479): lasers off, the spindle to state 0, then the request. -/
def postUnload (b : BayId) (reason : Nat) (s : State) : State :=
  let s1 := modBay b (fun y => { y with unloadDue := some reason }) (laserOff b s)
  if (bayAt s1 b).spin.state = 0 then unloadReady b s1
  else
    let s2 := withdraw b s1
    if (bayAt s2 b).spin.state = 6 then s2 else spinBrake b s2

/-! ### Writing a row (R218, R219, R249, R282, R326) -/

/-- The band group of a row's first track (R381). -/
def groupOf (t : Int) : Nat :=
  bandIndex t / 4

/-- A bay's optimum power calibration of a layer lets it write (R286, R290, R338). -/
def opcReady (y : Bay) (layer : Nat) : Bool :=
  decide (4 ≤ y.chan.rejects.getD layer 0)
    || (!y.chan.opcDue && ((y.chan.opcAt[layer]?).join).isSome)

/-- Everything a row start or a resumption needs but the gate's own conditions (R219, R221, R338, R399). -/
def mayWrite (s : State) (b : BayId) (a : ArchSet) (d : SetDisc) (q : Int) : Bool :=
  let y := bayAt s b
  y.servo.state == 6 && y.servo.layer == d.layer && rowOfTrack y.servo.track == q
    && (y.work == 3 || y.work == 5) && !d.resync && d.serial != [] && a.plan.inStore
    && opcReady y d.layer && y.servo.calibrated d.layer (groupOf (4 * q))

/-- Table of a row on a bay's disc. -/
def rowTable (s : State) (b : BayId) (a : ArchSet) (layer : Nat) (q : Int) : List Byte :=
  strategyTable s (bayAt s b).chan.family (strategyIndex s a.plan layer (4 * q))

/-- The head front end holds a table in one of 16 slots; the oldest gives way (R326). -/
def Cway.loadTable (t : Nat) (c : Cway) : Cway :=
  if c.slots.any (fun p => p.2 == t) then c
  else if c.slots.length < 16 then { c with slots := c.slots ++ [(c.slots.length, t)] }
  else match c.slots with
    | [] => c
    | p :: rest => { c with slots := rest ++ [(p.1, t)] }

/-- The next angle at or after now at which a bay reaches a row's start plus an offset, given as the row's start. -/
def nextStart (now start off : Nat) : Nat :=
  let a := now / revUnits * revUnits + start + off
  let back := if now + revUnits ≤ a then a - revUnits else a
  (if back < now then back + revUnits else back) - off

/-- Angle a row's frames take: one revolution from the row's start; the eight wedges up to the next row's start,
968 wedges on, stay free (R249). -/
def rowSpan : Nat :=
  revUnits

/-- Queue a row's events: powers and write gate (R282, R355). -/
def queueRow (b : BayId) (start gate arg : Nat) (s : State) : State :=
  enqueue b { stamp := start + rowSpan, kind := 1, arg := 0 }
    (enqueue b { stamp := gate, kind := 5, arg := 0 } (enqueue b { stamp := start, kind := 2, arg := arg } s))

/-- ROW_START (R219, R279, R282, R285): the whole row is staged and the loops are in mode write, or the row passes. -/
def execRowStart (b : BayId) (s : State) : Host.Outcome State Fault Refusal :=
  match writingOn s b with
  | none => .next s
  | some (a, d) =>
    match nextRow a.plan d with
    | none => .next s
    | some (q, fs) =>
      let y := bayAt s b
      if d.staged = 0 ∨ y.chan.rowActive ∨ y.chan.resumeFrom.isSome ∨ mayWrite s b a d q = false then .next s
      else
        let tbl := rowTable s b a d.layer q
        let start := nextStart (presentAngle s b) (rowStart d.layer q) 0
        let factor := tableFactor tbl
        let s1 := modBay b
          (fun y0 =>
            let y := takePolicy s y0
            { y with
            cway := y.cway.loadTable (256 * y.chan.family + strategyIndex s a.plan d.layer (4 * q))
            chan := { y.chan with
              frames := fs.map fun f => { f with content := discContent s a d f.planned }
              rowActive := true
              rowOf := q
              rowStart := start
              rowFail := 0
              asymSum := [0, 0, 0, 0]
              asymN := [0, 0, 0, 0]
              saturated := satAdd 4294967295 y.chan.saturated (saturatedIn s b d.layer factor fs) } }) s
        .next (queueRow b start start (powerArg s b d.layer factor) s1)

/-- The frames of a bay's row still to be marked on one spot, by slot, and those marked before (R221, R278). -/
def Chan.spotFrames (c : Chan) (spot : Nat) : List (Nat × List Bool) × List Nat :=
  let mine := c.frames.filter fun f => f.spot == spot
  (((mine.filter fun f => decide (f.st < 3)).map fun f => (pfaSlot f.pfa, FrameW.bits f)),
   ((mine.filter fun f => decide (3 ≤ f.st ∧ f.st ≠ 5)).map fun f => pfaSlot f.pfa))

/-- The write symbol cells with which a bay writes data segment w of sector k of its row on one spot, from the SC of the segment's first
channel bit; blank fields at a segment's end get no cells (R322 to R324). -/
def Bay.segmentCells (y : Bay) (spot slot k w sc : Nat) : List (List Byte) :=
  let fs := y.chan.spotFrames spot
  let image := segmentImage (4 * y.chan.rowOf + (spot : Int)) k w fs.1 fs.2
  let lead := (image.takeWhile Option.isNone).length
  let bits := (((image.drop lead).reverse.dropWhile Option.isNone).reverse).map fun o => o.getD false
  symbolCells spot y.cway.epoch slot 0 ((bits.length + 383) / 384) (sc + lead) bits

/-! ### After a row, a layer, a disc, a set (R222, R224, R225, R270 to R274, R291, R393) -/

/-- Every object of a set is Archived-Resident with its catalogue entry (R225): event 113. -/
def setArchived (a : ArchSet) (s : State) : State :=
  let serialOf := fun (role : Nat) => ((a.discs.find? fun d => d.role == role).map SetDisc.serial).getD []
  let put := fun (t : State) (e : Extent) =>
    let t1 := modObj e.obj
      (fun o => { o with
        arch := if o.contentGone then .released else .archivedResident
        setId := a.sid, role := e.disc, serial := serialOf e.disc, first := e.first
        done := e.count, changed := nowNs s }) t
    match objOf t e.obj with
    | some o =>
      if o.contentGone then t1
      else setZone { zoneOf t o.nsid o.zone with arch := .archivedResident, changed := nowNs s } t1
    | none => t1
  let s1 := a.plan.extents.foldl put s
  let s2 := { s1 with
    ebb := { s1.ebb with
      sets := s1.ebb.sets.filter fun x => x.sid != a.sid
      archived := s1.ebb.archived ++ [(a.sid, a.discs)] } }
  raise 113 0 (evBytes 4 a.sid) (tideRecord s2)

/-- A disc has closed (R224): its bay unloads it; a replacement raises event 115; the last disc archives the set. -/
def discClosed (b : BayId) (sid : Nat) (d : SetDisc) (s : State) : State :=
  let s1 := modDisc sid d.role (fun d => { d with status := .closed, claimed := false, part := 4, staged := 0 }) s
  let s2 := modBay b (fun y => { y.noDisc with disc := 4 }) s1
  let s3 := if d.replacement ∧ isRecon s sid = false then raise 115 0 (evBytes 4 sid ++ [d.role]) s2 else s2
  let s4 := postUnload b 6 s3
  match setOf s4 sid with
  | some a => if isRecon s4 sid = false ∧ a.discs.all (fun d => d.status == .closed) then setArchived a s4 else s4
  | none => s4

/-- A progress record of a disc (R222). -/
def SetDisc.progress (d : SetDisc) : SetDisc :=
  { d with progLayer := d.layer, progRow := d.row, progSlot := d.slot, confirmedRows := 0 }

/-- Where a disc stands once the row with these frames has ended. -/
def SetDisc.afterRow (plan : Plan) (fs : List FrameW) (d : SetDisc) : SetDisc :=
  match d.part with
  | 0 =>
    let ok := d.row == 0 && fs.any fun f => f.st == 3
    ({ d with
      row := d.row + 1
      identity := d.identity || ok
      status := if ok ∧ d.status = DiscStatus.pending then .writing else d.status }).nextPart plan
  | 1 =>
    let d1 := { d with row := d.row + 1, confirmedRows := d.confirmedRows + 1 }
    (if 64 ≤ d1.confirmedRows then d1.progress else d1).nextPart plan
  | 2 =>
    let top := maxOf (fs.map fun f => (pfaTrack f.pfa - 154048) * 155 + pfaSlot f.pfa + 1)
    ({ d with row := top }).nextPart plan
  | 3 =>
    let total := layerRecords d.slips
    let n := tailAfter (pairValid fs d.layer d.tailPair) total d.tailDone
    let d1 := { d with tailPair := d.tailPair + 1, tailDone := n }
    if n < total then d1
    else if d.layer < 23 then (d1.progress).toLayer (d.layer + 1)
    else { d1.progress with status := .verified, part := if total < n then 4 else 3 }
  | _ => d

/-- Move each spot's trim one step toward the target (R291). -/
def trimStep (target : Int) (c : Chan) : List Int :=
  c.trims.mapIdx fun i t =>
    let n := c.asymN.getD i 0
    let sum := c.asymSum.getD i 0
    if n = 0 then t
    else clampInt (-80) 80 (if sum < target * n then t + 5 else if target * n < sum then t - 5 else t)

/-- The tracking set-point steps to the next row in a ramp of 6 wedges (R393). -/
def stepRow (b : BayId) (q : Int) (s : State) : State :=
  modBay b
    (fun y =>
      if y.servo.state = 6 ∧ rowOfTrack y.servo.track + 1 = q then
        { y with
          servo := { y.servo with
            track := 4 * q
            rampT := {
              on := true
              m0 := 4 * (q - 1) * 32768 + 49152
              r := 4 * q * 32768 + 49152
              t := 0
              dur := 6 * y.tb.period / 1000
              h := y.tb.period / 1000 } } }
      else y) s

/-- The tail-map pair that a row has written, as it stands on the disc (R270). -/
def writtenPairs (d : SetDisc) (fs : List FrameW) : List TailPair :=
  let read := fun (i : Nat) => match fs[i]? with
    | some f => if f.st = 3 then f.content else []
    | none => []
  if d.part = 3 then [{ layer := d.layer, n := d.tailPair, primary := read 0, copy := read 1 }] else []

/-- The row in writing has ended: every frame of it is confirmed or slipped. -/
def rowDone (b : BayId) (s : State) : State :=
  match writingOn s b with
  | none => s
  | some (a, d) =>
    let y := bayAt s b
    let target := tableTarget (rowTable s b a d.layer y.chan.rowOf)
    let d1 := { d.afterRow a.plan y.chan.frames with staged := d.staged - 1 }
    let s1 := modBay b
      (fun y => { y with
        chan := { y.chan with
          trims := trimStep target y.chan, tails := y.chan.tails ++ writtenPairs d y.chan.frames, frames := [], rowActive := false, resumeFrom := none, rowFail := 0 } }) s
    let s2 := modDisc a.sid d.role (fun _ => d1) s1
    let s3 := if d1.progRow = d.progRow ∧ d1.progLayer = d.progLayer ∧ d1.status = d.status then s2 else tideRecord s2
    if d1.part = 4 then discClosed b a.sid d1 s3
    else match nextRow a.plan d1 with
      | some (q, _) => stepRow b q s3
      | none => s3

/-- No frame of the row is still to be written or decided. -/
def rowEnded (c : Chan) : Bool :=
  c.rowActive && c.frames.all fun f => f.st == 3 || f.st == 4

/-! ### Acceptance (R220, R292 to R295) -/

/-- The first criterion of Table 8.5 a read-back fails; 0 when it meets them all. Missing samples count with the first. A frame with more
than half its bits flagged has no hard decode (R301). -/
def criterion (s : State) (b : BayId) (target : Int) (gap : Bool) (rx : Rx) (w : FrameW) (f : FrameRead) : Nat :=
  let t := pfaTrackInt w.pfa
  if f.samples = false ∨ gap then 1
  else if (match f.sync with | some d => decide (16 < d.natAbs) | none => true) then 1
  else if (match f.hard with | some n => decide (12 < n) | none => true) || mostlyFlagged t (pfaSlot w.pfa) rx then 2
  else if policyOf s b 1 < f.bits then 3
  else if f.content ≠ w.content then 4
  else if policyOf s b 2 < frameRun t (pfaSlot w.pfa) rx then 5
  else if policyOf s b 3 < (f.asym - target).natAbs then 6
  else if 200 < f.us then 7
  else 0

/-- One more frame of an object is inscribed and verified (Table 2.14). -/
def countInscribed (a : ArchSet) (d : SetDisc) (pfa : Nat) (s : State) : State :=
  if 0x80 ≤ d.role ∨ isRecon s a.sid ∨ 154048 ≤ pfaTrackInt pfa ∨ pfaTrackInt pfa < 0 then s
  else
    let p := blockOfSlot (pfaLayer pfa) (pfaTrack pfa) (pfaSlot pfa)
    if 112 ≤ p.2 then s
    else match a.plan.at' d.role (p.1 * 112 + p.2) with
      | some (o, _) => modObj o (fun x => { x with done := min x.lbas (x.done + 1) }) s
      | none => s

/-- A frame is confirmed. -/
def frameConfirmed (b : BayId) (a : ArchSet) (d : SetDisc) (idx : Nat) (f : FrameW) (asym : Int) (s : State) : State :=
  countInscribed a d f.planned
    (modBay b
      (fun y => { y with
        chan := { y.chan with
          frames := modNth y.chan.frames idx fun f => { f with st := 3 }
          begun := satAdd 18446744073709551615 y.chan.begun 1
          confirmed := satAdd 18446744073709551615 y.chan.confirmed 1
          gaps := y.chan.gaps.filter (· != f.spot)
          runFail := modNth y.chan.runFail f.spot fun _ => 0
          asymSum := modNth y.chan.asymSum f.spot (· + asym)
          asymN := modNth y.chan.asymN f.spot (· + 1) } }) s)

/-- A verify stop (R295): the gate drops, and OPC must run before writing resumes. -/
def verifyStop (b : BayId) (s : State) : State :=
  dropGate b 7
    (modBay b (fun y => { y with chan := { y.chan with opcDue := true, runFail := [0, 0, 0, 0] } }) s)

/-- A frame with marks is not confirmed: it is counted and slipped (R220, R293), and may stop the bay (R295). -/
def frameFailed (b : BayId) (a : ArchSet) (d : SetDisc) (idx : Nat) (f : FrameW) (crit : Nat) (s : State) : State :=
  let s1 := modBay b
    (fun y => { y with
      chan := { y.chan with
        frames := modNth y.chan.frames idx fun f => { f with st := 4 }
        begun := satAdd 18446744073709551615 y.chan.begun 1
        slipped := satAdd 18446744073709551615 y.chan.slipped 1
        gaps := y.chan.gaps.filter (· != f.spot)
        byCriterion := if crit = 0 then y.chan.byCriterion else modNth y.chan.byCriterion (crit - 1) (satAdd 4294967295 1)
        runFail := modNth y.chan.runFail f.spot (· + 1)
        rowFail := y.chan.rowFail + 1 } }) s
  let s2 := if f.slips then slipFrame a.sid d.role f.planned s1 else s1
  let c := (bayAt s1 b).chan
  let quarter := decide (c.frames.length < 4 * c.rowFail ∧ 4 * (c.rowFail - 1) ≤ c.frames.length)
  if decide (8 ≤ c.runFail.getD f.spot 0) || quarter then verifyStop b s2 else s2

/-- FRAME_DECISION (R292, R293): a frame whose marks have begun is judged once. A read-back that completes after the gate
dropped is discarded. -/
def execFrameDecision (b : BayId) (idx : Nat) (r : FrameRead) (s : State) : Host.Outcome State Fault Refusal :=
  match writingOn s b, (bayAt s b).chan.frames[idx]? with
  | some (a, d), some f =>
    let y := bayAt s b
    let begun := y.chan.rowStart + f.start + unitsOfNs y.tb y.cway.latency ≤ presentAngle s b
    if y.chan.rowActive = false ∨ y.chan.resumeFrom.isSome ∨ 3 ≤ f.st ∨ ¬begun then .next s
    else
      let target := tableTarget (rowTable s b a d.layer y.chan.rowOf)
      let c := criterion s b target (y.chan.gaps.contains f.spot) y.chan.rx f r
      let s1 := if c = 0 then frameConfirmed b a d idx f r.asym s else frameFailed b a d idx f c s
      .next (if rowEnded (bayAt s1 b).chan then rowDone b s1 else s1)
  | _, _ => .next s

/-- Frames still to be written of a row, and the lowest offset of them. -/
def resumeOffset (fs : List FrameW) : Option Nat :=
  match fs.filter fun f => decide (f.st < 3 ∨ f.st = 5) with
  | [] => none
  | f :: rest => some (minOf f.start (rest.map FrameW.start))

/-- WRITE_RESUME (R221, R281): the row goes on from its first unwritten frame, encoded again; a row that a gate drop left
with nothing to write has ended. -/
def execWriteResume (b : BayId) (s : State) : Host.Outcome State Fault Refusal :=
  match writingOn s b with
  | none => .next s
  | some (a, d) =>
    let y := bayAt s b
    if rowEnded y.chan then .next (rowDone b s)
    else match y.chan.resumeFrom, resumeOffset y.chan.frames with
      | some _, some off =>
        if y.cway.wg ∨ mayWrite s b a d y.chan.rowOf = false then .next s
        else
          let start := nextStart (presentAngle s b) (rowStart d.layer y.chan.rowOf) off
          let factor := tableFactor (rowTable s b a d.layer y.chan.rowOf)
          let s1 := modBay b
            (fun y => { y with
              chan := { y.chan with
                rowActive := true
                rowStart := start
                frames := y.chan.frames.map fun f => if f.st = 5 then { f with st := 0 } else f } }) s
          .next (queueRow b start (start + off) (powerArg s b d.layer factor) s1)
      | _, _ => .next s

/-! ### Optimum power calibration (R286 to R290) -/

/-- Preconditions of OPC (R287). -/
def opcMayRun (s : State) (b : BayId) (l : Nat) : Bool :=
  let y := bayAt s b
  y.spin.state == 4 && y.spin.target == 7200 && y.servo.state == 3 && y.servo.layer == l
    && y.servo.closed 0 && y.servo.closed 1 && y.servo.closed 2 && y.servo.closed 6
    && y.cway.state == 2 && y.laserOn && !y.cway.faults.getLsbD 0 && !y.cway.faults.getLsbD 1
    && decide (y.chan.testRow.getD l 0 < 512)

/-- P0 of a calibration (R288). -/
def opcBase (y : Bay) (l : Nat) : Nat :=
  if ((y.chan.opcAt[l]?).join).isSome ∧ y.chan.power.getD l 0 ≠ 0 then y.chan.power.getD l 0 else y.startPower.getD l 0

/-- Power of step n, in units of 0.01 mW / (10 × 1000^19) (R288). -/
def opcPower (p0 n : Nat) : Nat :=
  7 * p0 * 1035 ^ n * 1000 ^ (19 - n)

/-- Steps in a row, from step n on, whose asymmetry rises. -/
def risingFrom (a : List Int) : Nat → Nat → Nat
  | 0, _ => 0
  | k + 1, n =>
    match a[n]?, a[n + 1]? with
    | some x, some y => if x < y then 1 + risingFrom a k (n + 1) else 0
    | _, _ => 0

/-- Rises in a row that end at step n. -/
def risingTo (a : List Int) : Nat → Nat
  | 0 => 0
  | n + 1 =>
    match a[n]?, a[n + 1]? with
    | some x, some y => if x < y then 1 + risingTo a n else 0
    | _, _ => 0

/-- The lower step of the bracket of a target that lies in a rise of at least 12 steps (R289). -/
def opcBracket (target : Int) (a : List Int) : Option Nat :=
  (List.range (a.length - 1)).find? fun n =>
    decide (a.getD n 0 ≤ target ∧ target ≤ a.getD (n + 1) 0 ∧ a.getD n 0 < a.getD (n + 1) 0)
      && decide (12 ≤ risingTo a n + 2 + risingFrom a 20 (n + 1))

/-- The interpolated power [0.01 mW], to the nearest, and the nearest step (R288, R289). -/
def opcResult (p0 n : Nat) (target : Int) (a : List Int) : Nat × Nat :=
  let lo := opcPower p0 n
  let hi := opcPower p0 (n + 1)
  let up := (target - a.getD n 0).toNat
  let span := (a.getD (n + 1) 0 - a.getD n 0).toNat
  let den := 10 * 1000 ^ 19 * span
  ((2 * (lo * span + up * (hi - lo)) + den) / (2 * den), if 2 * up ≤ span then n else n + 1)

/-- The accepted result of an OPC row, if any (R289). -/
def opcAccepts (s : State) (b : BayId) (l : Nat) (steps : List OpcStep) : Option Nat :=
  let y := bayAt s b
  let target := tableTarget (strategyTable s y.chan.family (cellByte (dom s 0x4400 3) (24 * l)))
  let a := (steps.take 20).map OpcStep.asym
  match opcBracket target a with
  | none => none
  | some n =>
    let r := opcResult (opcBase y l) n target a
    let sp := y.startPower.getD l 0
    let rate := ((steps[r.2]?).map OpcStep.rate).getD 0
    if 75 * sp ≤ 100 * r.1 ∧ 100 * r.1 ≤ 130 * sp ∧ rate ≤ 100 * policyOf s b 4 then some r.1 else none

/-- A refused or rejected OPC raises the bay's calibration-rejected event (R287). -/
def opcEvent (b : BayId) (l : Nat) (s : State) : State :=
  raiseBay b 8 3 [l] s

/-- OPC (R286 to R290): refused on a failed precondition; else one test-band row is used up, and its result accepted or
rejected. No more than four are rejected on a layer of a disc. -/
def execOpc (b : BayId) (layer : Nat) (steps : List OpcStep) (s : State) : Host.Outcome State Fault Refusal :=
  if 24 ≤ layer ∨ bayEnabled s b = false ∨ 4 ≤ (bayAt s b).chan.rejects.getD layer 0 then .next s
  else if opcMayRun s b layer = false then .next (opcEvent b layer s)
  else
    let s1 := modBay b (fun y => { y with chan := { y.chan with testRow := modNth y.chan.testRow layer (· + 1) } }) s
    match opcAccepts s b layer steps with
    | some w =>
      .next (modBay b
        (fun y =>
          let at' := modNth y.chan.opcAt layer fun _ => some s.clock
          { y with
            cway := { y.cway with newHead := y.cway.newHead && !at'.all Option.isSome }
            chan := { y.chan with
              power := modNth y.chan.power layer fun _ => w
              trims := [0, 0, 0, 0]
              opcAt := at'
              opcDue := false
              opcAccepted := satAdd 4294967295 y.chan.opcAccepted 1 } }) s1)
    | none =>
      .next (opcEvent b layer (modBay b
        (fun y => { y with
          chan := { y.chan with
            rejects := modNth y.chan.rejects layer (· + 1)
            opcRejected := satAdd 4294967295 y.chan.opcRejected 1 } }) s1))

/-! ### The read path and the recovery ladder (R300 to R306, R309) -/

/-- Count a frame by its final step: 0 to 4 for steps 1 to 5, 5 unrecovered. -/
def countStep (n : Nat) (c : Chan) : Chan :=
  { c with byStep := modNth c.byStep n (satAdd 18446744073709551615 1) }

/-- A frame read from disc with its corrected bits (3050h.06, .0A). -/
def countFrame (step1 : Bool) (bits : Nat) (c : Chan) : Chan :=
  { c with read := satAdd 18446744073709551615 c.read 1, corrected := if step1 then (bits :: c.corrected).take 65536 else c.corrected }

/-- A bay whose link and timebase let it read. -/
def mayRead (s : State) (b : BayId) : Bool :=
  bayEnabled s b && !(bayAt s b).harbour && (bayAt s b).cway.state == 2 && (bayAt s b).servo.closed 1

/-- The archived disc that stands in a bay, and its set's plan: by its serial in the catalogue. -/
def archivedIn (s : State) (b : BayId) : Option (Plan × Nat) :=
  (s.ebb.archived.find? fun p => p.2.any fun d => d.serial != [] && d.serial == (bayAt s b).serial).bind fun p =>
    (p.2.find? fun d => d.serial == (bayAt s b).serial).map fun d => (cataloguePlan s p.1, d.role)

/-- A decoded frame passes the checks of R200 for the slot it was read from: a system frame by its CRC, a frame of an outer block by what
the plan of the disc places at the position whose frame stands there. A slot that holds no frame, a position whose frame was remapped and a
reserve slot that no remap record names are erasures (R261, R264, R276). A disc that neither a set nor the catalogue knows expects nothing. -/
def readOk (s : State) (b : BayId) (pfa : Nat) (f : List Byte) : Bool :=
  let t := pfaTrackInt pfa
  if f.length ≠ 4128 ∨ slotHolds (pfaLayer pfa) t (pfaSlot pfa) = false then false
  else match areaOf t, positionIn (bayAt s b).chan.tails pfa with
    | .data, some pos | .reserve, some pos =>
      match writingOn s b, archivedIn s b with
      | some (a, d), _ => planFrameOk s a.plan d.role pos f
      | none, some (p, role) => planFrameOk s p role pos f
      | none, none => true
    | .data, none | .reserve, none => false
    | _, _ => systemReadOk f

/-- DISC_FRAME_DECODE (R299 to R302): the frame's ratios go to the decoders; a decode that passes the checks of R200 ends the ladder at
step 1, else step 2 begins with filters trained afresh. -/
def execDiscFrameDecode (b : BayId) (pfa : Nat) (content : List Byte) (bits : Nat) (s : State) :
    Host.Outcome State Fault Refusal :=
  if mayRead s b = false then .next s
  else
    let ok := readOk s b pfa content
    .next (modBay b
      (fun y =>
        let c := countFrame ok bits { y.chan with soft := frameLlrs (pfaTrackInt pfa) (pfaSlot pfa) y.chan.rx }
        { y with
          chan := if ok then { (countStep 0 c) with step2 := 0 }
            else { c with step2 := 1, ladderAt := pfa, rx := c.rx.afresh } }) s)

/-- LADDER_STEP2_REVOLUTION (R302, R306): up to three further revolutions. After the third a frame that still fails is an
erasure for step 3; a read that has no step 3 ends unrecovered. -/
def execLadderStep2Revolution (b : BayId) (content : List Byte) (s : State) : Host.Outcome State Fault Refusal :=
  if mayRead s b = false ∨ (bayAt s b).chan.step2 = 0 then .next s
  else
    let ok := readOk s b (bayAt s b).chan.ladderAt content
    .next (modBay b
      (fun y =>
        let c := { y.chan with soft := frameLlrs (pfaTrackInt y.chan.ladderAt) (pfaSlot y.chan.ladderAt) y.chan.rx }
        { y with
          chan := if ok then { (countStep 1 c) with step2 := 0 }
            else if c.step2 < 3 then { c with step2 := c.step2 + 1 }
            else if y.work = 4 ∨ y.work = 5 then { c with step2 := 0 }
            else { (countStep 5 c) with step2 := 0 } }) s)

/-- Clear the channel statistics (R309): 3050h.01 to .0B and the saturation count. -/
def clearChannel (b : BayId) (s : State) : State :=
  modBay b
    (fun y => { y with
      chan := { y.chan with
        begun := 0
        confirmed := 0
        slipped := 0
        withdrawn := 0
        byCriterion := List.replicate 8 0
        read := 0
        byStep := List.replicate 6 0
        reallocated := 0
        flaggedRuns := 0
        corrected := []
        opcAccepted := 0
        opcRejected := 0
        saturated := 0 } }) s

/-- A bay is writing in the sense of R284: a set's disc, an optimum power calibration of it, or a reallocation. -/
def anyWriting (s : State) : Bool :=
  allBays.any fun b =>
    (bayAt s b).work == 3 || (discOn s b).isSome
      || s.ebb.recalls.any fun r => r.bay == some b && r.todo != []

/-! ### Errors in the drain buffers (Table 5.4) -/

/-- A staged frame fails its check: once its row has started it is slipped, before that it is read from flash again. -/
def drainLost (hit : MemHit) (s : State) : State :=
  if h : hit.what.1 < 16 then
    let b : BayId := ⟨hit.what.1, h⟩
    match writingOn s b, (bayAt s b).chan.frames[hit.what.2]? with
    | some (a, d), some f =>
      let y := bayAt s b
      if y.chan.rowActive = false ∨ presentAngle s b < y.chan.rowStart ∨ (3 ≤ f.st ∧ f.st ≠ 5) then s
      else
        let s1 := modBay b
          (fun y => { y with
            chan := { y.chan with
              frames := modNth y.chan.frames hit.what.2 fun f => { f with st := 4 }
              slipped := satAdd 18446744073709551615 y.chan.slipped 1 } }) s
        if f.slips then slipFrame a.sid d.role f.planned s1 else s1
    | _, _ => s
  else s

/-- Errors met in the memories, those of the drain buffers and of write staging among them. -/
def memHits (hits : List MemHit) (s : State) : State :=
  let drain := hits.filter fun h => h.part == .hbm && hitKind s h == .uncorrectable && hbmArea h.addr == .drain
  drain.foldl (fun t h => drainLost h t) (loseStaging hits (memErrors hits s))

/-- Place of a hit in the order of a patrol: lines of HBM; words of the metadata cache and scratchpad, the coefficient store, Tidemark. -/
def patrolPlace (h : MemHit) : Nat :=
  match h.part with
  | .hbm => h.addr / 128
  | .cache | .scratch => h.addr
  | .coeff => 4194304 + h.addr
  | .tide => 4456448 + h.addr

/-- A hit lies among the n lines or words that a patrol reads from a place on; an unwritten word is skipped (R194). -/
def patrolled (s : State) (hbm : Bool) (n : Nat) (h : MemHit) : Bool :=
  let at_ := if hbm then s.mem.hbmAt else s.mem.sramAt
  let total := if hbm then hbmLines else sramWords
  (h.part == .hbm) == hbm && hitKind s h != .unwritten && decide ((patrolPlace h + total - at_) % total < n)

/-- SOUNDING_PATROL (R193, R194): errors are reported, corrected values written back; unwritten words are skipped. -/
def execSoundingPatrol (hbm : Bool) (words : Nat) (hits : List MemHit) (s : State) : Host.Outcome State Fault Refusal :=
  let on := bitOf (num s 0x2620 5) (if hbm then 0 else 1)
  if on = false ∨ s.phase ≠ .running ∨ 3 ≤ s.pwr.ps then .next s
  else
    let s1 := memHits (hits.filter (patrolled s hbm words)) s
    if hbm then
      let r := patrolStep s1.mem.hbmAt words hbmLines
      .next { s1 with mem := { s1.mem with hbmAt := r.1, hbmPasses := s1.mem.hbmPasses + r.2 } }
    else .next { s1 with mem := { s1.mem with sramAt := (patrolStep s1.mem.sramAt words sramWords).1 } }

end Sys2Proof.Machine
end

