-- ==== Sys2Proof/Machine/Ebb.lean ====
section
/-! DEFINITION. Ebb, the drain engine (R204 to R236): plans, set starts and the claims on free bays, staging, replacement
discs, reconstruction, resynchronisation, reallocation and recalls. -/

namespace Sys2Proof.Machine

open Sys2Proof

/-! ### Plans (R209 to R217) -/

/-- Queued objects outside plans, oldest first. -/
def outsidePlans (s : State) : List Obj :=
  let planned := (s.ebb.plans ++ s.ebb.building.toList).flatMap fun p => p.extents.map Extent.obj
  (s.ebb.queue.filter fun id => !planned.contains id).filterMap (objOf s)

/-- The order in which a build takes objects: the oldest, those of its nonzero affinity tag, then the rest (R210). -/
def buildOrder : List Obj → List Obj
  | [] => []
  | o :: rest =>
    if o.affinity = 0 then o :: rest
    else o :: (rest.filter fun x => x.affinity == o.affinity) ++ rest.filter fun x => x.affinity != o.affinity

/-- A build in progress: per data disc the first unassigned user frame and the number of objects, then the extents and
whether an object did not fit. -/
structure Fill where
  /-- First unassigned user frame and objects of each data disc. -/
  discs : List (Nat × Nat) := []
  /-- Extents so far, newest first. -/
  extents : List Extent := []
  /-- An object fitted no disc. -/
  left : Bool := false
  deriving DecidableEq, Repr

/-- Place an object whole on the lowest data disc with room (R210, R269). -/
def placeObj (f : Fill) (o : Obj) : Fill :=
  match f.discs.findIdx? fun d => decide (d.1 + o.lbas ≤ userFrames ∧ d.2 < 4194304) with
  | some i =>
    { f with
      discs := modNth f.discs i fun d => (d.1 + o.lbas, d.2 + 1)
      extents := { obj := o.oid, disc := i, first := (f.discs.getD i (0, 0)).1, count := o.lbas } :: f.extents }
  | none => { f with left := true }

/-- The placement of the queued objects on k data discs (R210). -/
def placeAll (s : State) (k : Nat) : Fill :=
  (buildOrder (outsidePlans s)).foldl placeObj { discs := List.replicate k (0, 0) }

/-- k of R16, when H − 2 reaches 4 (R17). -/
def setWidth (s : State) : Option Nat :=
  let h := faultFree s
  if h < 6 then none else some (min (num s 0x2800 1) (h - 2))

/-- A queued object has waited longer than 2800h.02 (R209). -/
def oldEnough (s : State) : Bool :=
  match outsidePlans s with
  | o :: _ => decide (num s 0x2800 2 ≠ 0 ∧ num s 0x2800 2 * 1000000000 < nowNs s - o.queuedAt)
  | [] => false

/-- PLAN_BUILD_START (R209 to R211): a plan is begun when the conditions of R209 hold. -/
def execPlanBuildStart (mem : List MemHit) (s : State) : Host.Outcome State Fault Refusal :=
  let s1 := memHits mem s
  match setWidth s1 with
  | none => .next s1
  | some k =>
    let f := placeAll s1 k
    if s1.phase ≠ .running ∨ 3 ≤ s1.pwr.ps ∨ s1.tierState = 2 ∨ s1.ebb.building.isSome
        ∨ num s1 0x2810 5 ≤ s1.ebb.plans.length ∨ f.extents = [] ∨ 0xFFFFFF < s1.ebb.nextSet
        ∨ (f.left || oldEnough s1 || s1.ebb.startNow) = false then .next s1
    else .next (touchLine (planAddr s1.ebb.nextSet) true { s1 with
      ebb := { s1.ebb with
        building := some { setId := s1.ebb.nextSet, k := k, extents := f.extents.reverse, inStore := true }
        buildAt := s1.clock
        startNow := false
        nextSet := s1.ebb.nextSet + 1 } })

/-- Return from PS2 to the ceiling when the power policy runs (R500). -/
def policyUp (s : State) : State :=
  if num s 0x2020 1 = 1 ∧ s.pwr.ps = 2 ∧ s.pwr.ceiling < 2 ∧ s.pwr.shaking.isNone ∧ s.phase = .running then
    raise 13 0 [2, s.pwr.ceiling] { s with pwr := { s.pwr with ps := s.pwr.ceiling } }
  else s

/-- PLAN_SEAL (R215, R500): digest, seal record in Tidemark, sealed. -/
def execPlanSeal (s : State) : Host.Outcome State Fault Refusal :=
  match s.ebb.building with
  | none => .next s
  | some p =>
    let m := dom s 0x4400 3
    let p1 := { p with
      strategy := m
      digest := Config.planDigest p.setId p.k (p.extents.map fun e => (e.obj, e.disc, e.first, e.count)) m
      sealedAt := s.clock }
    let s1 := tideRecord { s with
      ebb := { s.ebb with
        building := none, plans := s.ebb.plans ++ [p1], buildMs := (s.clock - s.ebb.buildAt) / 1600000 } }
    let s2 := applyCarveOut (touchLine (planAddr p.setId) true s1)
    .next (if num s 0x2800 7 = 1 then policyUp s2 else s2)

/-- Change the plan of a set, sealed and not started or started. -/
def modPlan (sid : Nat) (f : Plan → Plan) (s : State) : State :=
  { s with
    ebb := { s.ebb with
      plans := modWhere (fun p => p.setId == sid) f s.ebb.plans
      sets := modWhere (fun a => a.sid == sid) (fun a => { a with plan := f a.plan }) s.ebb.sets } }

/-- PLAN_REBUILD (R217): the plan is rebuilt from its seal record; its bays let their rows pass meanwhile. -/
def execPlanRebuild (sid : Nat) (s : State) : Host.Outcome State Fault Refusal :=
  .next (modPlan sid (fun p => { p with inStore := false }) s)

/-- The plan of a set that is being rebuilt. -/
def rebuiltPlan (s : State) (sid : Nat) : Option Plan :=
  (s.ebb.plans ++ s.ebb.sets.map ArchSet.plan).find? fun p => p.setId == sid && !p.inStore

/-- PLAN_DIGEST_CHECK (R217): the rebuilt plan is used, or event 117 is raised and the plan discarded or the set's open
discs failed. -/
def execPlanDigestCheck (sid : Nat) (digest : BitVec 64) (s : State) : Host.Outcome State Fault Refusal :=
  match rebuiltPlan s sid with
  | none => .next s
  | some p =>
    if digest = p.digest then .next (modPlan sid (fun p => { p with inStore := true }) s)
    else
      let s1 := raise 117 0 (evBytes 4 sid) s
      match setOf s1 sid with
      | some a => .next (a.discs.foldl (fun t d => discFailed sid d.role 5 t) s1)
      | none => .next { s1 with ebb := { s1.ebb with plans := s1.ebb.plans.filter fun p => p.setId != sid } }

/-! ### Bays and discs (R213, R214, R229, R233) -/

/-- Ebb gives out bays: the device runs, in PS0 or PS1 and in no transition, with its own tier (R213, R490). -/
def ebbRuns (s : State) : Bool :=
  s.phase == .running && decide (s.pwr.ps ≤ 1) && s.pwr.shaking.isNone && s.tierState != 2

/-- Free bays, lowest first. -/
def freeBays (s : State) : List BayId :=
  if ebbRuns s then allBays.filter (bayFree s) else []

/-- Set a bay to work. -/
def setWork (b : BayId) (w role : Nat) (s : State) : State :=
  modBay b (fun y => { y with work := w, role := role, misread := false, blankDue := false }) s

/-- Make the disc in a bay the one it writes for a set (R214, R285): it takes the disc's serial, every value that
describes the disc returns to its default, the family is chosen, and the spindle goes to 7,200 rpm. -/
def acceptDisc (b : BayId) (sid role : Nat) (s : State) : State :=
  let y := bayAt s b
  let fam := familyOf s y.lot
  let s1 := modDisc sid role (fun d => { d with serial := y.serial }) s
  let s2 := modBay b
    (fun y =>
      let z := y.newDisc
      { z with chan := { z.chan with family := fam, opcDue := false }, role := role }) s1
  startSpindle b 7200 (withdraw b s2)

/-- Ask for a blank disc for a bay's set disc (R214): one that is there already and blank is accepted; any other is
unloaded first. -/
def askBlank (b : BayId) (reason sid role : Nat) (s : State) : State :=
  let y := bayAt s b
  if y.present = false then postRequest b 1 reason [] s
  else if y.disc = 2 then acceptDisc b sid role s
  else postUnload b 7 s

/-- Ask for the disc of a serial (R233): it may be there already, and any other disc is unloaded first. -/
def askDisc (b : BayId) (reason rpm : Nat) (serial : List Byte) (s : State) : State :=
  let y := bayAt s b
  if y.present = false then postRequest b 2 reason serial s
  else if y.serial = serial then startSpindle b rpm (withdraw b s)
  else postUnload b 8 s

/-- The bay a disc is read in (R233): one that holds it, one with no disc, one with a closed disc. -/
def chooseBay (s : State) (serial : List Byte) : Option BayId :=
  let fs := freeBays s
  ((fs.find? fun b => (bayAt s b).present && (bayAt s b).serial == serial && serial != []).or
    (fs.find? fun b => !(bayAt s b).present)).or (fs.find? fun b => (bayAt s b).disc == 4)

/-- Serial that the catalogue gives an object's disc. -/
def serialOfObj (s : State) (id : Nat) : List Byte :=
  ((objOf s id).map Obj.serial).getD []

/-- Discs of an object's set other than its own, in role order. -/
def otherDiscs (s : State) (id : Nat) : List SetDisc :=
  match objOf s id with
  | some o => (archivedDiscs s o.setId).filter fun d => d.role != o.role
  | none => []

/-- Change a recall. -/
def modRecall (id : Nat) (f : Recall → Recall) (s : State) : State :=
  { s with ebb := { s.ebb with recalls := modWhere (fun r => r.obj == id) f s.ebb.recalls } }

/-- Give a waiting recall a bay (R233, R234). -/
def giveRecall (s : State) (r : Recall) : State :=
  if r.bay.isSome then s
  else
    let serial := serialOfObj s r.obj
    match chooseBay s serial with
    | none => s
    | some b =>
      let there := (bayAt s b).present && (bayAt s b).serial == serial
      askDisc b 2 9600 serial
        (setWork b 4 255 (modRecall r.obj (fun r => { r with bay := some b, loaded := there }) s))

/-- Bays for step 4 of a recall's ladder (R235): k free bays, in role order, or none yet. -/
def giveOthers (id : Nat) (s : State) : State :=
  let ds := (otherDiscs s id).take (widthOf s (((objOf s id).map Obj.setId).getD 0))
  if (freeBays s).length < ds.length then s
  else ds.foldl
    (fun t d =>
      match (chooseBay t d.serial).or (freeBays t).head? with
      | some b =>
        askDisc b 2 9600 d.serial
          (setWork b 4 255 (modRecall id (fun r => { r with others := r.others ++ [b] }) t))
      | none => t) s

/-- A waiting recall takes its bays: the one of its disc, or those that its step 4 waits for (R233, R235). -/
def serveRecall (s : State) (r : Recall) : State :=
  if r.bay.isNone then giveRecall s r
  else if r.step4 ∧ r.others = [] ∧ r.full = false then giveOthers r.obj s
  else s

/-- Waiting recalls take free bays in order of acceptance (R229). -/
def giveRecalls (s : State) : State :=
  s.ebb.recalls.foldl serveRecall s

/-- Every disc that step 4 needs has been identified in its bay. -/
def othersReady (s : State) (r : Recall) : Bool :=
  r.others != [] && (List.range r.others.length).all fun i =>
    match r.others[i]?, (otherDiscs s r.obj)[i]? with
    | some b, some d => (bayAt s b).present && (bayAt s b).serial == d.serial
    | _, _ => false

/-! ### The end of a recall (R73, R74, R235) -/

/-- A bay's work is done: a disc it holds is unloaded with reason 9, or its request withdrawn. -/
def releaseBay (s : State) (b : BayId) : State :=
  let s1 := setWork b 0 255 s
  if (bayAt s1 b).present then postUnload b 9 s1 else withdraw b s1

/-- A recall leaves the list; every disc it loaded is unloaded. -/
def endRecall (r : Recall) (s : State) : State :=
  let s1 := { s with ebb := { s.ebb with recalls := s.ebb.recalls.filter fun x => x.obj != r.obj } }
  (r.bay.toList ++ r.others).foldl releaseBay s1

/-- A recall fails (R74): its target zone is Empty, the object stays Released, event 121. -/
def failRecall (reason : Nat) (s : State) (r : Recall) : State :=
  let s1 := modObj r.obj
    (fun o => { o with recalling := false, recallFailed := reason, changed := nowNs s }) s
  let z := zoneOf s1 r.nsid r.zone
  let s2 := if z.st = .recallTarget then setZone { nsid := z.nsid, idx := z.idx } (noteChange z.nsid z.idx (nowNs s) (unbind z s1)) else s1
  raise 121 reason (evBytes 8 r.obj) (endRecall r (tideRecord s2))

/-- The last frame of a recall is in its zone (R73): Full and Archived-Resident, event 120. -/
def finishRecall (r : Recall) (s : State) : State :=
  let z := zoneOf s r.nsid r.zone
  let o := (objOf s r.obj).getD { }
  let s1 := setZone { z with
    st := .full, arch := .archivedResident, obj := r.obj, objLbas := o.lbas, setId := o.setId
    setK := widthOf s o.setId, affinity := o.affinity, changed := nowNs s, realloc := o.realloc } s
  let s2 := modObj r.obj
    (fun o => { o with
      arch := .archivedResident, nsid := r.nsid, zone := r.zone, recalling := false, done := o.lbas, changed := nowNs s }) s1
  raise 120 0 (evBytes 8 r.obj) (tideRecord s2)

/-- Enabled bays outside bay-Harbour (R236). -/
def countedBays (s : State) : Nat :=
  (allBays.filter fun b => bayEnabled s b && !(bayAt s b).harbour).length

/-- Recalls that the bays cannot serve fail (R236). -/
def checkRecalls (s : State) : State :=
  let n := countedBays s
  s.ebb.recalls.foldl
    (fun t r =>
      if r.full then t
      else if n = 0 then failRecall 5 t r
      else if r.step4 ∧ n < widthOf s (((objOf s r.obj).map Obj.setId).getD 0) + 1 then failRecall 6 t r
      else t) s

/-! ### Reconstruction (R230, R236) -/

/-- Mark the objects on the disc that is reconstructed (Table 2.14). -/
def markRecon (sid role : Nat) (on : Bool) (s : State) : State :=
  { s with
    ebb := { s.ebb with objs := modWhere (fun o => o.setId == sid && o.role == role) (fun o => { o with recon := on }) s.ebb.objs } }

/-- The reconstruction ends: status, event 122 with its cause, bays given back. -/
def endRecon (status : Nat) (s : State) : State :=
  let r := s.ebb.recon
  let s1 := markRecon r.setId r.role false { s with
    ebb := { s.ebb with
      recon := { r with status := status, bays := [], frames := [] }
      sets := s.ebb.sets.filter fun a => !(a.sid == r.setId && isRecon s a.sid) } }
  let held := r.bays.filter fun b => (bayAt s1 b).work == 5
  raise 122 status (evBytes 4 r.setId ++ [r.role]) (held.foldl releaseBay s1)

/-- A reconstruction that waits or runs fails when the bays no longer suffice (R236). -/
def checkRecon (s : State) : State :=
  let r := s.ebb.recon
  if (r.status = 1 ∨ r.status = 2) ∧ countedBays s < widthOf s r.setId + 1 then endRecon 4 s else s

/-- The k source discs of a reconstruction, in role order (R230). -/
def reconSources (s : State) (sid role : Nat) : List SetDisc :=
  ((archivedDiscs s sid).filter fun d => d.role != role).take (widthOf s sid)

/-- Start a waiting reconstruction once k + 1 bays are free together (R229, R230). -/
def startRecon (s : State) : State :=
  let r := s.ebb.recon
  let srcs := reconSources s r.setId r.role
  let bays := (freeBays s).take (srcs.length + 1)
  match r.status, bays.getLast? with
  | 1, some target =>
    if bays.length ≠ srcs.length + 1 then s
    else
      let lost := ((archivedDiscs s r.setId).find? fun d => d.role == r.role).map SetDisc.serial
      let d : SetDisc := {
        role := r.role, bay := target.val, status := .rebuilding, replacement := true, replaced := lost.getD []
        firstAsk := s.clock }
      let a : ArchSet := { sid := r.setId, k := widthOf s r.setId, plan := cataloguePlan s r.setId, discs := [d], startedAt := nowNs s }
      let s1 := markRecon r.setId r.role true { s with
        ebb := { s.ebb with recon := { r with status := 2, bays := bays }, sets := s.ebb.sets ++ [a] } }
      let s2 := bays.foldl (fun t b => setWork b 5 255 t) s1
      let s3 := (bays.zip srcs).foldl (fun t p => askDisc p.1 3 9600 p.2.serial t) s2
      askBlank target 3 r.setId r.role s3
  | _, _ => s

/-- Request a reconstruction (R230, R236). -/
def requestRecon (role : Nat) (s : State) : Except Abort State :=
  let sid := num s 0x2820 4
  let ds := archivedDiscs s sid
  let settled := s.ebb.objs.all fun o =>
    o.setId != sid || o.arch == .archivedResident || o.arch == .released
  if (0x0D < role ∧ role ≠ 0x80 ∧ role ≠ 0x81) then .error .range
  else if settled = false ∨ (ds.any fun d => d.role == role) = false ∨ s.ebb.recon.status = 1 ∨ s.ebb.recon.status = 2
      ∨ countedBays s < widthOf s sid + 1 then .error .state
  else .ok (policyUp { s with ebb := { s.ebb with recon := { setId := sid, role := role, status := 1 } } })

/-- RECONSTRUCTION_COMPLETE (R230, R306): done when the replacement has closed; failed when it was failed, or a frame
exhausted its ladder, or a disc was not to be had. -/
def execReconstructionComplete (failed : Bool) (s : State) : Host.Outcome State Fault Refusal :=
  let r := s.ebb.recon
  match r.status, (setOf s r.setId).bind fun a => a.discs.head? with
  | 2, some d =>
    if failed ∨ d.status = .failed then .next (endRecon 4 s)
    else if d.status = .closed then
      let s1 := { s with
        ebb := { s.ebb with
          archived := modWhere (fun p => p.1 == r.setId)
            (fun p => (p.1, modWhere (fun x => x.role == r.role) (fun _ => d) p.2)) s.ebb.archived
          objs := modWhere (fun o => o.setId == r.setId && o.role == r.role) (fun o => { o with serial := d.serial }) s.ebb.objs } }
      .next (endRecon 3 (tideRecord s1))
    else .next s
  | _, _ => .next s

/-! ### Replacement discs (R227 to R229) -/

/-- The first pending replacement: oldest set, role order (R229). -/
def pendingReplacement (s : State) : Option (Nat × SetDisc) :=
  s.ebb.sets.findSome? fun a =>
    if isRecon s a.sid then none
    else (a.discs.find? fun d => d.status == .failed && !d.claimed).map fun d => (a.sid, d)

/-- Pending replacement discs (2820h.02). -/
def pendingCount (s : State) : Nat :=
  sumOf (s.ebb.sets.map fun a =>
    if isRecon s a.sid then 0 else (a.discs.filter fun d => d.status == .failed && !d.claimed).length)

/-- Give a pending replacement a free bay (R227): the same role and plan on a new disc from its first row. -/
def giveReplacement (s : State) : State :=
  match pendingReplacement s, freeBays s with
  | some (sid, d), b :: rest =>
    let bay := ((b :: rest).find? fun x => (bayAt s x).disc == 2).getD b
    let s1 := modDisc sid d.role
      (fun d => { role := d.role, bay := bay.val, status := .rebuilding, replacement := true, replaced := d.serial, firstAsk := s.clock }) s
    let objs := ((setOf s sid).map fun a => (a.plan.onDisc d.role).map Extent.obj).getD []
    let s2 := objs.foldl (fun t id => modObj id (fun o => { o with done := 0 }) t) s1
    askBlank bay 4 sid d.role (setWork bay 3 d.role { s2 with ebb := { s2.ebb with window := 0 } })
  | _, _ => s

/-- Give bays to pending replacements while both last. -/
def giveReplacements : Nat → State → State
  | 0, s => s
  | n + 1, s => giveReplacements n (giveReplacement s)

/-- REPLACEMENT_START (R227, R229): waiting recalls come first. -/
def execReplacementStart (s : State) : Host.Outcome State Fault Refusal :=
  .next (giveReplacement (giveRecalls s))

/-- REPLACEMENT_PACING_WINDOW (R228): the next 10 s window begins. -/
def execReplacementPacingWindow (s : State) : Host.Outcome State Fault Refusal :=
  .next { s with ebb := { s.ebb with window := 0 } }

/-! ### Set boundaries (R213, R229) -/

/-- The set whose original discs are writing (2800h.08). -/
def writingSet (s : State) : Option ArchSet :=
  s.ebb.sets.find? fun a =>
    a.discs.any fun d => !d.replacement && d.status != .closed && d.status != .failed

/-- Sealed plans whose k is no longer that of R16 are discarded (R212). -/
def dropNarrow (k : Nat) (s : State) : State :=
  { s with ebb := { s.ebb with plans := s.ebb.plans.filter fun p => p.k == k } }

/-- Role of place j of a set: data discs, then P, then Q. -/
def roleAt (k j : Nat) : Nat :=
  if j < k then j else if j = k then 0x80 else 0x81

/-- Start a set on its free bays (R213, R214): rotated roles, objects Inscribing, blank discs asked for, event 112. -/
def startSet (p : Plan) (bays : List BayId) (s : State) : State :=
  let w := p.k + 2
  let pick := fun (j : Nat) => bays[(j + p.setId % w) % w]?
  let discs : List SetDisc := (List.range w).map fun j =>
    { role := roleAt p.k j, bay := ((pick j).map Fin.val).getD 0, firstAsk := s.clock }
  let s1 := { s with
    ebb := { s.ebb with
      plans := s.ebb.plans.filter fun x => x.setId != p.setId
      sets := s.ebb.sets ++ [{ sid := p.setId, k := p.k, plan := p, discs := discs, startedAt := nowNs s }]
      queue := s.ebb.queue.filter fun id => !p.extents.any fun e => e.obj == id } }
  let enter := fun (t : State) (e : Extent) =>
    let t1 := modObj e.obj
      (fun o => { o with arch := .inscribing, setId := p.setId, role := e.disc, first := e.first, done := 0, changed := nowNs s }) t
    match objOf t e.obj with
    | some o =>
      setZone { zoneOf t o.nsid o.zone with arch := .inscribing, setId := p.setId, setK := p.k, changed := nowNs s } t1
    | none => t1
  let s2 := p.extents.foldl enter s1
  let s3 := raise 112 0 (evBytes 4 p.setId ++ [p.k]) (tideRecord s2)
  (List.range w).foldl
    (fun t j => match pick j with
      | some b => askBlank b 1 p.setId (roleAt p.k j) (setWork b 3 (roleAt p.k j) t)
      | none => t) s3

/-- Claim 4: the next set (R213, R229). With a queued object and no sealed plan, event 125. -/
def nextSetStart (s : State) : State :=
  match setWidth s with
  | none => s
  | some k =>
    let s1 := dropNarrow k s
    if ebbRuns s1 = false then s1
    else match s1.ebb.plans with
      | [] => if s1.ebb.queue = [] then s1 else raise 125 0 [] s1
      | p :: _ =>
        if num s1 0x2800 7 = 0 ∨ s1.ebb.recon.status = 2 ∨ p.inStore = false ∨ (freeBays s1).length < k + 2 then s1
        else startSet p ((freeBays s1).take (k + 2)) s1

/-- SET_BOUNDARY (R213, R229, R233, R236): claims are served in their order. -/
def execSetBoundary (s : State) : Host.Outcome State Fault Refusal :=
  if (writingSet s).isSome ∨ s.phase ≠ .running then .next s
  else .next (nextSetStart (startRecon (giveReplacements 16 (giveRecalls (checkRecon (checkRecalls s))))))

/-! ### Staging (R207, R208, R219, R228) -/

/-- Place of a disc in the row order of its set, as staged. -/
def stagePlace (d : SetDisc) : Nat :=
  40000 * d.layer + (if d.part = 0 then 0 else if d.part = 1 then 1 + d.row + d.staged else 38482)

/-- Frames of the rows staged for a disc and of the next one. -/
def stagedFrames (plan : Plan) (d : SetDisc) : Nat :=
  if d.part = 1 then sumOf ((List.range (d.staged + 1)).map fun i => (dataRow d.layer (d.row + i)).length)
  else ((nextRow plan d).map fun r => r.2.length).getD 0

/-- Frames of 4,128 bytes that a bay's drain buffer of 320 MiB holds. -/
def bufferFrames : Nat :=
  335544320 / 4128

/-- Every live original disc of a set has been staged as far as this one. -/
def notAhead (a : ArchSet) (d : SetDisc) : Bool :=
  d.replacement || a.discs.all fun x => !x.live || x.replacement || decide (stagePlace d ≤ stagePlace x)

/-- Record the void frames of a row (R208): of an original disc, event 116 and a count for each; a replacement's are its own. -/
def countVoids (a : ArchSet) (d : SetDisc) (voids : List (Nat × Nat)) (s : State) : State :=
  if voids = [] then s
  else if d.replacement then modDisc a.sid d.role (fun d => { d with voids := d.voids ++ voids }) s
  else
    let s1 := { s with
      ebb := { s.ebb with
        sets := modWhere (fun x => x.sid == a.sid) (fun x => { x with voids := x.voids ++ voids }) s.ebb.sets } }
    voids.foldl
      (fun t v => raise 116 0 (evBytes 4 v.1 ++ evBytes 4 v.2) (modObj v.1 (fun o => { o with voids := o.voids + 1 }) t)) s1

/-- User frames of a disc that stand on frames of a row. -/
def rowUsers (fs : List FrameW) : List Nat :=
  fs.filterMap fun f =>
    let p := blockOfSlot (pfaLayer f.pfa) (pfaTrack f.pfa) (pfaSlot f.pfa)
    if p.2 < 112 then some (112 * p.1 + p.2) else none

/-- User frames of the outer blocks whose RS parity comes due with a row (R207): the first parity frame of a block on a layer, at position
112 or 117, stands on it. -/
def parityUsers (fs : List FrameW) : List Nat :=
  fs.flatMap fun f =>
    let p := blockOfSlot (pfaLayer f.pfa) (pfaTrack f.pfa) (pfaSlot f.pfa)
    if p.2 = 112 ∨ p.2 = 117 then (List.range 112).map (112 * p.1 + ·) else []

/-- Insert a number into a rising list, once. -/
def insertNum (n : Nat) : List Nat → List Nat
  | [] => [n]
  | m :: ms => if n < m then n :: m :: ms else if n = m then m :: ms else m :: insertNum n ms

/-- The objects of a data disc that own user frames, each with its LBAs, rising. -/
def objectsAt (plan : Plan) (role : Nat) (us : List Nat) : List (Nat × List Nat) :=
  (plan.onDisc role).filterMap fun e =>
    let l := (us.filter fun u => decide (e.first ≤ u ∧ u < e.first + e.count)).foldl (fun l u => insertNum (u - e.first) l) []
    if l = [] then none else some (e.obj, l)

/-- Frames of the row that is staged next for a disc; none but data-area rows have a source on flash. -/
def sourceRow (d : SetDisc) : List FrameW :=
  if d.part ≠ 1 then [] else dataRow d.layer (d.row + d.staged)

/-- The data discs whose frames the staging of a row reads (R207, R219, R226): those of every data disc, failed ones too, for the bays of
the set together; a replacement of a data disc reads its own alone (R228). -/
def rowSources (a : ArchSet) (d : SetDisc) : List Nat :=
  if d.replacement ∧ d.role < 0x80 then [d.role] else List.range a.k

/-- The row has been read already, with another bay of the set (R219). -/
def rowRead (a : ArchSet) (d : SetDisc) : Bool :=
  !d.replacement && decide (stagePlace d < a.readTo)

/-- Frames of a set's row that the drain reads, by object. -/
def rowObjects (a : ArchSet) (d : SetDisc) : List (Nat × List Nat) :=
  (rowSources a d).flatMap fun role => objectsAt a.plan role (rowUsers (sourceRow d))

/-- Frames that the RS parity of a row is computed from, by object. -/
def parityObjects (a : ArchSet) (d : SetDisc) : List (Nat × List Nat) :=
  (rowSources a d).flatMap fun role => objectsAt a.plan role (parityUsers (sourceRow d))

/-- The floor of a replacement's window is reached: what it reads further is charged to no credit (R228). -/
def beyondFloor (s : State) (d : SetDisc) : Bool :=
  d.replacement && decide (num s 0x2820 1 * 1200 / 100 ≤ s.ebb.window)

/-- Read one page of an object for the drain (R150, R199, R207), as an operation says. The LBAs whose source cannot be read are
those of a page that no ladder step yields and those whose check still fails after the stripe's rebuild (R208). -/
def drainPage (op : FlashOp) (o : Obj) (n : Ns) (media : List Media) (r : List (Nat × Nat) × State) (page : List ReadLba) :
    List (Nat × Nat) × State :=
  match page with
  | [] => r
  | l :: _ =>
    let z := zoneOf r.2 o.nsid o.zone
    if z.placed ≤ l.off then r
    else
      let pos := memberOf z l.off
      let m := mediaOf media page
      let step := effectiveStep z pos m.step
      let s1 := readEffects o.nsid o.zone pos step m.bits m.lost (readOps op z pos step r.2)
      if 5 ≤ step then (r.1 ++ page.map fun x => (o.oid, x.off), s1)
      else page.foldl (fun q x =>
        match checkLba n (o.zone * n.zsze) media x with
        | .ok (_, again) => if again then (q.1, queueRefresh o.nsid o.zone pos q.2) else q
        | .error _ => (q.1 ++ [(o.oid, x.off)], q.2)) (r.1, s1)

/-- Read an object's LBAs of a row: the void frames found. An object whose content is gone gives nothing but voids (R208, R528). -/
def drainObject (cls : ActClass) (spare : Bool) (reads : List (Nat × Media)) (r : List (Nat × Nat) × State) (x : Nat × List Nat) :
    List (Nat × Nat) × State :=
  match objOf r.2 x.1 with
  | none => (r.1 ++ x.2.map fun i => (x.1, i), r.2)
  | some o => match o.contentGone, nsOf r.2 o.nsid with
    | false, some n =>
      let z := zoneOf r.2 o.nsid o.zone
      let l := x.2.map fun i => ({ i := i, idx := o.zone, off := i, blk := readBlk n z i } : ReadLba)
      let op : FlashOp := { kind := .read, cls := cls, tenant := tenantOfNs r.2 o.nsid, spare := spare }
      (pagesOf l).foldl (drainPage op o n ((reads.filter fun m => m.1 == x.1).map Prod.snd)) r
    | _, _ => (r.1 ++ x.2.map fun i => (x.1, i), r.2)

/-- Read the source pages of the row that is staged next: its void frames. Those of the frames themselves are charged to the drain-read
class, those of the outer blocks whose RS parity comes due to the system class (R207), all beyond a replacement's floor to none (R228). A
disc that is reconstructed has no source on flash: its frames come from the set's other discs (R230). -/
def drainRow (s : State) (a : ArchSet) (d : SetDisc) (reads : List (Nat × Media)) : List (Nat × Nat) × State :=
  if isRecon s a.sid ∨ rowRead a d = true then ([], s)
  else
    let spare := beyondFloor s d
    let r := (rowObjects a d).foldl (drainObject .drainRead spare reads) ([], s)
    (r.1, ((parityObjects a d).foldl (drainObject .system spare reads) r).2)

/-- Note that a set's row has been read, and stage it for a disc. -/
def stageRow (a : ArchSet) (d : SetDisc) (s : State) : State :=
  let s1 := modDisc a.sid d.role (fun d => { d with staged := d.staged + 1 }) s
  if d.replacement then { s1 with ebb := { s1.ebb with window := s1.ebb.window + 1 } }
  else { s1 with
    ebb := { s1.ebb with
      sets := modWhere (fun x => x.sid == a.sid) (fun x => { x with readTo := max x.readTo (stagePlace d + 1) }) s1.ebb.sets } }

/-- ROW_STAGE (R207, R208, R219, R226, R228): the bay's next row is read from flash, where it has not been read for another bay of the set,
and staged when its buffer has room. -/
def execRowStage (b : BayId) (reads : List (Nat × Media)) (mem : List MemHit) (s : State) :
    Host.Outcome State Fault Refusal :=
  let s1 := memHits mem s
  match writingOn s1 b with
  | none => .next s1
  | some (a, d) =>
    if d.resync ∨ a.plan.inStore = false ∨ s1.phase ≠ .running ∨ 2 ≤ s1.pwr.ps
        ∨ (d.part ≠ 1 ∧ d.staged ≠ 0) ∨ (d.part = 1 ∧ dataRows ≤ d.row + d.staged) ∨ (nextRow a.plan d).isNone
        ∨ bufferFrames < stagedFrames a.plan d ∨ notAhead a d = false then .next s1
    else
      let r := drainRow s1 a d reads
      .next (countVoids a d r.1 (stageRow a d r.2))

/-! ### Discs and their lead-ins (R266, R277) -/

/-- Disc state of 3000h.06 that a lead-in shows. -/
def LeadIn.discState (l : LeadIn) : Nat :=
  if LeadIn.readable l = false ∨ LeadIn.version l ≠ 1 then 5
  else if LeadIn.closed l then 4
  else if l.marked = false ∧ LeadIn.tail l = false then 2
  else 3

/-- Identify the disc in a bay from its lead-in. -/
def identify (b : BayId) (l : LeadIn) (s : State) : State :=
  let known := LeadIn.readable l && LeadIn.version l == 1
  modBay b
    (fun y => { y with
      disc := LeadIn.discState l
      serial := if known then LeadIn.serial l else []
      lot := if known then LeadIn.lot l else []
      recDepths := if known then LeadIn.perLayer l 56 else []
      chan := { y.chan with tails := if known then l.tails else [] }
      startPower := if known then LeadIn.perLayer l 104 else [] }) s

/-- A disc is clamped in a bay. -/
def clamped (y : Bay) : Bool :=
  y.present && y.loaderState == 3

/-! ### Resynchronisation (R232) -/

/-- Frames of a partly written row: the blank ones are still to be written. -/
def resyncFrames (fs : List FrameW) (blanks superseded : List Nat) : List FrameW :=
  fs.map fun f => if blanks.contains f.pfa then f else if superseded.contains f.pfa then { f with st := 4 } else { f with st := 3 }

/-- A position of the data area: what stands there slips into a reserve slot. -/
def inDataArea (pfa : Nat) : Bool :=
  areaOf (pfaTrackInt pfa) == .data

/-- Where the disc goes on after its resynchronisation: in the lead-in records that it was writing, or in the rows of its layer. -/
def SetDisc.resumed (plan : Plan) (row slotsUsed : Nat) (partly : Bool) (superseded : List Nat) (d : SetDisc) : SetDisc :=
  ({ d with
    resync := false
    part := if d.part = 0 then 0 else 1
    row := row
    slot := d.slot + slotsUsed
    superseded := superseded
    staged := if partly then 1 else 0
    identity := d.identity || (d.part == 0 && decide (0 < row))
    status := if d.part = 0 ∧ 0 < row ∧ d.status = DiscStatus.pending then .writing else d.status
    confirmedRows := 0 }).nextPart plan

/-- RESYNCHRONISATION (R232): a disc of another serial is asked for; else, read at 7,200 rpm, positions that read as anything but the content that the plan
and the flash copy give are superseded and slipped past the reserve slots that hold marks, and writing resumes at the first unwritten
position: event 124. -/
def execResynchronisation (b : BayId) (lead : LeadIn) (row : Nat) (read : List (Nat × List Byte)) (blanks : List Nat)
    (slotsUsed : Nat) (s : State) : Host.Outcome State Fault Refusal :=
  match writingOn s b with
  | none => .next s
  | some (a, d) =>
    if d.resync = false ∨ a.plan.inStore = false ∨ clamped (bayAt s b) = false ∨ (bayAt s b).started = false then .next s
    else
      let s1 := identify b lead s
      if (bayAt s1 b).serial ≠ d.serial then .next (postUnload b 7 s1)
      else if (bayAt s b).spin.state ≠ 4 ∨ (bayAt s b).spin.target ≠ 7200 then .next (startSpindle b 7200 s1)
      else
        let superseded := (read.filter fun p => p.2 != discContent s1 a d p.1).map Prod.fst
        let first := match d.part, blanks with
          | 0, _ => row
          | _, [] => row
          | _, p :: ps => pfaTrack (minOf p ps) / 4
        let s2 := modDisc a.sid d.role (SetDisc.resumed a.plan first slotsUsed (blanks != []) superseded)
          (acceptDisc b a.sid d.role (setWork b 3 d.role s1))
        let s3 := (superseded.filter inDataArea).foldl (fun t p => slipFrame a.sid d.role p t) s2
        let torn := if d.part = 0 then leadRow d.layer (a.plan.directoryFrames d.role) first else dataRow d.layer first
        let fs := if blanks = [] then []
          else (resyncFrames torn blanks superseded).map fun f => { f with content := discContent s1 a d f.planned }
        let s4 := modBay b
          (fun y => { y with
            chan := { y.chan with
              frames := fs
              rowOf := if d.part = 0 then -1064 + (first : Int) else first
              resumeFrom := firstUnwritten fs } }) s3
        .next (raise 124 0 (evBytes 4 a.sid ++ [d.role] ++ evBytes 3 superseded.length) s4)

/-! ### Reallocation (R231, R307) -/

/-- Clock cycles of 30 min (R286). -/
def halfHour : Nat :=
  2880000000000

/-- An OPC of the layer on this disc has been accepted in the last 30 min. -/
def opcFresh (s : State) (b : BayId) (l : Nat) : Bool :=
  match ((bayAt s b).chan.opcAt[l]?).join with
  | some t => decide (s.clock ≤ t + halfHour)
  | none => false

/-- Some frames of an object have been reallocated (R231). -/
def markRealloc (id : Nat) (s : State) : State :=
  let s1 := modObj id (fun o => { o with realloc := true }) s
  match objOf s1 id with
  | some o =>
    if (zoneOf s1 o.nsid o.zone).obj = id ∧ o.arch = .archivedResident then
      setZone { zoneOf s1 o.nsid o.zone with realloc := true } s1
    else s1
  | none => s1

/-- A recall whose frames are all in its zone ends once nothing is left to reallocate (R235). -/
def recallOver (id : Nat) (s : State) : State :=
  match s.ebb.recalls.find? fun r => r.obj == id with
  | some r => if r.full ∧ r.todo = [] then endRecall r s else s
  | none => s

/-- REALLOCATION (R231, R286, R307): at 7,200 rpm, with a fresh OPC of the layer, the frame goes into the next unused
reserve slot and a remap record is appended to its layer's tail map. A layer with no slot left raises event 118. An unconfirmed copy takes the next
slot in another step. -/
def execReallocation (b : BayId) (pfa slot : Nat) (confirmed : Bool) (s : State) : Host.Outcome State Fault Refusal :=
  let l := pfaLayer pfa
  let owner := s.ebb.recalls.find? fun r => r.bay == some b && r.todo.contains pfa
  let source := s.ebb.recon.status == 2 && s.ebb.recon.bays.contains b && (discOn s b).isNone
  if owner.isNone ∧ source = false then .next s
  else
    let strike := fun (t : State) => match owner with
      | some r => recallOver r.obj (modRecall r.obj (fun r => { r with todo := r.todo.filter (· != pfa) }) t)
      | none => t
    if reserveSlots ≤ slot then .next (strike (raise 118 0 [b.val, l] s))
    else
      let y := bayAt s b
      if y.spin.state ≠ 4 ∨ y.spin.target ≠ 7200 ∨ y.servo.layer ≠ l ∨ opcFresh s b l = false ∨ confirmed = false then .next s
      else
        let disc := (archivedIn s b).map fun p => (p.1.setId, p.2)
        let s1 := modBay b
          (fun y => { y with
            chan := { y.chan with
              reallocated := satAdd 4294967295 y.chan.reallocated 1
              tails := appendTail l ((disc.map Prod.fst).getD 0) ((disc.map Prod.snd).getD 255)
                [remapRecord 2 pfa (reservePfa l slot)] y.chan.tails } }) s
        let s2 := match owner with
          | some r => markRealloc r.obj s1
          | none => s1
        .next (strike (raise 119 0 [b.val, l] s2))

/-! ### Recalls (R233 to R236) -/

/-- The serial a bay's recall expects in it. -/
def expectedSerial (s : State) (b : BayId) (r : Recall) : List Byte :=
  if r.bay = some b then serialOfObj s r.obj
  else match r.others.findIdx? (· == b) with
    | some i => (((otherDiscs s r.obj)[i]?).map SetDisc.serial).getD []
    | none => []

/-- RECALL_DISC_IDENTIFY (R234): the serial matches, or event 9, an unload and one more request; a second mismatch ends
the recall with reason 3. -/
def execRecallDiscIdentify (b : BayId) (lead : LeadIn) (s : State) : Host.Outcome State Fault Refusal :=
  match s.ebb.recalls.find? fun r => (r.bay == some b && !r.loaded) || r.others.contains b with
  | none => .next s
  | some r =>
    if clamped (bayAt s b) = false ∨ (bayAt s b).serial ≠ [] ∧ (bayAt s b).serial = expectedSerial s b r ∧ r.bay ≠ some b then .next s
    else
      let s1 := identify b lead s
      if (bayAt s1 b).serial ≠ [] ∧ (bayAt s1 b).serial = expectedSerial s b r then
        let s2 := if r.bay = some b then modRecall r.obj (fun r => { r with loaded := true }) s1 else s1
        .next (startSpindle b 9600 (withdraw b (modBay b (fun y => { y.newDisc with misread := false }) s2)))
      else
        let s2 := raiseBay b 9 0 (evStr ((LeadIn.serial lead).take 8)) s1
        if (bayAt s b).misread then .next (failRecall 3 s2 r)
        else .next (postUnload b 7 (modBay b (fun y => { y with misread := true }) s2))

/-- A content passes the checks of R200 as frame i of an object. -/
def frameChecks (o : Obj) (i : Nat) (f : List Byte) : Bool :=
  f.length == 4128 && objectFrameOk o i f (frameBlk f)

/-- The first content that the ladder gives for frame i of an object and that passes the checks of R200: of steps 1 and 2, of the outer
block's erasure decoding, and what step 4 has rebuilt (R302, R304, R305). -/
def DiscFrame.found (o : Obj) (rebuilt : List Byte) (i : Nat) (f : DiscFrame) : Option DiscTry :=
  let outer := (outerDecode f.block ((o.first + i) % 112)).toList.map fun c => ({ step := 3, content := c } : DiscTry)
  (f.tries.filter (fun t : DiscTry => t.step == 1 || t.step == 2) ++ outer ++ [({ step := 4, content := rebuilt } : DiscTry)]).find? fun t =>
    frameChecks o i t.content

/-- What a recall takes in one go, from frame i of its object on. -/
def goodFrames (o : Obj) (rebuilt : List Byte) : Nat → List DiscFrame → List DiscTry
  | _, [] => []
  | i, f :: fs => match DiscFrame.found o rebuilt i f with
    | some t => t :: goodFrames o rebuilt (i + 1) fs
    | none => []

/-- Put recalled frames in the target zone in LBA order (R96, R201, R235). -/
def recallInto (r : Recall) (fs : List DiscTry) (s : State) : State :=
  match nsOf s r.nsid with
  | none => s
  | some n =>
    let z := zoneOf s r.nsid r.zone
    let blks := fs.mapIdx fun i f => (r.frames + i, recallBlk n (r.zone * n.zsze + r.frames + i) (frameBlk f.content))
    setZone { z with
      wp := r.frames + fs.length, ack := r.frames + fs.length, data := z.data ++ blks, used := s.hs.stamp + 1 }
      { s with hs := { s.hs with stamp := s.hs.stamp + 1 } }

/-- Count the frames of a recall on its bay. -/
def countRecalled (b : BayId) (fs : List DiscTry) (s : State) : State :=
  modBay b
    (fun y => { y with
      chan := fs.foldl (fun c f => countStep (f.step - 1) (countFrame (f.step == 1) f.bits c)) y.chan }) s

/-- A frame of a recall is left by steps 1 to 3: step 4 begins once the discs that it needs can be had (R235, R236). -/
def needStep4 (r : Recall) (o : Obj) (s : State) : State :=
  let s1 := modRecall r.obj (fun r => { r with step4 := true }) s
  if countedBays s1 < widthOf s1 o.setId + 1 then failRecall 6 s1 r
  else if r.others = [] then giveOthers r.obj s1
  else s1

/-- RECALL_READ (R200, R235, R303 to R307): frames that pass their checks go to the target zone in LBA order; one that steps 1 to 3 do not
give waits for step 4 and its k more discs. -/
def execRecallRead (obj : Nat) (frames : List DiscFrame) (s : State) : Host.Outcome State Fault Refusal :=
  match s.ebb.recalls.find? fun r => r.obj == obj, objOf s obj with
  | some r, some o =>
    match r.bay with
    | none => .next s
    | some b =>
      let y := bayAt s b
      if r.loaded = false ∨ r.full ∨ s.phase ≠ .running ∨ y.spin.state ≠ 4 ∨ y.spin.target ≠ 9600 then .next s
      else
        let fs := frames.take (o.lbas - r.frames)
        let good := goodFrames o y.chan.rebuilt r.frames fs
        let n := r.frames + good.length
        let todo := (good.mapIdx fun i f => (pfaOfUser (o.first + r.frames + i), f.step)).filter fun p => decide (3 ≤ p.2)
        let s1 := modRecall obj
          (fun r => { r with frames := n, full := n == o.lbas, todo := r.todo ++ todo.map Prod.fst })
          (modObj obj (fun o => { o with done := n }) (countRecalled b good (recallInto r good s)))
        if n = o.lbas then
          let s2 := finishRecall r s1
          .next (if (r.todo ++ todo.map Prod.fst) = [] then recallOver obj s2 else startSpindle b 7200 s2)
        else if good.length = fs.length then .next s1
        else .next (needStep4 r o s1)
  | _, _ => .next s

/-! ### Step 4 of the ladder (R305, R306) -/

/-- What an outer position of a disc must carry passes the checks of R200 where its role and position carry a header (R305). -/
def rebuiltOk (s : State) (b : BayId) (role pfa : Nat) (f : List Byte) : Bool :=
  match writingOn s b, archivedIn s b with
  | some (a, _), _ => planFrameOk s a.plan role pfa f
  | none, some (p, _) => planFrameOk s p role pfa f
  | none, none => true

/-- The flash copy of a position of a data disc of an archived set, where its object is Archived-Resident (step 5). -/
def flashCopy (s : State) (sid role pfa : Nat) : Option (List Byte) :=
  let p := cataloguePlan s sid
  let b := blockOfSlot (pfaLayer pfa) (pfaTrack pfa) (pfaSlot pfa)
  if 0x80 ≤ role ∨ 112 ≤ b.2 then none
  else (p.at' role (112 * b.1 + b.2)).bind fun e =>
    if ((objOf s e.1).map Obj.arch) = some .archivedResident then some (objectFrame s sid role [] e.1 e.2) else none

/-- The content of a position of a source disc with the step that gave it: 1 or 2, 3, and for a reconstruction 5 (R305, R306). -/
def sourceFrame (s : State) (b : BayId) (pfa : Nat) (x : SourceRead) : Option (Nat × List Byte) :=
  let i := (blockOfSlot (pfaLayer pfa) (pfaTrack pfa) (pfaSlot pfa)).2
  let r := s.ebb.recon
  let copy := if r.status = 2 ∧ r.bays.contains b then (flashCopy s r.setId x.role pfa).toList.map fun c => (5, c) else []
  ([(1, x.content)] ++ ((outerDecode x.block i).toList.map fun c => (3, c)) ++ copy).find? fun c =>
    c.2 != [] && rebuiltOk s b x.role pfa c.2

/-- No step gives a frame: a recall ends with reason 4, a reconstruction with status 4 (R235, R306). -/
def frameUnrecovered (b : BayId) (role : Nat) (s : State) : State :=
  let s1 := modBay b (fun y => { y with chan := countStep 5 y.chan }) s
  let r := s.ebb.recon
  match s.ebb.recalls.find? fun r => r.bay == some b && r.step4 && !r.full with
  | some q => failRecall 4 s1 q
  | none => if r.status = 2 ∧ r.role = role ∧ r.bays.contains b then endRecon 4 s1 else s1

/-- PQ_RECONSTRUCT (R206, R305, R306): step 4 rebuilds a position from the same position on k other discs; the frame of a disc that is
reconstructed is kept for its staging (R230), that of a recall for its next read. -/
def execPqReconstruct (b : BayId) (k role pfa : Nat) (sources : List SourceRead) (s : State) :
    Host.Outcome State Fault Refusal :=
  let got := sources.filterMap fun x => (sourceFrame s b pfa x).map fun c => (x.role, c.2)
  if (s.ebb.recalls.any fun r => r.bay == some b && !r.full && !othersReady s r) then .next s
  else match rebuildFrame k role got with
  | none => .next (frameUnrecovered b role s)
  | some f =>
    if rebuiltOk s b role pfa f = false then .next (frameUnrecovered b role s)
    else
      let s1 := modBay b (fun y => { y with chan := { (countStep 3 y.chan) with rebuilt := f } }) s
      let r := s.ebb.recon
      .next (if r.status = 2 ∧ r.role = role ∧ r.bays.contains b then
        { s1 with ebb := { s1.ebb with recon := { r with frames := putKey pfa f r.frames } } } else s1)

end Sys2Proof.Machine
end

