-- ==== Sys2Proof/Machine/Library.lean ====
section
/-! DEFINITION. The library's side of the process data (R214, R234, R477 to R482): answers to requests, discs that come
and go, and the EtherCAT state. -/

namespace Sys2Proof.Machine

open Sys2Proof

/-! ### Requests that follow from a bay's work -/

/-- The serial the reconstruction expects in a source bay (R230). -/
def reconSerial (s : State) (b : BayId) : Option (List Byte) :=
  let r := s.ebb.recon
  if r.status ≠ 2 then none
  else (r.bays.findIdx? (· == b)).bind fun i => ((reconSources s r.setId r.role)[i]?).map SetDisc.serial

/-- Recall that a bay serves and whose disc it has not identified. -/
def recallOn (s : State) (b : BayId) : Option Recall :=
  s.ebb.recalls.find? fun r =>
    (r.bay == some b && !r.loaded) || (r.others.contains b && (bayAt s b).serial != expectedSerial s b r)

/-- Ask for the disc that a bay's work needs, if it needs one (R214, R230, R232, R234). -/
def nextRequest (b : BayId) (s : State) : State :=
  match discOn s b with
  | some (sid, d) =>
    if d.resync then askDisc b 5 7200 d.serial s
    else if d.serial = [] then askBlank b (if isRecon s sid then 3 else if d.replacement then 4 else 1) sid d.role s
    else s
  | none =>
    match recallOn s b with
    | some r => askDisc b 2 9600 (expectedSerial s b r) s
    | none =>
      match reconSerial s b with
      | some serial => askDisc b 3 9600 serial s
      | none => s

/-- Record an answer as the receive PDO brings it. -/
def putAnswer (b : BayId) (code seq : Nat) (s : State) : State :=
  modBay b (fun y => { y with ansCode := code, ansSeq := seq }) s

/-- An answer counts when its sequence is that of the standing request (R478). -/
def answers (s : State) (b : BayId) (seq : Nat) : Bool :=
  seq == (bayAt s b).reqSeq && (bayAt s b).reqCode != 0

/-! ### Answers (R478) -/

/-- The disc answered for a request 1 (R214, R277): accepted when blank, else unloaded. -/
def blankLoaded (b : BayId) (lead : LeadIn) (s : State) : State :=
  let s1 := identify b lead s
  match discOn s1 b with
  | some (sid, d) => if (bayAt s1 b).disc = 2 then acceptDisc b sid d.role s1 else postUnload b 7 s1
  | none => postUnload b 7 s1

/-- The disc answered for a request 2 of a reconstruction or a resynchronisation: accepted when its serial is the one
asked for; a second wrong disc ends a reconstruction. -/
def namedLoaded (b : BayId) (lead : LeadIn) (s : State) : State :=
  let y := bayAt s b
  let s1 := identify b lead s
  if (bayAt s1 b).serial = y.reqSerial then startSpindle b (if y.reqReason = 5 then 7200 else 9600) (withdraw b s1)
  else if y.reqReason = 3 ∧ y.misread then endRecon 4 s1
  else postUnload b 7 (modBay b (fun y => { y with misread := true }) s1)

/-- A loaded answer takes effect: the disc is identified; a recall's disc is read to its lead-in (R234). -/
def takeLoaded (b : BayId) (lead : LeadIn) (s : State) : State :=
  let y := bayAt s b
  let s1 := modBay b (fun y => { y with ansLead := none }) s
  match y.reqCode with
  | 1 => blankLoaded b lead s1
  | 2 =>
    if y.reqReason = 2 then startSpindle b 9600 (modBay b (fun y => { y with disc := 1, serial := [] }) s1)
    else namedLoaded b lead s1
  | _ => s1

/-- The loaded answer that stands in the outputs is evaluated: it takes effect once the loader is clamped on a disc. -/
def evalLoaded (b : BayId) (s : State) : State :=
  let y := bayAt s b
  match y.ansLead with
  | none => s
  | some lead =>
    if libraryOpen s = false ∨ y.ansCode ≠ 1 ∨ answers s b y.ansSeq = false ∨ clamped y = false then s
    else takeLoaded b lead s

/-- LIBRARY_ANSWER_LOADED (R478): it takes effect now, or when the loader reads clamped and the disc present. -/
def execLibraryAnswerLoaded (b : BayId) (seq : Nat) (lead : LeadIn) (s : State) : Host.Outcome State Fault Refusal :=
  if libraryOpen s = false then .next s
  else .next (evalLoaded b (modBay b (fun y => { y with ansLead := some lead }) (putAnswer b 1 (seq % 256) s)))

/-- STEP_TIMER (R418 to R424): a stepper's timer expires. While VFLD stands below 17.0 V the steppers hold (R435). A loader
that reaches its clamp lets an answer that waits take effect (R478). -/
def execStepTimer (b : BayId) (which : Nat) (s : State) : Host.Outcome State Fault Refusal :=
  let y := bayAt s b
  if s.sup.vfldDip then .next s
  else if which = 0 then (if y.sled.moving then .next (sledStep b s) else .next s)
  else if which = 1 then (if y.loader.moving then .next (evalLoaded b (loaderStep b s)) else .next s)
  else if which = 2 then (if y.coll.moving then .next (collStep b s) else .next s)
  else .next s

/-- An unload is complete: the request is withdrawn and the bay's work asks for its next disc. -/
def unloaded (b : BayId) (s : State) : State :=
  nextRequest b (modBay b (fun y => { y with unloadDue := none }) (withdraw b s))

/-- LIBRARY_ANSWER_UNLOADED (R478): it takes effect once the disc is gone. -/
def execLibraryAnswerUnloaded (b : BayId) (seq : Nat) (s : State) : Host.Outcome State Fault Refusal :=
  if libraryOpen s = false then .next s
  else
    let s1 := putAnswer b 2 (seq % 256) s
    if answers s1 b (seq % 256) ∧ (bayAt s1 b).reqCode = 3 ∧ (bayAt s1 b).present = false then .next (unloaded b s1)
    else .next s1

/-- Fail the disc a bay waits for (R214, R223, R232); a reconstruction's target ends the reconstruction. -/
def discUnavailable (b : BayId) (s : State) : State :=
  match discOn s b with
  | some (sid, d) => if isRecon s sid then endRecon 4 s else discFailed sid d.role 4 s
  | none => withdraw b s

/-- A request 2 ends unanswered (R234, R230, R232). -/
def namedUnavailable (b : BayId) (s : State) : State :=
  match (bayAt s b).reqReason, recallOn s b with
  | 2, some r => failRecall 3 s r
  | 3, _ => endRecon 4 s
  | 5, _ => discUnavailable b s
  | _, _ => withdraw b s

/-- An unload ends unanswered: withdrawn, to be posted again in 60 s. -/
def unloadUnanswered (b : BayId) (s : State) : State :=
  let r := (bayAt s b).reqReason
  modBay b (fun y => { y with unloadDue := some r }) (withdraw b s)

/-- Event 123 of a bay. -/
def unanswered (b : BayId) (s : State) : State :=
  raise 123 0 [b.val, (bayAt s b).reqReason] s

/-- LIBRARY_ANSWER_UNAVAILABLE (R478). -/
def execLibraryAnswerUnavailable (b : BayId) (seq : Nat) (s : State) : Host.Outcome State Fault Refusal :=
  if libraryOpen s = false then .next s
  else
    let s1 := putAnswer b 3 (seq % 256) s
    if answers s1 b (seq % 256) = false then .next s1
    else match (bayAt s1 b).reqCode with
      | 1 => .next (modBay b (fun y => { y with blankDue := true }) (withdraw b s1))
      | 2 => .next (namedUnavailable b s1)
      | _ => .next (unloadUnanswered b (unanswered b s1))

/-- LIBRARY_REQUEST_TIMEOUT (R214, R478): 2800h.06 has passed. -/
def execLibraryRequestTimeout (b : BayId) (s : State) : Host.Outcome State Fault Refusal :=
  let y := bayAt s b
  match y.reqCode with
  | 0 => if y.blankDue then .next (discUnavailable b (modBay b (fun y => { y with blankDue := false }) s)) else .next s
  | 1 => .next (discUnavailable b (unanswered b s))
  | 2 => .next (namedUnavailable b (unanswered b s))
  | _ => .next (unloadUnanswered b (unanswered b s))

/-- BLANK_REQUEST_RETRY (R478). -/
def execBlankRequestRetry (b : BayId) (s : State) : Host.Outcome State Fault Refusal :=
  if (bayAt s b).blankDue = false ∨ (bayAt s b).reqCode ≠ 0 then .next s
  else .next (nextRequest b (modBay b (fun y => { y with blankDue := false }) s))

/-- UNLOAD_REPOST (R478, R479): with a new sequence and the same reason, until the disc is gone. -/
def execUnloadRepost (b : BayId) (s : State) : Host.Outcome State Fault Refusal :=
  match (bayAt s b).unloadDue with
  | none => .next s
  | some r =>
    if (bayAt s b).reqCode ≠ 0 then .next s
    else if (bayAt s b).present = false then .next (unloaded b s)
    else .next (postUnload b r s)

/-! ### Discs that come and go (R223, R481) -/

/-- A request that the device is about to make names the serial (R481). -/
def aboutToAsk (s : State) (b : BayId) (serial : List Byte) : Bool :=
  serial != []
    && ((s.ebb.recalls.any fun r => r.bay.isNone && serialOfObj s r.obj == serial)
      || (match discOn s b with
        | some (_, d) => d.resync && d.serial == serial
        | none => false))

/-- DISC_INSERTED (R481): with the loader clamped and no load request standing, the disc is identified and unloaded. -/
def execDiscInserted (b : BayId) (lead : LeadIn) (s : State) : Host.Outcome State Fault Refusal :=
  let y := bayAt s b
  if y.present then .next s
  else
    let s1 := modBay b (fun y => { y with present := true, disc := 1, serial := [], ansLead := y.ansLead.map fun _ => lead }) s
    if y.reqCode = 1 ∨ y.reqCode = 2 then .next (evalLoaded b s1)
    else if y.loaderState ≠ 3 ∨ y.started = false ∨ bayEnabled s b = false then .next s1
    else
      let s2 := identify b lead s1
      if aboutToAsk s2 b (bayAt s2 b).serial then .next s2 else .next (postUnload b 8 s2)

/-- A recall whose disc leaves asks for it again. -/
def recallDiscGone (b : BayId) (s : State) : State :=
  { s with
    ebb := { s.ebb with recalls := modWhere (fun r => r.bay == some b) (fun r => { r with loaded := false }) s.ebb.recalls } }

/-- DISC_REMOVED (R223, R478): a disc of a set that leaves before it closes is failed; an unload answered is complete. -/
def execDiscRemoved (b : BayId) (s : State) : Host.Outcome State Fault Refusal :=
  let y := bayAt s b
  if y.present = false then .next s
  else
    let s1 := recallDiscGone b (modBay b
      (fun y => { y with present := false, disc := 0, serial := [], lot := [], startPower := [], recDepths := [] }) s)
    let s2 := match discOn s b with
      | some (sid, d) => if d.serial ≠ [] ∧ d.resync = false then discFailed sid d.role 3 s1 else s1
      | none => s1
    if y.reqCode = 3 then
      if y.ansCode = 2 ∧ y.ansSeq = y.reqSeq ∧ libraryOpen s then .next (unloaded b s2) else .next s2
    else if y.unloadDue.isSome then .next (unloaded b s2)
    else if y.reqCode = 0 then .next (nextRequest b s2)
    else .next s2

/-! ### EtherCAT state (R482) -/

/-- EtherCAT state of an AL state code. -/
def ecatOf (st : Nat) : Option EcatState :=
  match st with
  | 1 => some .init
  | 2 => some .preOp
  | 4 => some .safeOp
  | 8 => some .op
  | _ => none

/-- What a new EtherCAT state does to the doors: in Init no segmented transfer goes on and no emergency message waits
(R463, R510); from SafeOp on the lock point has fallen (R459). -/
def enterEcat (e : EcatState) (s : State) : State :=
  let s1 := { s with
    doors := { s.doors with
      ecat := e
      watchdog := if e = .op then false else s.doors.watchdog
      segment := if e = .init then none else s.doors.segment }
    evt := { s.evt with
      emcy := if e = .init then [] else s.evt.emcy
      emcyDropped := if e = .init then 0 else s.evt.emcyDropped } }
  if e = .safeOp ∨ e = .op then passLock s1 else s1

/-- The device leaves the state in which it takes library commands: those that wait are discarded (R482). -/
def discardWaiting (s : State) : State :=
  modBays (fun _ y => { y with waiting := none }) s

/-- ETHERCAT_STATE_CHANGE (R463, R482, R512): leaving Op discards the waiting commands and raises event 028 with cause 01h;
each entry to Op takes the acknowledges from the first receive PDO. -/
def execEthercatStateChange (st : Nat) (seqs : List Nat) (s : State) : Host.Outcome State Fault Refusal :=
  match ecatOf st with
  | none => .next s
  | some e =>
    let s1 := enterEcat e s
    if e = .op ∧ s.doors.ecat ≠ .op then
      .next (modBays
        (fun b y => { y with ackSeq := seqs.getD b.val 0 % 256, libSeq := seqs.getD b.val 0 % 256, waiting := none }) s1)
    else if e ≠ .op ∧ s.doors.ecat = .op then .next (raise 28 1 [] (discardWaiting s1))
    else .next s1

/-- PDO_WATCHDOG_EXPIRY (R482, R512): event 028 with cause 02h. -/
def execPdoWatchdogExpiry (s : State) : Host.Outcome State Fault Refusal :=
  if s.doors.ecat ≠ .op ∨ s.doors.watchdog then .next s
  else .next (raise 28 2 [] (discardWaiting { s with doors := { s.doors with watchdog := true } }))

end Sys2Proof.Machine
end

