-- ==== Sys2Proof/Machine/Supply.lean ====
section
/-! DEFINITION. Supply dips, the commitment to Harbour and hold-up energy (R56, R533 to R553, R514). -/

namespace Sys2Proof.Machine

open Sys2Proof

/-! ### Hold-up energy (R547 to R553) -/

/-- Channels in service (R148). -/
def channelsInService (s : State) : Nat :=
  ((List.range 128).filter fun c => servingOn s c != []).length

/-- Required hold-up energy [mJ], rounded to the nearest (R547): 8 GiB at 3.2 GB/s is 2,684.354560 ms of one channel. -/
def requiredEnergy (s : State) : Nat :=
  let c := channelsInService s
  let p := num s 0x2040 1
  if c = 0 then Config.energyNoChannel
  else (p * ((num s 0x2010 8 + 7) * 1000000 * c + 2684354560) + 500000 * c) / (1000000 * c)

/-- Terms t⁽ᵏ⁾ / (2k + 1) of the series of the inverse hyperbolic tangent, from t on, in units of 10⁻¹⁸. -/
def atanhTerms : Nat → Nat → Nat → Nat → Nat
  | 0, _, _, _ => 0
  | n + 1, t, sq, k => t / (2 * k + 1) + atanhTerms n (t * sq / 10 ^ 18) sq (k + 1)

/-- ln(a / b) for a above b, in units of 10⁻¹⁸: twice the inverse hyperbolic tangent of (a − b) / (a + b), 60 terms. -/
def lnRatio (a b : Nat) : Nat :=
  let z := 10 ^ 18 * (a - b) / (a + b)
  2 * atanhTerms 60 z (z * z / 10 ^ 18) 0

/-- Bank capacitance [pF] from SUPMON_HU before and after the test [µV] (R550 step 4); a test that shows no fall gives a
free value, since the formula has none. -/
def bankCapacitance (s : State) (v0 v1 : Nat) : Nat :=
  let ln := lnRatio v0 v1
  if v1 < v0 ∧ 0 < ln then num s 0x2040 4 * 10 ^ 30 / (num s 0x2040 3 * ln)
  else (freeOf s).toNat % 2 ^ 32 * 1000000

/-- Usable energy [mJ], rounded to the nearest (R550 step 5); 0 when V1 is not above the minimum bank voltage. -/
def usableEnergy (s : State) (cap v1 : Nat) : Nat :=
  let v := v1 * num s 0x2040 7
  let m := num s 0x2040 5 * 1000
  (cap * (v * v - m * m) * num s 0x2040 6 + 10 ^ 23) / (2 * 10 ^ 23)

/-- SUPMON_HU as a bank voltage [10 mV], 16 bits. -/
def bankTens (s : State) (v : Nat) : Nat :=
  min 65535 ((v * num s 0x2040 7 + 5000) / 10000)

/-- The write cache loses its protection (R56): event 004. -/
def protectionLost (s : State) : State :=
  reportSmart 4 0 (raise 4 0 [] { s with hs := { s.hs with holdupTested := false } })

/-- A running self-test is discarded (R552). -/
def discardTest (s : State) : State :=
  if s.sup.testing then { s with sup := { s.sup with testing := false, result := 4, testEnd := some s.clock } } else s

/-- Start the hold-up self-test, or refuse it (R550 steps 1 and 2). -/
def startSelfTest (v0 : Nat) (s : State) : State :=
  if s.sup.testing then s
  else
    let recent : Bool := match s.sup.testEnd with
      | some t => decide (s.clock < t + usCycles 10000000)
      | none => false
    if s.sup.holdupOk = false ∨ s.sup.dip ∨ recent then { s with sup := { s.sup with result := 4 } }
    else { s with sup := { s.sup with testing := true, result := 1, v0 := v0, rv0 := bankTens s v0 } }

/-- The self-test ends with V1 (R550 steps 3 to 6). -/
def endSelfTest (v1 : Nat) (s : State) : State :=
  if s.sup.testing = false then s
  else
    let cap := bankCapacitance s s.sup.v0 v1
    let e := usableEnergy s cap v1
    let pass := decide (5 * requiredEnergy s ≤ 4 * e)
    let s1 := { (spend s) with
      sup := { s.sup with
        testing := false
        testEnd := some s.clock
        result := if pass then 2 else 3
        capUf := min 4294967295 ((cap + 500000) / 1000000)
        energy := min 4294967295 e
        rv1 := bankTens s v1 }
      adm := { s.adm with
        testsPassed := s.adm.testsPassed + (if pass then 1 else 0)
        testsFailed := s.adm.testsFailed + (if pass then 0 else 1) } }
    if pass then
      if s1.sup.holdupOk = false ∨ cacheProtected s1 then s1
      else raise 50 0 [] { s1 with hs := { s1.hs with holdupTested := true } }
    else
      let s2 := raise 5 0 (evBytes 4 (min 4294967295 e)) s1
      if cacheProtected s then protectionLost s2 else s2

/-- Doors may be served and the device does its work. -/
def isRunning (s : State) : Bool :=
  s.phase == .running

/-- HOLDUP_OK_FALL (R56): the event is raised whenever the device operates, whether or not the cache was protected. -/
def execHoldupOkFall (s : State) : Host.Outcome State Fault Refusal :=
  if s.sup.holdupOk = false then .next s
  else
    let s1 := { s with sup := { s.sup with holdupOk := false, holdupFell := true } }
    if isRunning s then .next (protectionLost s1) else .next { s1 with hs := { s1.hs with holdupTested := false } }

/-- HOLDUP_OK_RISE (R551): the first rise of this power-on, or a rise after a fall, starts the self-test. -/
def execHoldupOkRise (v0 : Nat) (s : State) : Host.Outcome State Fault Refusal :=
  if s.sup.holdupOk then .next s
  else
    let s1 := { s with sup := { s.sup with holdupOk := true, holdupFell := false } }
    .next (if isRunning s then startSelfTest v0 s1 else s1)

/-- HOLDUP_SELF_TEST_END (R550). -/
def execHoldupSelfTestEnd (v1 : Nat) (s : State) : Host.Outcome State Fault Refusal :=
  .next (endSelfTest v1 s)

/-- HOLDUP_SELF_TEST_INTERVAL (R551): never when 2040h.08 is 0. -/
def execHoldupSelfTestInterval (v0 : Nat) (s : State) : Host.Outcome State Fault Refusal :=
  if num s 0x2040 8 = 0 ∨ isRunning s = false then .next s else .next (startSelfTest v0 s)

/-- HOLDUP_CHARGE_WAIT_EXPIRY (R551): event 005 with 0 mJ when HOLDUP_OK has not risen since the end of replay. -/
def execHoldupChargeWaitExpiry (s : State) : Host.Outcome State Fault Refusal :=
  if isRunning s ∧ s.sup.holdupOk = false ∧ s.sup.holdupFell = false then .next (raise 5 0 (evBytes 4 0) s) else .next s

/-! ### Power-state refusals (R496, R497) -/

/-- A power-state transition is refused by a block (R496): 2020h.05, event 011 and status 83h. -/
def refusePower (block target reason : Nat) (s : State) : State :=
  let data := [block, target, reason, 0]
  let s1 := raise 11 0 data { s with pwr := { s.pwr with refusal := data, shaking := none, byHost := none } }
  match s.pwr.byHost with
  | some (p, sq, cid) => complete { port := p, sq := sq, cid := cid } .transitionRefused (s := s1)
  | none => s1

/-- A running handshake ends as a refusal by the power sequencer, reason 0Eh (R497). -/
def endHandshake (s : State) : State :=
  match s.pwr.shaking with
  | some (target, _, _) => refusePower 0 target 0x0E s
  | none => s

/-- Set Features Power Management in Harbour (R502). -/
def refuseWaiting (s : State) : State :=
  s.pwr.waiting.foldl
    (fun t w =>
      complete { port := w.1, sq := w.2.1, cid := w.2.2.1 } .transitionRefused
        (s := { t with pwr := { t.pwr with refusal := [0, w.2.2.2, 0x0E, 0] } }))
    { s with pwr := { s.pwr with waiting := [] } }

/-! ### Supply dips (R539 to R542) -/

/-- Record a rail's level. -/
def putRail (rail : Rail) (mv : Nat) (s : State) : State :=
  match rail with
  | .supmon12 => { s with sup := { s.sup with v12 := mv } }
  | .core => { s with sup := { s.sup with core := mv } }

/-- Warning level of a rail. -/
def warnLevel (s : State) (rail : Rail) : Nat :=
  match rail with
  | .supmon12 => supLevel s 1
  | .core => supLevel s 3

/-- Reset level of a rail. -/
def resetLevel (s : State) (rail : Rail) : Nat :=
  match rail with
  | .supmon12 => supLevel s 2
  | .core => supLevel s 4

/-- Cause of a rail in events 000 and 001. -/
def railCode (rail : Rail) : Nat :=
  match rail with
  | .supmon12 => 1
  | .core => 2

/-- SUPPLY_DIP_START (R221, R415, R497, R539, R552). A second rail joins the episode; in PS3 and PS4 no unit that a dip
stops is running (R542). -/
def execSupplyDipStart (rail : Rail) (mv : Nat) (s : State) : Host.Outcome State Fault Refusal :=
  let s0 := putRail rail mv s
  if warnLevel s rail ≤ mv then .next s0
  else if s.sup.dip then .next { s0 with sup := { s0.sup with dipLow := min s.sup.dipLow mv } }
  else if s.phase = .held ∨ s.phase = .harbour then .next s0
  else
    let s1 := endHandshake (raise 0 (railCode rail) (evBytes 2 mv) s0)
    let s2 := discardTest { s1 with
      sup := { s1.sup with dip := true, dipRail := railCode rail, dipFrom := s.clock, dipLow := mv } }
    .next (modBays (fun _ y => dipCoast y) (dropAllGates 1 s2))

/-- Post the held completions in dispatch order (R541). -/
def postHeld (s : State) : State :=
  s.hs.held.foldl (fun t c => post c.1 c.2 t) { s with hs := { s.hs with held := [] } }

/-- DIP_RIDDEN (R540, R541): the duration runs to the last rise above a recovery level, 2010h.07 ago. -/
def execDipRidden (s : State) : Host.Outcome State Fault Refusal :=
  if s.sup.dip = false then .next s
  else
    let us := (s.clock - s.sup.dipFrom) / 1600 - supLevel s 7 * 1000
    let s1 := { s with
      sup := { s.sup with
        dip := false
        v12 := max s.sup.v12 (supLevel s 1 + supLevel s 5)
        core := max s.sup.core (supLevel s 3 + supLevel s 6) }
      adm := { s.adm with ridden := s.adm.ridden + 1, longestDip := max s.adm.longestDip us }
      tide := { s.tide with waiting := 0 } }
    let s2 := raise 1 s.sup.dipRail (evBytes 4 us ++ evBytes 2 s.sup.dipLow) s1
    .next (resumeBays (postHeld s2))

/-! ### Harbour (R543, R544) -/

/-- What the commitment does to one bay (Table 17.4 steps 3 to 5). -/
def harbourBay (s : State) (b : BayId) : State :=
  let s1 := modBay b
    (fun y => { y with
      cway := { y.cway with len := false }
      cald := y.cald.startLensRamp
      servo := { y.servo.park with prof := {}, state := if y.spin.speed < 30 then 0 else 1 } }) s
  let s2 := parkSteppers b (if (bayAt s1 b).spindleFault then spinCoast b s1 else spinBrake b s1)
  leaveLock b 0 10 s2

/-- The device commits to Harbour (R543, R544): only the first cause of an episode acts. Held completions are discarded,
the I/O commands dispatched stop, and the flush begins where there is anything to flush (R502, R558). -/
def harbourCommit (cause : Nat) (s : State) : State :=
  if s.phase ≠ .running ∧ s.phase ≠ .starting then s
  else
    let s1 := raise 2 cause []
      { s with
        phase := .harbour
        harbourCause := cause
        adm := { s.adm with harbours := s.adm.harbours + 1 }
        hs := { s.hs with held := [], inflight := s.hs.inflight.filter fun i => i.sq == 0 }
        sup := { s.sup with dip := false, flushing := decide (cause ≠ 6 ∧ s.pwr.ps < 3) }
        tide := { s.tide with waiting := 0 } }
    let s2 := refuseWaiting (endHandshake (discardTest (dropAllGates 10 s1)))
    allBays.foldl harbourBay s2

/-- DIP_TIME_LIMIT (R540). -/
def execDipTimeLimit (s : State) : Host.Outcome State Fault Refusal :=
  if s.sup.dip then .next (harbourCommit 3 s) else .next s

/-- SUPPLY_RESET_LEVEL (R540): cause 01h for SUPMON_12, 02h for the core rail. -/
def execSupplyResetLevel (rail : Rail) (mv : Nat) (s : State) : Host.Outcome State Fault Refusal :=
  let s1 := putRail rail mv s
  .next (if resetLevel s rail < mv then s1 else harbourCommit (railCode rail) s1)

/-- FIXED_SUPERVISOR_TRIP (R538). -/
def execFixedSupervisorTrip (s : State) : Host.Outcome State Fault Refusal :=
  .next (harbourCommit 4 s)

/-- MANAGEMENT_WATCHDOG_EXPIRY (Table 17.3 cause 08h). -/
def execManagementWatchdogExpiry (s : State) : Host.Outcome State Fault Refusal :=
  .next (harbourCommit 8 s)

/-- Data of a temperature event (Table 16.3). -/
def tempData (sensor : Nat) (t : Int) : List Nat :=
  sensor :: evStr (leInt 2 t)

/-- Record a temperature sensor (1 to 8) and its highest value. -/
def putTemp (sensor : Nat) (t : Int) (s : State) : State :=
  if sensor = 0 ∨ 8 < sensor then s
  else { s with
    sup := { s.sup with temps := modNth s.sup.temps (sensor - 1) fun _ => t }
    adm := { s.adm with sensorMax := modNth s.adm.sensorMax (sensor - 1) fun m => max m t } }

/-- JUNCTION_OVER_TEMPERATURE (R514): event 010 with cause 03h and Harbour with cause 05h. -/
def execJunctionOverTemperature (sensor : Nat) (t : Int) (s : State) : Host.Outcome State Fault Refusal :=
  let s1 := putTemp sensor t s
  if isRunning s = false ∨ t < 1250 then .next s1
  else
    let s2 := raise 10 3 (tempData sensor t) { s1 with evt := { s1.evt with thermal := true } }
    .next (harbourCommit 5 s2)

/-- CCTEMP_REACHED (R514): the caps of R489 and event 010 with cause 01h. -/
def execCctempReached (sensor : Nat) (t : Int) (s : State) : Host.Outcome State Fault Refusal :=
  let s1 := putTemp sensor t s
  if s.pwr.thermalCap ∨ isRunning s = false ∨ kelvin (compositeTemp s1) < 378 then .next s1
  else .next (raise 10 1 (tempData sensor t)
    { s1 with pwr := { s1.pwr with thermalCap := true }, evt := { s1.evt with thermal := true } })

/-- THERMAL_THROTTLE_RELEASE (R514): event 010 with cause 02h. -/
def execThermalThrottleRelease (sensor : Nat) (t : Int) (s : State) : Host.Outcome State Fault Refusal :=
  let s1 := putTemp sensor t s
  if s.pwr.thermalCap = false ∨ 373 < kelvin (compositeTemp s1) then .next s1
  else .next (raise 10 2 (tempData sensor t)
    { s1 with pwr := { s1.pwr with thermalCap := false }, evt := { s1.evt with thermal := false } })

end Sys2Proof.Machine
end

