-- ==== Sys2Proof/Machine/Discovery.lean ====
section
/-! DEFINITION. Flash discovery (R3, R14, R130 to R134, R155, R157, R164, R568, R585): what the device makes of the volumes
it finds, Table 4.2. -/

namespace Sys2Proof.Machine

open Sys2Proof

/-- A grade S part uses two dies of a volume at most (R3). -/
def OrderingCode.usesDie (code : OrderingCode) (i : Nat) : Bool :=
  code == .b16gm || decide (i < 2)

/-! ### NAND profiles (R130, R132) -/

/-- The profiles that a device tries on a die: those of 2400h.09 before the built-in ones (R132). Built-in profiles are numbered
from 0, added ones after them (DESIGN CHOICE, log 138). -/
def profileList (s : State) : List (Nat × NandProfile) :=
  let built := s.fw.profiles
  let bytes := dom s 0x2400 9
  let added := if bytes = [] then [] else Config.addedProfiles bytes
  ((added.zipIdx).map fun x => (built.length + x.2, x.1)) ++ (built.zipIdx).map fun x => (x.2, x.1)

/-- The profile of a die: manufacturer, device model and revision match (R132). -/
def profileFor (ps : List (Nat × NandProfile)) (f : DieFound) : Option (Nat × NandProfile) :=
  ps.find? fun p => p.2.maker == f.maker && p.2.model == f.model && p.2.rev == f.rev

/-- Read-level offsets that a set may hold: at most 15 levels, −64 to +63 steps (Table 4.1). -/
def levelsOk (l : List Int) : Bool := decide (l.length ≤ 15) && l.all fun o => decide (-64 ≤ o ∧ o ≤ 63)

/-- The rows of Table 4.1 that a profile gives: cell modes, pages of a plane block in the native mode, read-level offsets. -/
def NandProfile.accepted (p : NandProfile) (pages : Nat) : Bool :=
  (p.native == 1 || p.native == 3 || p.native == 4) && p.modes.contains 1
    && decide ((p.native = 3 → pages % 3 = 0) ∧ (p.native = 4 → pages % 4 = 0))
    && decide (p.features.length ≤ 15) && levelsOk p.cold && levelsOk p.openSet && p.retry.all levelsOk && decide (p.retry.length ≤ 8)

/-- A die's parameters lie within Table 4.1 (R130), those of its profile too when one matches. -/
def DieFound.accepted (ps : List (Nat × NandProfile)) (f : DieFound) : Bool :=
  f.onfi && decide (800 ≤ f.rate ∧ f.rate ≤ 3600) && f.page == 16384
    && decide (1920 ≤ f.spareArea ∧ f.spareArea ≤ 2560 ∧ f.spareArea % 32 = 0)
    && decide (2 ≤ f.planes ∧ f.planes ≤ 6) && decide (768 ≤ f.pages ∧ f.pages ≤ 3072) && f.multiPlane
    && ((profileFor ps f).map fun p => NandProfile.accepted p.2 f.pages).getD true

/-- The reason for which a volume fails its own checks, in the order in which discovery meets them (R130 to R134): no
answer or training, parameter page, parameters, profile. -/
def ownCheck (ps : List (Nat × NandProfile)) (dead : List Nat) (v : VolFound) : Option Nat :=
  if v.answered = false ∨ dead.contains (channelOf v.port) then some 6
  else if v.pageOk = false then some 5
  else if v.dies = [] ∨ 4 < v.dies.length ∨ v.dies.any (fun f => !DieFound.accepted ps f) then some 0x0C
  else if v.dies.any fun f => (profileFor ps f).isNone then some 4
  else none

/-- What a profile gives a die. -/
def Die.withProfile (i : Nat) (p : NandProfile) (d : Die) : Die :=
  { d with
    profile := i
    native := p.native
    modes := p.modes
    suspendable := p.suspend
    setFeatSusp := p.setFeatures
    tMax := p.tEraseMax
    tRead := p.tRead
    tProg := p.tProg
    tErase := p.tErase
    tReadMax := p.tReadMax
    tProgMax := p.tProgMax
    features := p.features
    cold := p.cold
    retry := p.retry
    openSet := p.openSet
    threshold := p.threshold
    rated := p.rated }

/-- A die as found: what the tier knows of the die with this unique ID is kept; its read levels are cold (R155). -/
def dieFound (s : State) (old : Option Die) (failed : List Nat) (i : Nat) (f : DieFound) : Die :=
  let base : Die := match old with
    | some d => if d.uid = f.uid then d else { }
    | none => { }
  let out := failed.contains i
  let uses := s.part.code.usesDie i
  let d : Die := match profileFor (profileList s) f with
    | some p => base.withProfile p.1 p.2
    | none => { base with profile := 255 }
  { d with
    uid := f.uid
    planes := f.planes
    pages := f.pages
    spareArea := f.spareArea
    blocks := f.blocks
    factoryBad := if base.marksRead then base.factoryBad else f.bad
    failed := out
    inService := !out && uses
    reason := if uses = false then 1 else if out then 9 else 0
    bins := List.replicate 8 {}
    loaded := 0
    credits := []
    op := none
    susp := none
    tenantUse := []
    timeoutAt := none }

/-- Every die of a failed volume is failed (R164). -/
def Vol.allFailed (reason : Nat) (v : Vol) : Vol :=
  { v with
    st := .failed
    reason := reason
    dies := v.dies.map fun d => { d with
      inService := false
      failed := d.reason != 1
      reason := if d.reason = 1 then 1 else reason
      op := none
      susp := none } }

/-- A volume as found, its dies named. -/
def volFound (s : State) (failed : List Nat) (f : VolFound) : Vol :=
  let old := volOf s f.port
  { port := f.port, unrecovered := (old.map Vol.unrecovered).getD 0
    dies := (f.dies.zipIdx).map fun d => dieFound s (old.bind fun v => v.dies[d.2]?) failed d.2 d.1 }

/-- The reason of a volume recorded in service that fails: its channel cannot be trained, else its own (Table 4.5). -/
def failReason (dead : List Nat) (port c : Nat) : Nat := if dead.contains (channelOf port) then 0x0A else c

/-- A volume port as a later discovery classifies it (Table 4.2, R585); none when it is absent. -/
def classify (s : State) (dead : List Nat) (port : Nat) (found : Option VolFound) : Option Vol :=
  let r := portRec s port
  let old := volOf s port
  match found with
  | none =>
    match r.st with
    | .inService =>
      match old with
      | some v => if v.retiring then some (v.allFailed 0x0B) else some (v.allFailed (failReason dead port 6))
      | none => some { port := port, st := .failed, reason := failReason dead port 6 }
    | .retired => old.map Vol.allOut
    | _ => none
  | some f =>
    let v := volFound s r.failedDies f
    let ids := f.dies.map DieFound.uid
    let same : Bool := decide (ids = r.uids)
    let adopting : Bool := old.any fun o => o.st == VolState.adopting && decide (o.uids = ids)
    match r.st, ownCheck (profileList s) dead f with
    | .inService, some c => some ((old.getD v).allFailed (failReason dead port c))
    | .retired, some _ => old.map Vol.allOut
    | _, some c => some ({ v with st := .excluded, reason := c }).allOut
    | st, none =>
      if adopting then some { v.allOut with st := .adopting, progress := (old.map Vol.progress).getD 0 }
      else match st with
        | .inService =>
          if same then
            if (old.map Vol.retiring).getD false then some { v with st := .failed, reason := 0x0B, retiring := true }
            else some { v with st := .inService }
          else some ({ v with st := .quarantined, reason := 7 }).allOut
        | .retired =>
          if same ∨ r.uids = [] then some ({ v with st := .retired, reason := 0x0B }).allOut
          else some ({ v with st := .quarantined, reason := 7 }).allOut
        | _ =>
          if same ∧ r.uids ≠ [] then some { v with st := .excluded, reason := 2 }
          else some ({ v with st := .quarantined, reason := 8 }).allOut

/-- A volume port of a new tier: in service when it passes its own checks (Table 4.2). -/
def classifyNew (s : State) (dead : List Nat) (f : VolFound) : Vol :=
  match ownCheck (profileList s) dead f with
  | some c => ({ volFound s [] f with st := .excluded, reason := c }).allOut
  | none => { volFound s [] f with st := .inService }

/-- Events of a volume whose state has changed since the last discovery, and of its dies that fail with it (R164, Table 4.2). -/
def volumeEvents (before : List Vol) (s : State) : State :=
  s.flash.vols.foldl (fun t v =>
    let was := before.find? fun w => w.port == v.port
    if (was.map fun w => (w.st, w.reason)) = some (v.st, v.reason) then t
    else match v.st with
      | .failed =>
        let newly := ((v.dies.zipIdx).filter fun d =>
          d.1.failed && !((was.bind fun w => w.dies[d.2]?).map (·.failed)).getD false).map (·.2)
        raise (72 + laneOf v.port) v.reason (evBytes 2 v.port ++ [0])
          (newly.foldl (fun u i => raise (64 + laneOf v.port) v.reason (evBytes 2 v.port ++ [i]) u) t)
      | .quarantined => raise (88 + laneOf v.port) v.reason (evBytes 2 v.port ++ [0]) t
      | _ => t) s

/-- Zone blocks that a discovery takes away or brings back (R164): the change of 2400h.08. -/
def blocksLost (before : List Vol) (s : State) : Nat × Nat :=
  let sumOn := fun (vs : List Vol) (p : Vol → Bool) => sumOf ((vs.filter p).map Vol.zoneBlockSum)
  let now := fun port => (volOf s port).map (·.st) == some VolState.inService
  let was := fun port => (before.find? fun w => w.port == port).map (·.st) == some VolState.inService
  (sumOn before (fun v => v.st == .inService && !now v.port), sumOn s.flash.vols (fun v => v.st == .inService && !was v.port))

/-- What volumes found in other states mean for the tier: events, blocks lost, members lost, channels and lane sets (R164
to R168). A channel that had a volume serving and has none now fails, whatever the other channels of its lane set do. -/
def settleVolumes (vs : List Vol) (s : State) : State :=
  let before := s.flash.vols
  let s1 := volumeEvents before { s with flash := { s.flash with vols := vs } }
  let d := blocksLost before s1
  let s2 := { s1 with flash := { s1.flash with unbindable := s1.flash.unbindable + d.1 - d.2 } }
  let gone := fun m : Member => (volOf s2 m.port).all fun v => v.st != .inService && !v.retiring
  let deadDie := fun m : Member => ((dieOf s2 m.port m.die).map (·.failed)).getD true
  let s3 := loseMembers (fun m => gone m || deadDie m) s2
  let died := (List.range 128).filter fun c => servingOn s c != [] && servingOn s3 c == []
  let s4 := died.foldl (fun t c => failChannel c t) s3
  let lanes := lanesServing s4 s4.tide.lanes
  let s5 := (lanesIn s4.flash.laneSets).foldl (fun t l => if bitOf lanes l then t else laneOut l t) s4
  cacheLimitUpdate { s5 with flash := { s5.flash with laneSets := lanes } }

/-- The volumes of a later discovery (Table 4.2). -/
def classifyAll (b : Boot) (s : State) : List Vol :=
  let ports := (List.range 1024).filter fun p =>
    b.vols.any (fun f => f.port == p) || (portRec s p).st == .inService || (portRec s p).st == .retired
  ports.filterMap fun p => classify s b.deadChannels p (b.vols.find? fun f => f.port == p)

/-- A later discovery of a tier that is formed (Table 4.2). A tier format of a formed tier that was cut short starts again: the record
still holds (R585), lane sets that entered the tier stay, and only R131 is judged again (R143; DESIGN CHOICE, log 136). -/
def discoverKnown (b : Boot) (s : State) : State :=
  let s1 := settleVolumes (classifyAll b s) s
  if s.flash.formatting then reformTier s.flash.cellMode s1 else s1

/-- The discovery of a new tier (R143): tier format follows when any volume is in service. -/
def discoverNew (b : Boot) (s : State) : State :=
  let mode := if s.flash.formatting then some s.flash.cellMode else none
  let vs := formLanes mode (((List.range 1024).filterMap fun p => b.vols.find? fun f => f.port == p).map (classifyNew s b.deadChannels))
  let lanes := sumOf (((List.range 8).filter fun l => vs.any fun v => laneOf v.port == l && v.st == .inService).map (2 ^ ·))
  let s1 := { s with flash := { s.flash with vols := vs, laneSets := lanes, zoneCount := 0, zoneBlocks := 0, unbindable := 0 } }
  let m := mode.getD (defaultCellMode s1)
  if vs.any (fun v => v.st == .inService) then startTierFormat m s1
  else { s1 with flash := { s1.flash with cellMode := m, formatting := false } }

/-- Age bins of a die that hold data. -/
def binsOf (s : State) (port die : Nat) : List Nat :=
  let mine := s.hs.zones.flatMap fun z =>
    if z.placed = 0 then [] else z.members.filter fun m => m.port == port && m.die == die && !m.lost
  (List.range 8).filter fun b => mine.any fun m => ageBin (nowNs s) m == b

/-- Dies with data and their age bins: the cold-start reads to make (R157). -/
def coldList (s : State) : List (Nat × Nat × Nat) :=
  (servingDies s).flatMap fun d => (binsOf s d.1 d.2.1).map fun bin => (d.1, d.2.1, bin)

/-- Data rate of a channel (R126): the lowest of 3,600 MT/s, 2400h.0A, and the highest rate of every die on it. -/
def channelRate (b : Boot) (s : State) (c : Nat) : Nat :=
  (b.vols.filter fun v => channelOf v.port == c && v.answered).foldl (fun r v => v.dies.foldl (fun q f => min q f.rate) r)
    (min 3600 (num s 0x2400 0x0A))

/-- Flash discovery (R133): every channel's write protection is released as its discovery begins (R567). -/
def discover (b : Boot) (s : State) : State :=
  let s0 := { s with flash := { s.flash with wpN := true, rates := (List.range 128).map (channelRate b s) } }
  let s1 := if s0.tide.tier then discoverKnown b s0 else discoverNew b s0
  { s1 with flash := { s1.flash with coldReads := coldList s1 } }

/-- A volume in service whose unique IDs, read again, differ from the record (Table 4.2, R499). -/
def idsDiffer (s : State) (b : Boot) (v : Vol) : Bool :=
  v.st == .inService && b.vols.any fun f => f.port == v.port && f.dies.map DieFound.uid != (portRec s f.port).uids

/-- What stands at a port whose unique IDs differ: quarantined as found (R499, Table 4.2). -/
def quarantine (s : State) (b : Boot) (v : Vol) : Vol :=
  match b.vols.find? fun f => f.port == v.port with
  | some f => ({ volFound s [] f with st := .quarantined, reason := 7 }).allOut
  | none => v

/-- The exit from PS3 reads each volume's unique IDs again: a volume whose IDs differ is quarantined (R499, R503). -/
def compareIds (b : Boot) (s : State) : State :=
  let s1 := if s.flash.vols.any (idsDiffer s b) then
      settleVolumes (s.flash.vols.map fun v => if idsDiffer s b v then quarantine s b v else v) s
    else s
  { s1 with flash := { s1.flash with coldReads := coldList s1 } }

end Sys2Proof.Machine
end

