-- ==== Sys2Proof/Machine/Startup.lean ====
section
/-! DEFINITION. Full resets and start-up (R12, R33, R56, R121, R521, R522, R545, R551, R554 to R558): what a reset keeps,
the boot ROM, the replay of Tidemark and the device's becoming ready. -/

namespace Sys2Proof.Machine

open Sys2Proof

/-! ### What a reset leaves (R457, R554, R555) -/

/-- A zone, or reclaim unit, whose data from an LBA on is gone: the write pointer is replayed as the end of what is programmed. -/
def cutZone (z : Zone) (upTo : Nat) (s : State) : State :=
  if z.wp ≤ upTo then s
  else if upTo = 0 ∧ z.st ≠ .recallTarget then emptyZone z s
  else setZone { z with
    wp := upTo
    ack := min z.ack upTo
    flashed := min z.flashed upTo
    st := if z.st = .full then (if isUnit s z then .implicitOpen else .closed) else z.st
    data := z.data.filter fun x => decide (x.1 < upTo) } s

/-- An LBA of an FDP namespace whose last write is gone holds again what it held before (R55). -/
def Ns.revert (s : State) (n : Ns) : Ns :=
  let gone := fun l => ((n.placeOf l).map fun p => decide ((zoneOf s n.nsid p.1).wp ≤ p.2)).getD false
  let lost := n.fdpOld.filter fun x => gone x.1
  let n1 := lost.foldl (fun m x =>
    match x.2 with
    | some o => { m with fdpData := putKey x.1 o.1 m.fdpData, fdpMap := putKey x.1 o.2 m.fdpMap }
    | none => m.forget fun l => l == x.1) n
  { n1 with fdpOld := [] }

/-- Every FDP namespace after its units were cut. -/
def revertFdp (s : State) : State :=
  { s with hs := { s.hs with ns := s.hs.ns.map fun n => if n.fdp then Ns.revert s n else n } }

/-- Completed, unprogrammed data is lost when the supply goes with no flush. -/
def loseUnprogrammed (s : State) : State :=
  revertFdp (s.hs.zones.foldl (fun t z =>
    if z.arch ≠ .resident ∧ z.st ≠ .recallTarget then t else cutZone z z.flashed t) s)

/-- A namespace across a reset: a reservation persists only with Persist Through Power Loss (R67). -/
def Ns.kept (n : Ns) : Ns :=
  { n with resv := if n.resv.ptpl then n.resv else { } }

/-- A volume across a reset: nothing is on its arrays. -/
def Vol.kept (v : Vol) : Vol :=
  { v with
    dies := v.dies.map fun d => { d with op := none, susp := none, credits := [], tenantUse := [], timeoutAt := none, loaded := 0,
                                         bins := List.replicate 8 {} } }

/-- A disc of a set across a reset: its drain buffers are lost. -/
def SetDisc.kept (d : SetDisc) : SetDisc :=
  { d with staged := 0 }

/-- A recall across a reset waits for a bay; its target keeps the frames programmed. One that only had frames to reallocate
has ended (log 43). -/
def keptRecall (s : State) (r : Recall) : Recall :=
  { r with bay := none, loaded := false, step4 := false, others := [], todo := [], frames := (zoneOf s r.nsid r.zone).wp }

/-- The drain engine across a reset: the plan store is lost (R217), a reconstruction ends with its target set. -/
def Ebb.kept (s : State) : Ebb :=
  let e := s.ebb
  let lost := fun p : Plan => { p with inStore := false }
  { objs := e.objs.map fun o => { o with recon := false }
    queue := e.queue
    nextSet := e.nextSet
    plans := e.plans.map lost
    sets := (e.sets.filter fun a => !isRecon s a.sid).map fun a =>
      { a with plan := lost a.plan, discs := a.discs.map SetDisc.kept, readTo := 0 }
    archived := e.archived
    recalls := (e.recalls.filter fun r => !r.full).map (keptRecall s) }

/-- A bay across a reset: its inputs and the known serial of its head front end. -/
def Bay.kept (y : Bay) : Bay :=
  { present := y.present, door := y.door, cway := { serial := y.cway.serial }, cald := { drvEn := y.cald.drvEn } }

/-- A full reset (R554): everything not fused, not in Tidemark and not a pin returns to its value at power-on; the device is
held in reset. -/
def fullReset (s : State) : State :=
  { pending := s.pending
    free := s.free
    harbourCause := s.harbourCause
    part := s.part
    fw := { s.fw with download := [], booted := 0, version := 0, security := 0, profiles := [], watchdog := false }
    evt := { log := s.evt.log, seq := s.evt.seq, overwritten := s.evt.overwritten }
    ctrls := Vector.ofFn fun p => ({ perst := (s.ctrls.get p).perst } : Ctrl)
    hs := {
      allocKept := s.hs.allocKept
      ns := s.hs.ns.map Ns.kept
      zones := s.hs.zones.map fun z => { z with rowBusy := [] }
      changedAt := s.hs.changedAt
      stamp := s.hs.stamp
      objNext := s.hs.objNext
      cacheLimit := s.hs.cacheLimit
      errorCount := s.hs.errorCount
      readCmds := s.hs.readCmds
      writeCmds := s.hs.writeCmds
      readUnits := s.hs.readUnits
      writeUnits := s.hs.writeUnits
      mediaErrors := s.hs.mediaErrors
      cycles := s.hs.cycles
      unsafeStops := s.hs.unsafeStops }
    flash := { s.flash with vols := s.flash.vols.map Vol.kept, wpN := false, rebuilt := 0, coldReads := [] }
    tide := { s.tide with waiting := 0 }
    ebb := Ebb.kept s
    bays := Vector.ofFn fun b => (s.bays.get b).kept
    doors := {
      nums := s.doors.nums
      doms := s.doors.doms
      pending := s.doors.pending
      lockedWrites := s.doors.lockedWrites
      lastLocked := s.doors.lastLocked
      lastDoor := s.doors.lastDoor
      portLink := s.doors.portLink }
    adm := { s.adm with armCode := 0, armArg := 0, armDoor := 0, armAt := 0 }
    sup := {
      v12 := s.sup.v12
      core := s.sup.core
      holdupOk := s.sup.holdupOk
      temps := s.sup.temps
      vfld := s.sup.vfld
      vdrv := s.sup.vdrv
      vcoil := s.sup.vcoil
      vdl := s.sup.vdl
      drive := s.sup.drive
      caldTemp := s.sup.caldTemp } }

/-! ### The boot ROM (R520 to R522) -/

/-- Value of the anti-rollback counter: the highest cell that reads blown at either reference, plus 1 (R522). -/
def arCounter (cells : List ArCell) : Nat :=
  maxOf ((cells.zipIdx).map fun c => if c.1 = .unblown then 0 else c.2 + 1)

/-- Blow one cell and read it back. -/
def blowCell (i : Nat) (s : State) : State :=
  { s with part := { s.part with arCells := modNth s.part.arCells i fun _ => .blown } }

/-- Cells to be repaired (R522 step 2). -/
def tornCells (cells : List ArCell) : List Nat :=
  ((cells.zipIdx).filter fun c => c.1 == .marginal || (c.1 == .unblown && decide (c.2 < arCounter cells))).map (·.2)

/-- The repair of the anti-rollback counter at power-on (R522): event 019 for each cell. -/
def repairCells (s : State) : State :=
  (tornCells s.part.arCells).foldl (fun t i => raise 19 0 (evBytes 2 i) (blowCell i t)) s

/-- Blow the counter up to a security version (R522). -/
def blowTo (n : Nat) (s : State) : State :=
  ((List.range 256).filter fun i => decide (i < n) && s.part.arCells.getD i .blown != ArCell.blown).foldl (fun t i => blowCell i t) s

/-- The first check of R520 that an image fails: 1 signature, 2 product code, 3 security version; 0 none. -/
def imageFault (s : State) (img : FwImage) : Nat :=
  if img.signatureOk = false then 1
  else if img.product ≠ 0x1664 then 2
  else if 256 < img.security ∨ img.security < arCounter s.part.arCells then 3
  else 0

/-- A firmware slot. -/
def slotOf (f : Fw) (n : Nat) : FwSlot := if n = 1 then f.slot1 else f.slot2

/-- Change a firmware slot. -/
def modSlot (n : Nat) (g : FwSlot → FwSlot) (s : State) : State :=
  if n = 1 then { s with fw := { s.fw with slot1 := g s.fw.slot1 } }
  else { s with fw := { s.fw with slot2 := g s.fw.slot2 } }

/-- The order in which the boot ROM tries the slots (R521): marked, last active, the other. -/
def bootOrder (f : Fw) : List Nat :=
  ([1, 2].filter fun n => (slotOf f n).marked) ++ ([f.active].filter fun n => n == 1 || n == 2) ++ [1, 2]

/-- The boot ROM's choice among slots in order (R521); an image that fails its checks raises event 018. -/
def chooseSlot : List Nat → State → State × Option (Nat × FwImage)
  | [], s => (s, none)
  | n :: ns, s =>
    match (slotOf s.fw n).image with
    | none => chooseSlot ns s
    | some img =>
      match imageFault s img with
      | 0 => (s, some (n, img))
      | c => chooseSlot ns (raise 18 c [n] s)

/-- Remove repeated members, keeping the first. -/
def firstOf (l : List Nat) : List Nat :=
  l.foldl (fun acc n => if acc.contains n then acc else acc ++ [n]) []

/-! ### Replay and ready (R121, R149, R158, R527, R556) -/

/-- Ports of a strap value (R12). -/
def portsOf (straps : BitVec 2) : Nat :=
  if straps = 1 then 2 else if straps = 2 then 4 else 1

/-- The queue-pool split in force at power-on (R30, R33): the one kept when it still fits, else the default. -/
def splitAt (kept : Option (List Nat)) (ports : Nat) : List Nat :=
  let dflt := (List.range 4).map fun p => if p < ports then 4096 / ports else 0
  match kept with
  | some l => if sumOf l ≤ 4096 ∧ (l.drop ports).all (· == 0) then l else dflt
  | none => dflt

/-- The subindices that 1011h.01 restores (R458). -/
def restored (code : OrderingCode) (key : Nat) : Bool :=
  let index := key / 256
  match descOf code index (key % 256) with
  | some d =>
    (d.acc == .rw || d.acc == .rws || d.acc == .locks) && index != 0x2010 && index != 0x2050
      && !(index == 0x2400 && key % 256 == 4)
  | none => false

/-- Restore defaults when that was asked for (R458). -/
def restoreDefaults (s : State) : State :=
  if s.tide.restore then
    { s with
      doors := { s.doors with
        nums := s.doors.nums.filter fun e => !restored s.part.code e.1
        doms := s.doors.doms.filter fun e => !restored s.part.code e.1
        pending := [] }
      hs := { s.hs with allocKept := none }
      tide := { s.tide with restore := false } }
  else s

/-- The disc of a set as its last progress record has it (R222, R232). -/
def SetDisc.replayed (d : SetDisc) : SetDisc :=
  if d.live ∧ d.serial ≠ [] then
    { d with
      resync := true
      layer := d.progLayer
      row := d.progRow
      slot := d.progSlot
      slips := if d.layer = d.progLayer then d.slips.filter fun x => decide (x.2 < d.progSlot) else [] }
  else d

/-- What an unclean stop adds to the replay (R121, R158, R232): read counts, map regions, resynchronisation. -/
def replayUnclean (s : State) : State :=
  let s1 := { s with
    hs := { s.hs with
      zones := s.hs.zones.map fun z => { z with members := z.members.map (restoreReads s) }
      regions := List.range 180
      rebuilding := []
      promoted := []
      rebuildFrom := s.clock
      unsafeStops := s.hs.unsafeStops + 1 }
    ebb := { s.ebb with sets := s.ebb.sets.map fun a => { a with discs := a.discs.map SetDisc.replayed } } }
  raise 45 0 (evBytes 4 180) (fillRebuilds 8 s1)

/-- The tier's state and its event (R527, 2060h.03). -/
def tierAtBoot (s : State) : State :=
  if s.flash.formatting ∨ s.tide.tier = false then { s with tierState := 0 }
  else if s.tide.writer = s.part.serial then { s with tierState := 1 }
  else raise 21 0 (evStr (s.tide.writer.take 8)) { s with tierState := 2 }

/-- Each bay's standing work after a reset: the disc of a set that it holds; a disc that is not there is asked for. -/
def bayWorkAtBoot (s : State) : State :=
  let s1 := modBays (fun b y =>
    match discOn s b with
    | some (_, d) => { y with work := 3, role := d.role }
    | none => y) s
  allBays.foldl (fun t b =>
    match discOn t b with
    | some (_, d) => if d.serial = [] ∨ (bayAt t b).present = false then nextRequest b t else t
    | none => t) s1

/-- Staging pages whose header CRC fails are ignored: their data was never completed to a host (R149). -/
def dropStaging (bad : List Nat) (s : State) : State :=
  let l := s.flash.staging.zipIdx
  let lost := (l.filter fun x => bad.contains x.2).map (·.1)
  let s1 := { s with flash := { s.flash with staging := (l.filter fun x => !bad.contains x.2).map (·.1) } }
  revertFdp (lost.foldl (fun t e =>
    let z := zoneOf t e.nsid e.idx
    if z.bind = e.bind ∧ 0 < e.lbas ∧ z.placed ≤ e.first then cutZone z e.first t else t) s1)

/-- Tidemark has been replayed (R33, R121, R124, R149, R458, R527, R537): the budgets follow the regions that are missing. -/
def replay (badStaging : List Nat) (s : State) : State :=
  let unclean := !s.tide.clean
  let s1 := restoreDefaults (if badStaging = [] then s else dropStaging badStaging s)
  let s2 := { s1 with
    mem := { s1.mem with tideWritten := true }
    hs := { s1.hs with alloc := splitAt s1.hs.allocKept s1.ports }
    sup := { s1.sup with supStored := true }
    adm := { s1.adm with
      prog := if s1.adm.running = [] then s1.adm.prog else { s1.adm.prog with cycles := min 255 (s1.adm.prog.cycles + 1) } } }
  let s3 := applyCarveOut (if unclean then replayUnclean s2 else s2)
  bayWorkAtBoot (tierAtBoot (takeBudgets s3))

/-- The controllers become ready (R22, R521, R522, R551, R556 step 9). -/
def becomeReady (b : Boot) (slot : Nat) (img : FwImage) (clean : Bool) (s : State) : State :=
  let fresh := decide (s.fw.active ≠ slot) || !(slotOf s.fw slot).everReady
  let s1 := modSlot slot (fun f => { f with everReady := true })
    { s with
      phase := .running
      fw := { s.fw with active := slot, watchdog := false }
      hs := { s.hs with cycles := s.hs.cycles + 1 }
      ctrls := Vector.ofFn fun p =>
        let c := s.ctrls.get p
        { c with accessible := c.present && !c.perst } }
  let s2 := raise 3 (if clean then 1 else 2) (evBytes 4 b.readyMs) s1
  let s3 := if fresh then raise 17 0 ([slot] ++ evBytes 2 img.security ++ [0] ++ evBytes 4 img.version) s2 else s2
  let s4 := blowTo img.security s3
  if s4.sup.holdupOk then startSelfTest b.v0 s4 else s4

/-- The image runs: security self-checks, the barrier link, HBM training, discovery, replay (R556 steps 3 to 9). -/
def runImage (b : Boot) (slot : Nat) (img : FwImage) (s : State) : State :=
  let s1 := b.security.foldl (fun t c => raise 20 c [] t)
    { s with
      fw := { s.fw with booted := slot, version := img.version, security := img.security, profiles := img.profiles }
      sup := { s.sup with barrier := if b.barrier then 2 else 0 } }
  if b.hbm0 = false ∨ b.hbm1 = false then harbourCommit 6 s1
  else
    let s2 := { s1 with mem := { s1.mem with hbmTrained := true } }
    if (slotOf s2.fw slot).everReady = false ∧ 120000 < b.readyMs then { s2 with fw := { s2.fw with watchdog := true } }
    else
      let clean := s.tide.clean
      let s3 := discover b s2
      becomeReady b slot img clean (replay b.badStaging { s3 with tide := { s3.tide with clean := clean } })

/-- Start-up after a full reset (R556), skipping slots whose image the watchdog has stopped. -/
def startUp (b : Boot) (skip : List Nat) (s : State) : State :=
  let p := portsOf b.straps
  let s1 := { s with
    phase := .starting
    ports := p
    epochNs := b.dcNs
    ctrls := Vector.ofFn fun i => { (s.ctrls.get i) with present := decide (i.val < p) }
    sup := { s.sup with resetN := true, resetHeld := false, holdupOk := b.holdup } }
  let clean := s1.tide.clean
  let s2 := repairCells s1
  let order := (firstOf (bootOrder s2.fw)).filter fun n => !skip.contains n
  let s3 := { s2 with
    fw := { s2.fw with slot1 := { s2.fw.slot1 with marked := false }, slot2 := { s2.fw.slot2 with marked := false } } }
  let r := chooseSlot order s3
  match r.2 with
  | none => { r.1 with phase := .bootRecovery, tide := { r.1.tide with clean := clean } }
  | some (slot, img) => runImage b slot img { r.1 with tide := { r.1.tide with clean := clean } }

/-! ### Commands -/

/-- The supply goes while data waits to be programmed. -/
def abruptLoss (s : State) : State :=
  if s.phase = .running ∨ s.sup.flushing then loseUnprogrammed s else s

/-- POWER_ON_RESET (R12, R538, R554, R556). -/
def execPowerOnReset (b : Boot) (s : State) : Host.Outcome State Fault Refusal :=
  .next (startUp b [] (fullReset (abruptLoss s)))

/-- BOOT_WATCHDOG_EXPIRY (R521): event 018 with cause 04h, and the next slot. -/
def execBootWatchdogExpiry (b : Boot) (s : State) : Host.Outcome State Fault Refusal :=
  if s.fw.watchdog = false then .next s
  else
    let slot := s.fw.booted
    let clean := s.tide.clean
    let s1 := raise 18 4 [slot] s
    .next (startUp b [slot] (fullReset { s1 with tide := { s1.tide with clean := clean } }))

/-- RESET_N_ASSERT (R543, R554): during operation Harbour with cause 07h; in start-up and in a Harbour that remains, reset
at once. -/
def execResetNAssert (s : State) : Host.Outcome State Fault Refusal :=
  let s1 := { s with sup := { s.sup with resetN := false } }
  match s.phase with
  | .running => .next (harbourCommit 7 s1)
  | .harbour => .next (if s.sup.flushing then s1 else fullReset s1)
  | _ => .next (fullReset s1)

/-- THERMAL_HARBOUR_RECOVERY (R545): the device resets itself out of a Harbour of cause 05h. -/
def execThermalHarbourRecovery (s : State) : Host.Outcome State Fault Refusal :=
  if s.phase = .harbour ∧ s.harbourCause = 5 ∧ s.sup.flushing = false ∧ s.sup.temps.all (fun t => decide (t < 1050)) then .next (fullReset s) else .next s

/-- A die at the commitment to Harbour (R147 step 1): what is in flight, and a suspended program, completes; the block of a suspended
erase is recorded for erase again. -/
def Die.quiet (d : Die) : Die :=
  let due := match d.susp with
    | some o => if o.kind = .erase then [o.block] else []
    | none => []
  { d with op := none, susp := none, eraseDue := (d.eraseDue.filter fun k => !due.contains k) ++ due }

/-- The programs of a zone that are in flight complete (R147 step 1): positions whose program still waited on its die do not. -/
def quietZone (s : State) (z : Zone) : Zone :=
  let waits := fun i => ((z.members[i]?).map fun m =>
    (waitingOn s m.port m.die).any fun o => o.kind == .program && o.zone == some (z.nsid, z.idx)).getD false
  let z1 := z.rowDone s fun i => !waits i
  { z1 with rowBusy := [] }

/-- A flush has programmed everything completed or accepted to staging, over every die in service in rotation, and the dies'
operations have ended (R147). -/
def flushDone (s : State) : State :=
  let dies := (servingDies s).map fun d => (d.1, d.2.1)
  let s1 := modDies Die.quiet { s with hs := { s.hs with zones := s.hs.zones.map (quietZone s) } }
  let s2 := s1.hs.zones.foldl (fun t z => if z.flashed < z.wp then stageSpan z dies z.flashed (z.wp - z.flashed) false t else t)
    { s1 with bw := { s1.bw with waiting := [] } }
  tideRecord { s2 with
    hs := { s2.hs with zones := s2.hs.zones.map fun z => { z with flashed := z.wp } }
    flash := { s2.flash with wpN := false }
    sup := { s2.sup with flushing := false } }

/-- The Harbour causes after which the device resets (Table 17.3). -/
def resetCause (c : Nat) : Bool :=
  c != 5 && c != 6 && c != 9

end Sys2Proof.Machine
end

