-- ==== Sys2Proof/Machine/DictRead.lean ====
section
/-! DEFINITION. What every subindex of the object dictionary reads as (R454, R457, R471 to R477 and the object tables of the
chapters): values computed from the state, and the values stored. -/

namespace Sys2Proof.Machine

open Sys2Proof

/-- Little-endian entries of n bytes each, from a list of natural numbers, padded to a length. -/
def packNats (n count : Nat) (l : List Nat) : List Byte :=
  (List.range count).flatMap fun i => leBytes n (l.getD i 0)

/-- Little-endian signed entries. -/
def packInts (n count : Nat) (l : List Int) : List Byte :=
  (List.range count).flatMap fun i => leInt n (l.getD i 0)

/-- Text of an ordering code (R1). -/
def OrderingCode.text : OrderingCode → List Byte
  | .b16gm => ascii "UZ-1664-B16-GM"
  | .b16gs => ascii "UZ-1664-B16-GS"
  | .b08gs => ascii "UZ-1664-B08-GS"

/-! ### The device (R472 to R477) -/

/-- Device state, 2000h.01. -/
def deviceState (s : State) : Nat :=
  match s.phase with
  | .harbour => 3
  | .running => if s.tierState = 2 then 2 else 1
  | _ => 0

/-- Identifier of the writing set, 2800h.08; 0 when none. -/
def writingSetId (s : State) : Nat :=
  ((writingSet s).map ArchSet.sid).getD 0

/-- Frames of Queued objects outside plans, 2800h.05. -/
def queuedFrames (s : State) : Nat :=
  sumOf ((outsidePlans s).map Obj.lbas)

/-- Progress of the current replacement, per cent of its rows (2820h.03). -/
def replacementProgress (s : State) : Nat :=
  match (s.ebb.sets.flatMap ArchSet.discs).find? fun d => d.replacement && d.live && d.serial != [] with
  | some d => (d.layer * dataRows + d.row) * 100 / (24 * dataRows)
  | none => 0

/-- A self-test result (Table 17.8). -/
def testResult (s : State) : List Byte :=
  [BitVec.ofNat 8 s.sup.result, BitVec.ofNat 8 ((if s.sup.holdupOk then 1 else 0) + (if cacheProtected s then 2 else 0))] ++
    leBytes 2 0 ++ leBytes 4 s.sup.capUf ++ leBytes 4 s.sup.energy ++ leBytes 2 s.sup.rv0 ++ leBytes 2 s.sup.rv1

/-- Seconds left of the arm window (2050h.05). -/
def armLeft (s : State) : Nat :=
  (s.adm.armAt + usCycles (num s 0x2050 2 * 1000000) - s.clock) / 1600000000

/-- The armed operation, 2050h.05. -/
def armedOperation (s : State) : List Byte :=
  if s.adm.armCode = 0 then leBytes 8 0
  else leBytes 1 s.adm.armCode ++ leBytes 3 s.adm.armArg ++ leBytes 1 s.adm.armDoor ++ leBytes 1 0 ++ leBytes 2 (armLeft s)

/-! ### The flash tier (Table 4.6) -/

/-- State code of a volume. -/
def VolState.code : VolState → Nat
  | .absent => 0
  | .inService => 1
  | .excluded => 2
  | .quarantined => 3
  | .failed => 4
  | .adopting => 5
  | .retired => 6

/-- Reason byte of a volume entry: the volume's, or that of its first die out of service. -/
def Vol.reasonByte (v : Vol) : Nat :=
  if v.reason ≠ 0 then v.reason else ((v.dies.find? fun d => !d.inService).map Die.reason).getD 0

/-- Mean erase count of a die's blocks. -/
def Die.meanErases (d : Die) : Nat :=
  if d.blocks = 0 then 0 else d.eraseBase + sumOf (d.eraseCounts.map (·.2)) / d.blocks

/-- One volume entry (Table 4.6); an absent volume has no profile; a running adoption's progress is a free value up to 100. -/
def volEntry (s : State) (port : Nat) : List Byte :=
  match volOf s port with
  | none => leBytes 4 0 ++ leBytes 1 255 ++ leBytes 27 0
  | some v =>
    let mask := sumOf (((v.dies.zipIdx).filter fun d => d.1.inService).map fun d => 2 ^ d.2)
    leBytes 1 v.st.code ++ leBytes 1 v.dies.length ++ leBytes 1 mask ++ leBytes 1 v.reasonByte ++
      leBytes 1 ((v.dies.head?.map Die.profile).getD 255) ++
      leBytes 1 (if v.st = .adopting then (freeOf s).toNat % 101 else 0) ++ leBytes 2 0 ++
      bvBytes 8 (crc64 (v.dies.flatMap fun d => bvBytes 16 d.uid)) ++ leBytes 2 (minOf 0 (v.dies.map Die.spare)) ++
      leBytes 2 (sumOf (v.dies.map fun d => d.grown.length)) ++ leBytes 4 (maxOf (v.dies.map Die.meanErases)) ++
      leBytes 4 v.unrecovered ++ leBytes 4 0

/-- The volume table of a lane set, 2410h.01 to .08. -/
def volTable (s : State) (lane : Nat) : List Byte :=
  (List.range 128).flatMap fun i => volEntry s (128 * lane + i)

/-- Status of a bucket (Table 5.8). -/
def bucketBytes (b : Bucket) : List Byte :=
  leBytes 2 b.level ++ leBytes 2 0 ++ leBytes 4 b.overflows ++ leBytes 4 b.total ++ leBytes 4 b.uncorr

/-! ### Fixed objects (R472, R476) -/

/-- A PDO mapping entry: index, subindex and bits. -/
def mapEntry (index sub bits : Nat) : List Byte :=
  leBytes 4 (index * 65536 + sub * 256 + bits)

/-- Bits of a mapped subindex. -/
def bitsOfSub (s : State) (index sub : Nat) : Nat :=
  ((descOf s.part.code index sub).map fun d => 8 * d.ty.size).getD 0

/-- Communication objects (R472, R476); the sync manager types and synchronisation types are those of IEC 61158 type 12. -/
def readComm (s : State) (index sub : Nat) : Option (List Byte) :=
  let n := s.part.code.bays
  if 0x1600 ≤ index ∧ index < 0x1610 then
    if sub = 0 then none else some (mapEntry (index - 0x1600 + 0x7000) sub (bitsOfSub s (index - 0x1600 + 0x7000) sub))
  else if 0x1A00 ≤ index ∧ index < 0x1A10 then
    if sub = 0 then none else some (mapEntry (index - 0x1A00 + 0x6000) sub (bitsOfSub s (index - 0x1A00 + 0x6000) sub))
  else match index, sub with
    | 0x1000, _ => some (leBytes 4 0)
    | 0x1001, _ => some (leBytes 1 (errorRegister s))
    | 0x1008, _ => some s.part.code.text
    | 0x1009, _ => some (ascii "M" ++ hex4 s.part.moduleRev)
    | 0x100A, _ => some (hex4 s.fw.version)
    | 0x1018, 1 => some (leBytes 4 0xA3D)
    | 0x1018, 2 => some (leBytes 4 0x1664)
    | 0x1018, 3 => some (leBytes 4 (s.part.moduleRev * 65536 + s.fw.version % 65536))
    | 0x1018, 4 => some (leBytes 4 (crc32 (takePad 16 s.part.serial)))
    | 0x1018, 5 => some s.part.code.text
    | 0x1A10, 0 => none
    | 0x1A10, _ => some (mapEntry 0x6010 sub (bitsOfSub s 0x6010 sub))
    | 0x1C00, 0 => none
    | 0x1C00, _ => some (leBytes 1 sub)
    | 0x1C12, 0 => some (leBytes 1 n)
    | 0x1C12, _ => some (leBytes 2 (0x1600 + sub - 1))
    | 0x1C13, 0 => some (leBytes 1 (n + 1))
    | 0x1C13, _ => some (leBytes 2 (if sub = n + 1 then 0x1A10 else 0x1A00 + sub - 1))
    | _, _ => none

/-- Device-wide objects 2000h to 2060h. -/
def readDevice (s : State) (index sub : Nat) : Option (List Byte) :=
  match index, sub with
  | 0x2000, 1 => some (leBytes 1 (deviceState s))
  | 0x2000, 2 => some (leBytes 1 s.pwr.ps)
  | 0x2000, 3 => some s.part.code.text
  | 0x2000, 4 => some (leBytes 2 (2 ^ s.part.code.bays - 1))
  | 0x2000, 5 => some (leBytes 1 (if s.lockPassed then 1 else 0))
  | 0x2000, 7 => some (leBytes 1 s.harbourCause)
  | 0x2000, 8 => some (leBytes 8 (s.clock / 1600000))
  | 0x2000, 9 => some (leBytes 8 (nowNs s))
  | 0x2020, 5 => some (packNats 1 4 s.pwr.refusal)
  | 0x2030, 1 => some (leBytes 2 s.sup.vfld)
  | 0x2030, 2 => some (leBytes 2 s.sup.vdrv)
  | 0x2030, 3 => some (leBytes 2 s.sup.vcoil)
  | 0x2030, 4 => some (leBytes 2 s.sup.vdl)
  | 0x2030, 5 => some (leBytes 2 (coilSum s))
  | 0x2030, 6 => some (leBytes 1 s.sup.drive.toNat)
  | 0x2030, 7 => some (leBytes 1 s.sup.barrier)
  | 0x2030, 8 => some (leBytes 4 s.sup.barrierLosses)
  | 0x2030, 9 => some (leInt 2 s.sup.caldTemp)
  | 0x2040, 2 => some (leBytes 4 (requiredEnergy s))
  | 0x2040, 0x0A => some (testResult s)
  | 0x2050, 5 => some (armedOperation s)
  | 0x2050, 6 => some (leBytes 1 s.adm.prog.status)
  | 0x2060, 1 => some s.part.serial
  | 0x2060, 2 => some s.tide.writer
  | 0x2060, 3 => some (leBytes 1 s.tierState)
  | 0x2060, 5 => some (s.part.siteId.getD [])
  | _, _ => none

/-- Host, flash and memory objects 2110h to 2620h and 5010h, 5020h. -/
def readStores (s : State) (index sub : Nat) : Option (List Byte) :=
  match index, sub with
  | 0x2110, 0 => none
  | 0x2110, 5 => some (leBytes 2 (4096 - sumOf s.hs.alloc))
  | 0x2110, _ => some (leBytes 2 (s.hs.alloc.getD (sub - 1) 0))
  | 0x2200, 1 => some (leBytes 1 s.tide.planes)
  | 0x2200, 2 => some (leBytes 2 s.tide.pages)
  | 0x2200, 3 => some (leBytes 4 (zoneCapacity s))
  | 0x2200, 4 => some (leBytes 4 (reportedSize s (num s 0x2200 5)))
  | 0x2400, 1 => some (leBytes 1 s.flash.laneSets)
  | 0x2400, 2 => some (leBytes 2 (servingDies s).length)
  | 0x2400, 3 => some (leBytes 1 (((s.flash.vols.find? fun v => v.st == .inService).map Vol.usable).getD 0))
  | 0x2400, 4 => some (leBytes 1 s.flash.cellMode)
  | 0x2400, 5 => some (leBytes 2 s.tide.spareArea)
  | 0x2400, 6 => some (leBytes 2 s.flash.zoneBlocks)
  | 0x2400, 7 => some (leBytes 4 (if s.flash.formatting then 0 else s.flash.zoneCount))
  | 0x2400, 8 => some (leBytes 4 s.flash.unbindable)
  | 0x2400, 0x0B => some (leBytes 1 (if s.flash.formatting then (freeOf s).toNat % 100 else 100))
  | 0x2410, 1 => some (volTable s 0)
  | 0x2410, 2 => some (volTable s 1)
  | 0x2410, 3 => some (volTable s 2)
  | 0x2410, 4 => some (volTable s 3)
  | 0x2410, 5 => some (volTable s 4)
  | 0x2410, 6 => some (volTable s 5)
  | 0x2410, 7 => some (volTable s 6)
  | 0x2410, 8 => some (volTable s 7)
  | 0x2610, 2 => some (leBytes 1 s.mem.scratchWays)
  | 0x2610, 7 => some (leBytes 1 s.mem.opStatus)
  | 0x2610, 9 => some (leBytes 4 s.mem.dirtyInvalidates)
  | 0x2620, 6 => some (leBytes 4 s.mem.hbmPasses)
  | 0x2620, 7 => some (leBytes 4 s.mem.flashPasses)
  | 0x5010, 0 => none
  | 0x5010, 9 => none
  | 0x5010, _ => some (bucketBytes (bucketOf s sub))
  | 0x5020, 1 => some (leBytes 4 s.doors.lockedWrites)
  | 0x5020, 2 => some (leBytes 4 s.doors.lastLocked)
  | 0x5020, 3 => some (leBytes 1 s.doors.lastDoor)
  | _, _ => none

/-- Archive and Korzel objects; 4000h reads its pending copy (R382). A running plan build's progress is a free value up to
100. -/
def readArchive (s : State) (index sub : Nat) : Option (List Byte) :=
  match index, sub with
  | 0x2800, 4 => some (leBytes 4 s.ebb.nextSet)
  | 0x2800, 5 => some (leBytes 8 (queuedFrames s))
  | 0x2800, 8 => some (leBytes 4 (writingSetId s))
  | 0x2810, 1 => some (leBytes 1 s.ebb.plans.length)
  | 0x2810, 2 => some (leBytes 4 ((s.ebb.building.map Plan.setId).getD 0))
  | 0x2810, 3 => some (leBytes 1 (if s.ebb.building.isSome then (freeOf s).toNat % 101 else 0))
  | 0x2810, 4 => some (leBytes 4 s.ebb.buildMs)
  | 0x2810, 6 => some (bvBytes 8 (((writingSet s).map fun a => a.plan.digest).getD 0))
  | 0x2820, 2 => some (leBytes 2 (pendingCount s))
  | 0x2820, 3 => some (leBytes 1 (replacementProgress s))
  | 0x2820, 6 => some (leBytes 1 s.ebb.recon.status)
  | 0x4400, 4 =>
    some (leBytes 4 (crc32 (leBytes 1 (num s 0x4400 1) ++ dom s 0x4400 2 ++ dom s 0x4400 3 ++
      (List.range 8).flatMap fun f => (List.range 16).flatMap fun t => dom s (0x4410 + f) (t + 1))))
  | 0x4C00, 2 => some (leBytes 2 (worstLoad (dom s 0x4C00 1)))
  | 0x4C00, 3 => some (leBytes 4 (crc32 (dom s 0x4C00 1)))
  | 0x4000, 0x12 =>
    some (leBytes 4 (crc32 ((List.range 17).flatMap fun i => dom s 0x4000 (i + 1))))
  | 0x4000, 0 => none
  | 0x4000, 0x13 => none
  | 0x4000, _ => some ((getKey (objKey 0x4000 sub) s.doors.pending).getD (dom s 0x4000 sub))
  | 0x6010, 1 => some (leBytes 1 (deviceState s))
  | 0x6010, 2 => some (leBytes 1 s.pwr.ps)
  | 0x6010, 3 => some (leBytes 4 (writingSetId s))
  | 0x6010, 4 => some (leBytes 2 (s.ebb.recalls.filter fun r => r.bay.isNone && !r.full).length)
  | 0x6010, 5 => some (leBytes 4 (s.ebb.objs.filter fun o => o.arch == .queued).length)
  | 0x6010, 6 => some (leBytes 2 s.evt.raised)
  | _, _ => none

/-! ### The bay blocks (Table 14.6) -/

/-- Bay state, 3000h.01. -/
def bayState (s : State) (b : BayId) : Nat :=
  let y := bayAt s b
  if bayEnabled s b = false then 1
  else if y.harbour then 6
  else if y.started = false then 0
  else if y.work = 0 then 2
  else y.work

/-- Bay state and process data of a bay. -/
def readBayState (s : State) (b : BayId) (off sub : Nat) : Option (List Byte) :=
  let y := bayAt s b
  match off, sub with
  | 0x00, 1 => some (leBytes 1 (bayState s b))
  | 0x00, 2 => if y.fitted then none else some (leBytes 1 0)
  | 0x00, 4 => some (leBytes 1 (if y.present then 1 else 0))
  | 0x00, 5 => some y.serial
  | 0x00, 6 => some (leBytes 1 y.disc)
  | 0x00, 7 => some (leBytes 1 y.cause)
  | 0x00, 8 => some (leBytes 1 y.role)
  | _, _ => none

/-- Transmit and receive PDO data of a bay (Table 14.11). -/
def readPdo (s : State) (b : BayId) (tx : Bool) (sub : Nat) : Option (List Byte) :=
  let y := bayAt s b
  match tx, sub with
  | true, 1 => some (leBytes 1 (bayState s b))
  | true, 2 => some (leBytes 1 y.disc)
  | true, 3 => some (leBytes 1 y.loaderState)
  | true, 4 => some (leBytes 1 y.spin.state)
  | true, 5 => some (leBytes 1 y.reqCode)
  | true, 6 => some (leBytes 1 y.reqSeq)
  | true, 7 => some (leBytes 1 y.reqReason)
  | true, 8 => some (if y.reqCode = 2 then y.reqSerial else [])
  | true, 9 => some (leBytes 1 y.ackSeq)
  | true, 0x0A => some (leBytes 1 y.ackResult)
  | true, 0x0B => some y.serial
  | false, 1 => some (leBytes 1 y.libCmd)
  | false, 2 => some (leBytes 1 y.libSeq)
  | false, 3 => some (leBytes 1 y.ansCode)
  | false, 4 => some (leBytes 1 y.ansSeq)
  | _, _ => none

/-- Servo objects of a bay (Table 11.11). -/
def readServo (s : State) (b : BayId) (off sub : Nat) : Option (List Byte) :=
  let v := (bayAt s b).servo
  match off, sub with
  | 0x10, 1 => some (leBytes 1 v.state)
  | 0x10, 2 => some (leBytes 1 v.layer)
  | 0x10, 3 => some (leBytes 2 v.region)
  | 0x11, 1 => some (packNats 2 24 v.depths)
  | 0x11, 2 => some (packNats 2 24 v.swings)
  | 0x11, 3 => some (packInts 2 24 v.focusOffsets)
  | 0x11, 4 => some (packInts 2 6 v.pitchTrims)
  | 0x11, 5 => some (packInts 2 6 v.tilts)
  | 0x11, 6 => some (packInts 2 24 ((List.range 24).map (collTarget s b)))
  | 0x11, 7 => some (bvBytes 8 v.fresh)
  | 0x11, 8 => some (packNats 1 8 v.rejection)
  | 0x12, 1 => some (packNats 4 7 v.overruns)
  | 0x12, 2 => some (packNats 4 7 v.missing)
  | 0x12, 3 => some (packNats 4 2 [v.focusLost, v.trackLost])
  | 0x12, 4 => some (leBytes 4 v.jumps)
  | 0x12, 5 => some (leBytes 4 v.fallbacks)
  | _, _ => none

/-- Spindle and stepper objects of a bay (Tables 12.3 and 12.6). -/
def readMotors (s : State) (b : BayId) (off sub : Nat) : Option (List Byte) :=
  let y := bayAt s b
  match off, sub with
  | 0x20, 1 => some (leBytes 1 y.spin.state)
  | 0x20, 2 => some (leBytes 2 y.spin.target)
  | 0x20, 4 => some (leBytes 2 y.spin.speed)
  | 0x20, 0x0D => some (packNats 4 6 y.spin.counts)
  | 0x20, 0x0E => some (leBytes 1 (b.val / 4))
  | 0x30, 1 => some (leBytes 1 y.sledState)
  | 0x30, 2 => some (leInt 4 y.sled.pos)
  | 0x30, 3 => some (leBytes 1 (if y.sled.homed = false then 2 else if y.sled.lost then 1 else 0))
  | 0x30, 4 => some (leBytes 1 (if y.sled.spring then 1 else 0))
  | 0x30, 5 => some (leBytes 2 y.sled.res)
  | 0x30, 0x11 => some (packNats 4 5 y.sledCounts)
  | 0x40, 1 => some (leBytes 1 y.loaderState)
  | 0x40, 2 => some (leInt 4 y.loader.pos)
  | 0x40, 0x0A => some (leBytes 1 y.collState)
  | 0x40, 0x0B => some (leInt 4 y.coll.pos)
  | 0x40, 0x14 => some (packInts 2 4 [y.loader.offA, y.loader.offB, y.coll.offA, y.coll.offB])
  | 0x40, 0x15 => some (leBytes 1 ((if y.loader.lost then 1 else 0) + (if y.coll.lost then 2 else 0)))
  | _, _ => none

/-- Mean corrected bits of the last frames decoded at step 1, rounded to the nearest (3050h.0A). -/
def meanCorrected (c : Chan) : Nat :=
  let n := c.corrected.length
  if n = 0 then 0 else (2 * sumOf c.corrected + n) / (2 * n)

/-- Channel objects of a bay (Table 8.11). -/
def readChannel (s : State) (b : BayId) (sub : Nat) : Option (List Byte) :=
  let c := (bayAt s b).chan
  match sub with
  | 1 => some (leBytes 8 c.begun)
  | 2 => some (leBytes 8 c.confirmed)
  | 3 => some (leBytes 8 c.slipped)
  | 4 => some (leBytes 8 c.withdrawn)
  | 5 => some (packNats 4 8 c.byCriterion)
  | 6 => some (leBytes 8 c.read)
  | 7 => some (packNats 8 6 c.byStep)
  | 8 => some (leBytes 4 c.reallocated)
  | 9 => some (leBytes 4 c.flaggedRuns)
  | 0x0A => some (leBytes 2 (meanCorrected c))
  | 0x0B => some (packNats 4 2 [c.opcAccepted, c.opcRejected])
  | 0x0C => some (packNats 2 24 c.power)
  | 0x0D => some (packInts 2 4 c.trims ++ leBytes 4 c.saturated)
  | 0x0F => some (leBytes 1 c.family)
  | _ => none

/-- Caldera, Causeway and timebase objects of a bay (Tables 13.7, 9.17 and 10.7). -/
def readLinks (s : State) (b : BayId) (off sub : Nat) : Option (List Byte) :=
  let y := bayAt s b
  match off, sub with
  | 0x60, 1 => some (bvBytes 2 y.cald.faults)
  | 0x60, 9 => some (leBytes 2 1200)
  | 0x60, 0x0A => some (leBytes 2 250)
  | 0x60, 0x0B => some (packNats 1 4 y.cald.rejection)
  | 0x60, 0x0C => some (packInts 2 26 y.cald.offsets)
  | 0x60, 0x0D => some (packNats 4 9 y.cald.counts)
  | 0x60, 0x0F => some (packNats 2 3 y.cald.rms)
  | 0x70, 1 => some (leBytes 1 y.cway.state)
  | 0x70, 2 => some (takePad 128 y.cway.identity)
  | 0x70, 3 => some (leBytes 4 y.cway.trainTime)
  | 0x70, 4 => some y.cway.serial
  | 0x70, 5 => some (leBytes 4 y.cway.upErrors)
  | 0x70, 6 => some (leBytes 4 y.cway.dnErrors)
  | 0x70, 7 => some (leBytes 4 y.cway.servoMissing)
  | 0x70, 8 => some (leBytes 4 y.cway.rejected)
  | 0x70, 9 => some (leBytes 4 y.cway.retrains)
  | 0x80, 1 => some (leBytes 1 y.tb.state)
  | 0x80, 2 => some (leBytes 4 y.tb.period)
  | 0x80, 7 => some (leBytes 8 y.tb.accepted)
  | 0x80, 8 => some (leBytes 4 y.tb.coasted)
  | 0x80, 9 => some (packNats 4 4 y.tb.rejectedC)
  | 0x80, 0x0A => some (leBytes 4 y.tb.late)
  | 0x80, 0x0B => some (leBytes 2 y.tb.delay)
  | 0x80, 0x0E => some (leInt 4 y.tb.encoder)
  | 0x80, 0x0F => some (leBytes 4 y.tb.skips)
  | 0x80, 0x10 => some (leBytes 1 (if y.tb.uncertain then 1 else 0))
  | 0x80, 0x11 => some (leBytes 8 (stampOf (presentAngle s b)))
  | _, _ => none

/-- A computed object of a bay's blocks. -/
def readBay (s : State) (b : BayId) (off sub : Nat) : Option (List Byte) :=
  if off = 0 then readBayState s b off sub
  else if off < 0x20 then readServo s b off sub
  else if off < 0x50 then readMotors s b off sub
  else if off = 0x50 then readChannel s b sub
  else readLinks s b off sub

/-- A computed value; none for a value that is stored or a number of entries. -/
def computed (s : State) (index sub : Nat) : Option (List Byte) :=
  if index < 0x2000 then readComm s index sub
  else match bayOf index with
    | some n =>
      if h : n < 16 then
        if index < 0x4000 then readBay s ⟨n, h⟩ (index % 256) sub
        else readPdo s ⟨n, h⟩ (decide (index < 0x7000)) sub
      else none
    | none =>
      if index < 0x2100 then readDevice s index sub
      else (readStores s index sub) <|> (readArchive s index sub)

/-- The value of a subindex in its own length: a string is padded (R454). -/
def valueOf (s : State) (d : ObjDesc) (index sub : Nat) : List Byte :=
  let v := (computed s index sub).getD (if d.ty.numeric then leBytes d.ty.size (num s index sub) else dom s index sub)
  match d.ty with
  | .str n => takePad n v
  | _ => v

/-- A subindex exists on this part: the PDO assignment has one entry per bay, and the device's PDO (R476). -/
def subExists (s : State) (index sub : Nat) : Bool :=
  (descOf s.part.code index sub).isSome &&
    (index != 0x1C12 || decide (sub ≤ s.part.code.bays)) && (index != 0x1C13 || decide (sub ≤ s.part.code.bays + 1))

/-- Subindices from 01h on, in order. -/
def subsOf (s : State) (index : Nat) : List Nat :=
  (List.range 255).filterMap fun i => if subExists s index (i + 1) then some (i + 1) else none

/-- The object has no subindices: it stands at subindex 00h alone. -/
def plainObject (s : State) (index : Nat) : Bool :=
  (subsOf s index).isEmpty

/-- The device answers nothing of the object: it does not exist on this part (R470, R471). -/
def objectExists (s : State) (index : Nat) : Bool :=
  !(rowsOf s.part.code index).isEmpty

/-- A complete-access read: every subindex from 01h, a WO subindex as zero bytes of its length (R588). -/
def packObject (s : State) (index : Nat) : List Byte :=
  (subsOf s index).flatMap fun sub =>
    match descOf s.part.code index sub with
    | some d => if d.acc = .wo then List.replicate d.ty.size 0#8 else valueOf s d index sub
    | none => []

/-- A read of the dictionary (R454, R455, R469, R588). -/
def readDict (s : State) (index sub : Nat) (ca : Bool) : Except Abort (List Byte) :=
  if objectExists s index = false then .error .noObject
  else if ca then (if plainObject s index then .error .noSubindices else .ok (packObject s index))
  else if subExists s index sub = false then .error .noSubindex
  else match descOf s.part.code index sub with
    | none => .error .noSubindex
    | some d =>
      if d.acc = .wo then .error .writeOnly
      else match d.ty with
        | .str _ => .ok (trimZeros (valueOf s d index sub))
        | _ => .ok (valueOf s d index sub)

end Sys2Proof.Machine
end

