-- ==== Sys2Proof/Machine/Power.lean ====
section
/-! DEFINITION. Power states (R486 to R503): the handshake of Table 15.3, entries, exits, the power policy and the Shoal
unit. -/

namespace Sys2Proof.Machine

open Sys2Proof

/-! ### The handshake (R494 to R496) -/

/-- Answer of a block that is asked to stop (R494). -/
inductive BlockAnswer where
  | agree
  | delay (ms : Nat)
  | refuse (reason : Nat)
  deriving DecidableEq, Repr

/-- A set, a replacement or a reconstruction is being written. -/
def ebbWriting (s : State) : Bool :=
  s.ebb.sets.any fun a => a.discs.any SetDisc.live

/-- Block 1, Ebb: it refuses while something is written or a recall runs. -/
def askEbb (s : State) : BlockAnswer :=
  if ebbWriting s ∨ s.ebb.recon.status = 2 then .refuse 1
  else if s.ebb.recalls.any fun r => r.bay.isSome then .refuse 2
  else .agree

/-- Block 2, the bays: for PS3 and PS4 no spindle turns, no loader moves and no stepper parks. -/
def askBays (target : Nat) (s : State) : BlockAnswer :=
  if target = 2 then .agree
  else if allBays.any fun b => decide (30 ≤ (bayAt s b).spin.speed) || (bayAt s b).loader.moving then .refuse 3
  else if allBays.any fun b => (bayAt s b).sled.moving || (bayAt s b).coll.moving then .delay 20
  else .agree

/-- Block 0Ah, the management cores and Tidemark. -/
def askManagement (s : State) : BlockAnswer :=
  if s.adm.running.contains 1 ∨ s.adm.running.contains 2 then .refuse 5
  else if s.fw.slot1.marked ∨ s.fw.slot2.marked then .refuse 7
  else .agree

/-- A member rebuild runs: a lost member has a die to be rebuilt on (R166). -/
def rebuildRuns (s : State) : Bool :=
  s.hs.zones.any fun z => (z.members.zipIdx).any fun m => m.1.lost && (roomiestDie s (16 * z.lane + m.2)).isSome

/-- An operation is on some array. -/
def arrayBusy (s : State) : Bool :=
  s.flash.formatting || s.flash.vols.any fun v => v.dies.any fun d => d.op.isSome || d.susp.isSome

/-- Block 0Bh, the flash channel array. -/
def askFlash (s : State) : BlockAnswer :=
  if rebuildRuns s ∨ s.flash.vols.any (fun v => v.st == .adopting || v.retiring) then .refuse 4
  else if arrayBusy s then .delay 5
  else .agree

/-- The answer of a block of Table 15.3. -/
def askBlock (target block : Nat) (s : State) : BlockAnswer :=
  match block with
  | 1 => askEbb s
  | 2 => askBays target s
  | 5 => if s.hs.inflight = [] then .agree else .delay 1
  | 6 => if dirtyTargets s none = [] then .agree else .delay 20
  | 9 => if rebuildingAny s then .refuse 6 else .agree
  | 10 => askManagement s
  | 11 => askFlash s
  | _ => .agree

/-- Blocks asked for a target (R494). -/
def lastBlock (target : Nat) : Nat :=
  if target = 2 then 4 else 13

/-! ### Entries (R490, R498, R503, R555) -/

/-- A bay whose domains go off: lasers off, loops open, lens at park, link down; it starts again after the return. -/
def quietBay (y : Bay) : Bay :=
  { y with
    started := false
    servo := { y.servo.park with prof := {}, state := 0 }
    cway := { y.cway with
      state := 0, rstN := false, len := false, wg := false, laser := 0, servoOn := false, regOut := none, regQueue := [] } }

/-- The bays' part of an entry: the spindle brakes and the sled parks on (R490). -/
def quietBays (s : State) : State :=
  let s1 := allBays.foldl (fun t b =>
    let t1 := dropGate b 10 t
    let t2 := if (bayAt t1 b).started then parkSteppers b (spinBrake b t1) else t1
    modBay b quietBay (leaveLock b 0 10 t2)) s
  applyCarveOut { s1 with ebb := { s1.ebb with building := none }, mem := { s1.mem with coeffWritten := false } }

/-- What PS3 takes from the memories and the flash tier (Table 15.8). -/
def sleepMemories (s : State) : State :=
  let lost := fun p : Plan => { p with inStore := false }
  { s with
    mem := { s.mem with
      selfRefresh := true
      lines := (s.mem.lines.filter fun l => keepsContent 3 (wayDomain l.way)).map fun l => { l with dirty := false }
      scratch := s.mem.scratch.filter fun g => keepsContent 3 (wayDomain (g.1 / 262144)) }
    ebb := { s.ebb with
      plans := s.ebb.plans.map lost
      sets := s.ebb.sets.map fun a => { a with plan := lost a.plan } }
    flash := { s.flash with
      vols := s.flash.vols.map fun v => { v with dies := v.dies.map fun d => { d with bins := List.replicate 8 {}, loaded := 0 } } }
    ctrls := Vector.ofFn fun p => { (s.ctrls.get p) with spdm := 0 } }

/-- What PS4 takes besides: every memory of the core die and the stacks (Tables 15.1, 15.8); inputs are remembered. -/
def sleepDeep (s : State) : State :=
  { s with
    mem := { s.mem with
      hbmTrained := false, selfRefresh := false, lines := [], scratch := [], tideWritten := false }
    pwr := { s.pwr with
      captured := []
      discAtEntry := (allBays.map fun b => ((bayAt s b).present, (bayAt s b).door))
      linkAtEntry := s.doors.portLink } }

/-- Subindices 01h to n of an object. -/
def objBytes (s : State) (index n : Nat) : List Byte :=
  (List.range n).flatMap fun i =>
    match descOf s.part.code index (i + 1) with
    | some d => valueOf s d index (i + 1)
    | none => []

/-- The transmit PDO inputs as bytes, bays first and then the device (R476). -/
def tpdoInputs (s : State) : List Nat :=
  evStr (((List.range s.part.code.bays).flatMap fun b => objBytes s (0x6000 + b) 0x0B) ++ objBytes s 0x6010 6)

/-- The state in force changes (R493): event 013; an entry to PS3 or PS4 ends with a shutdown checkpoint (R555). -/
def enterState (target : Nat) (s : State) : State :=
  let old := s.pwr.ps
  let s1 := if 2 ≤ target ∧ old < 2 then quietBays s else s
  let s2 := if 3 ≤ target then sleepMemories s1 else s1
  let s3 := if target = 4 then sleepDeep { s2 with pwr := { s2.pwr with tpdoHeld := tpdoInputs { s2 with pwr := { s2.pwr with ps := 4 } } } } else s2
  let s4 := raise 13 0 [old, target]
    { s3 with pwr := { s3.pwr with ps := target, fromPs := if 3 ≤ target ∧ old < 3 then old else s3.pwr.fromPs, shaking := none } }
  if 3 ≤ target then { s4 with tide := { s4.tide with clean := true } } else s4

/-- A transition has completed: the host that asked is answered and its state becomes the ceiling (R493, R500). -/
def powerDone (target : Nat) (s : State) : State :=
  match s.pwr.byHost with
  | some (p, sq, cid) =>
    complete { port := p, sq := sq, cid := cid } .success
      (s := { s with pwr := { s.pwr with byHost := none, ceiling := target } })
  | none => s

/-- Ask the blocks from one on (R494 to R496): fuel is the number of blocks left. -/
def askFrom : Nat → Nat → Nat → Nat → State → State
  | 0, target, _, _, s => powerDone target (enterState target s)
  | n + 1, target, block, sum, s =>
    if lastBlock target < block then powerDone target (enterState target s)
    else match askBlock target block s with
      | .agree => askFrom n target (block + 1) sum s
      | .delay ms =>
        if 500 < sum + ms then refusePower block target 0x0F s
        else { s with pwr := { s.pwr with shaking := some (target, block, sum + ms) } }
      | .refuse r => refusePower block target r s

/-- One request for a power state (R493, R494, R502), by a host or by the policy, when no transition runs. -/
def startTransition (byHost : Option (PortId × Nat × Nat)) (target : Nat) (s : State) : State :=
  let s1 := { s with pwr := { s.pwr with byHost := byHost } }
  if target = s.pwr.ps then powerDone target s1
  else if target < 2 then
    powerDone target (raise 13 0 [s.pwr.ps, target] { s1 with pwr := { s1.pwr with ps := target } })
  else askFrom 13 target 1 0 { s1 with pwr := { s1.pwr with shaking := some (target, 1, 0) } }

/-- Evaluate the requests that waited, in order, until one runs (R493). -/
def drainWaiting : Nat → State → State
  | 0, s => s
  | n + 1, s =>
    if s.pwr.shaking.isSome then s
    else match s.pwr.waiting with
      | [] => s
      | (p, sq, cid, target) :: rest =>
        drainWaiting n (startTransition (some (p, sq, cid)) target { s with pwr := { s.pwr with waiting := rest } })

/-- A transition, and what waited for it. -/
def requestPower (byHost : Option (PortId × Nat × Nat)) (target : Nat) (s : State) : State :=
  let s1 := startTransition byHost target s
  drainWaiting s1.pwr.waiting.length s1

/-- Set Features Power Management, dispatched (R491, R493, R502). From PS3 a move to an operational state waits for the
exit, and is evaluated then. -/
def admSetPower (src : Src) (ps : Nat) (s : State) : State :=
  if 4 < ps then complete src .invalidField (s := s)
  else if s.phase = .harbour then
    complete src .transitionRefused (s := { s with pwr := { s.pwr with refusal := [0, ps, 0x0E, 0] } })
  else if s.pwr.shaking.isSome ∨ (3 ≤ s.pwr.ps ∧ ps < 3) then
    { s with pwr := { s.pwr with waiting := s.pwr.waiting ++ [(src.port, src.sq, src.cid, ps)] } }
  else requestPower (some (src.port, src.sq, src.cid)) ps s

/-- POWER_HANDSHAKE_DELAY (R495): the block that asked for a delay is asked again. -/
def execPowerHandshakeDelay (s : State) : Host.Outcome State Fault Refusal :=
  match s.pwr.shaking with
  | none => .next s
  | some (target, block, sum) =>
    let s1 := askFrom 13 target block sum s
    .next (drainWaiting s1.pwr.waiting.length s1)

/-! ### Exits (R499, R503) -/

/-- The exit from PS3 or PS4 to the operational state left (R499): event 013, then the requests that waited. An exit from
PS4 trains the HBM stacks, discovers the volumes and replays Tidemark on the clean path; one from PS3 compares the volumes'
unique IDs. -/
def exitState (b : Boot) (s : State) : State :=
  if s.pwr.ps < 3 then s
  else
    let old := s.pwr.ps
    let s1 := { s with pwr := { s.pwr with ps := s.pwr.fromPs, tpdoHeld := [] }, mem := { s.mem with selfRefresh := false } }
    if old = 4 ∧ (b.hbm0 = false ∨ b.hbm1 = false) then harbourCommit 6 (raiseDeferred s1)
    else
      let s2 := if old = 4 then discover b { s1 with mem := { s1.mem with hbmTrained := true, tideWritten := true } }
        else compareIds b s1
      let s3 := raise 13 0 [old, s.pwr.fromPs] (raiseDeferred s2)
      drainWaiting s3.pwr.waiting.length s3

/-! ### The power policy (R500) -/

/-- Nothing of the drain engine or of recalls keeps the bays (R500). -/
def archiveIdle (s : State) : Bool :=
  !ebbWriting s && s.ebb.plans == [] && s.ebb.recalls == [] && s.ebb.recon.status != 1 && s.ebb.recon.status != 2

/-- POLICY_IDLE_TIMER (R500): the delay of the step down that applies has passed. -/
def execPolicyIdleTimer (s : State) : Host.Outcome State Fault Refusal :=
  if num s 0x2020 1 ≠ 1 ∨ s.phase ≠ .running ∨ s.pwr.shaking.isSome then .next s
  else if s.pwr.ps < 2 ∧ num s 0x2020 2 ≠ 0 ∧ archiveIdle s then .next (requestPower none 2 s)
  else if s.pwr.ps = 2 ∧ num s 0x2020 3 ≠ 0 then .next (requestPower none (if num s 0x2020 4 = 1 then 4 else 3) s)
  else .next s

/-! ### Shoal (R501) -/

/-- First bay whose disc-present or door input differs from its value at entry. -/
def discChanged (s : State) (discs : List (Bool × Bool)) : Option Nat :=
  (allBays.find? fun b =>
    bayEnabled s b && discs.getD b.val (false, false) != s.pwr.discAtEntry.getD b.val (false, false)).map (·.val)

/-- First EtherCAT port whose link differs from its state at entry. -/
def linkChanged (s : State) (links : List Bool) : Option Nat :=
  (List.range 2).find? fun p => links.getD p true != s.pwr.linkAtEntry.getD p true

/-- The first row of Table 15.6 whose comparison fails, with the event's data. -/
def shoalCause (mv12 mvField : Nat) (temps : List Int) (discs : List (Bool × Bool)) (links : List Bool) (s : State) :
    Option (Nat × List Nat) :=
  if mv12 < num s 0x2010 1 then some (1, [])
  else if mvField < 18000 ∨ 56000 < mvField then some (2, [])
  else if temps.any (fun t => decide (s.hs.tempOver < kelvin t) || decide (kelvin t < s.hs.tempUnder)) then some (3, [])
  else match discChanged s discs, linkChanged s links with
    | some b, _ => some (4, [b])
    | none, some p => some (5, [p])
    | none, none => none

/-- What the samples bring into the block. -/
def shoalSample (mv12 mvField : Nat) (temps : List Int) (discs : List (Bool × Bool)) (links : List Bool) (s : State) : State :=
  modBays (fun b y =>
    { y with present := (discs.getD b.val (y.present, y.door)).1, door := (discs.getD b.val (y.present, y.door)).2 })
    { s with
      sup := { s.sup with v12 := mv12, vfld := mvField, temps := if temps = [] then s.sup.temps else temps }
      doors := { s.doors with portLink := if links = [] then s.doors.portLink else links } }

end Sys2Proof.Machine
end

