-- ==== Sys2Proof/Machine/Ports.lean ====
section
/-! DEFINITION. Host ports and controllers (R13, R18, R22 to R40, R45, R46, R61, R492): links, resets, readiness, BAR0,
doorbells, fetch and shutdown notification. -/

namespace Sys2Proof.Machine

open Sys2Proof

/-! ### Links and resets (R13, R22, R26, R39) -/

/-- A controller's registers are accessible while the device serves its ports (R22, R467). -/
def portsServed (s : State) : Bool :=
  s.phase == .running || s.phase == .harbour

/-- What a reset of controller p takes from the state the controllers share: its dispatched, uncompleted commands, its held
completions, its power requests (R39, R60, R493). -/
def dropCommands (p : PortId) (s : State) : State :=
  { s with
    hs := { s.hs with
      inflight := s.hs.inflight.filter fun i => i.port != p
      held := s.hs.held.filter fun h => h.1 != p }
    pwr := { s.pwr with
      byHost := if (s.pwr.byHost.map fun x => x.1) = some p then none else s.pwr.byHost
      waiting := s.pwr.waiting.filter fun w => w.1 != p } }

/-- A controller after a reset (R26, R39, R508): its queues, requests and features are gone; a vendor event not yet reported
stays pending. A reset of the function clears its configuration space and masks every MSI-X entry as well (R29). -/
def Ctrl.afterReset (deep : Bool) (c : Ctrl) : Ctrl :=
  { present := c.present
    perst := c.perst
    linkUp := c.linkUp
    rate := c.rate
    width := c.width
    flit := c.flit
    reversed := c.reversed
    inverted := c.inverted
    accessible := c.accessible
    pendingGroup := c.pendingGroup
    spdm := c.spdm
    spdmAnswer := c.spdmAnswer
    spdmData := c.spdmData
    pci := if deep then {} else c.pci
    aqa := if deep then 0 else c.aqa
    asq := if deep then 0 else c.asq
    acq := if deep then 0 else c.acq
    msix := if deep then [] else c.msix
    msgs := if deep then [] else c.msgs
    pba := if deep then [] else c.pba
    vec2047 := if deep then false else c.vec2047 }

/-- Array operations that serve reads of queues that are gone run on, their data discarded; those that had not started are removed
(R154). -/
def discardOwned (mine : PortId × Nat → Bool) (s : State) : State :=
  let owned := fun o : FlashOp => (o.owner.map mine).getD false
  let mark := fun o : FlashOp => if owned o then { o with discard := true } else o
  let s1 := modDies (fun d => { d with op := d.op.map mark, susp := d.susp.map mark }) s
  { s1 with bw := { s1.bw with waiting := s1.bw.waiting.filter fun w => !owned w.op } }

/-- Reset one controller (R13, R39, R154). -/
def resetController (p : PortId) (deep : Bool) (s : State) : State :=
  modCtrl p (Ctrl.afterReset deep) (dropCommands p (discardOwned (fun o => o.1 == p) s))

/-- The controller reset event of a port (R26). -/
def raiseReset (p : PortId) (cause : Nat) (s : State) : State :=
  raise (40 + p.val) cause [] s

/-- PERST_N_ASSERT (R26): the link goes down, the controller is reset. -/
def execPerstNAssert (p : PortId) (s : State) : Host.Outcome State Fault Refusal :=
  let c := s.ctrls.get p
  let s1 := modCtrl p (fun c => { c.linkDown with perst := true, accessible := false }) s
  if c.present = false ∨ portsServed s = false ∨ c.perst then .next s1
  else
    let s2 := if c.linkUp then raise (32 + p.val) 1 [0, 0] s1 else s1
    .next (raiseReset p 5 (resetController p true s2))

/-- PERST_N_RELEASE (R22). -/
def execPerstNRelease (p : PortId) (s : State) : Host.Outcome State Fault Refusal :=
  .next (modCtrl p (fun c => { c with perst := false, accessible := c.present && portsServed s }) s)

/-- FUNCTION_LEVEL_RESET (R26): Max Payload Size and the link's control stay (log 129). -/
def execFunctionLevelReset (p : PortId) (s : State) : Host.Outcome State Fault Refusal :=
  let c := s.ctrls.get p
  if c.accessible = false then .next s
  else .next (raiseReset p 2 (modCtrl p (fun k => { k with pci := c.pci.afterFlr }) (resetController p true s)))

/-- HOT_RESET (R26). -/
def execHotReset (p : PortId) (s : State) : Host.Outcome State Fault Refusal :=
  if (s.ctrls.get p).accessible = false then .next s
  else .next (raiseReset p 3 (resetController p true s))

/-- LINK_DOWN (R13, R39): event 032 + p, and the controller's commands are handled as at a reset. -/
def execLinkDown (p : PortId) (s : State) : Host.Outcome State Fault Refusal :=
  if (s.ctrls.get p).linkUp = false then .next s
  else
    let s1 := modCtrl p Ctrl.linkDown s
    .next (resetController p true (raise (32 + p.val) 1 [0, 0] s1))

/-- PCIE_LINK_UP (R18, R19, Table 16.4): the link operates at the highest rate that both partners support, up, or degraded below
64 GT/s or below the split's width; with a partner below 16 GT/s it does not come up. -/
def execPcieLinkUp (p : PortId) (rate width : Nat) (reversed : Bool) (inverted : List Nat) (s : State) :
    Host.Outcome State Fault Refusal :=
  let c := s.ctrls.get p
  if c.present = false ∨ c.perst ∨ portsServed s = false ∧ s.phase ≠ .starting then .next s
  else match linkRate rate with
    | none => .next s
    | some r =>
      let w := min width (splitWidth s)
      let s1 := modCtrl p (Ctrl.trained r w reversed inverted) s
      let cause := if r < 64 ∨ w < splitWidth s then 3 else 2
      .next (raise (32 + p.val) cause [r, w] s1)

/-! ### Capture in PS4 (R24, R492) -/

/-- The device is in PS4 and answers nothing. -/
def asleep (s : State) : Bool :=
  s.phase == .running && s.pwr.ps == 4

/-- Capture a host access in PS4; it is applied in arrival order after the exit. -/
def capture (c : Cap) (s : State) : State :=
  { s with pwr := { s.pwr with captured := s.pwr.captured ++ [c] } }

/-! ### Enable, disable, shutdown (R26, R27, R61) -/

/-- CC.EN is set (R27): the admin queues exist and CSTS.RDY becomes 1. Queue sizes outside 2 to 4,096 or values CAP does not
offer leave the controller not ready. -/
def enableController (p : PortId) (asqs acqs mps ams : Nat) (s : State) : State :=
  let c := s.ctrls.get p
  if c.accessible = false ∨ c.en then s
  else
    let good := decide (2 ≤ asqs) && decide (asqs ≤ 4096) && decide (2 ≤ acqs) && decide (acqs ≤ 4096)
      && decide (mps ≤ 4) && decide (ams ≤ 1)
    modCtrl p (fun c =>
      { c with
        en := true
        rdy := good
        mps := mps
        ams := ams
        aqa := asqs - 1 + 65536 * (acqs - 1)
        sqs := if good then [{ size := asqs }] else []
        cqs := if good then [{ size := acqs }] else [] }) s

/-- CONTROLLER_ENABLE (R27, R28). -/
def execControllerEnable (p : PortId) (asqs acqs mps ams : Nat) (s : State) : Host.Outcome State Fault Refusal :=
  if asleep s then .next (capture (.enable p asqs acqs mps ams) s)
  else .next (enableController p asqs acqs mps ams s)

/-- CC.EN is cleared (R26). -/
def disableController (p : PortId) (s : State) : State :=
  if (s.ctrls.get p).en = false then s else raiseReset p 1 (resetController p false s)

/-- CC_EN_CLEAR (R26). -/
def execCcEnClear (p : PortId) (s : State) : Host.Outcome State Fault Refusal :=
  if asleep s then .next (capture (.disable p) s) else .next (disableController p s)

/-- Completed, unprogrammed data of one controller's writes (R61). -/
def ownTargets (s : State) (p : PortId) : Targets :=
  let own := fun l : List (Nat × Nat) => (getKey p.val l).getD 0
  (s.hs.zones.filter fun z => decide (z.flashed < min z.ack (own z.writers))).map
    fun z => (z.nsid, z.idx, min z.ack (own z.writers))

/-- Every present controller has completed a shutdown notification: a shutdown checkpoint is written (R555). -/
def checkpointIfAll (s : State) : State :=
  if allPorts.all fun p => !(s.ctrls.get p).present || (s.ctrls.get p).shst == 2 then
    { s with tide := { s.tide with clean := true } }
  else s

/-- A shutdown whose data is programmed is complete (R61). -/
def settleShutdown (p : PortId) (s : State) : State :=
  let c := s.ctrls.get p
  if c.shst = 1 ∧ c.shutTargets.all (targetMet s) then
    checkpointIfAll (modCtrl p (fun c => { c with shst := 2, shutTargets := [] }) s)
  else s

/-- A shutdown notification (R61): event 040 + p with cause 04h. -/
def notifyShutdown (p : PortId) (s : State) : State :=
  let c := s.ctrls.get p
  if c.accessible = false ∨ c.shst ≠ 0 then s
  else settleShutdown p (raiseReset p 4 (modCtrl p (fun c => { c with shst := 1, shutTargets := ownTargets s p }) s))

/-- SHUTDOWN_NOTIFICATION (R61). -/
def execShutdownNotification (p : PortId) (s : State) : Host.Outcome State Fault Refusal :=
  if asleep s then .next (capture (.shutdown p) s) else .next (notifyShutdown p s)

/-! ### Doorbells (R24, R35, R40, R45) -/

/-- Report an Asynchronous Event of type Error for an invalid doorbell write, or keep it pending (R45). -/
def errorEvent (p : PortId) (s : State) : State :=
  let dw : Dword := 0x00010100#32
  let c := s.ctrls.get p
  match c.errorHeld, c.aers with
  | false, cid :: rest =>
    post p { cid := cid, sq := 0, dw0 := dw } (modCtrl p (fun c => { c with aers := rest, errorHeld := true }) s)
  | _, _ => modCtrl p (fun c => { c with errorPending := c.errorPending ++ [dw] }) s

/-- A submission queue tail doorbell that reaches a ready controller (R35, R45). -/
def sqDoorbell (p : PortId) (qid tail : Nat) (s : State) : State :=
  let c := s.ctrls.get p
  if c.rdy = false then s
  else match c.sq? qid with
    | none => errorEvent p s
    | some q =>
      if q.size ≤ tail then errorEvent p (modSq p qid (fun q => { q with stopped := true }) s)
      else modSq p qid (fun q => { q with tail := tail }) s

/-- SQ_TAIL_DOORBELL (R35, R45); in PS4 captured for a controller that was ready (R24). -/
def execSqTailDoorbell (p : PortId) (qid tail : Nat) (s : State) : Host.Outcome State Fault Refusal :=
  if asleep s ∧ (s.ctrls.get p).rdy then .next (capture (.sqTail p qid tail) s) else .next (sqDoorbell p qid tail s)

/-- Entries a head doorbell consumes; none when the head is not between the last head and the tail (R45). -/
def Cq.consumed (q : Cq) (head : Nat) : Option Nat :=
  let n := (head + q.size - q.head) % max 1 q.size
  if q.size ≤ head ∨ q.posted.length < n then none else some n

/-- A completion queue head doorbell that reaches a ready controller (R40, R45). -/
def cqDoorbell (p : PortId) (qid head : Nat) (s : State) : State :=
  let c := s.ctrls.get p
  if c.rdy = false then s
  else match c.cq? qid with
    | none => errorEvent p s
    | some q =>
      match q.consumed head with
      | none =>
        errorEvent p (modCtrl p (fun c =>
          { c with sqs := modWhere (fun x => x.cqid == qid) (fun x => { x with stopped := true }) c.sqs }) s)
      | some n =>
        let r : Cq := { q with head := head, posted := q.posted.drop n }
        let moved := r.waiting.length - r.drain.waiting.length
        modCtrl p (Ctrl.signals q.iv moved) (modCq p qid (fun q => Cq.drain { q with head := head, posted := q.posted.drop n }) s)

/-- CQ_HEAD_DOORBELL (R40, R45); in PS4 captured for a controller that was ready (R24). -/
def execCqHeadDoorbell (p : PortId) (qid head : Nat) (s : State) : Host.Outcome State Fault Refusal :=
  if asleep s ∧ (s.ctrls.get p).rdy then .next (capture (.cqHead p qid head) s) else .next (cqDoorbell p qid head s)

/-! ### BAR0 (R23, R24, R29) -/

/-- Messages kept pending on vectors that have become live are sent (R23, R29). -/
def Ctrl.sendPending (c : Ctrl) : Ctrl :=
  (c.pba.filter c.vectorLive).foldl (fun k v => (Ctrl.signal v k)) { c with pba := c.pba.filter fun v => !c.vectorLive v }

/-- A write of an MSI-X table dword (R29): vector 2,047 carries messages from when its address and data are programmed
and its mask bit is clear. -/
def writeMsix (p : PortId) (k : Nat) (v : Dword) (s : State) : State :=
  modCtrl p (fun c =>
    let c1 : Ctrl := { c with msix := putKey k v.toNat c.msix }
    Ctrl.sendPending { c1 with vec2047 := c1.vectorLive 2047 }) s

/-- A write of CC (R26 to R28, R61): enable, disable or a shutdown notification. -/
def writeCc (p : PortId) (v : Nat) (s : State) : State :=
  let c := s.ctrls.get p
  let s1 := if bitOf v 0 then
      enableController p (c.aqa % 4096 + 1) (c.aqa / 65536 % 4096 + 1) (bitsOf v 7 10) (bitsOf v 11 13) s
    else disableController p s
  if bitsOf v 14 15 = 1 ∨ bitsOf v 14 15 = 2 then notifyShutdown p s1 else s1

/-- The half of a 64-bit register that a dword write replaces. -/
def putHalf (high : Bool) (v : Dword) (old : BitVec 64) : BitVec 64 :=
  if high then v ++ old.extractLsb' 0 32 else old.extractLsb' 32 32 ++ v

/-- A dword write to an offset of BAR0 (R23, R24): a reserved or read-only offset discards it. -/
def barWrite4 (p : PortId) (off : Nat) (v : Dword) (s : State) : State :=
  let w := v.toNat
  if (s.ctrls.get p).accessible = false then s
  else if off = 0x14 then writeCc p w s
  else if off = 0x24 then modCtrl p (fun c => if c.en then c else { c with aqa := bitsOf w 0 11 + 65536 * bitsOf w 16 27 }) s
  else if off = 0x28 ∨ off = 0x2C then modCtrl p (fun c => if c.en then c else { c with asq := putHalf (off == 0x2C) v c.asq }) s
  else if off = 0x30 ∨ off = 0x34 then modCtrl p (fun c => if c.en then c else { c with acq := putHalf (off == 0x34) v c.acq }) s
  else if 0x1000 ≤ off ∧ off < 0x9008 then
    let i := (off - 0x1000) / 4
    if i % 2 = 0 then sqDoorbell p (i / 2) (w % 65536) s else cqDoorbell p (i / 2) (w % 65536) s
  else if 0x10000 ≤ off ∧ off < 0x18000 then writeMsix p ((off - 0x10000) / 4) v s
  else s

/-- Offsets at which a write of 8 bytes writes both dwords: ASQ, ACQ and the MSI-X table; elsewhere its low dword acts alone
(DESIGN CHOICE, log 140). -/
def wideOffset (off : Nat) : Bool :=
  off == 0x28 || off == 0x30 || (decide (0x10000 ≤ off) && decide (off < 0x18000))

/-- A write of 8 bytes to an offset of BAR0. -/
def barWrite (p : PortId) (off : Nat) (v : BitVec 64) (s : State) : State :=
  let s1 := barWrite4 p off (v.extractLsb' 0 32) s
  if wideOffset off then barWrite4 p (off + 4) (v.extractLsb' 32 32) s1 else s1

/-- A host write to BAR0 in PS4 is captured, but for a doorbell of a controller that was not ready (R24, R492). -/
def captures (s : State) (p : PortId) (off : Nat) : Bool :=
  !(decide (0x1000 ≤ off) && decide (off < 0x9008) && !(s.ctrls.get p).rdy)

/-- A host write of 8 bytes to BAR0. -/
def hostWrite (p : PortId) (off : Nat) (v : BitVec 64) (s : State) : State :=
  if asleep s then (if captures s p off then capture (.reg p off v) s else s) else barWrite p off v s

/-- A host write of 4 bytes to BAR0. -/
def hostWrite4 (p : PortId) (off : Nat) (v : Dword) (s : State) : State :=
  if asleep s then (if captures s p off then capture (.reg4 p off v) s else s) else barWrite4 p off v s

/-- Apply one captured access (R492). -/
def applyCap (c : Cap) (s : State) : State :=
  match c with
  | .sqTail p qid tail => sqDoorbell p qid tail s
  | .cqHead p qid head => cqDoorbell p qid head s
  | .reg p off v => barWrite p off v s
  | .reg4 p off v => barWrite4 p off v s
  | .enable p asqs acqs mps ams => enableController p asqs acqs mps ams s
  | .disable p => disableController p s
  | .shutdown p => notifyShutdown p s

/-- Apply what PS4 captured, in arrival order (R492). -/
def applyCaptured (s : State) : State :=
  s.pwr.captured.foldl (fun t c => applyCap c t) { s with pwr := { s.pwr with captured := [] } }

/-! ### Fetch (R35, R40, R46) -/

/-- Fetched, undispatched entries of all controllers (R35). -/
def fetchedAll (s : State) : Nat :=
  sumOf (allPorts.map fun p => sumOf ((s.ctrls.get p).sqs.map fun q => q.fetched.length))

/-- The device may fetch from a submission queue (R35, R40, R45, R46, R64, R103). -/
def mayFetch (s : State) (p : PortId) (q : Sq) : Bool :=
  let c := s.ctrls.get p
  let full := ((c.cq? q.cqid).map fun k => !k.room || k.waiting != []).getD true
  c.rdy && !c.cfs && !q.stopped && q.head != q.tail && decide (q.fetched.length < 32) && decide (fetchedAll s < 8192)
    && !full && !(q.fetched.any fun e => e.waited || cacheBlocked s e.cmd) && (s.phase == .running && s.pwr.ps != 4 || s.phase == .harbour && q.qid == 0)

/-- The fetched commands that need room in the write cache and do not find it have waited: their queues fetch again only when
they have been dispatched (R103). -/
def markWaiting (s : State) : State :=
  let mark := fun e : Fetched => if cacheBlocked s e.cmd then { e with waited := true } else e
  let any := allPorts.any fun p => (s.ctrls.get p).sqs.any fun q => q.fetched.any fun e => !e.waited && cacheBlocked s e.cmd
  if any then
    { s with
      ctrls := Vector.ofFn fun p =>
        let c := s.ctrls.get p
        { c with sqs := c.sqs.map fun q => { q with fetched := q.fetched.map mark } } }
  else s

/-- COMMAND_FETCH (R35, R103): the entry's copy waits for dispatch. -/
def execCommandFetch (p : PortId) (sq cid : Nat) (c : NvmeCmd) (d : Dptr) (s : State) : Host.Outcome State Fault Refusal :=
  match (s.ctrls.get p).sq? sq with
  | none => .next s
  | some q =>
    if mayFetch s p q = false then .next s
    else .next (markWaiting (modSq p sq (fun q =>
      { q with head := (q.head + 1) % max 1 q.size, fetched := q.fetched ++ [{ cid := cid, cmd := c, dptr := d }] }) s))

/-- FETCH_ERROR (R46): CSTS.CFS, event 036 + p, no more fetching. -/
def execFetchError (p : PortId) (sq : Nat) (s : State) : Host.Outcome State Fault Refusal :=
  match (s.ctrls.get p).sq? sq with
  | none => .next s
  | some q =>
    if mayFetch s p q = false then .next s
    else .next (raise (36 + p.val) 0 [] (modCtrl p (fun c => { c with cfs := true }) s))

end Sys2Proof.Machine
end

