-- ==== Sys2Proof/Machine/Archive.lean ====
section
/-! DEFINITION. The vendor archive commands (R7, R69 to R76, R95 to R97, R100): Zone Archive, Archive Cancel, Zone Recall and
Archive Query. -/

namespace Sys2Proof.Machine

open Sys2Proof

/-- The checks of R37 up to the reservation for a command that names a zone by its start LBA, or every zone. R37 does not place the check
of the reserved fields (R7): the model makes it after the namespace and zoned checks (DESIGN CHOICE, log 133). -/
def archiveGate (s : State) (p : PortId) (nsid zslba : Nat) (all : Bool) (rsv : Dword) : Except Status Ns :=
  match zonedGate s p nsid with
  | .error st => .error st
  | .ok n =>
    if rsv ≠ 0 then .error .invalidField
    else if all = false ∧ n.size ≤ zslba then .error .lbaRange
    else if all = false ∧ (n.zsze = 0 ∨ zslba % n.zsze ≠ 0) then .error .invalidField
    else match writeGate s p n with
      | some st => .error st
      | none => .ok n

/-! ### Zone Archive (R69, R70, R95, R252) -/

/-- The next object identifier: FFFFFFFFFFFFFFFFh is never assigned (R252). -/
def nextObject (s : State) : Nat :=
  if s.hs.objNext = 2 ^ 64 - 1 then 2 ^ 64 else s.hs.objNext

/-- A zone becomes a Queued object (R69, R70, R95): the LBAs up to the write pointer, at the end of the drain queue. -/
def archiveZone (n : Ns) (z : Zone) (tag : Nat) (s : State) : State :=
  let id := nextObject s
  let o : Obj :=
    { oid := id, arch := .queued, nsid := n.nsid, zone := z.idx, zslba := z.idx * n.zsze, lbaf := n.lbaf, pi := n.pi
      lbas := z.wp, affinity := tag, queuedAt := nowNs s, changed := nowNs s }
  let s1 := setZone { z with arch := .queued, obj := id, objLbas := z.wp, affinity := tag, changed := nowNs s, setId := 0, setK := 0 } s
  tideRecord { s1 with
    hs := { s1.hs with objNext := id + 1 }
    ebb := { s1.ebb with objs := s1.ebb.objs ++ [o], queue := s1.ebb.queue ++ [id] } }

/-- Zones that Zone Archive with Select All takes: Full and Resident, with something in them (R69, Table 2.10). -/
def archivable (s : State) (nsid : Nat) : List Nat :=
  (s.hs.zones.filter fun z => z.nsid == nsid && z.st == .full && z.arch == .resident && z.wp != 0).map (·.idx)

/-- Completion of a command that answers an object identifier, low half in Dword 0 (R69). -/
def completeId (src : Src) (id : Nat) (s : State) : State :=
  complete src .success (BitVec.ofNat 32 id) (BitVec.ofNat 32 (id / 2 ^ 32)) (s := s)

/-- Zone Archive (R69). -/
def ioArchive (src : Src) (nsid zslba : Nat) (all : Bool) (tag : Nat) (rsv : Dword) (s : State) : State :=
  match archiveGate s src.port nsid zslba all rsv with
  | .error st => complete src st (s := s)
  | .ok n =>
    if all then
      let l := archivable s nsid
      let s1 := l.foldl (fun t i => archiveZone n (zoneOf t nsid i) tag t) s
      completeId src (if l = [] then 0 else s1.hs.objNext - 1) s1
    else
      let z := zoneOf s nsid (zslba / n.zsze)
      match table33 z .archive with
      | .error st => complete src st (s := s)
      | .ok _ => completeId src (nextObject s) (archiveZone n z tag s)

/-! ### Archive Cancel (R71, R72) -/

/-- A Queued zone becomes Resident and its object is retired (R71). -/
def cancelZone (z : Zone) (s : State) : State :=
  let s1 := retireObj z.obj s
  setZone { clearObject z with arch := .resident, changed := nowNs s } s1

/-- Archive Cancel (R71, R72): with Select All, zones in Inscribing are skipped. -/
def ioCancel (src : Src) (nsid zslba : Nat) (all : Bool) (rsv : Dword) (s : State) : State :=
  match archiveGate s src.port nsid zslba all rsv with
  | .error st => complete src st (s := s)
  | .ok n =>
    if all then
      let l := (s.hs.zones.filter fun z => z.nsid == nsid && z.arch == .queued).map (·.idx)
      complete src .success (s := l.foldl (fun t i => cancelZone (zoneOf t nsid i) t) s)
    else
      let z := zoneOf s nsid (zslba / n.zsze)
      match table33 z .cancel with
      | .error st => complete src st (s := s)
      | .ok _ => complete src .success (s := cancelZone z s)

/-! ### Zone Recall (R73, R74, R96) -/

/-- The reason for which a recall cannot be accepted (Table 2.12); 0 none. A second recall of an object whose recall runs
is refused as not Released. -/
def recallReason (s : State) (o : Obj) : Nat :=
  if o.arch ≠ .released ∨ o.recalling then 1
  else if s.doors.ecat ≠ .op then 2
  else if countedBays s = 0 then 5
  else 0

/-- The status of a recall that is not possible, with its reason in Dword 0 (R74, Table 2.18). -/
def refuseRecall (src : Src) (reason : Nat) (s : State) : State :=
  let st : Status := if reason = 1 then .notReleased else .recallImpossible
  let c := completionOf src st (BitVec.ofNat 32 reason) 0 [] []
  answer src { c with dnr := reason == 1 } s

/-- A recall is accepted (R73): the target is bound, the library is asked. -/
def acceptRecall (z : Zone) (o : Obj) (s : State) : State :=
  let s1 := setZone { z with
    st := .recallTarget, obj := o.oid, objLbas := o.lbas, setId := o.setId, setK := widthOf s o.setId
    affinity := o.affinity, changed := nowNs s, realloc := o.realloc } s
  let s2 := modObj o.oid (fun o => { o with recalling := true, recallFailed := 0, done := 0 }) s1
  policyUp (giveRecalls (tideRecord { s2 with
    ebb := { s2.ebb with recalls := s2.ebb.recalls ++ [{ obj := o.oid, nsid := z.nsid, zone := z.idx }] } }))

/-- Zone Recall (R73, R74, R84, R86, R88, R90 note 1, R96): the slots are sought after the checks of the object. -/
def ioRecall (src : Src) (nsid zslba obj : Nat) (rsv : Dword) (s : State) : State :=
  match archiveGate s src.port nsid zslba false rsv with
  | .error st => complete src st (s := s)
  | .ok n =>
    let z := zoneOf s nsid (zslba / n.zsze)
    match table33 z .recall, objOf s obj with
    | .error st, _ => complete src st (s := s)
    | .ok _, none => complete src .objectUnknown (s := s)
    | .ok _, some o =>
      if o.lbaf ≠ n.lbaf ∨ n.zcap < o.lbas then complete src .invalidField (s := s)
      else match recallReason s o with
        | 0 =>
          match takeSlots nsid true false s with
          | .error st => complete src st (s := s)
          | .ok s0 =>
            match bindZone z s0 with
            | none => complete src .capacityExceeded (s := s)
            | some (z1, s1) => complete src .success (s := acceptRecall z1 o s1)
        | r => refuseRecall src r s

/-! ### Archive Query (R75, R76) -/

/-- Archive state byte (Table 2.14). -/
def Arch.code : Arch → Nat
  | .resident => 0
  | .queued => 1
  | .inscribing => 2
  | .archivedResident => 3
  | .released => 4

/-- Disc status byte (Table 2.15). -/
def DiscStatus.code : DiscStatus → Nat
  | .pending => 0
  | .writing => 1
  | .verified => 2
  | .closed => 3
  | .failed => 4
  | .rebuilding => 5

/-- The plan that places an object: of a started set, or sealed and waiting. -/
def planOf (s : State) (id : Nat) : Option Plan :=
  (s.ebb.sets.map ArchSet.plan ++ s.ebb.plans).find? fun p => p.extents.any fun e => e.obj == id

/-- Discs of the set of an object, in role order; none before the set has started. -/
def discsOf (s : State) (sid : Nat) : List SetDisc :=
  match s.ebb.sets.find? fun a => a.sid == sid with
  | some a => a.discs
  | none => archivedDiscs s sid

/-- Disc entry of Table 2.15. -/
def discEntry (d : SetDisc) : List Byte :=
  takePad 16 d.serial ++ leBytes 1 d.role ++ leBytes 1 d.bay ++ leBytes 1 d.status.code ++ leBytes 13 0

/-- Bytes 0 to 63 of Table 2.14. -/
def querySummary (s : State) (o : Obj) : List Byte :=
  let started := o.arch != .queued
  let k := if started then (discsOf s o.setId).length - 2 else 0
  let released := o.arch == .released
  leBytes 8 o.oid ++
    leBytes 8 (if released then 2 ^ 64 - 1 else o.zone * (((nsOf s o.nsid).map Ns.zsze).getD 0)) ++
    leBytes 4 (if released then 0 else o.nsid) ++ leBytes 1 o.arch.code ++
    leBytes 1 ((if o.recalling then 1 else 0) + (if o.recon then 2 else 0) + (if o.recallFailed ≠ 0 then 4 else 0) +
      (if o.realloc then 8 else 0)) ++
    leBytes 1 o.recallFailed ++ leBytes 1 0 ++ leBytes 4 (if started then o.setId else 0) ++ leBytes 1 k ++
    leBytes 1 (if started then k + 2 else 0) ++ leBytes 2 0 ++ leBytes 8 o.done ++ leBytes 8 o.changed ++ leBytes 16 0

/-- The object's placement extents (Table 2.16): one, since an object never spans two discs (R210). -/
def queryExtents (s : State) (o : Obj) : List Byte :=
  let e : Extent := match (planOf s o.oid).bind fun p => p.extents.find? fun e => e.obj == o.oid with
    | some e => e
    | none => { obj := o.oid, disc := o.role, first := o.first, count := o.lbas }
  leBytes 1 e.disc ++ leBytes 3 0 ++ leBytes 4 0 ++ leBytes 4 e.count ++ leBytes 4 e.first

/-- Table 2.14 up to the level asked for (R75). -/
def queryData (s : State) (o : Obj) (level : Nat) : List Byte :=
  let discs := if o.arch = .queued then [] else discsOf s o.setId
  let l0 := querySummary s o
  let l1 := l0 ++ takePad 512 (discs.flatMap discEntry)
  if level = 0 then l0
  else if level = 1 then l1
  else takePad 4096 (l1 ++ leBytes 2 1 ++ leBytes 14 0 ++ queryExtents s o)

/-- The set of an object has a sealed plan (R76). -/
def planSealed (s : State) (o : Obj) : Bool :=
  o.arch != .queued || (planOf s o.oid).isSome

/-- The object a query names: by identifier, or the object of a zone (Table 2.13). -/
def queryKey (n : Ns) (key : Nat) (byZone : Bool) (s : State) : Nat :=
  if byZone then (if n.zsze ≠ 0 ∧ key % n.zsze = 0 then (zoneOf s n.nsid (key / n.zsze)).obj else 0) else key

/-- Archive Query (R75, R76); a zone that holds no object answers like an unknown identifier. -/
def ioQuery (src : Src) (nsid key : Nat) (byZone : Bool) (level numd : Nat) (rsv : Dword) (s : State) : State :=
  let gate : Except Status Ns := match sanitizeGate s with
    | some st => .error st
    | none => if byZone then zonedGate s src.port nsid
      else match nsOf s nsid with
        | some n => if n.fdp then .error .invalidOpcode else .ok n
        | none => .ok { }
  match gate with
  | .error st => complete src st (s := s)
  | .ok n =>
    if rsv ≠ 0 ∨ 2 < level then complete src .invalidField (s := s)
    else match objOf s (queryKey n key byZone s) with
      | none => complete src .objectUnknown (s := s)
      | some o =>
        if level ≠ 0 ∧ planSealed s o = false then complete src .notSealed (s := s)
        else complete src .success (data := (queryData s o level).take (4 * (numd + 1))) (s := s)

end Sys2Proof.Machine
end

