-- ==== Sys2Proof/Machine/Destructive.lean ====
section
/-! DEFINITION. Destructive administration: the admin door policy (R483, R484), the operation status and its record (R485,
R516), the arm. -/

namespace Sys2Proof.Machine

open Sys2Proof

/-- Number of a door in records (5020h.03, Table 16.13). -/
def doorCode : Door → Nat
  | .ethercat => 1
  | .nvme => 2
  | .bench => 3

/-- The operation and argument were armed by the other of the two doors (R483). -/
def armMatches (s : State) (door : Door) (code arg : Nat) : Bool :=
  s.adm.armCode == code && s.adm.armArg == arg && s.adm.armDoor != doorCode door && s.adm.armDoor != 0

/-- The door policy lets a door start an operation (R483). -/
def doorAllows (s : State) (door : Door) (code arg : Nat) : Bool :=
  door != .bench &&
    (match num s 0x2050 1 with
      | 0 => door == .nvme
      | 1 => door == .ethercat
      | _ => armMatches s door code arg)

/-- Disarm (R483). -/
def disarm (s : State) : State :=
  { s with adm := { s.adm with armCode := 0, armArg := 0, armDoor := 0, armAt := 0 } }

/-- A dictionary door may not start the operation: the policy, or another operation that runs (R483, R484). -/
def operationRefused (s : State) (door : Door) (code arg : Nat) : Bool :=
  !doorAllows s door code arg || s.adm.running != []

/-- The status of an NVMe command that asks for an operation the policy or another operation forbids (R484). -/
def operationStatus (s : State) (code arg : Nat) : Option Status :=
  if s.adm.running.contains 2 then some .sanitizeInProgress
  else if s.adm.running.contains 1 then some .formatInProgress
  else if s.adm.running ≠ [] then some .commandSequence
  else if doorAllows s .nvme code arg = false then some .accessDenied
  else none

/-- An operation starts: the arm that permitted it is used up, the record is opened, event 024 (R483, R516). -/
def startOperation (door : Door) (code nsid : Nat) (cdw10 : Dword) (est : Nat) (s : State) : State :=
  let s1 := if num s 0x2050 1 = 2 then disarm s else s
  raise 24 code (evBytes 4 nsid ++ [doorCode door]) (tideRecord { s1 with
    adm := { s1.adm with
      running := s1.adm.running ++ [code]
      prog := { op := code, status := 1, nsid := nsid, cdw10 := cdw10, door := doorCode door, start := nowNs s, estimate := est } } })

/-- An operation ends: event 025, or 026 when it failed (R516). -/
def endOperation (code : Nat) (failed : Bool) (s : State) : State :=
  let r := s.adm.prog
  raise (if failed then 26 else 25) code (evBytes 4 r.nsid ++ [r.door]) (tideRecord { s with
    adm := { s.adm with
      running := s.adm.running.filter fun c => c != code
      prog := { r with status := if failed then 3 else 2, progress := if failed then r.progress else 65535, stop := nowNs s } } })

/-- The abort of a dictionary request that the operation's own checks refuse (R485). -/
def checkAbort : Status → Abort
  | .commandSequence | .formatInProgress | .sanitizeInProgress => .state
  | _ => .range

/-- A write of 2050h.03 (R483): bits 31:24 the operation, bits 23:0 the argument. -/
def arm (door : Door) (value : Nat) (s : State) : Except Abort State :=
  if door = .bench then .error .state
  else
    let code := value / 2 ^ 24 % 256
    if code = 0 ∨ 7 < code then .error .range
    else .ok { s with
      adm := { s.adm with armCode := code, armArg := value % 2 ^ 24, armDoor := doorCode door, armAt := s.clock } }

/-- ARM_WINDOW_EXPIRY (R483). -/
def execArmWindowExpiry (s : State) : Host.Outcome State Fault Refusal :=
  .next (disarm s)

/-! ### Namespaces named by an operation -/

/-- Namespaces that an NSID names; FFFFFFFFh names all. -/
def namedNs (s : State) (nsid : Nat) : List Ns :=
  if nsid = 0xFFFFFFFF then s.hs.ns else s.hs.ns.filter fun n => n.nsid == nsid

/-- A zone that neither deletion nor Format touches (R98, R519). -/
def Zone.heldByArchive (z : Zone) : Bool :=
  z.st == .recallTarget || z.arch == .queued || z.arch == .inscribing

/-- A named namespace has such a zone. -/
def archiveHolds (s : State) (nsid : Nat) : Bool :=
  s.hs.zones.any fun z => z.heldByArchive && (nsid == 0xFFFFFFFF || z.nsid == nsid)

/-- A namespace without the data of Flexible Data Placement. -/
def Ns.cleared (n : Ns) : Ns :=
  { n with fdpWritten := 0, fdpMap := [], fdpOld := [], fdpData := [] }

/-- Every zone of a namespace becomes Empty and its Archived-Resident objects become Released (R98, R519, R532); the data
of an FDP namespace is gone. -/
def emptyNs (s : State) (nsid : Nat) : State :=
  let s1 := (s.hs.zones.filter fun z => z.nsid == nsid).foldl (fun t z => emptyZone z t) s
  tideRecord (modNs nsid Ns.cleared s1)

/-! ### Namespace delete (R98) -/

/-- The operation's own checks. -/
def deleteCheck (s : State) (nsid : Nat) : Option Status :=
  if nsid ≠ 0xFFFFFFFF ∧ namedNs s nsid = [] then some .invalidNamespace
  else if archiveHolds s nsid then some .commandSequence
  else none

/-- Delete the namespaces named. -/
def runDelete (door : Door) (nsid : Nat) (cdw10 : Dword) (s : State) : State :=
  let s1 := startOperation door 3 nsid cdw10 0 s
  let s2 := (namedNs s1 nsid).foldl (fun t n => emptyNs t n.nsid) s1
  let gone := (namedNs s2 nsid).map (·.nsid)
  endOperation 3 false { s2 with
    hs := { s2.hs with
      ns := s2.hs.ns.filter fun n => !gone.contains n.nsid
      changedAt := s2.hs.changedAt.filter fun x => !gone.contains x.1 } }

/-! ### Format NVM (R519) -/

/-- What CDW10 of a Format asks for. -/
structure FormatSpec where
  /-- LBA format, bits 3:0. -/
  lbaf : Nat
  /-- Metadata interleaved in extended LBAs, bit 4 (R48). -/
  mset : Bool
  /-- Protection type, bits 7:5. -/
  pi : Nat
  /-- Secure Erase Settings, bits 11:9. -/
  ses : Nat
  deriving DecidableEq, Repr

/-- The fields of CDW10. -/
def formatFields (cdw10 : Dword) : FormatSpec :=
  { lbaf := bitsOf cdw10.toNat 0 3, mset := bitOf cdw10.toNat 4, pi := bitsOf cdw10.toNat 5 7, ses := bitsOf cdw10.toNat 9 11 }

/-- The operation's own checks. -/
def formatCheck (s : State) (nsid : Nat) (f : FormatSpec) : Option Status :=
  let l := namedNs s nsid
  if nsid ≠ 0xFFFFFFFF ∧ l = [] then some .invalidNamespace
  else if 1 < f.lbaf ∨ 3 < f.pi then some .invalidFormat
  else if 2 < f.ses ∨ f.ses = 2 ∧ l.any (fun n => !n.encrypted) then some .invalidField
  else if archiveHolds s nsid then some .commandSequence
  else none

/-- Greatest number of the bound blocks of the named namespaces on any one die (R519). -/
def mostBound (s : State) (nsid : Nat) : Nat :=
  let ms := (s.hs.zones.filter fun z => nsid == 0xFFFFFFFF || z.nsid == nsid).flatMap (·.members)
  maxOf (ms.map fun m => (ms.filter fun k => k.port == m.port && k.die == m.die).length)

/-- Estimated duration of a Format [s] (R519). -/
def formatEstimate (s : State) (nsid ses : Nat) : Nat :=
  if ses = 2 then 2
  else if nsid = 0xFFFFFFFF ∨ s.hs.ns.length = 1 then 30
  else
    let b := num s 0x2220 3
    let tE := maxOf ((servingDies s).map fun d => d.2.2.tMax)
    if b = 0 then 0 else (mostBound s nsid * tE * 1000 + b * 1000000 - 1) / (b * 1000000)

/-- Format the namespaces named: zones Empty, objects Released, formats and keys changed. It runs until FORMAT_COMPLETE. -/
def runFormat (door : Door) (nsid : Nat) (cdw10 : Dword) (s : State) : State :=
  let f := formatFields cdw10
  let names := (namedNs s nsid).map (·.nsid)
  let s1 := startOperation door 1 nsid cdw10 (formatEstimate s nsid f.ses) s
  let s2 := names.foldl emptyNs s1
  let change := fun n : Ns =>
    { n with lbaf := f.lbaf, mset := f.mset, pi := f.pi }
  let s3 := names.foldl (fun t i => if f.ses = 2 then drawKey i (modNs i change t) else modNs i change t) s2
  { s3 with adm := { s3.adm with formatNs := names } }

/-! ### Sanitize (R517, R518) -/

/-- The operation's own checks on the Sanitize Action. -/
def sanitizeCheck (s : State) (action : Nat) : Option Status :=
  if action = 1 then none
  else if action ≠ 2 ∧ action ≠ 4 then some .invalidField
  else if action = 4 ∧ s.hs.ns.any (fun n => !n.encrypted) then some .invalidField
  else if s.ebb.objs.any (fun o => o.arch == .inscribing) ∨ s.ebb.recon.status = 1 ∨ s.ebb.recon.status = 2 then
    some .commandSequence
  else none

/-- Step 1 of Table 16.14: I/O commands dispatched and not completed complete with Sanitize In Progress, writes held during
a dip among them. -/
def cutIo (s : State) : State :=
  let io := s.hs.inflight.filter fun i => i.sq != 0
  let held := s.hs.held
  let s1 := { s with hs := { s.hs with inflight := s.hs.inflight.filter (fun i => i.sq == 0), held := [] } }
  let s2 := io.foldl (fun t i => complete { port := i.port, sq := i.sq, cid := i.cid } .sanitizeInProgress (s := t)) s1
  held.foldl (fun t h => complete { port := h.1, sq := h.2.sq, cid := h.2.cid } .sanitizeInProgress (s := t)) s2

/-- Step 1: recalls end with their targets Empty; their objects stay Released (R97). -/
def cutRecalls (s : State) : State :=
  s.ebb.recalls.foldl (fun t r => endRecall r (modObj r.obj (fun o => { o with recalling := false }) t)) s

/-- Step 2: Queued objects are retired, Archived-Resident objects become Released. -/
def freeObjects (s : State) : State :=
  let queued := (s.ebb.objs.filter fun o => o.arch == .queued).map (·.oid)
  let resident := (s.ebb.objs.filter fun o => o.arch == .archivedResident).map (·.oid)
  resident.foldl (fun t i => releaseObj i t) (queued.foldl (fun t i => retireObj i t) s)

/-- Steps 3 and 5: caches and buffers are unwritten, every zone is Empty, sealed plans not started are discarded. -/
def discardAll (s : State) : State :=
  let s1 := s.hs.zones.foldl (fun t z => noteChange z.nsid z.idx (z.changeNow s) t) s
  tideRecord { s1 with
    mem := { s.mem with lines := [], scratch := [] }
    hs := { s1.hs with zones := [], ns := s1.hs.ns.map Ns.cleared }
    flash := { s1.flash with staging := [] }
    ebb := { s.ebb with plans := [], building := none } }

/-- Start a Sanitize: steps 1 to 3 and 5 of Table 16.14. The blocks that zones held are unbound; step 4 ends with
SANITIZE_COMPLETE. -/
def runSanitize (door : Door) (cdw10 : Dword) (s : State) : State :=
  let action := bitsOf cdw10.toNat 0 2
  if action = 1 then { s with adm := { s.adm with sanitizeFailed := false } }
  else
    let est := if action = 2 then 30 else (2000000 + 8 * maxOf ((servingDies s).map fun d => d.2.2.tMax) + 999999) / 1000000
    let s1 := startOperation door 2 0xFFFFFFFF cdw10 est s
    let s2 := { s1 with
      adm := { s1.adm with
        sanitizeEver := 2, sanCdw10 := cdw10, sanDies := (servingDies s).map fun d => (d.1, d.2.1) } }
    discardAll (freeObjects (cutRecalls (cutIo s2)))

/-- Step 4: Block Erase erases every block of every in-service die; Crypto Erase replaces every namespace key. The staging
blocks, whose place the spec does not give, count no erases of their own. -/
def endErase (s : State) : State :=
  if bitsOf s.adm.sanCdw10.toNat 0 2 = 2 then
    modDies (fun d => if d.inService then { d with eraseBase := d.eraseBase + 1, eraseDue := [] } else d) s
  else (s.hs.ns.map (·.nsid)).foldl (fun t i => drawKey i t) s

/-- A Block Erase has failed (R517): a die that it names has failed meanwhile. -/
def sanitizeFails (s : State) : Bool :=
  bitsOf s.adm.sanCdw10.toNat 0 2 == 2
    && s.adm.sanDies.any fun d => !((servingDies s).any fun x => x.1 == d.1 && x.2.1 == d.2)

/-- SANITIZE_COMPLETE (R517, R518). -/
def execSanitizeComplete (s : State) : Host.Outcome State Fault Refusal :=
  if s.adm.running.contains 2 = false then .next s
  else
    let failed := sanitizeFails s
    let s1 := endErase s
    .next (endOperation 2 failed { s1 with
      adm := { s1.adm with sanitizeEver := if failed then 3 else 1, sanitizeFailed := failed, sanDies := [] } })

/-- Complete the commands that wait for a Format. -/
def completeFormats (s : State) : State :=
  let waits := s.hs.inflight.filter fun i => i.wait == .format
  waits.foldl (fun t i => complete { port := i.port, sq := i.sq, cid := i.cid } .success (s := t))
    { s with hs := { s.hs with inflight := s.hs.inflight.filter fun i => i.wait != .format } }

/-- FORMAT_COMPLETE (R519). -/
def execFormatComplete (s : State) : Host.Outcome State Fault Refusal :=
  if s.adm.running.contains 1 = false then .next s
  else
    let s1 := endOperation 1 false { s with adm := { s.adm with formatNs := [] } }
    .next (completeFormats s1)

end Sys2Proof.Machine
end

