-- ==== Sys2Proof/Machine/Nor.lean ====
section
/-! DEFINITION. The boot SPI NOR (R467, R520): 64 MiB of bytes kept as a canonical list of (address, byte) pairs, and the
firmware commands that fill its two slots. An unlisted address reads FFh, the erased state (log 6). -/

namespace Sys2Proof.Machine

open Sys2Proof

/-! ### Bytes of the NOR -/

/-- What an unlisted address reads as. -/
def norErased : Byte := 0xFF#8

/-- The byte at an address. -/
def norByte (m : List Host.Cell) (a : Nat) : Byte :=
  match m with
  | [] => norErased
  | c :: cs => if c.1 = a then c.2 else norByte cs a

/-- Put a byte, keeping the canonical form. -/
def norPut (a : Nat) (v : Byte) : List Host.Cell → List Host.Cell
  | [] => if v = norErased then [] else [(a, v)]
  | c :: cs =>
    if a < c.1 then (if v = norErased then c :: cs else (a, v) :: c :: cs)
    else if a = c.1 then (if v = norErased then cs else (a, v) :: cs)
    else c :: norPut a v cs

/-- The canonical form: addresses strictly rising from lo on, no entry equal to the erased byte. -/
def norWfFrom (lo : Nat) : List Host.Cell → Bool
  | [] => true
  | c :: cs => decide (lo ≤ c.1) && c.2 != norErased && norWfFrom (c.1 + 1) cs

/-- The canonical form of the whole list. -/
abbrev norWf (m : List Host.Cell) : Bool := norWfFrom 0 m

/-- Erase the addresses from lo up to hi. -/
def norErase (lo hi : Nat) (m : List Host.Cell) : List Host.Cell :=
  m.filter fun c => decide (c.1 < lo) || decide (hi ≤ c.1)

/-- Bytes from an address on. -/
def norRead (m : List Host.Cell) (a n : Nat) : List Byte :=
  (List.range n).map fun i => norByte m (a + i)

/-- Program bytes from an address on: an erased byte takes its value; what programming leaves on a byte that is not erased
the spec does not state, and it is a free value. -/
def norProgram (freeAt : Nat) (a : Nat) : List Byte → List Host.Cell → List Host.Cell
  | [], m => m
  | v :: vs, m =>
    let w := if norByte m a = norErased then v else (Config.freeValue freeAt).setWidth 8
    norProgram (freeAt + 1) (a + 1) vs (norPut a w m)

/-! ### The slots (R467, R520) -/

/-- Bytes of a slot. -/
def slotSize : Nat := 0x1800000

/-- First address of a slot. -/
def slotBase (n : Nat) : Nat := (n - 1) * slotSize

/-- The slot that holds an address. -/
def slotAt (a : Nat) : Option Nat :=
  if a < slotSize then some 1 else if a < 2 * slotSize then some 2 else none

/-- The cells of a slot, by offset. -/
def slotCells (m : List Host.Cell) (n : Nat) : List Host.Cell :=
  (m.filter fun c => slotAt c.1 == some n).map fun c => (c.1 - slotBase n, c.2)

/-- Change the NOR's bytes; a slot whose bytes have changed holds what the boot ROM reads in them. -/
def putNor (m : List Host.Cell) (n : Nat) (s : State) : State :=
  modSlot n (fun _ => { image := Config.parseImage (slotCells m n) }) { s with fw := { s.fw with nor := m } }

/-- Write the assembled image into a slot: its old bytes are erased first. -/
def storeImage (n : Nat) (image : FwImage) (marked : Bool) (s : State) : State :=
  let clear := norErase (slotBase n) (slotBase n + slotSize) s.fw.nor
  let nor := s.fw.download.foldl (fun m c => norPut (slotBase n + c.1) c.2 m) clear
  modSlot n (fun _ => { image := some image, marked := marked }) { s with fw := { s.fw with nor := nor } }

/-- Only one slot is marked at a time: the boot ROM tries the slot marked last (R521). -/
def markSlot (n : Nat) (s : State) : State :=
  modSlot n (fun f => { f with marked := true }) (modSlot (3 - n) (fun f => { f with marked := false }) s)

/-! ### Firmware Image Download and Firmware Commit (R520) -/

/-- Firmware Image Download: a piece at a dword offset, given in bytes. -/
def admDownload (src : Src) (off : Nat) (bytes : List Byte) (s : State) : State :=
  if off % 4 ≠ 0 ∨ bytes.length % 4 ≠ 0 ∨ bytes = [] ∨ slotSize < off + bytes.length then complete src .invalidField (s := s)
  else
    let d := (bytes.zipIdx).foldl (fun d x => putKey (off + x.2) x.1 d) s.fw.download
    complete src .success (s := { s with fw := { s.fw with download := d } })

/-- The status of an image that fails a check of R520. -/
def imageStatus : Nat → Status
  | 3 => .activationProhibited
  | _ => .invalidImage

/-- Slot 0 lets the device choose: the slot that is not active. -/
def chosenSlot (s : State) (slot : Nat) : Nat :=
  if slot = 0 then (if s.fw.active = 1 then 2 else 1) else slot

/-- Firmware Commit (R520): 000b stores, 001b stores and marks, 010b marks what the slot holds; a commit that marks a slot
completes with Firmware Activation Requires Conventional Reset. -/
def admCommit (src : Src) (action slot : Nat) (image : FwImage) (s : State) : State :=
  let n := chosenSlot s slot
  if 2 < action then complete src .invalidField (s := s)
  else if 2 < slot then complete src .invalidSlot (s := s)
  else
    let img := if action = 2 then (slotOf s.fw n).image else some image
    let fault := match img with
      | none => 1
      | some i => imageFault s i
    if fault ≠ 0 then complete src (imageStatus fault) (s := raise 18 fault [n] s)
    else if action = 0 then complete src .success (s := storeImage n image false s)
    else if action = 1 then complete src .needsReset (s := markSlot n (storeImage n image true s))
    else complete src .needsReset (s := markSlot n s)

end Sys2Proof.Machine
end

