-- ==== Sys2Proof/Machine/Admin.lean ====
section
/-! DEFINITION. Admin commands (Tables 2.6 and 2.8): queues, Abort, features, Asynchronous Event Request, namespaces, Format
NVM, Sanitize. -/

namespace Sys2Proof.Machine

open Sys2Proof

/-! ### Queues (R29, R34, R38, R459) -/

/-- Queue pairs of a controller (2110h). -/
def allocOf (s : State) (p : PortId) : Nat :=
  s.hs.alloc.getD p.val 0

/-- Queue sizes that CAP.MQES allows. -/
def sizeOk (size : Nat) : Bool :=
  decide (2 ≤ size) && decide (size ≤ 16384)

/-- Create I/O Completion Queue. -/
def admCreateCq (src : Src) (qid size iv : Nat) (s : State) : State :=
  let c := s.ctrls.get src.port
  if qid = 0 ∨ allocOf s src.port < qid ∨ (c.cq? qid).isSome then complete src .invalidQueueId (s := s)
  else if sizeOk size = false then complete src .invalidQueueSize (s := s)
  else if 2047 ≤ iv then complete src .invalidVector (s := s)
  else
    let q : Cq := { qid := qid, size := size, iv := iv }
    complete src .success (s := passLock (modCtrl src.port (fun c => { c with cqs := c.cqs ++ [q] }) s))

/-- Create I/O Submission Queue. The spec does not order its checks: a missing completion queue is answered before a queue identifier
above the allocation (DESIGN CHOICE, log 141). -/
def admCreateSq (src : Src) (qid size cqid prio : Nat) (s : State) : State :=
  let c := s.ctrls.get src.port
  if cqid = 0 ∨ (c.cq? cqid).isNone then complete src .cqInvalid (s := s)
  else if qid = 0 ∨ allocOf s src.port < qid ∨ (c.sq? qid).isSome then complete src .invalidQueueId (s := s)
  else if sizeOk size = false then complete src .invalidQueueSize (s := s)
  else
    let q : Sq := { qid := qid, size := size, cqid := cqid, prio := prio % 4 }
    complete src .success (s := passLock (modCtrl src.port (fun c => { c with sqs := c.sqs ++ [q] }) s))

/-- A submission queue's dispatched commands have all completed (R38). -/
def sqIdle (s : State) (p : PortId) (qid : Nat) : Bool :=
  !(s.hs.inflight.any fun i => i.port == p && i.sq == qid) && !(s.hs.held.any fun h => h.1 == p && h.2.sq == qid)

/-- Remove a submission queue; what its reads still have on the dies runs on for nothing (R154). -/
def dropSq (p : PortId) (qid : Nat) (s : State) : State :=
  modCtrl p (fun c => { c with sqs := c.sqs.filter fun q => q.qid != qid }) (discardOwned (fun o => o == (p, qid)) s)

/-- Delete I/O Submission Queue (R38): fetched commands complete as aborted, unfetched entries never run; the command
completes after the last dispatched one. -/
def admDeleteSq (src : Src) (qid : Nat) (s : State) : State :=
  match (s.ctrls.get src.port).sq? qid with
  | none => complete src .invalidQueueId (s := s)
  | some q =>
    if qid = 0 then complete src .invalidQueueId (s := s)
    else
      let s1 := modSq src.port qid (fun q => { q with fetched := [], stopped := true, tail := q.head }) s
      let s2 := q.fetched.foldl (fun t e =>
        complete { port := src.port, sq := qid, cid := e.cid } .abortedSqDeletion (s := t)) s1
      if sqIdle s2 src.port qid then complete src .success (s := dropSq src.port qid s2)
      else hold src (.deleteSq qid) s2

/-- Delete I/O Completion Queue: no submission queue may be bound to it. -/
def admDeleteCq (src : Src) (qid : Nat) (s : State) : State :=
  let c := s.ctrls.get src.port
  if qid = 0 ∨ (c.cq? qid).isNone then complete src .invalidQueueId (s := s)
  else if c.sqs.any (fun q => q.cqid == qid) then complete src .invalidQueueDeletion (s := s)
  else complete src .success (s := modCtrl src.port (fun c => { c with cqs := c.cqs.filter fun q => q.qid != qid }) s)

/-- Abort (R63): completed at once, nothing aborted. -/
def admAbort (src : Src) (s : State) : State :=
  complete src .success 1 (s := s)

/-! ### Features (R34, R36, R57, R67, R488) -/

/-- Change a controller's features. -/
def modFeat (p : PortId) (f : Feat → Feat) (s : State) : State :=
  modCtrl p (fun c => { c with feat := f c.feat }) s

/-- NSQA and NCQA (R34). -/
def queuesWord (s : State) (p : PortId) : Dword :=
  let n := (allocOf s p + 65535) % 65536
  BitVec.ofNat 32 (n + 65536 * n)

/-- Set Features Volatile Write Cache (R57): disabling it first programs all completed, unprogrammed data. -/
def admSetVwc (src : Src) (on save : Bool) (s : State) : State :=
  if save then complete src .notSaveable (s := s)
  else
    let s1 := { s with hs := { s.hs with wce := on } }
    let t := dirtyTargets s none
    if on ∨ t = [] then complete src .success (s := s1) else hold src (.flush t) s1

/-- Set Features Number of Queues (R34). -/
def admSetQueues (src : Src) (s : State) : State :=
  complete src .success (queuesWord s src.port) (s := s)

/-- Set Features Arbitration (R36). -/
def admSetArbitration (src : Src) (dw : Dword) (s : State) : State :=
  complete src .success (s := modFeat src.port (fun f => { f with arbitration := dw }) s)

/-- Set Features Temperature Threshold: the composite temperature's thresholds, or those of one of the eight sensors. -/
def admSetTemp (src : Src) (dw : Dword) (s : State) : State :=
  let t := bitsOf dw.toNat 0 15
  let sel := bitsOf dw.toNat 16 19
  let typ := bitsOf dw.toNat 20 21
  if 1 < typ ∨ (8 < sel ∧ sel ≠ 15) then complete src .invalidField (s := s)
  else
    let hs1 := if sel = 0 ∨ sel = 15 then
        (if typ = 0 then { s.hs with tempOver := t } else { s.hs with tempUnder := t })
      else { s.hs with tempSensors := putKey (2 * sel + typ) t s.hs.tempSensors }
    complete src .success (s := { s with hs := hs1 })

/-- Set Features Interrupt Coalescing. -/
def admSetCoalescing (src : Src) (dw : Dword) (s : State) : State :=
  complete src .success (s := modFeat src.port (fun f => { f with coalescing := dw }) s)

/-- Set Features Interrupt Vector Configuration: one of the 2,048 vectors. -/
def admSetVector (src : Src) (dw : Dword) (s : State) : State :=
  let iv := bitsOf dw.toNat 0 15
  if 2047 < iv then complete src .invalidField (s := s)
  else complete src .success (s := modFeat src.port (fun f => { f with vectors := putKey iv dw f.vectors }) s)

/-- Set Features Asynchronous Event Configuration; it does not govern vendor events (R508). -/
def admSetAsync (src : Src) (dw : Dword) (s : State) : State :=
  complete src .success (s := modFeat src.port (fun f => { f with asyncConfig := dw }) s)

/-- Set Features Timestamp. -/
def admSetTimestamp (src : Src) (ms : Nat) (s : State) : State :=
  complete src .success (s := { s with hs := { s.hs with timestamp := ms % 2 ^ 48, timestampAt := some s.clock } })

/-- FDP event types (NVMe Base): reclaim unit not fully written, time limit, reset changed handles, invalid placement identifier; media
reallocated, handle changed. -/
def fdpEventTypes : List Nat := [0, 1, 2, 3, 0x80, 0x81]

/-- Enable or disable event types for a placement handle. -/
def Ns.setFdpEvents (handle : Nat) (on : Bool) (types : List Nat) (n : Ns) : Ns :=
  let rest := n.fdpEvents.filter fun e => !(e.1 == handle && types.contains e.2)
  { n with fdpEvents := if on then rest ++ types.map fun t => (handle, t) else rest }

/-- Set Features Flexible Data Placement (only while no namespace exists) or FDP Events: the event types of one placement handle of a
namespace (CDW11 bits 15:0), enabled or not. -/
def admSetFdp (src : Src) (nsid fid : Nat) (dw : Dword) (on : Bool) (types : List Nat) (s : State) : State :=
  if fid = 0x1D then
    if bitsOf dw.toNat 8 15 ≠ 0 then complete src .invalidField (s := s)
    else if s.hs.ns ≠ [] then complete src .commandSequence (s := s)
    else complete src .success (s := { s with hs := { s.hs with fdpOn := bitOf dw.toNat 0 } })
  else if fid = 0x1E then
    match nsOf s nsid with
    | none => complete src .invalidNamespace (s := s)
    | some n =>
      let h := bitsOf dw.toNat 0 15
      if n.fdp = false ∨ n.handles.length ≤ h ∨ types.any (fun t => !fdpEventTypes.contains t) then complete src .invalidField (s := s)
      else complete src .success (s := tideRecord (modNs nsid (Ns.setFdpEvents h on types) s))
  else complete src .invalidField (s := s)

/-- The supported FDP event types of a placement handle, and which are enabled. -/
def fdpEventList (n : Ns) (handle : Nat) : List Byte :=
  fdpEventTypes.flatMap fun t => leBytes 1 t ++ leBytes 1 (if n.fdpEvents.contains (handle, t) then 1 else 0)

/-- The value of a feature for Get Features: Dword 0 and data; none for an unsupported feature. -/
def featureValue (s : State) (p : PortId) (fid nsid dw11 : Nat) : Option (Dword × List Byte) :=
  let f := (s.ctrls.get p).feat
  match fid with
  | 0x01 => some (f.arbitration, [])
  | 0x02 => some (BitVec.ofNat 32 s.pwr.ps, [])
  | 0x04 =>
    let sel := bitsOf dw11 16 19
    let typ := bitsOf dw11 20 21
    if 1 < typ ∨ (8 < sel ∧ sel ≠ 15) then none
    else if sel = 0 ∨ sel = 15 then some (BitVec.ofNat 32 (if typ = 0 then s.hs.tempOver else s.hs.tempUnder), [])
    else some (BitVec.ofNat 32 ((getKey (2 * sel + typ) s.hs.tempSensors).getD (if typ = 0 then 65535 else 0)), [])
  | 0x06 => some (if s.hs.wce then 1 else 0, [])
  | 0x07 => some (queuesWord s p, [])
  | 0x08 => some (f.coalescing, [])
  | 0x09 =>
    let iv := bitsOf dw11 0 15
    if 2047 < iv then none else some ((getKey iv f.vectors).getD (BitVec.ofNat 32 iv), [])
  | 0x0B => some (f.asyncConfig, [])
  | 0x0E => some (0, leBytes 6 (timestampNow s) ++ leBytes 1 (if s.hs.timestampAt.isSome then 2 else 0) ++ leBytes 1 0)
  | 0x1D => some (if s.hs.fdpOn then 1 else 0, [])
  | 0x1E => ((nsOf s nsid).filter fun n => n.fdp && decide (bitsOf dw11 0 15 < n.handles.length)).map fun n =>
    (BitVec.ofNat 32 fdpEventTypes.length, fdpEventList n (bitsOf dw11 0 15))
  | _ => none

/-- Get Features. -/
def admGetFeatures (src : Src) (fid nsid dw11 : Nat) (s : State) : State :=
  match featureValue s src.port fid nsid dw11 with
  | none => complete src .invalidField (s := s)
  | some (dw0, data) => complete src .success dw0 0 data (s := s)

/-! ### Asynchronous Event Request (R45, R508) -/

/-- Report what waits for a request on a controller: Error events first, then SMART events, then a vendor
event that is not withheld. -/
def reportPending (p : PortId) (s : State) : State :=
  let c := s.ctrls.get p
  match c.aers with
  | [] => s
  | cid :: rest =>
    match c.errorHeld, c.errorPending, c.smartHeld, c.smartPending with
    | false, dw :: more, _, _ =>
      post p { cid := cid, sq := 0, dw0 := dw }
        (modCtrl p (fun c => { c with aers := rest, errorHeld := true, errorPending := more }) s)
    | _, _, false, dw :: more =>
      post p { cid := cid, sq := 0, dw0 := dw }
        (modCtrl p (fun c => { c with aers := rest, smartHeld := true, smartPending := more }) s)
    | _, _, _, _ =>
      match c.withheld, c.pendingGroup with
      | false, some g =>
        post p { cid := cid, sq := 0, dw0 := aerDword g }
          (modCtrl p (fun c => { c with aers := rest, withheld := true, pendingGroup := none }) s)
      | _, _ => s

/-- Asynchronous Event Request: at most 8 outstanding (Table 2.6). -/
def admAsync (src : Src) (s : State) : State :=
  let c := s.ctrls.get src.port
  if 8 ≤ c.aers.length then complete src .aerLimit (s := s)
  else reportPending src.port (modCtrl src.port (fun c => { c with aers := c.aers ++ [src.cid] }) s)

/-! ### Namespaces (R67, R68, R83, R85, R98, R104, R105, R144, R529) -/

/-- Zones of all zoned namespaces. -/
def zonesUsed (s : State) : Nat :=
  sumOf (s.hs.ns.map fun n => n.zones)

/-- LBAs of all FDP namespaces. -/
def fdpUsed (s : State) : Nat :=
  sumOf (s.hs.ns.map fun n => n.lbas)

/-- The lowest namespace identifier not in use (R85). -/
def freeNsid (s : State) : Option Nat :=
  ((List.range 256).map (· + 1)).find? fun i => (nsOf s i).isNone

/-- The namespace a create asks for, before it has an identifier: its zones in the present zone size mode (R83). -/
def newNs (s : State) (spec : NsSpec) : Ns :=
  let zsze := reportedSize s (num s 0x2200 5)
  { fdp := spec.fdp
    zones := if spec.fdp ∨ zsze = 0 then 0 else spec.nsze / zsze
    lbas := if spec.fdp then spec.nsze else 0
    zsze := if spec.fdp then 0 else zsze
    zcap := if spec.fdp then 0 else zoneCapacity s
    lbaf := spec.lbaf
    pi := spec.pi
    mset := spec.mset
    encrypted := spec.encrypted
    keyGen := if spec.encrypted then s.hs.keyDraws + 1 else 0
    handles := spec.handles }

/-- The first check a create fails. -/
def createCheck (s : State) (spec : NsSpec) : Option Status :=
  let n := newNs s spec
  if s.flash.formatting then some .formatInProgress
  else if 1 < spec.lbaf ∨ 3 < spec.pi then some .invalidFormat
  else if spec.fdp ∧ (s.hs.fdpOn = false ∨ 16 < spec.handles.length ∨ spec.handles.any (fun h => decide (64 ≤ h))) then some .invalidField
  else if spec.nsze = 0 then some .invalidField
  else if spec.fdp = false ∧ n.zones = 0 then (if n.zsze = 0 then some .nsInsufficient else some .invalidField)
  else if spec.fdp ∧ 12000000000000 < 4096 * (fdpUsed s + n.lbas) then some .nsInsufficient
  else if spec.fdp = false ∧ s.flash.zoneCount - s.flash.unbindable < zonesUsed s + n.zones then some .nsInsufficient
  else none

/-- Namespace Management create: Dword 0 holds the identifier. -/
def admNsCreate (src : Src) (spec : NsSpec) (s : State) : State :=
  match createCheck s spec, freeNsid s with
  | some st, _ => complete src st (s := s)
  | none, none => complete src .nsIdUnavailable (s := s)
  | none, some i =>
    let n : Ns := { newNs s spec with nsid := i }
    let l := (s.hs.ns.filter fun m => decide (m.nsid < i)) ++ [n] ++ s.hs.ns.filter fun m => decide (i < m.nsid)
    let drawn := if spec.encrypted then s.hs.keyDraws + 1 else s.hs.keyDraws
    complete src .success (BitVec.ofNat 32 i) (s := tideRecord { s with hs := { s.hs with ns := l, keyDraws := drawn } })

/-- Namespace Management delete (R98), destructive operation 03h. -/
def admNsDelete (src : Src) (nsid : Nat) (s : State) : State :=
  match operationStatus s 3 (nsid % 2 ^ 24), deleteCheck s nsid with
  | some st, _ => complete src st (s := s)
  | none, some st => complete src st (s := s)
  | none, none => complete src .success (s := runDelete .nvme nsid 0x00000001#32 s)

/-- Namespace Attachment attach or detach. -/
def admNsAttach (src : Src) (nsid : Nat) (ports : List PortId) (on : Bool) (s : State) : State :=
  match nsOf s nsid with
  | none => complete src .invalidNamespace (s := s)
  | some n =>
    if ports = [] ∨ ports.any (fun p => !(s.ctrls.get p).present) then complete src .invalidField (s := s)
    else if on ∧ ports.any (fun p => n.attached.contains p) then complete src .nsAttached (s := s)
    else if on = false ∧ ports.any (fun p => !n.attached.contains p) then complete src .nsNotAttached (s := s)
    else
      let change := fun m : Ns =>
        { m with attached := if on then m.attached ++ ports.eraseDups else m.attached.filter fun p => !ports.contains p }
      complete src .success (s := tideRecord (modNs nsid change s))

/-! ### Format NVM and Sanitize (R517, R519) -/

/-- CDW10 of a Format. -/
def formatDword (lbaf pi ses : Nat) (mset : Bool) : Dword :=
  BitVec.ofNat 32 (lbaf % 16 + (if mset then 16 else 0) + pi % 8 * 32 + ses % 8 * 512)

/-- Format NVM: it completes with FORMAT_COMPLETE. -/
def admFormat (src : Src) (nsid lbaf pi ses : Nat) (mset : Bool) (s : State) : State :=
  match operationStatus s 1 (nsid % 2 ^ 24), formatCheck s nsid { lbaf := lbaf, mset := mset, pi := pi, ses := ses } with
  | some st, _ => complete src st (s := s)
  | none, some st => complete src st (s := s)
  | none, none => hold src .format (runFormat .nvme nsid (formatDword lbaf pi ses mset) s)

/-- Sanitize: it completes once started (R518). -/
def admSanitize (src : Src) (action : Nat) (s : State) : State :=
  match operationStatus s 2 0, sanitizeCheck s action with
  | some st, _ => complete src st (s := s)
  | none, some st => complete src st (s := s)
  | none, none => complete src .success (s := runSanitize .nvme (BitVec.ofNat 32 action) s)

end Sys2Proof.Machine
end

