-- ==== Sys2Proof/Machine/Logs.lean ====
section
/-! DEFINITION. Log pages and Identify data (Tables 2.1, 2.3, 2.6, 4.11, 15.2, 16.8 to 16.13; R85, R87, R100, R488, R507,
R513, R515, R518). The places of the fields in the standard pages and structures are those of the NVMe specifications
(log 16); bytes for which the spec gives no value are 0. -/

namespace Sys2Proof.Machine

open Sys2Proof

/-- Fields at ascending offsets of a structure of n bytes; bytes between them are 0. -/
def layout (n : Nat) (fields : List (Nat × List Byte)) : List Byte :=
  takePad n (fields.foldl (fun acc f => takePad f.1 acc ++ f.2) [])

/-- A one-byte to eight-byte unsigned field. -/
def fld (off n v : Nat) : Nat × List Byte := (off, leBytes n v)

/-- ASCII padded with spaces. -/
def spaced (n : Nat) (l : List Byte) : List Byte :=
  (l ++ List.replicate (n - l.length) 0x20#8).take n

/-! ### Standard pages -/

/-- Error Information (01h) of one controller, newest first (R62). -/
def errorPage (s : State) (p : PortId) : List Byte :=
  takePad 16384 ((s.hs.errors.filter fun e => e.2.1 == p.val).flatMap fun e =>
    layout 64 [fld 0 8 e.1, fld 8 2 e.2.2.1, fld 10 2 e.2.2.2.1, fld 12 2 (2 * e.2.2.2.2), fld 14 2 0xFFFF])

/-- A lane set with a failed channel still holds content that the host has neither moved nor archived (R168). -/
def laneHolds (s : State) (lane : Nat) : Bool :=
  s.hs.zones.any fun z => z.lane == lane && z.members != [] && z.arch != .archivedResident

/-- A lane set that entered the tier runs with a failed channel, until the channel returns or its content has gone; or a member awaits
its rebuild (R168, R173). -/
def degraded (s : State) : Bool :=
  ((lanesIn s.tide.lanes).any fun l => laneHolds s l && (List.range 16).any fun c => servingOn s (16 * l + c) == []) ||
    s.hs.zones.any fun z => z.members.any fun m => m.lost

/-- Critical Warning (R173, Table 16.8). -/
def criticalWarning (s : State) : Nat :=
  let t := kelvin (compositeTemp s)
  (if spareLow s then 1 else 0) + (if s.hs.tempOver ≤ t ∨ t ≤ s.hs.tempUnder then 2 else 0) + (if degraded s then 4 else 0) +
    (if bindableLanes s = [] then 8 else 0) + (if cacheProtected s then 0 else 16)

/-- Zone blocks of a die: the lowest of its good blocks (R142). -/
def Die.zoneBlockList (d : Die) : List Nat := d.good.take d.zoneBlocks

/-- Mean erase count of a die's zone blocks; 0 where it has none. -/
def Die.meanZoneErases (d : Die) : Nat :=
  sumOf (d.zoneBlockList.map d.eraseCount) / max 1 d.zoneBlockList.length

/-- Percentage Used (R173). -/
def percentageUsed (s : State) : Nat :=
  min 255 (maxOf ((servingDies s).map fun d => if d.2.2.rated = 0 then 0 else 100 * d.2.2.meanZoneErases / d.2.2.rated))

/-- LBAs in units of 1,000 × 512 bytes, rounded up. -/
def dataUnits (lbas : Nat) : Nat :=
  (8 * lbas + 999) / 1000

/-- Core cycles in minutes. -/
def minutesOf (cycles : Nat) : Nat := cycles / 96000000000

/-- Core cycles in hours. -/
def hoursOf (cycles : Nat) : Nat := cycles / 5760000000000

/-- SMART / Health Information (02h). -/
def smartPage (s : State) : List Byte :=
  layout 512
    ([fld 0 1 (criticalWarning s), fld 1 2 (kelvin (compositeTemp s)), fld 3 1 (availableSpare s), fld 4 1 (num s 0x2440 6),
      fld 5 1 (percentageUsed s), fld 32 16 (dataUnits s.hs.readUnits), fld 48 16 (dataUnits s.hs.writeUnits),
      fld 64 16 s.hs.readCmds, fld 80 16 s.hs.writeCmds, fld 96 16 (minutesOf s.adm.busy), fld 112 16 s.hs.cycles,
      fld 128 16 (hoursOf s.adm.powerOn), fld 144 16 s.hs.unsafeStops, fld 160 16 s.hs.mediaErrors, fld 176 16 s.hs.errorCount,
      fld 192 4 (minutesOf s.adm.warnTime), fld 196 4 (minutesOf s.adm.critTime)] ++
     (s.sup.temps.zipIdx).map fun t => fld (200 + 2 * t.2) 2 (kelvin t.1))

/-- Firmware revision text of a version. -/
def revision (v : Nat) : List Byte := spaced 8 (hex4 v)

/-- The slot to be activated at the next power-on reset; 0 none. -/
def markedSlot (f : Fw) : Nat :=
  if f.slot1.marked then 1 else if f.slot2.marked then 2 else 0

/-- Firmware Slot Information (03h). -/
def firmwarePage (s : State) : List Byte :=
  let rev := fun f : FwSlot => match f.image with
    | some i => revision i.version
    | none => leBytes 8 0
  layout 512 [fld 0 1 (s.fw.booted + 16 * markedSlot s.fw), (8, rev s.fw.slot1), (16, rev s.fw.slot2)]

/-- Admin opcodes supported (Table 2.6). -/
def adminOpcodes : List Nat :=
  [0x00, 0x01, 0x02, 0x04, 0x05, 0x06, 0x08, 0x09, 0x0A, 0x0C, 0x0D, 0x10, 0x11, 0x15, 0x80, 0x84, 0xC0, 0xC1]

/-- I/O opcodes supported (Table 2.7). -/
def ioOpcodes : List Nat :=
  [0x00, 0x01, 0x02, 0x08, 0x09, 0x0D, 0x0E, 0x11, 0x15, 0x79, 0x7A, 0x7D, 0x90, 0x91, 0x92, 0x93]

/-- Commands Supported and Effects (05h): the supported bit of every opcode. -/
def effectsPage : List Byte :=
  let bits := fun l : List Nat => (List.range 256).flatMap fun o => leBytes 4 (if l.contains o then 1 else 0)
  takePad 4096 (bits adminOpcodes ++ bits ioOpcodes)

/-- Fraction completed × 65,536 of the administration record; while an operation runs it is a free value. -/
def progressNow (s : State) : Nat :=
  if s.adm.prog.status = 1 then (freeOf s).toNat % 65536 else s.adm.prog.progress

/-- Sanitize Status (81h) (R518). -/
def sanitizePage (s : State) : List Byte :=
  let crypto := 2 + (8 * maxOf ((servingDies s).map fun d => d.2.2.tMax) + 999999) / 1000000
  layout 512
    [fld 0 2 (if s.adm.sanitizeEver = 2 then progressNow s else 0xFFFF), fld 2 2 s.adm.sanitizeEver, fld 4 4 s.adm.sanCdw10.toNat,
     fld 8 4 0xFFFFFFFF, fld 12 4 30, fld 16 4 crypto, fld 20 4 0xFFFFFFFF, fld 24 4 0xFFFFFFFF, fld 28 4 0xFFFFFFFF]

/-! ### FDP pages (R67, R104) -/

/-- FDP Configurations (20h): one configuration of 8 reclaim groups, 64 handles, 16 placement handles and 256 namespaces, its reclaim unit
a superblock. -/
def fdpConfigPage (s : State) : List Byte :=
  let handles := (List.range 64).flatMap fun _ => leBytes 4 1
  let d := layout 320 [fld 0 2 320, fld 2 1 0x83, fld 4 4 8, fld 8 2 64, fld 10 2 15, fld 12 4 256, fld 16 8 (4096 * zoneSize s), (64, handles)]
  layout 336 [fld 0 2 0, fld 2 1 0, fld 4 4 336, (16, d)]

/-- A reclaim unit handle is in use by a namespace. -/
def handleUsed (s : State) (h : Nat) : Bool :=
  s.hs.ns.any fun n => n.fdp && n.handles.contains h

/-- Reclaim Unit Handle Usage (21h). -/
def fdpUsagePage (s : State) : List Byte :=
  layout 520 [fld 0 2 64, (8, (List.range 64).flatMap fun h => leBytes 8 (if handleUsed s h then 1 else 0))]

/-- FDP Statistics (22h): host bytes written; what the media took for them is a free value. -/
def fdpStatsPage (s : State) : List Byte :=
  let host := 4096 * sumOf (s.hs.ns.map fun n => n.fdpWritten)
  layout 64 [fld 0 16 host, fld 16 16 (host + (freeOf s).toNat), fld 32 16 (freeOf s).toNat]

/-- One FDP event: its placement identifier, NSID and location are valid. -/
def fdpEventBytes (e : FdpEvent) : List Byte :=
  layout 64 [fld 0 1 e.kind, fld 1 1 7, fld 2 2 e.handle, fld 4 8 e.time, fld 12 4 e.nsid, fld 32 2 e.group, fld 34 2 e.ruh]

/-- FDP Events (23h), newest first. -/
def fdpEventsPage (s : State) : List Byte :=
  layout 4160 [fld 0 4 s.hs.fdpLog.length, (64, s.hs.fdpLog.flatMap fdpEventBytes)]

/-! ### Vendor pages (Tables 16.9 to 16.13) -/

/-- Mean of an accumulated value over the powered time. -/
def meanOver (s : State) (sum : Int) : Int :=
  if s.adm.powerOn = 0 then 0 else sum / (s.adm.powerOn : Int)

/-- Device health (C0h). -/
def healthPage (s : State) : List Byte :=
  let a := s.adm
  let hist := (List.range 8).flatMap fun i =>
    leInt 2 (a.sensorMax.getD i 0) ++ leInt 2 (meanOver s (a.sensorSum.getD i 0))
  layout 512
    [fld 0 4 a.harbours, fld 4 4 a.ridden, fld 8 4 a.longestDip, fld 12 4 a.testsPassed, fld 16 4 a.testsFailed, (32, hist),
     (64, (List.range 32).flatMap fun i => leBytes 4 (hoursOf (a.histogram.getD i 0))), (192, leInt 2 (meanOver s (a.sensorSum.getD 0 0))),
     (256, (List.range 16).flatMap fun i => leBytes 4 (hoursOf (a.spindleOn.getD i 0)))]

/-- An event record (Table 16.1). -/
def recordBytes (r : EventRec) : List Byte :=
  layout 32 [fld 0 2 r.ev, fld 2 1 r.cause, fld 4 4 r.seq, fld 8 8 r.time, fld 16 2 r.repeats, (24, r.data.map (BitVec.ofNat 8 ·))]

/-- Event log (C1h): header, then the records oldest first (R507). -/
def eventPage (s : State) : List Byte :=
  layout 32832 [fld 0 4 s.evt.seq, fld 4 4 s.evt.overwritten, (64, s.evt.log.reverse.flatMap recordBytes)]

/-- Highest erase count of a die's zone blocks. -/
def Die.maxErases (d : Die) : Nat :=
  maxOf (d.zoneBlockList.map d.eraseCount)

/-- One die detail entry (Table 16.11). -/
def dieEntry (v : Vol) (d : Die) : List Byte :=
  layout 32
    [fld 0 1 v.st.code, fld 1 1 (if d.reason ≠ 0 then d.reason else v.reason), fld 2 2 d.spare, fld 4 2 d.spareInit,
     fld 6 2 d.grown.length, fld 8 2 d.factoryBad.length, fld 12 4 d.meanZoneErases, fld 16 4 d.maxErases, fld 20 4 d.unrecovered,
     fld 24 4 d.deep, fld 28 4 d.refreshes]

/-- Die detail (C2h): entry 4·p + i. -/
def diePage (s : State) : List Byte :=
  (List.range 1024).flatMap fun p =>
    match volOf s p with
    | none => leBytes 128 0
    | some v => takePad 128 (v.dies.flatMap (dieEntry v))

/-- Bin of a zone block in the erase histogram: n/64 to (n + 1)/64 of the rated cycles. -/
def eraseBin (d : Die) (k : Nat) : Nat :=
  if d.rated = 0 then 63 else min 63 (64 * d.eraseCount k / d.rated)

/-- Erase counts (C3h): per lane set, zone blocks by bin. -/
def erasePage (s : State) : List Byte :=
  (List.range 8).flatMap fun lane =>
    let bins := ((servingDies s).filter fun d => laneOf d.1 == lane).flatMap fun d => d.2.2.zoneBlockList.map (eraseBin d.2.2)
    (List.range 64).flatMap fun n => leBytes 4 (bins.filter (· == n)).length

/-- Memory errors (C4h). -/
def memoryPage (s : State) : List Byte :=
  takePad 8192 (s.mem.errors.flatMap fun e =>
    layout 32 [fld 0 1 e.bucket, fld 1 1 e.kind, fld 8 8 e.addr, fld 16 8 e.time, fld 24 4 e.count])

/-- Administration progress (C5h). -/
def progressPage (s : State) : List Byte :=
  let r := s.adm.prog
  if r.op = 0 then leBytes 64 0
  else layout 64
    [fld 0 1 r.op, fld 1 1 r.status, fld 2 2 (progressNow s), fld 4 4 r.nsid, fld 8 4 r.cdw10.toNat, fld 12 1 r.door,
     fld 13 1 r.cycles, fld 16 8 r.start, fld 24 8 r.stop, fld 32 4 r.estimate]

/-! ### Get Log Page -/

/-- A log page; none for one the device does not have, or an NSID the page does not take (R67, R513). -/
def logPage (s : State) (p : PortId) (lid nsid : Nat) : Option (List Byte) :=
  match lid with
  | 0x01 => some (errorPage s p)
  | 0x02 => if nsid = 0 ∨ nsid = 0xFFFFFFFF then some (smartPage s) else none
  | 0x03 => some (firmwarePage s)
  | 0x05 => some effectsPage
  | 0x20 => some (fdpConfigPage s)
  | 0x21 => some (fdpUsagePage s)
  | 0x22 => some (fdpStatsPage s)
  | 0x23 => some (fdpEventsPage s)
  | 0x81 => some (sanitizePage s)
  | 0xC0 => some (healthPage s)
  | 0xC1 => some (eventPage s)
  | 0xC2 => some (diePage s)
  | 0xC3 => some (erasePage s)
  | 0xC4 => some (memoryPage s)
  | 0xC5 => some (progressPage s)
  | _ => none

/-- What a read with Retain Asynchronous Event clear does: page C1h counts every record as seen (R508), pages 01h
and 02h let the next Error or SMART event be reported. -/
def logRead (p : PortId) (lid : Nat) (s : State) : State :=
  if lid = 0xC1 then modCtrl p (fun c => { c with withheld := false, pendingGroup := none }) s
  else if lid = 0x01 then reportPending p (modCtrl p (fun c => { c with errorHeld := false }) s)
  else if lid = 0x02 then reportPending p (modCtrl p (fun c => { c with smartHeld := false }) s)
  else s

/-- Get Log Page: offsets in multiples of 4 bytes (R515). -/
def admGetLog (src : Src) (lid nsid off len : Nat) (rae : Bool) (s : State) : State :=
  match logPage s src.port lid nsid with
  | none => complete src .invalidField (s := s)
  | some page =>
    if off % 4 ≠ 0 ∨ page.length < off then complete src .invalidField (s := s)
    else
      let s1 := if rae then spend s else logRead src.port lid (spend s)
      complete src .success 0 0 ((page.drop off).take len) (s := s1)

/-! ### Identify -/

/-- The NVM Subsystem NQN (R25). -/
def subnqn (s : State) : List Byte :=
  takePad 256 (ascii "nqn.2021-06.com.sweirnel:uz-1664:" ++ trimZeros (takePad 16 s.part.serial))

/-- Power state descriptors (Table 15.2): MP, non-operational, ENLAT, EXLAT. -/
def powerStates : List (Nat × Nat × Nat × Nat) :=
  [(20500, 0, 0, 0), (12000, 0, 1000, 0), (7000, 0, 600000, 0), (1200, 1, 600000, 50000), (90, 1, 2000000, 8000000)]

/-- One descriptor. -/
def psdBytes (d : Nat × Nat × Nat × Nat) : List Byte :=
  layout 32 [fld 0 2 d.1, fld 3 1 (2 * d.2.1), fld 4 4 d.2.2.1, fld 8 4 d.2.2.2]

/-- VS: NVMe Base Specification 2.x (R67). -/
def versionRegister : BitVec 64 :=
  BitVec.ofNat 64 (2 * 65536 + 256 * Config.nvmeMinor.toNat)

/-- Identify Controller (R2, R20, R25, R27, R28, R47, R48, R67, R85, R488, R513, R517). -/
def identifyController (s : State) (p : PortId) : List Byte :=
  let c := s.ctrls.get p
  layout 4096
    [fld 0 2 0x1FC6, fld 2 2 0x1FC6, (4, spaced 20 (trimZeros s.part.serial)), (24, spaced 40 s.part.code.text),
     (64, revision s.fw.version), fld 76 1 (if 1 < s.ports then 3 else 0), fld 77 1 (10 - c.mps), fld 78 2 p.val,
     fld 80 4 versionRegister.toNat, fld 84 4 4000000, fld 88 4 1000000, fld 96 4 0x80010, fld 111 1 1, fld 256 2 0x0E, fld 258 1 3, fld 259 1 7, fld 260 1 4,
     fld 261 1 6, fld 262 1 255, fld 263 1 4, fld 266 2 368, fld 268 2 378, fld 328 4 3, fld 512 1 0x66, fld 513 1 0x44,
     fld 516 4 256, fld 520 2 0x6C, fld 525 1 1, fld 536 4 0x000B0001, (768, subnqn s), (2048, powerStates.flatMap psdBytes)]

/-- LBA format descriptors (Table 2.9): metadata bytes and the power of two of 4,096. -/
def lbaFormats : List Byte :=
  leBytes 4 (16 + 12 * 65536) ++ leBytes 4 (8 + 12 * 65536)

/-- LBAs in use. -/
def Ns.used (s : State) (n : Ns) : Nat :=
  if n.fdp then n.fdpData.length else sumOf ((s.hs.zones.filter fun z => z.nsid == n.nsid).map (·.wp))

/-- Identify Namespace (R68, R85, R529). -/
def identifyNs (s : State) (n : Ns) : List Byte :=
  layout 4096
    [fld 0 8 n.size, fld 8 8 n.size, fld 16 8 (n.used s), fld 25 1 1, fld 26 1 (n.lbaf + if n.mset then 16 else 0), fld 27 1 3, fld 28 1 0x1F, fld 29 1 n.pi,
     fld 30 1 1, fld 31 1 0x7F, (128, lbaFormats), fld 3072 1 (if n.encrypted then 1 else 0)]

/-- Identify Namespace of the Zoned Namespace Command Set (R85, R87, R100). -/
def identifyZoned (s : State) (n : Ns) : List Byte :=
  let t := tenant s (tenantOfNs s n.nsid)
  let f := leBytes 8 n.zsze ++ leBytes 1 1 ++ leBytes 7 0
  layout 4096 [fld 4 4 ((t.activeLimit + 2 ^ 32 - 1) % 2 ^ 32), fld 8 4 ((t.openLimit + 2 ^ 32 - 1) % 2 ^ 32), (2816, f ++ f)]

/-- Identify Namespace of the NVM Command Set: the protection information formats of Table 2.9. -/
def identifyNvm : List Byte :=
  layout 4096 [fld 12 4 0x100, fld 16 4 0]

/-- A list of namespace identifiers above nsid. -/
def nsList (s : State) (nsid : Nat) (keep : Ns → Bool) : List Byte :=
  takePad 4096 ((s.hs.ns.filter fun n => decide (nsid < n.nsid) && keep n).flatMap fun n => leBytes 4 n.nsid)

/-- Command set of a namespace: 0 NVM, 2 Zoned Namespace. -/
def Ns.csi (n : Ns) : Nat := if n.fdp then 0 else 2

/-- A controller list. -/
def ctrlList (l : List PortId) : List Byte :=
  takePad 4096 (leBytes 2 l.length ++ l.flatMap fun p => leBytes 2 p.val)

/-- Controllers from an identifier on. -/
def ctrlsFrom (s : State) (cntid : Nat) (keep : PortId → Bool) : List PortId :=
  allPorts.filter fun p => (s.ctrls.get p).present && decide (cntid ≤ p.val) && keep p

/-- A structure of one namespace: all zeros for one that is not attached to the controller. -/
def nsStructure (s : State) (p : PortId) (nsid : Nat) (attached : Bool) (f : Ns → List Byte) : Except Status (List Byte) :=
  if nsid = 0 ∨ 256 < nsid then .error .invalidNamespace
  else match nsOf s nsid with
    | none => .ok (leBytes 4096 0)
    | some n => .ok (if attached ∧ n.attached.contains p = false then leBytes 4096 0 else f n)

/-- Identify data by CNS (Table 2.6). -/
def identifyData (s : State) (p : PortId) (cns nsid cntid csi : Nat) : Except Status (List Byte) :=
  match cns with
  | 0x00 => nsStructure s p nsid true (identifyNs s)
  | 0x01 => .ok (identifyController s p)
  | 0x02 => .ok (nsList s nsid fun n => n.attached.contains p)
  | 0x03 => nsStructure s p nsid true fun n => takePad 4096 (leBytes 1 4 ++ leBytes 1 1 ++ leBytes 2 0 ++ leBytes 1 n.csi)
  | 0x05 =>
    if csi = 0 then nsStructure s p nsid true fun _ => identifyNvm
    else if csi = 2 then nsStructure s p nsid true fun n => if n.fdp then leBytes 4096 0 else identifyZoned s n
    else .error .invalidField
  | 0x06 =>
    if csi = 0 then .ok (leBytes 4096 0)
    else if csi = 2 then .ok (layout 4096 [fld 0 1 (9 - (s.ctrls.get p).mps)])
    else .error .invalidField
  | 0x07 => .ok (nsList s nsid fun n => n.attached.contains p && n.csi == csi)
  | 0x08 => nsStructure s p nsid true fun _ => layout 4096 [fld 1 1 1, fld 2 1 0x7F, fld 14 1 1]
  | 0x10 => .ok (nsList s nsid fun _ => true)
  | 0x11 => nsStructure s p nsid false (identifyNs s)
  | 0x12 => nsStructure s p nsid false fun n => ctrlList (ctrlsFrom s cntid fun q => n.attached.contains q)
  | 0x13 => .ok (ctrlList (ctrlsFrom s cntid fun _ => true))
  | 0x1A => .ok (nsList s nsid fun n => n.csi == csi)
  | 0x1B =>
    if csi = 2 then nsStructure s p nsid false fun n => if n.fdp then leBytes 4096 0 else identifyZoned s n
    else nsStructure s p nsid false fun _ => identifyNvm
  | 0x1C => .ok (layout 4096 [fld 0 8 5])
  | _ => .error .invalidField

/-- Identify. -/
def admIdentify (src : Src) (cns nsid cntid csi : Nat) (s : State) : State :=
  match identifyData s src.port cns nsid cntid csi with
  | .error st => complete src st (s := s)
  | .ok data => complete src .success 0 0 data (s := s)

/-! ### Controller registers (R23, R24, R27) -/

/-- CAP (Table 2.3): MQES, CQR, AMS, TO, DSTRD, CSS, MPSMIN and MPSMAX. -/
def capRegister : BitVec 64 :=
  BitVec.ofNat 64 (0x3FFF + 2 ^ 16 + 2 ^ 17 + 0x78 * 2 ^ 24 + 0x41 * 2 ^ 37 + 4 * 2 ^ 52)

/-- CC as the fields the model keeps. -/
def ccRegister (c : Ctrl) : Nat :=
  (if c.en then 1 else 0) + c.mps * 2 ^ 7 + c.ams * 2 ^ 11

/-- CSTS (R39, R46, R61). -/
def cstsRegister (c : Ctrl) : Nat :=
  (if c.rdy then 1 else 0) + (if c.cfs then 2 else 0) + 4 * c.shst

/-- A dword of the MSI-X pending bit array: vectors 32k to 32k + 31 (R23). -/
def pbaDword (c : Ctrl) (k : Nat) : Nat :=
  sumOf ((c.pba.filter fun v => v / 32 == k).map fun v => 2 ^ (v % 32))

/-- What a host read of a dword of BAR0 returns: reserved offsets read zeros (R24). -/
def barRead4 (s : State) (p : PortId) (off : Nat) : Dword :=
  let c := s.ctrls.get p
  if off = 0 then capRegister.extractLsb' 0 32
  else if off = 4 then capRegister.extractLsb' 32 32
  else if off = 8 then versionRegister.extractLsb' 0 32
  else if off = 0x14 then BitVec.ofNat 32 (ccRegister c)
  else if off = 0x1C then BitVec.ofNat 32 (cstsRegister c)
  else if off = 0x24 then BitVec.ofNat 32 c.aqa
  else if off = 0x28 then c.asq.extractLsb' 0 32
  else if off = 0x2C then c.asq.extractLsb' 32 32
  else if off = 0x30 then c.acq.extractLsb' 0 32
  else if off = 0x34 then c.acq.extractLsb' 32 32
  else if 0x10000 ≤ off ∧ off < 0x18000 then
    let k := (off - 0x10000) / 4
    BitVec.ofNat 32 ((getKey k c.msix).getD (if k % 4 = 3 then 1 else 0))
  else if 0x18000 ≤ off ∧ off < 0x18100 then BitVec.ofNat 32 (pbaDword c ((off - 0x18000) / 4))
  else 0

/-- What a host read of 8 bytes of BAR0 returns. -/
def barRead (s : State) (p : PortId) (off : Nat) : BitVec 64 :=
  barRead4 s p (off + 4) ++ barRead4 s p off

end Sys2Proof.Machine
end

