-- ==== Sys2Proof/Machine/Reservation.lean ====
section
/-! DEFINITION. Reservations (Table 2.7): Register, Acquire, Report and Release with Persist Through Power Loss, as the NVMe
Base Specification lays them down (log 13). A registrant is a controller with a key. -/

namespace Sys2Proof.Machine

open Sys2Proof

/-- The key of a registrant. -/
def Reserv.key? (r : Reserv) (p : PortId) : Option (BitVec 64) :=
  (r.keys.find? fun k => k.1 == p).map (·.2)

/-- Types held by all registrants. -/
def Reserv.shared (r : Reserv) : Bool := r.rtype == 5 || r.rtype == 6

/-- The generation counts changes of the registrants. -/
def Reserv.bump (r : Reserv) : Reserv := { r with gen := (r.gen + 1) % 2 ^ 32 }

/-- Remove the registrants p selects; a reservation whose holder is gone ends, one held by all registrants moves on. -/
def Reserv.drop (r : Reserv) (gone : PortId → Bool) : Reserv :=
  let keys := r.keys.filter fun k => !gone k.1
  let held := match r.holder with
    | none => none
    | some h => if gone h then (if r.shared then (keys.head?).map (·.1) else none) else some h
  { r with keys := keys, holder := held, rtype := if held.isNone then 0 else r.rtype }

/-- Change Persist Through Power Loss: 2 clears, 3 sets, 0 keeps. -/
def Reserv.persist (r : Reserv) (cptpl : Nat) : Reserv :=
  if cptpl = 2 then { r with ptpl := false } else if cptpl = 3 then { r with ptpl := true } else r

/-- Store a namespace's reservation and complete. -/
def putReserv (src : Src) (nsid : Nat) (r : Reserv) (s : State) : State :=
  complete src .success (s := tideRecord (modNs nsid (fun n => { n with resv := r }) s))

/-- Reservation Register: 0 register, 1 unregister, 2 replace. -/
def ioResvRegister (src : Src) (nsid action cptpl : Nat) (iekey : Bool) (key new : BitVec 64) (s : State) : State :=
  match nsGate s src.port nsid with
  | .error st => complete src st (s := s)
  | .ok n =>
    let r := n.resv
    let p := src.port
    let matches' := match r.key? p with
      | some k => iekey || k == key
      | none => false
    if 2 < action ∨ cptpl = 1 ∨ 3 < cptpl then complete src .invalidField (s := s)
    else if action = 0 then
      match r.key? p with
      | some k => if k = new then complete src .success (s := s) else complete src .reservationConflict (s := s)
      | none => putReserv src nsid (({ r with keys := r.keys ++ [(p, new)] }.persist cptpl).bump) s
    else if matches' = false then complete src .reservationConflict (s := s)
    else if action = 1 then putReserv src nsid (((r.drop fun q => q == p).persist cptpl).bump) s
    else
      putReserv src nsid (({ r with keys := modWhere (fun k => k.1 == p) (fun k => (k.1, new)) r.keys }.persist cptpl).bump) s

/-- Preempt (RACQA 1 and 2): the registrants with the key given are removed; the reservation passes when the holder's key is
given, or 0 for one held by all registrants. -/
def Reserv.preempt (r : Reserv) (p : PortId) (rtype : Nat) (pkey : BitVec 64) : Option Reserv :=
  let held := match r.holder with
    | none => false
    | some h => if r.shared then pkey == 0 else r.key? h == some pkey
  let others := if r.shared ∧ pkey = 0 then r.keys.filter fun k => k.1 == p
    else r.keys.filter fun k => k.2 != pkey || k.1 == p
  if held then some { r with keys := others, holder := some p, rtype := rtype }
  else if r.keys.any fun k => k.2 == pkey then some (r.drop fun q => (r.key? q == some pkey))
  else none

/-- Reservation Acquire: 0 acquire, 1 preempt, 2 preempt and abort (nothing is aborted, R63). -/
def ioResvAcquire (src : Src) (nsid action rtype : Nat) (iekey : Bool) (key pkey : BitVec 64) (s : State) : State :=
  match nsGate s src.port nsid with
  | .error st => complete src st (s := s)
  | .ok n =>
    let r := n.resv
    let p := src.port
    if iekey ∨ 2 < action ∨ rtype = 0 ∨ 6 < rtype then complete src .invalidField (s := s)
    else if r.key? p ≠ some key then complete src .reservationConflict (s := s)
    else if action = 0 then
      match r.holder with
      | none => putReserv src nsid { r with holder := some p, rtype := rtype } s
      | some h =>
        if r.rtype = rtype ∧ (h = p ∨ r.shared) then complete src .success (s := s)
        else complete src .reservationConflict (s := s)
    else match r.preempt p rtype pkey with
      | some r1 => putReserv src nsid r1.bump s
      | none => complete src .reservationConflict (s := s)

/-- Reservation Release: 0 release, 1 clear. -/
def ioResvRelease (src : Src) (nsid action rtype : Nat) (iekey : Bool) (key : BitVec 64) (s : State) : State :=
  match nsGate s src.port nsid with
  | .error st => complete src st (s := s)
  | .ok n =>
    let r := n.resv
    let p := src.port
    if iekey ∨ 1 < action then complete src .invalidField (s := s)
    else if r.key? p ≠ some key then complete src .reservationConflict (s := s)
    else if action = 1 then putReserv src nsid { r with keys := [], holder := none, rtype := 0 }.bump s
    else if r.holder.isNone ∨ (r.shared = false ∧ r.holder ≠ some p) then complete src .success (s := s)
    else if r.rtype ≠ rtype then complete src .invalidField (s := s)
    else putReserv src nsid { r with holder := none, rtype := 0 } s

/-- Reservation Status data: generation, type, registrants. -/
def resvData (r : Reserv) : List Byte :=
  layout 24 [fld 0 4 r.gen, fld 4 1 r.rtype, fld 5 2 r.keys.length, fld 9 1 (if r.ptpl then 1 else 0)] ++
    r.keys.flatMap fun k =>
      layout 24 [fld 0 2 k.1.val, fld 2 1 (if r.holder = some k.1 ∨ (r.shared ∧ r.holder.isSome) then 1 else 0), fld 16 8 k.2.toNat]

/-- Reservation Report. -/
def ioResvReport (src : Src) (nsid : Nat) (s : State) : State :=
  match nsGate s src.port nsid with
  | .error st => complete src st (s := s)
  | .ok n => complete src .success 0 0 (resvData n.resv) (s := s)

end Sys2Proof.Machine
end

