-- ==== Sys2Proof/Machine/Dictionary.lean ====
section
/-! DEFINITION. Writes of the object dictionary: the checks every door makes in their order (R455 to R461, R468, R469), the
checks the objects make themselves, and what the write of a command subindex does. -/

namespace Sys2Proof.Machine

open Sys2Proof

/-- What the world shows while a write acts: CW_SBDI of a bay that is enabled or restarted, SUPMON_HU [µV] at a self-test's
start, the results of drive-side calibrations. What is not given is free. -/
structure Meas where
  /-- CW_SBDI. -/
  sbdi : Option Bool := none
  /-- SUPMON_HU [µV]. -/
  v0 : Option Nat := none
  /-- Calibration results. -/
  cals : List DriveCal := []
  deriving DecidableEq, Repr

/-- CW_SBDI as sampled. -/
def Meas.fit (m : Meas) (s : State) : Bool × State :=
  match m.sbdi with
  | some b => (b, s)
  | none => ((freeOf s).getLsbD 0, spend s)

/-- SUPMON_HU as sampled. -/
def Meas.volts (m : Meas) (s : State) : Nat × State :=
  match m.v0 with
  | some v => (v, s)
  | none => ((freeOf s).toNat, spend s)

/-! ### Access checks -/

/-- A bay is stopped (R456). -/
def bayStopped (y : Bay) : Bool :=
  y.spin.state == 0 && y.servo.state == 0 && !y.sled.moving && !y.loader.moving && !y.coll.moving

/-- Every loop of a bay is open (R376). -/
def loopsOpen (y : Bay) : Bool :=
  y.servo.loops.all (·.isOpen)

/-- An RWS subindex may be written (R456); the schedule only with every loop open (R376). -/
def rwsOpen (s : State) (index : Nat) : Bool :=
  match bayOf index with
  | some n => if h : n < 16 then bayStopped (bayAt s ⟨n, h⟩) else false
  | none => allBays.all fun b => !bayEnabled s b || (bayStopped (bayAt s b) && loopsOpen (bayAt s b))

/-- The Clear subindices, by bay 0's index (R468). -/
def clearSubs : List (Nat × Nat) :=
  [(0x5010, 9), (0x3050, 0x0E), (0x3070, 0x0D), (0x3080, 0x12), (0x3012, 6), (0x3020, 0x11)]

/-- A write the device takes in Harbour (R468). -/
def harbourTakes (index sub : Nat) : Bool :=
  let k := (baseIndex index, sub)
  index == 0x5000 || k == (0x2000, 6) || k == (0x3000, 3) || k == (0x3040, 3) || k == (0x3060, 2) || clearSubs.contains k

/-- The subindex is locked now, or is write-once and written (R459, R460). -/
def lockedNow (s : State) (d : ObjDesc) : Bool :=
  (d.acc == .locks && s.lockPassed) || (d.acc == .w1 && s.part.siteId.isSome)

/-- Why a subindex may not be written at all: Harbour, then its class, its lock, its bay (R455, R456, R460, R468). -/
def accessAbort (s : State) (index sub : Nat) : Option Abort :=
  match descOf s.part.code index sub with
  | none => some .noSubindex
  | some d =>
    if s.phase = .harbour ∧ harbourTakes index sub = false then some .state
    else match d.acc with
      | .ro | .const => some .readOnly
      | .locks | .w1 => if lockedNow s d then some .readOnly else none
      | .rws => if rwsOpen s index then none else some .state
      | .rw | .wo => none

/-- Count a locked write (R460) and raise event 023. -/
def countLocked (door : Door) (index sub : Nat) (s : State) : State :=
  let w := index * 256 + sub
  raise 23 0 (evBytes 4 w ++ [doorCode door]) { s with
    doors := { s.doors with lockedWrites := satAdd 4294967295 s.doors.lockedWrites 1, lastLocked := w, lastDoor := doorCode door } }

/-! ### Values -/

/-- DOMAINs of varying length, with the least length (Tables 4.3, 11.2; R117). -/
def leastLength (index sub n : Nat) : Nat :=
  if (index = 0x2400 ∧ sub = 9) ∨ index = 0x4800 then 0 else if index = 0x4C00 then 8 else n

/-- A numeric value as its type reads it. -/
def numberOf (ty : Ty) (data : List Byte) : Int :=
  if ty.signed then signedOf ty.size (ofBytes data) else (ofBytes data : Int)

/-- A value lies in a range of its row. -/
def inRow (d : ObjDesc) (v : Int) : Bool :=
  d.ranges.isEmpty || d.ranges.any fun r => decide (r.1 ≤ v) && decide (v ≤ r.2)

/-- A write that changes the queue-pool split of an enabled controller: refused before any other check of the value
(R32). -/
def splitHeld (s : State) (index sub v : Nat) : Bool :=
  index == 0x2110 && allPorts.any fun p => p.val + 1 == sub && (s.ctrls.get p).en && s.hs.alloc.getD p.val 0 != v

/-- What is wrong with a value before the object's own checks: its length, its range (R454, R469). -/
def valueAbort (s : State) (index : Nat) (w : Nat × List Byte) : Option Abort :=
  match descOf s.part.code index w.1 with
  | none => some .noSubindex
  | some d =>
    match d.ty with
    | .str n =>
      if n < (trimZeros w.2).length then some .length
      else if w.2.any (fun c => decide (128 ≤ c.toNat)) then some .range else none
    | .dom n =>
      if leastLength index w.1 n ≤ w.2.length ∧ w.2.length ≤ n then (if setsReserved index w.1 w.2 then some .range else none)
      else some .length
    | t =>
      if w.2.length ≠ t.size then some .length
      else if splitHeld s index w.1 (ofBytes w.2) then some .state
      else if inRow d (numberOf t w.2) then none else some .range

/-- The values of a complete-access write: every subindex from 01h in order; the last one may vary in length (R78). -/
def splitValues (s : State) (index : Nat) : List Nat → List Byte → Option (List (Nat × List Byte))
  | [], data => if data = [] then some [] else none
  | sub :: subs, data =>
    let n := ((descOf s.part.code index sub).map fun d => d.ty.size).getD 0
    if subs = [] then some [(sub, data)]
    else if data.length < n then none
    else match splitValues s index subs (data.drop n) with
      | some l => some ((sub, data.take n) :: l)
      | none => none

/-- Subindices whose write is kept in Doors as it stands; the others act through runWrite. -/
def keptSub (d : ObjDesc) (index sub : Nat) : Bool :=
  d.acc != .wo && d.acc != .w1 && index != 0x2110 && index != 0x4000 && !(index == 0x2400 && sub == 4)
    && !(index == 0x2050 && sub == 1) && !(baseIndex index == 0x3000 && sub == 2)

/-- Keep one written value. -/
def keepValue (index : Nat) (s : State) (w : Nat × List Byte) : State :=
  match descOf s.part.code index w.1 with
  | none => s
  | some d =>
    if keptSub d index w.1 = false then s
    else if d.ty.numeric then putNum index w.1 (ofBytes w.2) s
    else putDom index w.1 w.2 s

/-! ### The objects' own checks, on the values as they would stand -/

/-- Supply thresholds (R473): the reset levels stay clear of the warning levels, the dip time limit above the stable time. -/
def thresholdsOk (t : State) : Bool :=
  decide (num t 0x2010 2 + 400 ≤ num t 0x2010 1) && decide (num t 0x2010 4 + 20 ≤ num t 0x2010 3)
    && decide (num t 0x2010 7 < num t 0x2010 8)

/-- The fields of an enabled tenant (Table 3.8). -/
def tenantOk (t : Tenant) : Bool :=
  !t.enabled || (decide (t.readShare ≤ 1000) && decide (t.progShare ≤ 1000) && decide (1 ≤ t.openLimit)
    && decide (t.openLimit ≤ 4096) && decide (t.openLimit ≤ t.activeLimit) && decide (t.activeLimit ≤ 8192))

/-- The tenant object (R109). -/
def tenantsOk (t : State) : Bool :=
  let tbl := dom t 0x2210 1
  let es := (List.range 256).map (tenantEntry tbl)
  let on := es.filter (·.enabled)
  let maps := [dom t 0x2210 2, dom t 0x2210 3, dom t 0x2210 4, dom t 0x2210 5, dom t 0x2210 6]
  (tenantEntry tbl 0).enabled && es.all tenantOk
    && decide (sumOf (on.map (·.readShare)) ≤ 1000) && decide (sumOf (on.map (·.progShare)) ≤ 1000)
    && maps.all fun m => m.all fun b => ((es[b.toNat]?).map (·.enabled)).getD false

/-- The selected profile exists and keeps R115 (R117). -/
def profileOk (t : State) : Bool :=
  num t 0x2220 0x0A == 0 ||
    match profileOf t (num t 0x2220 0x0A) with
    | some l => budgetsInRange l && budgetsFit l
    | none => false

/-- Every table of a family is zero; the built-in family is not. -/
def familyEmpty (t : State) (f : Nat) : Bool :=
  (List.range 16).all fun n =>
    match getKey (objKey (0x4410 + f) (n + 1)) t.doors.doms with
    | some d => d.all (· == 0#8)
    | none => f != 0

/-- Written strategy tables keep R284, and no family that 4400h.01 names is empty. -/
def tablesOk (t : State) (index : Nat) (vals : List (Nat × List Byte)) : Bool :=
  (index == 0x4400 || vals.all fun w =>
      (List.range 16).all fun i => tableOk (16 * (w.1 - 1) + i) (takePad 176 (w.2.drop (176 * i))))
    && (List.range (num t 0x4400 1)).all fun f => !familyEmpty t f

/-- Park position and travel of a sled (R430). -/
def sledRangesOk (t : State) (index : Nat) : Bool :=
  decide (0 ≤ signedOf 4 (num t index 0x0D)) && decide (signedOf 4 (num t index 0x0D) ≤ (num t index 0x0E : Int))

/-- A threshold stays below the full scale of ±250 mV across its shunt (R443, R453). -/
def thresholdFits (t : State) (index sub : Nat) : Bool :=
  if sub = 6 then decide (num t index 6 * num t index 4 ≤ 250000)
  else if sub = 7 then decide (num t index 7 * num t index 5 ≤ 250000)
  else true

/-- Bays that are enabled. -/
def enabledBays (s : State) : Nat :=
  (allBays.filter (bayEnabled s)).length

/-- A kept object's own check: s as it stands, t as it would stand. -/
def ownAbort (s t : State) (index : Nat) (vals : List (Nat × List Byte)) : Option Abort :=
  let rangeUnless := fun (b : Bool) => if b then none else some Abort.range
  match baseIndex index with
  | 0x2010 => rangeUnless (thresholdsOk t)
  | 0x2210 => rangeUnless (tenantsOk t)
  | 0x2220 => rangeUnless (budgetsFit (ownBudgets t) && (!(vals.any fun w => w.1 == 0x0A) || profileOk t))
  | 0x2800 => rangeUnless (!(vals.any fun w => w.1 == 1) || decide (num t 0x2800 1 + 2 ≤ enabledBays s))
  | 0x3030 => rangeUnless (sledRangesOk t index)
  | 0x3060 => rangeUnless (vals.all fun w => thresholdFits t index w.1)
  | 0x4800 => if ((dom t 0x4800 0).length % 16) ≠ 0 then some .length else none
  | 0x4C00 => rangeUnless (scheduleOk s (dom t 0x4C00 1))
  | 0x4400 => if anyWriting s then some .state else rangeUnless (tablesOk t index vals)
  | i =>
    if 0x4410 ≤ i ∧ i ≤ 0x4417 then (if anyWriting s then some .state else rangeUnless (tablesOk t index vals)) else none

/-! ### Destructive operations from a dictionary door (R483 to R485) -/

/-- The operation of Table 14.14 that a write asks for, and its argument. -/
def destructiveOf (index sub : Nat) (data : List Byte) : Option (Nat × Nat) :=
  if index = 0x2050 ∧ sub = 1 then some (7, ofBytes data)
  else if index = 0x2050 ∧ sub = 4 then
    let code := cellByte data 0
    some (code, if code = 2 then 0 else cellField data 4 4 % 16777216)
  else if index = 0x2060 ∧ sub = 4 then some (4, 0)
  else if index = 0x2410 ∧ sub = 9 then some (5, ofBytes data)
  else if index = 0x2410 ∧ sub = 0x0A then some (6, ofBytes data)
  else none

/-- A request of 2050h.04 (R485): with the same checks and effect as the NVMe command. -/
def adminRequest (door : Door) (data : List Byte) (s : State) : Except Abort State :=
  let code := cellByte data 0
  let nsid := cellField data 4 4
  let cdw10 : Dword := BitVec.ofNat 32 (cellField data 8 4)
  if code = 0 ∨ 3 < code ∨ cellField data 1 3 ≠ 0 then .error .range
  else
    let check : Option Status := match code with
      | 1 => formatCheck s nsid (formatFields cdw10)
      | 2 => sanitizeCheck s (bitsOf cdw10.toNat 0 2)
      | _ => deleteCheck s nsid
    match check with
    | some st => .error (checkAbort st)
    | none => match code with
      | 1 => .ok (runFormat door nsid cdw10 s)
      | 2 => .ok (runSanitize door cdw10 s)
      | _ => .ok (runDelete door nsid cdw10 s)

/-- The reason with which a recall into a namespace whose key is lost fails: one of Table 2.12's, and the spec does not say which
(a free value, log 118). -/
def lostReason (s : State) : Nat := 3 + (freeOf s).toNat % 4

/-- An encrypted namespace whose keys another device wraps loses its content (R528 step 2): zones Empty, Archived-Resident
objects Released, Queued ones retired, the frames of Inscribing ones not yet staged void, recalls into it ended. -/
def loseEncrypted (s : State) (n : Ns) : State :=
  let s1 := (s.ebb.recalls.filter fun r => r.nsid == n.nsid).foldl (fun t r => failRecall (lostReason t) (spend t) r) s
  let queued := (s1.ebb.objs.filter fun o => o.nsid == n.nsid && o.arch == .queued).map (·.oid)
  let inscribing := (s1.ebb.objs.filter fun o => o.nsid == n.nsid && o.arch == .inscribing).map (·.oid)
  let s2 := queued.foldl (fun t i => retireObj i t) s1
  let s3 := inscribing.foldl (fun t i => modObj i (fun o => { o with nsid := 0 }) t) s2
  drawKey n.nsid (emptyNs s3 n.nsid)

/-- Sets that were writing wait for resynchronisation (R528 step 4). -/
def resyncSets (s : State) : State :=
  { s with ebb := { s.ebb with sets := s.ebb.sets.map fun a => { a with discs := a.discs.map SetDisc.replayed } } }

/-- Adopt the tier (R528). -/
def adoptTier (door : Door) (s : State) : Except Abort State :=
  if s.tierState ≠ 2 then .error .state
  else
    let s1 := startOperation door 4 0 0 0 s
    let lost := s1.hs.ns.filter (·.encrypted)
    let s2 := lost.foldl loseEncrypted { s1 with tide := { s1.tide with writer := s1.part.serial } }
    let s3 := raise 22 0 [doorCode door, lost.length] { s2 with tierState := 1 }
    .ok (tideRecord (endOperation 4 false (resyncSets s3)))

/-- A change of the admin door policy (operation 07h): it runs while its write is applied. -/
def changePolicy (door : Door) (v : Nat) (s : State) : State :=
  endOperation 7 false (putNum 0x2050 1 v (startOperation door 7 0 (BitVec.ofNat 32 v) 0 s))

/-! ### Command subindices of the device -/

/-- Give a controller queue pairs (R31). -/
def writeSplit (sub v : Nat) (s : State) : Except Abort State :=
  let l := modNth s.hs.alloc (sub - 1) fun _ => v
  if 4096 < sumOf l ∨ (v ≠ 0 ∧ s.ports < sub) then .error .range
  else .ok { s with hs := { s.hs with alloc := l, allocKept := some l } }

/-- A sector of coefficient sets or the region table goes into the pending copy; what equals the copy in effect is not
listed (R382). -/
def writePending (sub : Nat) (data : List Byte) (s : State) : State :=
  let k := objKey 0x4000 sub
  let l := if data = dom s 0x4000 sub then dropKey k s.doors.pending else putKey k data s.doors.pending
  { s with doors := { s.doors with pending := l } }

/-- The pending copy in place of the copy in effect. -/
def installPending (s : State) : State :=
  s.doors.pending.foldl (fun t p => putDom 0x4000 (p.1 % 256) p.2 t) { s with doors := { s.doors with pending := [] } }

/-- Every set that the pending copy holds passes, and every region entry names a set of its loop type (R382). -/
def pendingOk (s t : State) : Bool :=
  s.doors.pending.all (fun p =>
      p.1 % 256 == 0x11 || (List.range 16).all fun i =>
        setOk (16 * (p.1 % 256 - 1) + i) ((p.2.drop (128 * i)).take 128))
    && (List.range 432).all fun r => (List.range 7).all fun i => cellByte (librarySet t (regionSet t r i)) 1 == i

/-- Commit the pending copy (R382): copy-and-swap for every loop whose entry or set changed (R383). -/
def commitCoefficients (s : State) : Except Abort State :=
  let t := installPending s
  if anyWriting s then .error .state
  else if s.doors.pending ≠ [] ∧ pendingOk s t = false then .error .range
  else .ok (allBays.foldl (fun t b => if (bayAt t b).started then evalRegion b t else t) t)

/-- A set-and-way operation that names a scratchpad way (R184). -/
def namesScratch (s : State) (v : Nat) : Bool := decide (128 ≤ v) && decide (cacheWays s ≤ num s 0x2610 6)

/-- An operation of 2610h.08 (R181, R184). It reads busy until a core cycle has passed, then done; the spec gives no time for it
(DESIGN CHOICE, log 145). -/
def cacheOperation (v : Nat) (s : State) : Except Abort State :=
  let byWay := decide (128 ≤ v)
  if s.mem.opStatus = 1 then .error .state
  else if namesScratch s v then .error .range
  else
    let p := opLines s byWay
    let s1 := match v % 128 with
      | 1 => cleanLines p s
      | 2 => invalidateLines p s
      | _ => flushLines p s
    .ok { s1 with mem := { s1.mem with opStatus := 1 } }

/-- A new bucket depth: a level above it is set to it (R191). -/
def clampBucket (m : Nat) (s : State) : State :=
  modBucket m (fun b => { b with level := min b.level (num s 0x2600 m) }) s

/-- Start a self-test on request (R552). -/
def requestSelfTest (m : Meas) (s : State) : Except Abort State :=
  if s.sup.testing ∨ s.sup.dip ∨ s.sup.holdupOk = false then .error .state
  else .ok (startSelfTest (m.volts s).1 (m.volts s).2)

/-- The defaults return at the next power-on (R458). -/
def requestRestore (s : State) : Except Abort State :=
  if anyWriting s then .error .state else .ok { s with tide := { s.tide with restore := true } }

/-- A new cell mode starts a tier format (R135, R143). -/
def writeCellMode (v : Nat) (s : State) : Except Abort State :=
  if s.hs.ns ≠ [] ∨ s.flash.formatting then .error .state else .ok (reformTier v s)

/-- Adopt a volume: operation 05h runs until the volume leaves state 5 (R170, R484). -/
def requestAdopt (door : Door) (port : Nat) (s : State) : Except Abort State :=
  match adoptVolume port s with
  | .error a => .error a
  | .ok t => .ok (startOperation door 5 0 (BitVec.ofNat 32 port) 0 t)

/-- Retire a volume: operation 06h runs until the volume reaches state 6 (R172, R484). -/
def requestRetire (door : Door) (port : Nat) (s : State) : Except Abort State :=
  match retireVolume port s with
  | .error a => .error a
  | .ok t =>
    let t1 := startOperation door 6 0 (BitVec.ofNat 32 port) 0 t
    .ok (if ((volOf t1 port).map Vol.st) = some .retired then endOperation 6 false t1 else t1)

/-- What the write of a device-wide subindex does beyond being kept. -/
def runDevice (door : Door) (m : Meas) (index sub v : Nat) (data : List Byte) (s : State) : Except Abort State :=
  match index, sub with
  | 0x1011, _ => requestRestore s
  | 0x2000, 6 => .ok (passLock s)
  | 0x2040, 9 => requestSelfTest m s
  | 0x2050, 1 => .ok (changePolicy door v s)
  | 0x2050, 3 => arm door v s
  | 0x2050, 4 => adminRequest door data s
  | 0x2060, 4 => adoptTier door s
  | 0x2060, 5 => .ok { s with part := { s.part with siteId := some (takePad 32 data) } }
  | 0x2110, _ => writeSplit sub v s
  | 0x2400, 4 => writeCellMode v s
  | 0x2410, 9 => requestAdopt door v s
  | 0x2410, 0x0A => requestRetire door v s
  | 0x2600, _ => .ok (if sub ≤ 8 then clampBucket sub s else modBucket (sub - 8) (fun b => { b with leakFrom := s.clock }) s)
  | 0x2610, 1 => .ok (applyCarveOut s)
  | 0x2610, 8 => cacheOperation v s
  | 0x2800, 3 => .ok { s with ebb := { s.ebb with startNow := true } }
  | 0x2820, 5 => requestRecon v s
  | 0x4000, 0x13 => commitCoefficients s
  | 0x4000, _ => .ok (writePending sub data s)
  | 0x5010, 9 => .ok (clearBucket v s)
  | _, _ => .ok s

/-! ### Command subindices of a bay -/

/-- A bay whose motors a command may not drive: it is disabled, or in bay-Harbour with its outputs off (R449, R475). -/
def motorsOff (s : State) (b : BayId) : Bool :=
  !bayEnabled s b || (bayAt s b).harbour

/-- A command of 3020h.03 (R404, R409, R411, R414, R416, R417). -/
def spindleCommand (b : BayId) (v : Nat) (s : State) : Except Abort State :=
  if spindleBusy s b then .error .state
  else match v with
    | 3 => .ok (spinBrake b s)
    | 4 => .ok (spinCoast b s)
    | _ =>
      let rpm := if v = 1 then 7200 else if v = 2 then 9600 else bnum s b 0x20 0x12
      if rpm < 1000 ∨ 9600 < rpm then .error .range
      else if startRefused s b ∨ motorsOff s b then .error .state
      else .ok (startSpindle b rpm s)

/-- A command of 3030h.0F; stop and de-energise are taken in every state. -/
def requestSled (b : BayId) (v : Nat) (s : State) : Except Abort State :=
  if v ≤ 2 ∧ motorsOff s b then .error .state else .ok (sledCommand b v s)

/-- The servo state lets a target or collimator command in (R430). -/
def servoIdle (s : State) (b : BayId) : Bool :=
  decide ((bayAt s b).servo.state ≤ 1)

/-- A write of 3030h.10 (R418, R430). -/
def requestTarget (b : BayId) (goal : Int) (s : State) : Except Abort State :=
  if servoIdle s b = false ∨ motorsOff s b then .error .state
  else if goal < 0 ∨ (bnum s b 0x30 0x0E : Int) < goal then .error .range
  else .ok (sledTarget b goal s)

/-- A command of 3040h.03 (R428). -/
def requestLoader (b : BayId) (v : Nat) (s : State) : Except Abort State :=
  if loaderRefused (bayAt s b) ≠ 0 ∨ bayEnabled s b = false then .error .state else .ok (loaderCommand b v s)

/-- A command of 3040h.17 (R425, R426, R430). -/
def requestColl (b : BayId) (v : Nat) (s : State) : Except Abort State :=
  if servoIdle s b = false ∨ (v = 1 ∧ motorsOff s b) then .error .state else .ok (collCommand b v s)

/-- A command of 3000h.03 (R450, R451, R468, R475). -/
def bayCommand (m : Meas) (b : BayId) (v : Nat) (s : State) : Except Abort State :=
  if v = 1 then
    if s.phase = .harbour ∨ restartRefused s b then .error .state else .ok (restartBay b (m.fit s).1 m.cals (m.fit s).2)
  else .ok (enterBayHarbour b 0x13 8 false s)

/-- A write of 3000h.02 (R451, R475, R569): a bay that is not fitted stays disabled, one in bay-Harbour waits for its restart. -/
def writeEnable (m : Meas) (index : Nat) (b : BayId) (v : Nat) (s : State) : Except Abort State :=
  let was := num s index 2
  if v = 0 ∧ holdsDisc s b ∨ v = 1 ∧ (bayAt s b).fitted = false then .error .state
  else if v = was then .ok s
  else if v = 0 then .ok (disableBay b (putNum index 2 0 s))
  else if (bayAt s b).harbour then .ok (putNum index 2 1 s)
  else .ok (startBay b (m.fit s).1 ((bayAt s b).loaderState == 3) (putNum index 2 1 (m.fit s).2))

/-- What the write of a bay's subindex does beyond being kept; off is the offset in the bay's block. -/
def runBay (m : Meas) (index : Nat) (b : BayId) (off sub v : Nat) (data : List Byte) (s : State) : Except Abort State :=
  match off, sub with
  | 0x00, 2 => writeEnable m index b v s
  | 0x00, 3 => bayCommand m b v s
  | 0x12, 6 => .ok (clearServo b s)
  | 0x20, 3 => spindleCommand b v s
  | 0x20, 0x11 => .ok (clearSpindle b s)
  | 0x30, 0x0F => requestSled b v s
  | 0x30, 0x10 => requestTarget b (signedOf 4 (ofBytes data)) s
  | 0x40, 3 => requestLoader b v s
  | 0x40, 0x17 => requestColl b v s
  | 0x50, 0x0E => .ok (clearChannel b s)
  | 0x60, 2 => if clearRefused s b then .error .state else .ok (clearFaults b v s)
  | 0x60, 0x0E => .ok (driveCals b v m.cals s)
  | 0x70, 0x0D => .ok (clearCauseway b s)
  | 0x80, 0x12 => .ok (clearTimebase b s)
  | _, _ => .ok s

/-- What a written value does beyond being kept. -/
def runWrite (door : Door) (m : Meas) (index : Nat) (w : Nat × List Byte) (s : State) : Except Abort State :=
  match bayOf index with
  | none => runDevice door m index w.1 (ofBytes w.2) w.2 s
  | some n => if h : n < 16 then runBay m index ⟨n, h⟩ (baseIndex index - 0x3000) w.1 (ofBytes w.2) w.2 s else .ok s

/-- Every written value, in subindex order; nothing changes when one is refused (R78, R461). -/
def runWrites (door : Door) (m : Meas) (index : Nat) : List (Nat × List Byte) → State → Except Abort State
  | [], s => .ok s
  | w :: ws, s =>
    match runWrite door m index w s with
    | .ok t => runWrites door m index ws t
    | .error a => .error a

/-! ### A write (R78, R455 to R462) -/

/-- The admin door policy or another operation refuses a write (R484). -/
def policyRefuses (door : Door) (s : State) (index : Nat) (vals : List (Nat × List Byte)) : Bool :=
  vals.any fun w =>
    match destructiveOf index w.1 w.2 with
    | some (code, arg) => operationRefused s door code arg
    | none => false

/-- The DOMAIN values of an accepted write go into the scratchpad in whole words (R187). -/
def stageValues (index : Nat) (vals : List (Nat × List Byte)) (s : State) : State :=
  vals.foldl (fun t w =>
    match (descOf s.part.code index w.1).map ObjDesc.ty with
    | some (.dom _) => stageDomain w.2 t
    | _ => t) s

/-- A refused cache operation shows in 2610h.07 (R184): 3 where it named a scratchpad way, while none is running. -/
def refusedOperation (index : Nat) (vals : List (Nat × List Byte)) (s : State) : State :=
  if index = 0x2610 ∧ s.mem.opStatus ≠ 1 ∧ vals.any (fun w => w.1 == 8 && namesScratch s (ofBytes w.2)) then
    { s with mem := { s.mem with opStatus := 3 } }
  else s

/-- Apply the values of a write whose access and values have passed. -/
def applyValues (door : Door) (m : Meas) (index : Nat) (vals : List (Nat × List Byte)) (s : State) : Except Abort State :=
  if policyRefuses door s index vals then .error .state
  else
    let t := vals.foldl (keepValue index) s
    match ownAbort s t index vals with
    | some a => .error a
    | none =>
      match runWrites door m index vals (tideRecord t) with
      | .ok r => .ok (stageValues index vals r)
      | .error a => .error a

/-- The first subindex, in order, that refuses. -/
def firstRefused (f : Nat → Option Abort) : List Nat → Option (Nat × Abort)
  | [] => none
  | n :: ns =>
    match f n with
    | some a => some (n, a)
    | none => firstRefused f ns

/-- A refused subindex was locked: count it. -/
def afterRefusal (door : Door) (index sub : Nat) (a : Abort) (s : State) : State :=
  match descOf s.part.code index sub with
  | some d => if a = .readOnly ∧ lockedNow s d then countLocked door index sub s else s
  | none => s

/-- A write of the dictionary: the state after it, and the abort that refuses it. -/
def writeDict (door : Door) (m : Meas) (index sub : Nat) (ca : Bool) (data : List Byte) (s : State) : State × Option Abort :=
  if objectExists s index = false then (s, some .noObject)
  else if ca = true ∧ plainObject s index then (s, some .noSubindices)
  else if ca = false ∧ subExists s index sub = false then (s, some .noSubindex)
  else
    let subs := if ca then subsOf s index else [sub]
    match firstRefused (accessAbort s index) subs with
    | some (k, a) => (afterRefusal door index k a s, some a)
    | none =>
      match (if ca then splitValues s index subs data else some [(sub, data)]) with
      | none => (s, some .length)
      | some vals =>
        match vals.findSome? (valueAbort s index) with
        | some a => (s, some a)
        | none =>
          match applyValues door m index vals s with
          | .ok t => (t, none)
          | .error a => (refusedOperation index vals s, some a)

end Sys2Proof.Machine
end

