-- ==== Sys2Proof/Machine/Access.lean ====
section
/-! DEFINITION. The three doors of the object dictionary (R462 to R467): the CoE mailbox, Dictionary Read and Dictionary
Write, the bench port; and the commands that are one write of the dictionary. -/

namespace Sys2Proof.Machine

open Sys2Proof

/-- No door serves an access now: the device is held or starting, or a power state holds the access until its exit (R491,
R492, R499; log 50). -/
def doorWaits (s : State) (write : Bool) : Bool :=
  (s.phase != .running && s.phase != .harbour) || s.pwr.ps == 4 || (s.pwr.ps == 3 && write)

/-- The mailbox in Init answers the communication objects only (R463). -/
def initRefuses (s : State) (door : Door) (index : Nat) : Bool :=
  door == .ethercat && s.doors.ecat == .init && objectExists s index && !(decide (0x1000 ≤ index) && decide (index ≤ 0x1FFF))

/-- An abort code, 0 for success. -/
def abortCode : Option Abort → Nat
  | none => 0
  | some a => a.code

/-- The frame of a bench port answer (Table 14.3). -/
def benchAnswer (abort len : Nat) (data : List Byte) : List Byte :=
  let body := leBytes 4 abort ++ leBytes 2 len ++ data
  [0x5A#8] ++ body ++ leBytes 2 (crc16 body)

/-- Put an answer at the bench port (R465). -/
def putBench (abort len : Nat) (data : List Byte) (s : State) : State :=
  { s with doors := { s.doors with benchBusy := false, benchReady := true, bench := benchAnswer abort len data } }

/-- Answer an access on the door it came by; the NVMe door answers with a completion (R79). -/
def answerDoor (door : Door) (index sub : Nat) (abort : Option Abort) (data : List Byte) (s : State) : State :=
  match door with
  | .ethercat => { s with doors := { s.doors with sdo := { index := index, sub := sub, abort := abortCode abort, data := data } } }
  | .nvme => s
  | .bench => putBench (abortCode abort) data.length data s

/-- A write by a door, and its answer. -/
def doorWrite (door : Door) (m : Meas) (index sub : Nat) (ca : Bool) (data : List Byte) (s : State) : State :=
  if doorWaits s true then s
  else if initRefuses s door index then answerDoor door index sub (some .state) [] s
  else
    let r := writeDict door m index sub ca data s
    answerDoor door index sub r.2 [] r.1

/-- The bytes of a numeric value for a subindex; a value its type cannot hold is one byte too long. -/
def valueBytes (s : State) (index sub v : Nat) : List Byte :=
  let n := ((descOf s.part.code index sub).map fun d => d.ty.size).getD 1
  leBytes (if v < 2 ^ (8 * n) then n else n + 1) v

/-- A write of a numeric value. -/
def writeNum (door : Door) (m : Meas) (index sub v : Nat) (s : State) : State :=
  doorWrite door m index sub false (valueBytes s index sub v) s

/-- A write of a numeric value to a bay's subindex. -/
def writeBay (door : Door) (m : Meas) (b : BayId) (off sub v : Nat) (s : State) : State :=
  writeNum door m (bayIndex b off) sub v s

/-! ### Commands that are one write -/

/-- QUEUE_POOL_SPLIT_WRITE (R31, R32). -/
def execQueuePoolSplitWrite (door : Door) (sub value : Nat) (s : State) : Host.Outcome State Fault Refusal :=
  .next (writeNum door {} 0x2110 sub value s)

/-- TENANT_TABLE_WRITE (R108, R109). -/
def execTenantTableWrite (door : Door) (sub : Nat) (data : List Byte) (s : State) : Host.Outcome State Fault Refusal :=
  .next (doorWrite door {} 0x2210 sub false data s)

/-- BUDGET_WRITE (R115). -/
def execBudgetWrite (door : Door) (sub value : Nat) (s : State) : Host.Outcome State Fault Refusal :=
  .next (writeNum door {} 0x2220 sub value s)

/-- PROFILE_SELECT (R117). -/
def execProfileSelect (door : Door) (value : Nat) (s : State) : Host.Outcome State Fault Refusal :=
  .next (writeNum door {} 0x2220 0x0A value s)

/-- CELL_MODE_WRITE (R135, R143). -/
def execCellModeWrite (door : Door) (value : Nat) (s : State) : Host.Outcome State Fault Refusal :=
  .next (writeNum door {} 0x2400 4 value s)

/-- VOLUME_ADOPT (R170). -/
def execVolumeAdopt (door : Door) (port : Nat) (s : State) : Host.Outcome State Fault Refusal :=
  .next (writeNum door {} 0x2410 9 port s)

/-- VOLUME_RETIRE (R172). -/
def execVolumeRetire (door : Door) (port : Nat) (s : State) : Host.Outcome State Fault Refusal :=
  .next (writeNum door {} 0x2410 0x0A port s)

/-- BUCKET_CLEAR (R192). -/
def execBucketClear (door : Door) (value : Nat) (s : State) : Host.Outcome State Fault Refusal :=
  .next (writeNum door {} 0x5010 9 value s)

/-- BUCKET_SETTINGS_WRITE (R191). -/
def execBucketSettingsWrite (door : Door) (sub value : Nat) (s : State) : Host.Outcome State Fault Refusal :=
  .next (writeNum door {} 0x2600 sub value s)

/-- SCRATCHPAD_CARVE_OUT (R182). -/
def execScratchpadCarveOut (door : Door) (value : Nat) (s : State) : Host.Outcome State Fault Refusal :=
  .next (writeNum door {} 0x2610 1 value s)

/-- CACHE_CLEAN (R184). -/
def execCacheClean (door : Door) (byWay : Bool) (s : State) : Host.Outcome State Fault Refusal :=
  .next (writeNum door {} 0x2610 8 (if byWay then 0x81 else 1) s)

/-- CACHE_INVALIDATE (R181, R184). -/
def execCacheInvalidate (door : Door) (byWay : Bool) (s : State) : Host.Outcome State Fault Refusal :=
  .next (writeNum door {} 0x2610 8 (if byWay then 0x82 else 2) s)

/-- CACHE_CLEAN_AND_INVALIDATE (R184). -/
def execCacheCleanAndInvalidate (door : Door) (byWay : Bool) (s : State) : Host.Outcome State Fault Refusal :=
  .next (writeNum door {} 0x2610 8 (if byWay then 0x83 else 3) s)

/-- START_SET_NOW (R209). -/
def execStartSetNow (door : Door) (value : Nat) (s : State) : Host.Outcome State Fault Refusal :=
  .next (writeNum door {} 0x2800 3 value s)

/-- RECONSTRUCT_REQUEST (R230, R236). -/
def execReconstructRequest (door : Door) (value : Nat) (s : State) : Host.Outcome State Fault Refusal :=
  .next (writeNum door {} 0x2820 5 value s)

/-- STRATEGY_TABLE_WRITE (R284). -/
def execStrategyTableWrite (door : Door) (index sub : Nat) (data : List Byte) (s : State) : Host.Outcome State Fault Refusal :=
  .next (doorWrite door {} index sub false data s)

/-- CHANNEL_STATISTICS_CLEAR (R309). -/
def execChannelStatisticsClear (door : Door) (b : BayId) (value : Nat) (s : State) : Host.Outcome State Fault Refusal :=
  .next (writeBay door {} b 0x50 0x0E value s)

/-- CAUSEWAY_CLEAR (R340). -/
def execCausewayClear (door : Door) (b : BayId) (value : Nat) (s : State) : Host.Outcome State Fault Refusal :=
  .next (writeBay door {} b 0x70 0x0D value s)

/-- TIMEBASE_CLEAR (R363). -/
def execTimebaseClear (door : Door) (b : BayId) (value : Nat) (s : State) : Host.Outcome State Fault Refusal :=
  .next (writeBay door {} b 0x80 0x12 value s)

/-- COEFFICIENT_COMMIT (R382). -/
def execCoefficientCommit (door : Door) (value : Nat) (s : State) : Host.Outcome State Fault Refusal :=
  .next (writeNum door {} 0x4000 0x13 value s)

/-- SCHEDULE_WRITE (R377). -/
def execScheduleWrite (door : Door) (data : List Byte) (s : State) : Host.Outcome State Fault Refusal :=
  .next (doorWrite door {} 0x4C00 1 false data s)

/-- SERVO_COUNTS_CLEAR (R400). -/
def execServoCountsClear (door : Door) (b : BayId) (value : Nat) (s : State) : Host.Outcome State Fault Refusal :=
  .next (writeBay door {} b 0x12 6 value s)

/-- SPINDLE_START_7200 (R404, R409, R416, R417). -/
def execSpindleStart7200 (door : Door) (b : BayId) (s : State) : Host.Outcome State Fault Refusal :=
  .next (writeBay door {} b 0x20 3 1 s)

/-- SPINDLE_START_9600 (R404, R409, R416, R417). -/
def execSpindleStart9600 (door : Door) (b : BayId) (s : State) : Host.Outcome State Fault Refusal :=
  .next (writeBay door {} b 0x20 3 2 s)

/-- SPINDLE_BRAKE (R406, R414, R417). -/
def execSpindleBrake (door : Door) (b : BayId) (s : State) : Host.Outcome State Fault Refusal :=
  .next (writeBay door {} b 0x20 3 3 s)

/-- SPINDLE_COAST (R414, R417). -/
def execSpindleCoast (door : Door) (b : BayId) (s : State) : Host.Outcome State Fault Refusal :=
  .next (writeBay door {} b 0x20 3 4 s)

/-- SPINDLE_START_AT_SPEED (R408, R411). -/
def execSpindleStartAtSpeed (door : Door) (b : BayId) (s : State) : Host.Outcome State Fault Refusal :=
  .next (writeBay door {} b 0x20 3 5 s)

/-- SPINDLE_COUNTS_CLEAR (Table 12.3). -/
def execSpindleCountsClear (door : Door) (b : BayId) (value : Nat) (s : State) : Host.Outcome State Fault Refusal :=
  .next (writeBay door {} b 0x20 0x11 value s)

/-- SLED_HOME (R426). -/
def execSledHome (door : Door) (b : BayId) (s : State) : Host.Outcome State Fault Refusal :=
  .next (writeBay door {} b 0x30 0x0F 1 s)

/-- SLED_PARK (R427). -/
def execSledPark (door : Door) (b : BayId) (s : State) : Host.Outcome State Fault Refusal :=
  .next (writeBay door {} b 0x30 0x0F 2 s)

/-- SLED_STOP (R425). -/
def execSledStop (door : Door) (b : BayId) (s : State) : Host.Outcome State Fault Refusal :=
  .next (writeBay door {} b 0x30 0x0F 3 s)

/-- SLED_DE_ENERGISE (Table 12.6). -/
def execSledDeEnergise (door : Door) (b : BayId) (s : State) : Host.Outcome State Fault Refusal :=
  .next (writeBay door {} b 0x30 0x0F 4 s)

/-- SLED_TARGET_POSITION (R418, R430). -/
def execSledTargetPosition (door : Door) (b : BayId) (value : Int) (s : State) : Host.Outcome State Fault Refusal :=
  .next (doorWrite door {} (bayIndex b 0x30) 0x10 false
    (leInt (if -2147483648 ≤ value ∧ value < 2147483648 then 4 else 5) value) s)

/-- LOADER_OPEN (R428). -/
def execLoaderOpen (door : Door) (b : BayId) (s : State) : Host.Outcome State Fault Refusal :=
  .next (writeBay door {} b 0x40 3 1 s)

/-- LOADER_CLAMP (R428). -/
def execLoaderClamp (door : Door) (b : BayId) (s : State) : Host.Outcome State Fault Refusal :=
  .next (writeBay door {} b 0x40 3 2 s)

/-- LOADER_STOP (R425). -/
def execLoaderStop (door : Door) (b : BayId) (s : State) : Host.Outcome State Fault Refusal :=
  .next (writeBay door {} b 0x40 3 3 s)

/-- COLLIMATOR_HOME (R426). -/
def execCollimatorHome (door : Door) (b : BayId) (s : State) : Host.Outcome State Fault Refusal :=
  .next (writeBay door {} b 0x40 0x17 1 s)

/-- COLLIMATOR_STOP (R425). -/
def execCollimatorStop (door : Door) (b : BayId) (s : State) : Host.Outcome State Fault Refusal :=
  .next (writeBay door {} b 0x40 0x17 3 s)

/-- FAULT_CLEAR (R449). -/
def execFaultClear (door : Door) (b : BayId) (value : Nat) (s : State) : Host.Outcome State Fault Refusal :=
  .next (writeBay door {} b 0x60 2 value s)

/-- BAY_RESTART (R451). -/
def execBayRestart (door : Door) (b : BayId) (sbdi : Bool) (results : List DriveCal) (s : State) :
    Host.Outcome State Fault Refusal :=
  .next (writeBay door { sbdi := some sbdi, cals := results } b 0 3 1 s)

/-- ENTER_BAY_HARBOUR (R450, R475). -/
def execEnterBayHarbour (door : Door) (b : BayId) (s : State) : Host.Outcome State Fault Refusal :=
  .next (writeBay door {} b 0 3 2 s)

/-- CALIBRATION_REQUEST (R452). -/
def execCalibrationRequest (door : Door) (b : BayId) (value : Nat) (results : List DriveCal) (s : State) :
    Host.Outcome State Fault Refusal :=
  .next (writeBay door { cals := results } b 0x60 0x0E value s)

/-- BAY_ENABLE_WRITE (R475). -/
def execBayEnableWrite (door : Door) (b : BayId) (value : Nat) (sbdi : Bool) (s : State) : Host.Outcome State Fault Refusal :=
  .next (writeBay door { sbdi := some sbdi } b 0 2 value s)

/-- START_SELF_TEST (R550, R552). -/
def execStartSelfTest (door : Door) (value v0 : Nat) (s : State) : Host.Outcome State Fault Refusal :=
  .next (writeNum door { v0 := some v0 } 0x2040 9 value s)

/-- RESTORE_DEFAULTS (R458). -/
def execRestoreDefaults (door : Door) (value : Nat) (s : State) : Host.Outcome State Fault Refusal :=
  .next (writeNum door {} 0x1011 1 value s)

/-- LOCK_NOW (R459). -/
def execLockNow (door : Door) (value : Nat) (s : State) : Host.Outcome State Fault Refusal :=
  .next (writeNum door {} 0x2000 6 value s)

/-- LOCK_POINT (R459): 60 s after the release of power-on reset. -/
def execLockPoint (s : State) : Host.Outcome State Fault Refusal :=
  .next (passLock s)

/-- ADMIN_ARM (R483). -/
def execAdminArm (door : Door) (value : Nat) (s : State) : Host.Outcome State Fault Refusal :=
  .next (writeNum door {} 0x2050 3 value s)

/-- The 16 bytes of 2050h.04. -/
def requestBytes (code nsid : Nat) (cdw10 cdw11 : Dword) : List Byte :=
  leBytes 4 code ++ leBytes 4 nsid ++ bvBytes 4 cdw10 ++ bvBytes 4 cdw11

/-- ADMIN_REQUEST_FORMAT (R485). -/
def execAdminRequestFormat (door : Door) (nsid : Nat) (cdw10 cdw11 : Dword) (s : State) : Host.Outcome State Fault Refusal :=
  .next (doorWrite door {} 0x2050 4 false (requestBytes 1 nsid cdw10 cdw11) s)

/-- ADMIN_REQUEST_SANITIZE (R485). -/
def execAdminRequestSanitize (door : Door) (nsid : Nat) (cdw10 cdw11 : Dword) (s : State) : Host.Outcome State Fault Refusal :=
  .next (doorWrite door {} 0x2050 4 false (requestBytes 2 nsid cdw10 cdw11) s)

/-- ADMIN_REQUEST_NAMESPACE_DELETE (R485). -/
def execAdminRequestNamespaceDelete (door : Door) (nsid : Nat) (cdw10 cdw11 : Dword) (s : State) :
    Host.Outcome State Fault Refusal :=
  .next (doorWrite door {} 0x2050 4 false (requestBytes 3 nsid cdw10 cdw11) s)

/-- ADMIN_POLICY_CHANGE (R483). -/
def execAdminPolicyChange (door : Door) (value : Nat) (s : State) : Host.Outcome State Fault Refusal :=
  .next (writeNum door {} 0x2050 1 value s)

/-- ADOPT_TIER (R528). -/
def execAdoptTier (door : Door) (value : Nat) (s : State) : Host.Outcome State Fault Refusal :=
  .next (writeNum door {} 0x2060 4 value s)

/-- REGISTER_WRITE (R23, R24, R29, R455): a write with no row of its own. -/
def execRegisterWrite (w : RegWrite) (s : State) : Host.Outcome State Fault Refusal :=
  match w with
  | .bar p off v => .next (hostWrite p off v s)
  | .bar4 p off v => .next (hostWrite4 p off v s)
  | .cfg p off v => .next (cfgWrite p off v s)
  | .dict door index sub ca data => .next (doorWrite door {} index sub ca data s)

/-! ### Dictionary Read and Dictionary Write (R77 to R79) -/

/-- Dictionary Read. -/
def admDictRead (src : Src) (nsid index sub : Nat) (ca : Bool) (len : Nat) (rsv : Dword) (s : State) : State :=
  if nsid ≠ 0 ∨ rsv ≠ 0 ∨ len = 0 ∨ 4096 < len then complete src .invalidField (s := s)
  else match readDict s index sub ca with
    | .error a => complete src .invalidField (dw0 := BitVec.ofNat 32 a.code) (s := s)
    | .ok v =>
      if len < v.length then complete src .invalidField (dw0 := BitVec.ofNat 32 v.length) (s := s)
      else complete src .success (dw0 := BitVec.ofNat 32 v.length) (data := v) (s := s)

/-- Dictionary Write. -/
def admDictWrite (src : Src) (nsid index sub : Nat) (ca : Bool) (data : List Byte) (rsv : Dword) (s : State) : State :=
  if nsid ≠ 0 ∨ rsv ≠ 0 ∨ data = [] ∨ 4096 < data.length then complete src .invalidField (s := s)
  else
    let r := writeDict .nvme {} index sub ca data s
    match r.2 with
    | some a => complete src .invalidField (dw0 := BitVec.ofNat 32 a.code) (s := r.1)
    | none => complete src .success (s := r.1)

/-! ### The CoE mailbox (R463) -/

/-- Leave an SDO answer in the mailbox. -/
def putSdo (index sub : Nat) (abort : Option Abort) (data : List Byte) (s : State) : State :=
  answerDoor .ethercat index sub abort data s

/-- SDO_UPLOAD. -/
def execSdoUpload (index sub : Nat) (ca : Bool) (s : State) : Host.Outcome State Fault Refusal :=
  if doorWaits s false then .next s
  else if initRefuses s .ethercat index then .next (putSdo index sub (some .state) [] s)
  else match readDict s index sub ca with
    | .ok v => .next (putSdo index sub none v s)
    | .error a => .next (putSdo index sub (some a) [] s)

/-- Bytes of the segmented download so far, when this segment goes on with it. -/
def segmentBytes (s : State) (index sub : Nat) : List Byte :=
  match s.doors.segment with
  | some (i, k, b) => if i = index ∧ k = sub then b else []
  | none => []

/-- SDO_DOWNLOAD: an expedited or normal download, or a segment; the value is applied with the last segment. -/
def execSdoDownload (index sub : Nat) (ca segmented last : Bool) (data : List Byte) (s : State) :
    Host.Outcome State Fault Refusal :=
  if doorWaits s true then .next s
  else if segmented = false then
    .next (doorWrite .ethercat {} index sub ca data { s with doors := { s.doors with segment := none } })
  else
    let all := segmentBytes s index sub ++ data
    if last then .next (doorWrite .ethercat {} index sub ca all { s with doors := { s.doors with segment := none } })
    else .next { s with doors := { s.doors with segment := some (index, sub, all) } }

/-- SEGMENTED_TRANSFER_TIMEOUT: nothing is applied. -/
def execSegmentedTransferTimeout (s : State) : Host.Outcome State Fault Refusal :=
  match s.doors.segment with
  | none => .next s
  | some (i, k, _) => .next (putSdo i k (some .timedOut) [] { s with doors := { s.doors with segment := none } })

/-- Indices of the objects the mailbox lists. -/
def objectList (s : State) : List Nat :=
  (List.range 0x7010).filter fun i => objectExists s i && !initRefuses s .ethercat i

/-- Object code: 7 a variable, 9 a record (log 17). -/
def objectCode (s : State) (index : Nat) : Nat :=
  if plainObject s index then 7 else 9

/-- The highest subindex. -/
def maxSub (s : State) (index : Nat) : Nat :=
  maxOf (subsOf s index)

/-- Access bits of an entry description: read in bits 2:0, write in bits 5:3, each for PreOp, SafeOp and Op (log 17). -/
def accessBits (d : ObjDesc) : Nat :=
  match d.acc with
  | .ro | .const => 0x07
  | .wo => 0x38
  | _ => 0x3F

/-- What an SDO Information request is answered with (log 17). -/
def informationOf (s : State) (kind index sub : Nat) : Except Abort (List Byte) :=
  if kind = 1 then .ok ((objectList s).flatMap (leBytes 2))
  else if objectExists s index = false then .error .noObject
  else if initRefuses s .ethercat index then .error .state
  else if kind = 3 then
    let ty := ((descOf s.part.code index 0).map fun d => d.ty.code).getD 0
    .ok (leBytes 2 index ++ leBytes 2 ty ++ leBytes 1 (maxSub s index) ++ leBytes 1 (objectCode s index))
  else if kind = 5 then
    if subExists s index sub = false then .error .noSubindex
    else match descOf s.part.code index sub with
      | none => .error .noSubindex
      | some d =>
        .ok (leBytes 2 index ++ leBytes 1 sub ++ leBytes 1 0 ++ leBytes 2 d.ty.code ++ leBytes 2 (8 * d.ty.size)
          ++ leBytes 2 (accessBits d))
  else .error .specifier

/-- SDO_INFORMATION. -/
def execSdoInformation (kind index sub : Nat) (s : State) : Host.Outcome State Fault Refusal :=
  if doorWaits s false then .next s
  else match informationOf s kind index sub with
    | .ok v => .next (putSdo index sub none v s)
    | .error a => .next (putSdo index sub (some a) [] s)

/-! ### The bench port (R465 to R467) -/

/-- The CRC-16 of a request frame checks. -/
def frameOk (f : List Byte) : Bool :=
  decide (9 ≤ f.length) && crc16 (f.take (f.length - 2)) == cellField f (f.length - 2) 2

/-- The data bytes of a request frame. -/
def frameData (f : List Byte) : List Byte :=
  (f.take (f.length - 2)).drop 7

/-- Refuse a bench request. -/
def benchAbort (a : Abort) (s : State) : State :=
  putBench a.code 0 [] s

/-- Bench operation 01h: read. A value longer than the buffer is answered with its length and no data. -/
def benchRead (f : List Byte) (s : State) : State :=
  let len := cellField f 5 2
  if frameData f ≠ [] ∨ len = 0 ∨ 4096 < len then benchAbort .specifier s
  else if 2 ≤ cellByte f 4 then benchAbort .range s
  else match readDict s (cellField f 1 2) (cellByte f 3) (bitOf (cellByte f 4) 0) with
    | .error a => benchAbort a s
    | .ok v => if len < v.length then putBench Abort.length.code v.length [] s else putBench 0 v.length v s

/-- Bench operation 02h: write. -/
def benchWrite (f : List Byte) (s : State) : State :=
  let len := cellField f 5 2
  if (frameData f).length ≠ len ∨ len = 0 ∨ 4096 < len then benchAbort .specifier s
  else if 2 ≤ cellByte f 4 then benchAbort .range s
  else
    let r := writeDict .bench {} (cellField f 1 2) (cellByte f 3) (bitOf (cellByte f 4) 0) (frameData f) s
    putBench (abortCode r.2) 0 [] r.1

/-- A device command's frame holds its index, subindex 00h, length 0 and no data (R466). -/
def deviceFrame (f : List Byte) (index : Nat) : Bool :=
  cellField f 1 2 == index && cellByte f 3 == 0 && cellField f 5 2 == 0 && frameData f == []

/-- Bench operation 03h: Harbour with cause 09h. -/
def benchHarbour (f : List Byte) (s : State) : State :=
  if deviceFrame f 0x4842 then putBench 0 0 [] (harbourCommit 9 s) else benchAbort .range s

/-- Bench operation 04h: the answer, Harbour with cause 0Ah, the flush, the reset. In a Harbour that another cause began the
reset follows its flush, or comes at once (R545, R554). -/
def benchReset (f : List Byte) (s : State) : State :=
  if deviceFrame f 0x5253 = false then benchAbort .range s
  else
    let s1 := putBench 0 0 [] s
    if s.phase = .harbour then
      if s.sup.flushing then { s1 with sup := { s1.sup with benchReset := true } } else fullReset s1
    else harbourCommit 10 s1

/-- Byte address of a boot recovery request. -/
def norAddr (f : List Byte) : Nat :=
  cellField f 1 4

/-- Bench operation 10h: read NOR (Table 14.16). -/
def benchNorRead (f : List Byte) (s : State) : State :=
  let len := cellField f 5 2
  if len = 0 ∨ 4096 < len ∨ 0x4000000 < norAddr f + len ∨ frameData f ≠ [] then benchAbort .range s
  else putBench 0 len (norRead s.fw.nor (norAddr f) len) s

/-- Bench operation 11h: erase one 64 KiB sector of a slot. -/
def benchNorErase (f : List Byte) (s : State) : State :=
  let a := norAddr f
  match slotAt a with
  | none => benchAbort .range s
  | some n =>
    if a % 0x10000 ≠ 0 ∨ cellField f 5 2 ≠ 0 ∨ frameData f ≠ [] then benchAbort .range s
    else putBench 0 0 [] (putNor (norErase a (a + 0x10000) s.fw.nor) n s)

/-- Bench operation 12h: program within one 256-byte page of a slot. -/
def benchNorProgram (f : List Byte) (s : State) : State :=
  let a := norAddr f
  let len := cellField f 5 2
  match slotAt a with
  | none => benchAbort .range s
  | some n =>
    if len = 0 ∨ 256 < len ∨ (frameData f).length ≠ len ∨ 256 < a % 256 + len then benchAbort .range s
    else
      let m := norProgram s.free a (frameData f) s.fw.nor
      putBench 0 0 [] { (putNor m n s) with free := s.free + len }

/-- Bench operation 13h: reboot. The answer, then the boot sequence of R521; b is the boot it finds. -/
def benchReboot (f : List Byte) (b : Option Boot) (s : State) : State :=
  if norAddr f ≠ 0 ∨ cellField f 5 2 ≠ 0 ∨ frameData f ≠ [] then benchAbort .range s
  else match b with
    | some b => startUp b [] (putBench 0 0 [] s)
    | none => putBench 0 0 [] s

/-- A request frame in boot recovery (R467). -/
def benchRecovery (f : List Byte) (b : Option Boot) (s : State) : State :=
  match cellByte f 0 with
  | 1 | 2 | 3 | 4 => benchAbort .state s
  | 0x10 => benchNorRead f s
  | 0x11 => benchNorErase f s
  | 0x12 => benchNorProgram f s
  | 0x13 => benchReboot f b s
  | _ => benchAbort .specifier s

/-- A request frame where the device serves its dictionary (R465 to R467). -/
def benchServe (f : List Byte) (s : State) : State :=
  match cellByte f 0 with
  | 1 => benchRead f s
  | 2 => benchWrite f s
  | 3 => benchHarbour f s
  | 4 => benchReset f s
  | 0x10 | 0x11 | 0x12 | 0x13 => benchAbort .state s
  | _ => benchAbort .specifier s

/-- A request frame of the bench port: its CRC first. While a power state holds the access the answer phase reads A5h. -/
def benchFrame (f : List Byte) (b : Option Boot) (s : State) : State :=
  if s.phase = .bootRecovery then (if frameOk f then benchRecovery f b s else benchAbort .specifier s)
  else if s.phase ≠ .running ∧ s.phase ≠ .harbour then s
  else if doorWaits s (cellByte f 0 != 1) then { s with doors := { s.doors with benchBusy := true } }
  else if frameOk f then benchServe f s
  else benchAbort .specifier s

/-- BENCH_READ. -/
def execBenchRead (frame : List Byte) (s : State) : Host.Outcome State Fault Refusal :=
  .next (benchFrame frame none s)

/-- BENCH_WRITE. -/
def execBenchWrite (frame : List Byte) (s : State) : Host.Outcome State Fault Refusal :=
  .next (benchFrame frame none s)

/-- BENCH_HARBOUR. -/
def execBenchHarbour (frame : List Byte) (s : State) : Host.Outcome State Fault Refusal :=
  .next (benchFrame frame none s)

/-- BENCH_RESET. -/
def execBenchReset (frame : List Byte) (s : State) : Host.Outcome State Fault Refusal :=
  .next (benchFrame frame none s)

/-- BENCH_NOR_READ. -/
def execBenchNorRead (frame : List Byte) (s : State) : Host.Outcome State Fault Refusal :=
  .next (benchFrame frame none s)

/-- BENCH_NOR_ERASE. -/
def execBenchNorErase (frame : List Byte) (s : State) : Host.Outcome State Fault Refusal :=
  .next (benchFrame frame none s)

/-- BENCH_NOR_PROGRAM. -/
def execBenchNorProgram (frame : List Byte) (s : State) : Host.Outcome State Fault Refusal :=
  .next (benchFrame frame none s)

/-- BENCH_REBOOT. -/
def execBenchReboot (frame : List Byte) (b : Boot) (s : State) : Host.Outcome State Fault Refusal :=
  .next (benchFrame frame (some b) s)

/-- BENCH_ANSWER: the answer phase clocks out A5h, or the completed answer. -/
def execBenchAnswer (s : State) : Host.Outcome State Fault Refusal :=
  if s.doors.benchBusy then .next { s with doors := { s.doors with benchOut := [0xA5#8] } }
  else if s.doors.benchReady then .next { s with doors := { s.doors with benchOut := s.doors.bench, benchReady := false } }
  else .next s

end Sys2Proof.Machine
end

