-- ==== Sys2Proof/Machine/Wake.lean ====
section
/-! DEFINITION. Wakes from PS3 and PS4 (R491, R492, R499, R501, R542). -/

namespace Sys2Proof.Machine

open Sys2Proof

/-- Leave PS3 or PS4 (R499): a Shoal wake's event is raised, the exit is made, and what PS4 captured is applied in arrival
order (R492). -/
def leaveSleep (b : Boot) (s : State) : State :=
  let s1 := match s.pwr.shoal with
    | some (cause, data) => raise 12 cause data { s with pwr := { s.pwr with shoal := none } }
    | none => s
  applyCaptured (exitState b s1)

/-- POWER_WAKE (R491, R492). -/
def execPowerWake (b : Boot) (s : State) : Host.Outcome State Fault Refusal :=
  if s.pwr.ps < 3 ∨ s.phase ≠ .running then .next s else .next (leaveSleep b s)

/-- SHOAL_WATCH_CYCLE (R501): a comparison that fails wakes the device; the exit waits while a dip runs (R542). -/
def execShoalWatchCycle (mv12 mvField : Nat) (temps : List Int) (discs : List (Bool × Bool)) (links : List Bool) (b : Boot)
    (s : State) : Host.Outcome State Fault Refusal :=
  if s.pwr.ps ≠ 4 ∨ s.phase ≠ .running then .next s
  else
    let s1 := shoalSample mv12 mvField temps discs links s
    match shoalCause mv12 mvField temps discs links s with
    | none => .next s1
    | some w =>
      let s2 := { s1 with pwr := { s1.pwr with shoal := some w } }
      if s.sup.dip then .next s2 else .next (leaveSleep b s2)

end Sys2Proof.Machine
end

