-- ==== Sys2Proof/Machine/Nvme.lean ====
section
/-! DEFINITION. Dispatch of NVMe commands (R36, R37, R67, R103, R122, R491, R502): which command runs next, what each command
does when it runs, and the commands that complete when what they wait for has happened. -/

namespace Sys2Proof.Machine

open Sys2Proof

/-! ### Map regions that a command needs (R121 to R123) -/

/-- Map regions of a span of HBM. -/
def spanRegions (lo hi : Nat) : List Nat :=
  (List.range (regionOfAddr hi + 1)).drop (regionOfAddr lo)

/-- Map regions of LBAs of a namespace: the FDP map's entries, or the zone's entry. -/
def lbaRegions (s : State) (nsid slba n : Nat) : List Nat :=
  match nsOf s nsid with
  | none => []
  | some m =>
    if m.fdp then spanRegions (fdpMapAddr s nsid slba) (fdpMapAddr s nsid (slba + (n - 1)))
    else [regionOfAddr (zoneMapAddr s nsid (slba / max 1 m.zsze))]

/-- Map regions of a namespace's zones that are not Empty. -/
def zoneRegions (s : State) (nsid : Nat) : List Nat :=
  (s.hs.zones.filter fun z => z.nsid == nsid).map fun z => regionOfAddr (zoneMapAddr s nsid z.idx)

/-- Map regions that a command needs: those whose entries it reads or changes. -/
def regionsNeeded (s : State) (c : NvmeCmd) : List Nat :=
  match c with
  | .write nsid slba blks _ _ _ => lbaRegions s nsid slba blks.length
  | .zoneAppend nsid zslba blks _ _ => lbaRegions s nsid zslba blks.length
  | .writeZeroes nsid slba n _ _ => lbaRegions s nsid slba n
  | .read nsid slba n _ _ => lbaRegions s nsid slba n
  | .dsm nsid _ ranges => ranges.flatMap fun r => lbaRegions s nsid r.1 r.2
  | .zoneSend nsid slba _ all => if all then zoneRegions s nsid else lbaRegions s nsid slba 1
  | .recall nsid zslba _ _ => lbaRegions s nsid zslba 1
  | _ => []

/-! ### What a command does -/

/-- Commands of the admin queue. -/
def isAdmin : NvmeCmd → Bool
  | .createSq .. | .createCq .. | .deleteSq .. | .deleteCq .. | .getLogPage .. | .identify .. | .abort .. | .setPower ..
  | .setVwc .. | .setNumQueues .. | .setArbitration .. | .setTemp .. | .setCoalescing .. | .setVector .. | .setAsync ..
  | .setTimestamp .. | .setFdp .. | .setOther .. | .getFeatures .. | .asyncEvent | .nsCreate .. | .nsDelete ..
  | .nsAttach .. | .nsDetach .. | .fwDownload .. | .fwCommit .. | .format .. | .sanitize .. | .dictRead .. | .dictWrite .. => true
  | .other admin _ => admin
  | _ => false

/-- Admin commands that the NVMe Base Specification does not allow while a Sanitize runs (R518). -/
def sanitizeBars : NvmeCmd → Bool
  | .nsCreate .. | .nsDelete .. | .nsAttach .. | .nsDetach .. | .fwDownload .. | .fwCommit .. | .format .. | .sanitize .. => true
  | _ => false

/-- Admin commands that change the flash tier, whose domains are off in Harbour (R502). -/
def harbourBars : NvmeCmd → Bool
  | .nsCreate .. | .nsDelete .. | .nsAttach .. | .nsDetach .. | .fwDownload .. | .fwCommit .. | .format .. | .sanitize .. => true
  | _ => false

/-- Run an admin command. -/
def runAdmin (src : Src) (c : NvmeCmd) (s : State) : State :=
  match c with
  | .createSq qid size cqid prio => admCreateSq src qid size cqid prio s
  | .createCq qid size iv => admCreateCq src qid size iv s
  | .deleteSq qid => admDeleteSq src qid s
  | .deleteCq qid => admDeleteCq src qid s
  | .getLogPage lid nsid off len rae => admGetLog src lid nsid off len rae s
  | .identify cns nsid cntid csi => admIdentify src cns nsid cntid csi s
  | .abort _ _ => admAbort src s
  | .setPower ps => admSetPower src ps s
  | .setVwc on save => admSetVwc src on save s
  | .setNumQueues _ _ => admSetQueues src s
  | .setArbitration dw => admSetArbitration src dw s
  | .setTemp dw => admSetTemp src dw s
  | .setCoalescing dw => admSetCoalescing src dw s
  | .setVector dw => admSetVector src dw s
  | .setAsync dw => admSetAsync src dw s
  | .setTimestamp ms => admSetTimestamp src ms s
  | .setFdp nsid fid dw on types => admSetFdp src nsid fid dw on types s
  | .setOther _ => complete src .invalidField (s := s)
  | .getFeatures fid nsid dw11 => admGetFeatures src fid nsid dw11 s
  | .asyncEvent => admAsync src s
  | .nsCreate spec => admNsCreate src spec s
  | .nsDelete nsid => admNsDelete src nsid s
  | .nsAttach nsid ctrls => admNsAttach src nsid ctrls true s
  | .nsDetach nsid ctrls => admNsAttach src nsid ctrls false s
  | .fwDownload off bytes => admDownload src off bytes s
  | .fwCommit action slot image => admCommit src action slot image s
  | .format nsid lbaf pi ses mset => admFormat src nsid lbaf pi ses mset s
  | .sanitize action => admSanitize src action s
  | .dictRead nsid index sub ca len rsv => admDictRead src nsid index sub ca len rsv s
  | .dictWrite nsid index sub ca data rsv => admDictWrite src nsid index sub ca data rsv s
  | _ => complete src .invalidOpcode (s := s)

/-- Run an I/O command. -/
def runIo (src : Src) (c : NvmeCmd) (e : Env) (s : State) : State :=
  match c with
  | .flush nsid => ioFlush src nsid s
  | .write nsid slba blks fua pi handle => ioWrite src nsid slba blks fua pi handle s
  | .read nsid slba n fua pi => ioRead src e nsid slba n fua pi s
  | .writeZeroes nsid slba n fua pi => ioWriteZeroes src nsid slba n fua pi s
  | .dsm nsid deallocate ranges => ioDsm src nsid deallocate ranges s
  | .resvRegister nsid action cptpl iekey key new => ioResvRegister src nsid action cptpl iekey key new s
  | .resvAcquire nsid action rtype iekey key pkey => ioResvAcquire src nsid action rtype iekey key pkey s
  | .resvReport nsid => ioResvReport src nsid s
  | .resvRelease nsid action rtype iekey key => ioResvRelease src nsid action rtype iekey key s
  | .zoneSend nsid slba act all => ioZoneSend src nsid slba act all s
  | .zoneReceive nsid slba extended state len => ioZoneReceive src nsid slba extended state len s
  | .zoneAppend nsid zslba blks fua pi => ioZoneAppend src nsid zslba blks fua pi s
  | .archive nsid zslba all tag rsv => ioArchive src nsid zslba all tag rsv s
  | .archiveCancel nsid zslba all rsv => ioCancel src nsid zslba all rsv s
  | .recall nsid zslba obj rsv => ioRecall src nsid zslba obj rsv s
  | .archiveQuery nsid key byZone level numd rsv => ioQuery src nsid key byZone level numd rsv s
  | _ => complete src .invalidOpcode (s := s)

/-- Data that a command other than a Write, a Zone Append or a Read moves: those walk their pointers after their own checks. -/
def dataOf (s : State) (src : Src) (c : NvmeCmd) : Xfer :=
  match c with
  | .getLogPage _ _ _ len _ => { read := true, data := len }
  | .identify .. => { read := true, data := 4096 }
  | .getFeatures fid nsid dw => { read := true, data := ((featureValue s src.port fid nsid dw).map fun v => v.2.length).getD 0 }
  | .setTimestamp _ => { data := 8 }
  | .setFdp _ _ _ _ types => { data := types.length }
  | .nsCreate _ | .nsAttach .. | .nsDetach .. => { data := 4096 }
  | .fwDownload _ bytes => { data := bytes.length }
  | .dictRead _ _ _ _ len _ => { read := true, data := len }
  | .dictWrite _ _ _ _ data _ => { data := data.length }
  | .dsm _ _ ranges => { data := 16 * ranges.length }
  | .resvRegister .. | .resvAcquire .. => { data := 16 }
  | .resvRelease .. => { data := 8 }
  | .resvReport nsid => { read := true, data := ((nsOf s nsid).map fun n => (resvData n.resv).length).getD 0 }
  | .zoneReceive _ _ _ _ len => { read := true, data := len }
  | .archiveQuery _ _ _ _ numd _ => { read := true, data := 4 * (numd + 1) }
  | _ => {}

/-- The pointer fault of such a command. The PRP of a queue that is created names its memory, which starts on a page. -/
def dataFault (s : State) (src : Src) (c : NvmeCmd) : Option PtrFault :=
  match c with
  | .createSq .. | .createCq .. => if src.dptr.prp1 % pageOf (s.ctrls.get src.port) = 0 then none else some .prpOffset
  | _ => ptrFault s src (dataOf s src c)

/-- A step of a command that may answer at once: it answers a failure. -/
def answersFailure (run : State → State) (s : State) : Bool :=
  (run { s with hs := { s.hs with waitR := [] } }).hs.errorCount != s.hs.errorCount

/-- Run a command that a fault on its way ends with a status, unless its own checks already end it (R51, R53; log 134). -/
def unlessFault (src : Src) (fault : Option Status) (run : State → State) (s : State) : State :=
  match fault with
  | none => run s
  | some st => if answersFailure run s then run s else complete src st (s := s)

/-- Run an admin command: it takes PRPs only (R47). -/
def admCommand (src : Src) (c : NvmeCmd) (s : State) : State :=
  if src.dptr.psdt ≠ 0 then complete src .invalidField (s := s)
  else unlessFault src ((dataFault s src c).map PtrFault.status) (runAdmin src c) (countRequests src (dataOf s src c) s)

/-- What ends an I/O command on its way: its pointers, or an error in a zone-map or FDP-map line that is lost (R51, R53, R178). -/
def ioFault (s : State) (src : Src) (c : NvmeCmd) (e : Env) : Option Status :=
  if mapFault s e.mem then some .unrecoveredRead else (dataFault s src c).map PtrFault.status

/-- Memory errors that a command meets on its way (R179, R188). -/
def metErrors (e : Env) (s : State) : State :=
  memErrors e.mem (match e.tag with
    | some t => tagError t s
    | none => s)

/-- The map regions a command needs that are not yet rebuilt. -/
def regionsMissing (s : State) (c : NvmeCmd) : List Nat :=
  (regionsNeeded s c).eraseDups.filter (regionMissing s)

/-- Run an I/O command. The regions it needs that are not yet rebuilt are promoted, all at once; the command keeps its place in
dispatch order, so that its effect is that of its dispatch, and answers when they are rebuilt (R122, R123). -/
def ioCommand (src : Src) (c : NvmeCmd) (e : Env) (s : State) : State :=
  let fault := ioFault s src c e
  let s1 := metErrors e s
  let miss := if fault.isNone then regionsMissing s1 c else []
  let s2 := miss.foldl (fun t r => promoteRegion r t) (countRequests src (dataOf s src c) s1)
  let s3 := unlessFault src fault (runIo src c e) { s2 with hs := { s2.hs with waitR := miss } }
  loseStaging e.mem { s3 with hs := { s3.hs with waitR := [] } }

/-- Run a dispatched command. -/
def runNvme (src : Src) (c : NvmeCmd) (e : Env) (s : State) : State :=
  if isAdmin c ≠ (src.sq == 0) then complete src .invalidOpcode (s := s)
  else if isAdmin c then
    if s.phase = .harbour ∧ harbourBars c then complete src .commandSequence (s := s)
    else if s.adm.running.contains 2 ∧ sanitizeBars c then complete src .sanitizeInProgress (s := s)
    else admCommand src c s
  else ioCommand src c e s

/-! ### Commands that waited -/

/-- What a held command waits for has happened. -/
def waitOver (s : State) (i : Inflight) : Bool :=
  (i.regions.all fun r => !regionMissing s r) && match i.wait with
  | .programmed t _ _ | .flush t | .answered t _ => t.all (targetMet s)
  | .deleteSq qid => sqIdle s i.port qid
  | .format | .sanitize | .power => false

/-- End one wait: the command completes with its answer. -/
def endWait (i : Inflight) (s : State) : State :=
  let src : Src := { port := i.port, sq := i.sq, cid := i.cid }
  match i.wait with
  | .programmed _ dw0 dw1 => completeWrite src dw0 dw1 s
  | .flush _ => complete src .success (s := s)
  | .answered _ wr => if wr then finishWrite src i.answer s else finish src i.answer s
  | .deleteSq qid => complete src .success (s := dropSq i.port qid s)
  | .format | .sanitize | .power => s

/-- Remove one entry of the commands in flight. -/
def dropInflight (i : Inflight) (s : State) : State :=
  { s with hs := { s.hs with inflight := s.hs.inflight.erase i } }

/-- Complete, in dispatch order, the commands whose wait is over, then the shutdowns (R38, R55, R57 to R59, R61, R123). -/
def settle (s : State) : State :=
  let s1 := s.hs.inflight.foldl (fun t i => if waitOver t i then endWait i (dropInflight i t) else t) s
  allPorts.foldl (fun t p => settleShutdown p t) s1

/-! ### Arbitration (R36) -/

/-- Admin commands that PS3 serves without leaving it (R491). -/
def servedInPs3 : NvmeCmd → Bool
  | .identify .. | .getLogPage .. | .getFeatures .. | .setVwc .. | .setNumQueues .. | .setArbitration .. | .setTemp ..
  | .setCoalescing .. | .setVector .. | .setAsync .. | .setTimestamp .. | .setFdp .. | .setOther .. | .asyncEvent | .abort ..
  | .createSq .. | .createCq .. | .deleteSq .. | .deleteCq .. | .dictRead .. => true
  | .setPower ps => decide (3 ≤ ps)
  | _ => false

/-- The device serves commands now: it runs, or serves admin commands in Harbour; no handshake has stopped the command engine;
and the power state serves the command (R491, R494, R499, R502). -/
def mayServe (s : State) (c : NvmeCmd) : Bool :=
  (s.phase == .running || (s.phase == .harbour && isAdmin c && !s.sup.flushing))
    && (match s.pwr.shaking with
      | some (_, block, _) => decide (block < 5)
      | none => true)
    && (s.phase == .harbour || decide (s.pwr.ps < 3) || (s.pwr.ps == 3 && servedInPs3 c))

/-- The device dispatches the command now: it serves it, and the write cache has the room it needs (R103). -/
def mayDispatch (s : State) (c : NvmeCmd) : Bool := mayServe s c && !cacheBlocked s c

/-- The command at the head of a submission queue may leave arbitration. -/
def headReady (s : State) (q : Sq) : Bool :=
  match q.fetched.head? with
  | some e => mayDispatch s e.cmd
  | none => false

/-- Queues of a controller whose heads may leave arbitration. -/
def readyQueues (s : State) (p : PortId) : List Sq :=
  if (s.ctrls.get p).rdy then (s.ctrls.get p).sqs.filter (headReady s) else []

/-- Arbitration class: 4 the admin queue above all (weighted round robin), 0 urgent or the only class, 1 to 3 weighted. -/
def arbClass (c : Ctrl) (q : Sq) : Nat :=
  if c.ams ≠ 1 then 0 else if q.qid = 0 then 4 else q.prio % 4

/-- Round robin: the lowest identifier above the last one served, else the lowest. -/
def nextRound (last : Nat) (ids : List Nat) : Nat :=
  let above := ids.filter fun i => decide (last < i)
  if above = [] then minOf 0 ids else minOf 0 above

/-- Weights of the high, medium and low class: the fields of the feature are 0-based. -/
def arbWeights (c : Ctrl) : List Nat :=
  let dw := c.feat.arbitration.toNat
  [bitsOf dw 24 31 + 1, bitsOf dw 16 23 + 1, bitsOf dw 8 15 + 1]

/-- Commands of one arbitration burst; 7 is no limit. -/
def arbBurst (c : Ctrl) : Nat :=
  let b := bitsOf c.feat.arbitration.toNat 0 2
  if b = 7 then 4294967295 else 2 ^ b

/-- The classes' credits for the next command: refilled when no class with a ready queue has any. -/
def arbCredits (c : Ctrl) (ready : List Sq) : List Nat :=
  if (List.range 3).any fun k => decide (0 < c.credits.getD k 0) && ready.any (fun q => arbClass c q == k + 1) then c.credits
  else arbWeights c

/-- The class served next. -/
def nextClass (c : Ctrl) (ready : List Sq) : Nat :=
  let there := fun k => ready.any fun q => arbClass c q == k
  if there 4 then 4
  else if there 0 then 0
  else (([1, 2, 3].find? fun k => there k && decide (0 < (arbCredits c ready).getD (k - 1) 0))).getD 0

/-- The queue a controller's scheme serves next. -/
def nextQueue (c : Ctrl) (ready : List Sq) : Nat :=
  let k := nextClass c ready
  nextRound (c.lastSq.getD k 0) ((ready.filter fun q => arbClass c q == k).map (·.qid))

/-- Account for a command taken from a queue. -/
def Ctrl.served (c : Ctrl) (ready : List Sq) (qid k : Nat) : Ctrl :=
  { c with
    lastSq := modNth c.lastSq k fun _ => qid
    credits := if k = 0 ∨ k = 4 then c.credits else modNth (arbCredits c ready) (k - 1) fun n => n - 1 }

/-- The controllers in turn, from the one after n. -/
def turnFrom (n : Nat) : List PortId :=
  (allPorts.filter fun p => decide (n < p.val)) ++ allPorts.filter fun p => decide (p.val ≤ n)

/-- The controller and queue of the burst that runs, when it may go on. -/
def burstGoes (s : State) : Option (PortId × Nat) :=
  match allPorts.find? fun p => p.val == s.hs.rr with
  | none => none
  | some p =>
    if 0 < s.hs.burstLeft ∧ (readyQueues s p).any (fun q => q.qid == s.hs.burstSq) then some (p, s.hs.burstSq) else none

/-- The controller and queue whose command is dispatched next, and the commands left of its burst after it. -/
def chooseNext (s : State) : Option (PortId × Nat × Nat) :=
  match burstGoes s with
  | some (p, qid) => some (p, qid, s.hs.burstLeft - 1)
  | none =>
    match (turnFrom s.hs.rr).find? fun p => !(readyQueues s p).isEmpty with
    | none => none
    | some p => some (p, nextQueue (s.ctrls.get p) (readyQueues s p), arbBurst (s.ctrls.get p) - 1)

/-- COMMAND_DISPATCH (R36, R37): the next fetched command leaves arbitration and runs. -/
def execCommandDispatch (e : Env) (s : State) : Host.Outcome State Fault Refusal :=
  match chooseNext s with
  | none => .next s
  | some (p, qid, left) =>
    let c := s.ctrls.get p
    match (c.sq? qid).bind fun q => q.fetched.head?.map fun h => (q, h) with
    | none => .next s
    | some (q, h) =>
      let s1 := modCtrl p (fun c => c.served (readyQueues s p) qid (arbClass c q)) s
      let s2 := modSq p qid (fun q => { q with fetched := q.fetched.tail }) s1
      let s3 := { s2 with hs := { s2.hs with rr := p.val, burstSq := qid, burstLeft := left } }
      .next (markWaiting (settle (runNvme { port := p, sq := qid, cid := h.cid, dptr := h.dptr } h.cmd e s3)))

/-! ### Commands dispatched at once -/

/-- Run a command of a queue of a ready controller; nothing where the device does not serve it. One that needs room in the write
cache and finds none waits, fetched and undispatched (R103). -/
def runNow (src : Src) (c : NvmeCmd) (e : Env) (s : State) : State :=
  let k := s.ctrls.get src.port
  if k.rdy ∧ (k.sq? src.sq).isSome ∧ mayServe s c then
    if cacheBlocked s c then
      modSq src.port src.sq
        (fun q => { q with fetched := q.fetched ++ [{ cid := src.cid, cmd := c, dptr := src.dptr, waited := true }] }) s
    else markWaiting (settle (runNvme src c e s))
  else s

/-- CREATE_IO_SQ. -/
def execCreateIoSq (src : Src) (qid size cqid prio : Nat) (s : State) : Host.Outcome State Fault Refusal :=
  .next (runNow src (.createSq qid size cqid prio) {} s)

/-- CREATE_IO_CQ. -/
def execCreateIoCq (src : Src) (qid size iv : Nat) (s : State) : Host.Outcome State Fault Refusal :=
  .next (runNow src (.createCq qid size iv) {} s)

/-- DELETE_IO_SQ. -/
def execDeleteIoSq (src : Src) (qid : Nat) (s : State) : Host.Outcome State Fault Refusal :=
  .next (runNow src (.deleteSq qid) {} s)

/-- DELETE_IO_CQ. -/
def execDeleteIoCq (src : Src) (qid : Nat) (s : State) : Host.Outcome State Fault Refusal :=
  .next (runNow src (.deleteCq qid) {} s)

/-- GET_LOG_PAGE. -/
def execGetLogPage (src : Src) (lid nsid off len : Nat) (rae : Bool) (s : State) : Host.Outcome State Fault Refusal :=
  .next (runNow src (.getLogPage lid nsid off len rae) {} s)

/-- IDENTIFY. -/
def execIdentify (src : Src) (cns nsid cntid csi : Nat) (s : State) : Host.Outcome State Fault Refusal :=
  .next (runNow src (.identify cns nsid cntid csi) {} s)

/-- ABORT. -/
def execAbort (src : Src) (sq cid : Nat) (s : State) : Host.Outcome State Fault Refusal :=
  .next (runNow src (.abort sq cid) {} s)

/-- SET_FEATURES_POWER_MANAGEMENT. -/
def execSetFeaturesPowerManagement (src : Src) (ps : Nat) (s : State) : Host.Outcome State Fault Refusal :=
  .next (runNow src (.setPower ps) {} s)

/-- SET_FEATURES_VOLATILE_WRITE_CACHE. -/
def execSetFeaturesVolatileWriteCache (src : Src) (on save : Bool) (s : State) : Host.Outcome State Fault Refusal :=
  .next (runNow src (.setVwc on save) {} s)

/-- SET_FEATURES_NUMBER_OF_QUEUES. -/
def execSetFeaturesNumberOfQueues (src : Src) (nsq ncq : Nat) (s : State) : Host.Outcome State Fault Refusal :=
  .next (runNow src (.setNumQueues nsq ncq) {} s)

/-- SET_FEATURES_ARBITRATION. -/
def execSetFeaturesArbitration (src : Src) (dw : Dword) (s : State) : Host.Outcome State Fault Refusal :=
  .next (runNow src (.setArbitration dw) {} s)

/-- SET_FEATURES_TEMPERATURE_THRESHOLD. -/
def execSetFeaturesTemperatureThreshold (src : Src) (dw : Dword) (s : State) : Host.Outcome State Fault Refusal :=
  .next (runNow src (.setTemp dw) {} s)

/-- SET_FEATURES_INTERRUPT_COALESCING. -/
def execSetFeaturesInterruptCoalescing (src : Src) (dw : Dword) (s : State) : Host.Outcome State Fault Refusal :=
  .next (runNow src (.setCoalescing dw) {} s)

/-- SET_FEATURES_INTERRUPT_VECTOR_CONFIG. -/
def execSetFeaturesInterruptVectorConfig (src : Src) (dw : Dword) (s : State) : Host.Outcome State Fault Refusal :=
  .next (runNow src (.setVector dw) {} s)

/-- SET_FEATURES_ASYNC_EVENT_CONFIG. -/
def execSetFeaturesAsyncEventConfig (src : Src) (dw : Dword) (s : State) : Host.Outcome State Fault Refusal :=
  .next (runNow src (.setAsync dw) {} s)

/-- SET_FEATURES_TIMESTAMP. -/
def execSetFeaturesTimestamp (src : Src) (ms : Nat) (s : State) : Host.Outcome State Fault Refusal :=
  .next (runNow src (.setTimestamp ms) {} s)

/-- SET_FEATURES_FDP. -/
def execSetFeaturesFdp (src : Src) (nsid fid : Nat) (dw : Dword) (on : Bool) (types : List Nat) (s : State) :
    Host.Outcome State Fault Refusal :=
  .next (runNow src (.setFdp nsid fid dw on types) {} s)

/-- GET_FEATURES. -/
def execGetFeatures (src : Src) (fid nsid dw11 : Nat) (s : State) : Host.Outcome State Fault Refusal :=
  .next (runNow src (.getFeatures fid nsid dw11) {} s)

/-- ASYNC_EVENT_REQUEST. -/
def execAsyncEventRequest (src : Src) (s : State) : Host.Outcome State Fault Refusal :=
  .next (runNow src .asyncEvent {} s)

/-- NAMESPACE_CREATE. -/
def execNamespaceCreate (src : Src) (spec : NsSpec) (s : State) : Host.Outcome State Fault Refusal :=
  .next (runNow src (.nsCreate spec) {} s)

/-- NAMESPACE_DELETE. -/
def execNamespaceDelete (src : Src) (nsid : Nat) (s : State) : Host.Outcome State Fault Refusal :=
  .next (runNow src (.nsDelete nsid) {} s)

/-- NAMESPACE_ATTACH. -/
def execNamespaceAttach (src : Src) (nsid : Nat) (ctrls : List PortId) (s : State) : Host.Outcome State Fault Refusal :=
  .next (runNow src (.nsAttach nsid ctrls) {} s)

/-- NAMESPACE_DETACH. -/
def execNamespaceDetach (src : Src) (nsid : Nat) (ctrls : List PortId) (s : State) : Host.Outcome State Fault Refusal :=
  .next (runNow src (.nsDetach nsid ctrls) {} s)

/-- FIRMWARE_IMAGE_DOWNLOAD. -/
def execFirmwareImageDownload (src : Src) (off : Nat) (bytes : List Byte) (s : State) : Host.Outcome State Fault Refusal :=
  .next (runNow src (.fwDownload off bytes) {} s)

/-- FIRMWARE_COMMIT_STORE. -/
def execFirmwareCommitStore (src : Src) (action slot : Nat) (image : FwImage) (s : State) : Host.Outcome State Fault Refusal :=
  .next (runNow src (.fwCommit action slot image) {} s)

/-- FIRMWARE_COMMIT_ACTIVATE. -/
def execFirmwareCommitActivate (src : Src) (action slot : Nat) (s : State) : Host.Outcome State Fault Refusal :=
  .next (runNow src (.fwCommit action slot {}) {} s)

/-- FORMAT_NVM. -/
def execFormatNvm (src : Src) (nsid lbaf pi ses : Nat) (mset : Bool) (s : State) : Host.Outcome State Fault Refusal :=
  .next (runNow src (.format nsid lbaf pi ses mset) {} s)

/-- SANITIZE_BLOCK_ERASE. -/
def execSanitizeBlockErase (src : Src) (s : State) : Host.Outcome State Fault Refusal :=
  .next (runNow src (.sanitize 2) {} s)

/-- SANITIZE_CRYPTO_ERASE. -/
def execSanitizeCryptoErase (src : Src) (s : State) : Host.Outcome State Fault Refusal :=
  .next (runNow src (.sanitize 4) {} s)

/-- SANITIZE_EXIT_FAILURE_MODE. -/
def execSanitizeExitFailureMode (src : Src) (s : State) : Host.Outcome State Fault Refusal :=
  .next (runNow src (.sanitize 1) {} s)

/-- DICTIONARY_READ. -/
def execDictionaryRead (src : Src) (nsid index sub : Nat) (ca : Bool) (len : Nat) (rsv : Dword) (s : State) :
    Host.Outcome State Fault Refusal :=
  .next (runNow src (.dictRead nsid index sub ca len rsv) {} s)

/-- DICTIONARY_WRITE. -/
def execDictionaryWrite (src : Src) (nsid index sub : Nat) (ca : Bool) (data : List Byte) (rsv : Dword) (s : State) :
    Host.Outcome State Fault Refusal :=
  .next (runNow src (.dictWrite nsid index sub ca data rsv) {} s)

/-- FLUSH. -/
def execFlush (src : Src) (nsid : Nat) (s : State) : Host.Outcome State Fault Refusal :=
  .next (runNow src (.flush nsid) {} s)

/-- WRITE. -/
def execWrite (src : Src) (e : Env) (nsid slba : Nat) (blks : List Blk) (fua : Bool) (pi : PiCtl) (handle : Option Nat)
    (s : State) : Host.Outcome State Fault Refusal :=
  .next (runNow src (.write nsid slba blks fua pi handle) e s)

/-- READ. -/
def execRead (src : Src) (e : Env) (nsid slba n : Nat) (fua : Bool) (pi : PiCtl) (s : State) :
    Host.Outcome State Fault Refusal :=
  .next (runNow src (.read nsid slba n fua pi) e s)

/-- WRITE_ZEROES. -/
def execWriteZeroes (src : Src) (e : Env) (nsid slba n : Nat) (fua : Bool) (pi : PiCtl) (s : State) :
    Host.Outcome State Fault Refusal :=
  .next (runNow src (.writeZeroes nsid slba n fua pi) e s)

/-- DATASET_MANAGEMENT. -/
def execDatasetManagement (src : Src) (nsid : Nat) (deallocate : Bool) (ranges : List (Nat × Nat)) (s : State) :
    Host.Outcome State Fault Refusal :=
  .next (runNow src (.dsm nsid deallocate ranges) {} s)

/-- RESERVATION_REGISTER. -/
def execReservationRegister (src : Src) (nsid action cptpl : Nat) (iekey : Bool) (key new : BitVec 64) (s : State) :
    Host.Outcome State Fault Refusal :=
  .next (runNow src (.resvRegister nsid action cptpl iekey key new) {} s)

/-- RESERVATION_ACQUIRE. -/
def execReservationAcquire (src : Src) (nsid action rtype : Nat) (iekey : Bool) (key pkey : BitVec 64) (s : State) :
    Host.Outcome State Fault Refusal :=
  .next (runNow src (.resvAcquire nsid action rtype iekey key pkey) {} s)

/-- RESERVATION_REPORT. -/
def execReservationReport (src : Src) (nsid : Nat) (s : State) : Host.Outcome State Fault Refusal :=
  .next (runNow src (.resvReport nsid) {} s)

/-- RESERVATION_RELEASE. -/
def execReservationRelease (src : Src) (nsid action rtype : Nat) (iekey : Bool) (key : BitVec 64) (s : State) :
    Host.Outcome State Fault Refusal :=
  .next (runNow src (.resvRelease nsid action rtype iekey key) {} s)

/-- ZONE_OPEN. -/
def execZoneOpen (src : Src) (nsid slba : Nat) (all : Bool) (s : State) : Host.Outcome State Fault Refusal :=
  .next (runNow src (.zoneSend nsid slba .open all) {} s)

/-- ZONE_CLOSE. -/
def execZoneClose (src : Src) (nsid slba : Nat) (all : Bool) (s : State) : Host.Outcome State Fault Refusal :=
  .next (runNow src (.zoneSend nsid slba .close all) {} s)

/-- ZONE_FINISH. -/
def execZoneFinish (src : Src) (nsid slba : Nat) (all : Bool) (s : State) : Host.Outcome State Fault Refusal :=
  .next (runNow src (.zoneSend nsid slba .finish all) {} s)

/-- ZONE_RESET. -/
def execZoneReset (src : Src) (nsid slba : Nat) (all : Bool) (s : State) : Host.Outcome State Fault Refusal :=
  .next (runNow src (.zoneSend nsid slba .reset all) {} s)

/-- ZONE_OFFLINE. -/
def execZoneOffline (src : Src) (nsid slba : Nat) (all : Bool) (s : State) : Host.Outcome State Fault Refusal :=
  .next (runNow src (.zoneSend nsid slba .offline all) {} s)

/-- SET_ZONE_DESCRIPTOR_EXTENSION. -/
def execSetZoneDescriptorExtension (src : Src) (nsid slba : Nat) (s : State) : Host.Outcome State Fault Refusal :=
  .next (runNow src (.zoneSend nsid slba .setExtension false) {} s)

/-- ZONE_MANAGEMENT_RECEIVE. -/
def execZoneManagementReceive (src : Src) (nsid slba : Nat) (extended : Bool) (state len : Nat) (s : State) :
    Host.Outcome State Fault Refusal :=
  .next (runNow src (.zoneReceive nsid slba extended state len) {} s)

/-- ZONE_APPEND. -/
def execZoneAppend (src : Src) (e : Env) (nsid zslba : Nat) (blks : List Blk) (fua : Bool) (pi : PiCtl) (s : State) :
    Host.Outcome State Fault Refusal :=
  .next (runNow src (.zoneAppend nsid zslba blks fua pi) e s)

/-- ZONE_ARCHIVE. -/
def execZoneArchive (src : Src) (nsid zslba : Nat) (all : Bool) (tag : Nat) (rsv : Dword) (s : State) :
    Host.Outcome State Fault Refusal :=
  .next (runNow src (.archive nsid zslba all tag rsv) {} s)

/-- ARCHIVE_CANCEL. -/
def execArchiveCancel (src : Src) (nsid zslba : Nat) (all : Bool) (rsv : Dword) (s : State) :
    Host.Outcome State Fault Refusal :=
  .next (runNow src (.archiveCancel nsid zslba all rsv) {} s)

/-- ZONE_RECALL. -/
def execZoneRecall (src : Src) (nsid zslba obj : Nat) (rsv : Dword) (s : State) : Host.Outcome State Fault Refusal :=
  .next (runNow src (.recall nsid zslba obj rsv) {} s)

/-- ARCHIVE_QUERY. -/
def execArchiveQuery (src : Src) (nsid key : Nat) (byZone : Bool) (level numd : Nat) (rsv : Dword) (s : State) :
    Host.Outcome State Fault Refusal :=
  .next (runNow src (.archiveQuery nsid key byZone level numd rsv) {} s)

/-! ### Map regions (R121, R122, R124) -/

/-- MAP_REGION_REBUILD_COMPLETE (R121, R122): the commands held for the region run, the next rebuild starts; after the last
region, event 046. -/
def execMapRegionRebuildComplete (r : Nat) (s : State) : Host.Outcome State Fault Refusal :=
  if (s.hs.rebuilding.any fun x => x.1 == r) = false then .next s
  else
    let s1 := fillRebuilds 8 { s with hs := { s.hs with rebuilding := s.hs.rebuilding.filter fun x => x.1 != r } }
    let s2 := if s1.hs.regions = [] ∧ s1.hs.promoted = [] ∧ s1.hs.rebuilding = []
      then raise 46 0 (evBytes 4 ((s1.clock - s1.hs.rebuildFrom) / 1600000)) s1 else s1
    .next (settle s2)

end Sys2Proof.Machine
end

