-- ==== Sys2Proof/Machine/FlashCommands.lean ====
section
/-! DEFINITION. The commands of the flash tier (R128, R129, R140, R143, R145, R149 to R172, R195): programs of zone rows,
polls and timeouts, relocation, rebuild, patrol, and the ends of tier format, adoption and retirement. -/

namespace Sys2Proof.Machine

open Sys2Proof

/-! ### Programming a zone (R102, R107, R138 to R141, R145, R149) -/

/-- The tenant whose host-program class a zone's programs are charged to: that of the queue that wrote it, or the namespace's for a
recall (R108, R110). -/
def Zone.payer (s : State) (z : Zone) : Nat :=
  if z.st = .recallTarget then tenantOfNs s z.nsid else z.qtenant

/-- A zone, or reclaim unit, is one that Geyser programs: its members are bound and no row of it is in flight. -/
def Zone.programmed (z : Zone) : Bool :=
  z.members != [] && z.rowBusy == [] &&
    match z.st with
    | .implicitOpen | .explicitOpen | .closed | .recallTarget => !(z.members.any (·.lost))
    | .full => true
    | _ => false

/-- Channel positions in the order in which a row's pages are dispatched: data in channel order skipping the parity position, then
parity (R138). -/
def Zone.pageOrder (z : Zone) : List Nat := ((List.range 16).filter (· != z.parity)) ++ [z.parity]

/-- The program of a zone's row on one member. -/
def rowOp (s : State) (z : Zone) (m : Member) : FlashOp :=
  { kind := .program, cls := .hostProgram, tenant := z.payer s, block := m.block, zone := some (z.nsid, z.idx) }

/-- Filler of a Full zone's last row that has no page to go to, since its member is lost (R141, R145). -/
def lostFiller (s : State) (z : Zone) : Nat :=
  let stop := (z.wp + rowLbas s - 1) / max 1 (rowLbas s) * rowLbas s
  if z.st = .full then
    (((List.range (stop - z.wp)).map (z.wp + ·)).filter fun n => ((z.members[memberOf z n]?).map (·.lost)).getD false).length
  else 0

/-- Dispatch the next program row of a zone (R138, R140): one program for each member, which starts or waits on its die (R114). -/
def startRow (z : Zone) (s : State) : State :=
  if z.programmed ∧ (rowEnd s z).isSome then
    let here := z.pageOrder.filter fun i => ((z.members[i]?).map fun m => !m.lost).getD false
    let s1 := setZone { z with rowBusy := here, lastSeq := s.flash.progSeq } s
    let s2 := { s1 with flash := { s1.flash with progSeq := (s1.flash.progSeq + 16) % 2 ^ 48 } }
    let s3 := here.foldl (fun t i =>
      match z.members[i]? with
      | some m => requestOp m.port m.die (rowOp s z m) t
      | none => t) s2
    let n := if rowEnd s z = some z.wp then lostFiller s z else 0
    if n = 0 then s3 else stageSpan z ((servingDies s3).map fun d => (d.1, d.2.1)) z.wp n true s3
  else s

/-- A command or a shutdown waits for data of a zone to be programmed (R55, R58, R59, R61). -/
def awaited (s : State) (nsid idx : Nat) : Bool :=
  let hit := fun t : Nat × Nat × Nat => t.1 == nsid && t.2.1 == idx
  let mine := fun i : Inflight => match i.wait with
    | .programmed t _ _ | .flush t | .answered t _ => t.any hit
    | _ => false
  s.hs.inflight.any mine || allPorts.any fun p => (s.ctrls.get p).shutTargets.any hit

/-- The remainder of a zone's data is to go to staging blocks: the cache is not protected, a command needs the data in flash,
or the zone's own blocks take no more (R145). -/
def stages (s : State) (z : Zone) : Bool :=
  decide (z.flashed < z.wp) && z.rowBusy == [] && arrayOpen s .program &&
    (!cacheProtected s || awaited s z.nsid z.idx || z.st == .readOnly)

/-- Dies on which a staging program may start now, and how (R114). -/
def stagingDies (s : State) (tn : Nat) : List ((Nat × Nat) × Bool) :=
  (servingDies s).filterMap fun d => (workStart s d.1 d.2.1 .program .hostProgram tn).map fun lent => ((d.1, d.2.1), lent)

/-- Charge the staging programs of a span: each is one program of its die (R145). -/
def chargeStaging (dies : List ((Nat × Nat) × Bool)) (n : Nat) (s0 s : State) : State :=
  (List.range n).foldl (fun t k =>
    let d := rotation s0 (dies.map (·.1)) k
    let lent := ((dies.find? fun x => x.1 == d).map (·.2)).getD false
    chargeWork d.1 d.2 .hostProgram (usCycles (((dieOf t d.1 d.2).map (·.tProg)).getD 0)) lent t) s

/-- Program a zone's remainder to staging (R145): where the staging capacity that is left still holds the whole write cache (R146). -/
def stageZone (z : Zone) (s : State) : State :=
  let dies := stagingDies s (z.payer s)
  if dies = [] then s
  else
    let s1 := setZone { z with flashed := z.wp } (stageSpan z (dies.map (·.1)) z.flashed (z.wp - z.flashed) false s)
    if unprogrammed s1 ≤ stagingRoom s1 then
      cacheLimitUpdate (chargeStaging dies (stageSpans (stageProgram s) z.flashed (z.wp - z.flashed)).length s s1)
    else s

/-- PROGRAM_ROW_DISPATCH (R56, R102, R107, R138, R140, R141, R145): of a zone, or of a reclaim unit of an FDP namespace. While the
cache has lost its protection with completed data unprogrammed, a zone without such data waits (R56). -/
def execProgramRowDispatch (nsid idx : Nat) (mem : List MemHit) (s : State) : Host.Outcome State Fault Refusal :=
  let s1 := memHits mem s
  let z := zoneOf s1 nsid idx
  if s1.phase ≠ .running ∨ arrayOpen s1 .program = false ∨ (urgent s1 ∧ z.ack ≤ z.flashed) then .next s1
  else if z.programmed ∧ (rowEnd s1 z).isSome then .next (cacheLimitUpdate (startRow z s1))
  else if stages s1 z then .next (settle (stageZone z s1))
  else .next s1

/-- STAGED_DATA_MIGRATE (R145, R149): staged data of a complete row is programmed into the zone's own blocks. -/
def execStagedDataMigrate (nsid idx : Nat) (s : State) : Host.Outcome State Fault Refusal :=
  let z := zoneOf s nsid idx
  if upkeepRuns s ∧ z.placed < z.flashed ∧ z.programmed then .next (cacheLimitUpdate (startRow z s)) else .next s

/-! ### Polls (R107, R128, R150 to R154, R156, R163) -/

/-- The operation of a die has ended: its time is charged, and the erases that waited for it are made (R160). -/
def endOp (port die : Nat) (s : State) : State :=
  modDie port die (fun d => Die.eraseDueNow { d.accrue s.clock with op := none }) s

/-- Position of the member of a zone on a block of a die. -/
def memberAt (z : Zone) (port die block : Nat) : Option Nat :=
  (List.range z.members.length).find? fun i =>
    ((z.members[i]?).map fun m => m.port == port && m.die == die && m.block == block && !m.lost).getD false

/-- The zone and position that hold a block of a die. -/
def holderOf (s : State) (port die block : Nat) : Option (Zone × Nat) :=
  s.hs.zones.findSome? fun z => (memberAt z port die block).map fun i => (z, i)

/-- A row's program has passed on one member (R140); the staging pages whose data now lies in the zone are released (R145). -/
def rowPassed (port die : Nat) (o : FlashOp) (s : State) : State :=
  match o.zone with
  | none => s
  | some (nsid, idx) =>
    let z := zoneOf s nsid idx
    match memberAt z port die o.block with
    | some pos => cacheLimitUpdate (setZone (z.rowDone s fun i => i == pos) s)
    | none => s

/-- A row's program has failed on one member (R163): its content moves to a spare or free block of the die and the row is
programmed again there, under R114; without one the zone goes Read Only, or a recall starts again (R99). -/
def rowFailed (port die : Nat) (o : FlashOp) (s : State) : State :=
  let s1 := growBad port die o.block s
  match holderOf s1 port die o.block with
  | none => s1
  | some (z, pos) =>
    match bestBlock s1 port die with
    | some k =>
      let s2 := setZone { z with members := modNth z.members pos fun m => { m with block := k, reads := 0, ckpt := 0, since := nowNs s } } s1
      if z.rowBusy.contains pos then requestOp port die { o with block := k, retried := false, suspends := 0, lent := false } s2 else s2
    | none => cannotPlace { z with rowBusy := [] } (setZone { z with rowBusy := [] } s1)

/-- What a finished read's decode leads to (R150, R156, R159). The recovery of a host command's read is accounted with the command, so
its polls only teach the read levels. -/
def readPassed (port die bin step bits : Nat) (ones zeros : List Nat) (o : FlashOp) (s : State) : State :=
  let s1 := if step ≤ 2 then learn port die bin 1 ones zeros s else s
  if o.owner.isSome then s1
  else match holderOf s1 port die o.block with
    | some (z, pos) => readEffects z.nsid z.idx pos (effectiveStep z pos step) bits false s1
    | none => countRecovery port die step s1

/-- The LBAs of an FDP namespace whose places a member block holds. -/
def Ns.validOn (s : State) (n : Ns) (unit pos : Nat) : List Nat :=
  let z := zoneOf s n.nsid unit
  (n.fdpMap.filter fun x => x.2.1 == unit && decide (x.2.2 < z.placed) && memberOf z x.2.2 == pos).map (·.1)

/-- What the device reads to reclaim space moves to the unit that its handle now fills (R107). -/
def reclaimRead (nsid port die : Nat) (o : FlashOp) (s : State) : State :=
  match nsOf s nsid, holderOf s port die o.block with
  | some n, some (z, pos) =>
    let l := Ns.validOn s n z.idx pos
    let w : Writer := { port := none, tenant := tenantOfNs s nsid, stamp := s.hs.stamp, cached := true }
    if z.nsid ≠ nsid ∨ z.st = .implicitOpen then s
    else match placeFdp nsid z.ruh w (l.length + 1) l s with
      | some r => tideRecord r.2
      | none => s
  | _, _ => s

/-- An erase to reclaim space releases the unit that nothing needs any more (R107). -/
def reclaimErase (nsid port die : Nat) (o : FlashOp) (s : State) : State :=
  match nsOf s nsid, holderOf s port die o.block with
  | some n, some (z, _) => if unitDead s n z then emptyZone z s else s
  | _, _ => s

/-- The speculative retry of a host read whose first iteration left a syndrome weight above the profile's threshold (R151, R152): the next
retry set, when the profile has one; it starts only under R114. After a decode that succeeded it is cancelled: one that could not start is
removed, the data of one that started is discarded. -/
def speculate (port die step weight : Nat) (o : FlashOp) (s : State) : State :=
  match dieOf s port die with
  | none => s
  | some d =>
    let tried := if o.level = openLevel then 0 else o.level
    let r : FlashOp :=
      { kind := .read, cls := .hostRead, tenant := o.tenant, level := tried + 1, block := o.block, spec := true, owner := o.owner,
        discard := decide (step ≤ 2) }
    if o.cls ≠ .hostRead ∨ o.spec ∨ weight ≤ d.threshold ∨ min 8 d.retry.length ≤ tried then s
    else match mayStart s port die d r with
      | some lent => startOp port die { r with lent := lent } s
      | none => if r.discard then s else addWait port die r s

/-- A finished read: a cancelled one leaves nothing but its time and its read-level set (R152, R154). -/
def readEnded (port die bin step bits weight : Nat) (ones zeros : List Nat) (o : FlashOp) (s : State) : State :=
  if o.discard then s
  else
    let s1 := readPassed port die bin step bits ones zeros o s
    let s2 := if o.reclaim ≠ 0 ∧ step < 5 then reclaimRead o.reclaim port die o s1 else s1
    speculate port die step weight o s2

/-- What a poll finds. -/
def pollResult (port die : Nat) (o : FlashOp) (r : Poll) (s : State) : State :=
  match r, o.kind with
  | .busy, _ => s
  | .passed .., .program => rowPassed port die o (endOp port die s)
  | .passed .., .erase =>
    if o.reclaim = 0 then endOp port die s else reclaimErase o.reclaim port die o (endOp port die s)
  | .passed bin step bits ones zeros weight, .read => readEnded port die bin step bits weight ones zeros o (endOp port die s)
  | .failed, .program => rowFailed port die o (endOp port die s)
  | .failed, .erase => growBad port die o.block (endOp port die s)
  | .failed, .read => endOp port die s

/-- FLASH_STATUS_POLL (R128). -/
def execFlashStatusPoll (port die : Nat) (r : Poll) (s : State) : Host.Outcome State Fault Refusal :=
  match (dieOf s port die).bind (·.op) with
  | none => .next s
  | some o => .next (settle (pollResult port die o r s))

/-- The last timeout of a die lies less than 1 s back. -/
def timedOutBefore (s : State) (d : Die) : Bool :=
  match d.timeoutAt with
  | some t => decide (s.clock < t + usCycles 1000000)
  | none => false

/-- FLASH_OPERATION_TIMEOUT (R129): Reset LUN and one repeat, which starts under R114; a second timeout within 1 s fails the die,
reason 09h. -/
def execFlashOperationTimeout (port die : Nat) (s : State) : Host.Outcome State Fault Refusal :=
  match dieOf s port die with
  | none => .next s
  | some d =>
    match d.op with
    | none => .next s
    | some o =>
      if timedOutBefore s d then .next (settle (failDie port die 9 s))
      else
        .next (requestOp port die { o with retried := true, lent := false }
          (modDie port die (fun d => { d.accrue s.clock with op := none, timeoutAt := some s.clock }) s))

/-! ### Relocation and wear (R158 to R162) -/

/-- REFRESH_RELOCATION (R150, R160): a queued member block moves to the free block of its die with the lowest erase count, charged to
the refresh class; when a page still fails step 4 the zone's content is lost. -/
def execRefreshRelocation (nsid idx pos : Nat) (lost placed : Bool) (s : State) : Host.Outcome State Fault Refusal :=
  let z := zoneOf s nsid idx
  match z.members[pos]? with
  | none => .next s
  | some m =>
    if upkeepRuns s = false ∨ m.refresh = false ∨ m.lost ∨ z.rowBusy.contains pos then .next s
    else match workStart s m.port m.die .program .refresh 0 with
      | none => .next s
      | some lent => .next (settle (relocate nsid idx pos lost placed lent s))

/-- The bound blocks of a die that wear levelling may move (R162). -/
def coldBlocks (s : State) (port die : Nat) : List (Nat × Nat × Nat × Nat) :=
  (s.hs.zones.filter fun z => z.st == .full && (z.arch == .resident || z.arch == .archivedResident)).flatMap fun z =>
    ((z.members.zipIdx).filter fun x => x.1.port == port && x.1.die == die && !x.1.lost && !z.rowBusy.contains x.2).map fun x =>
      (x.1.block, z.nsid, z.idx, x.2)

/-- The first element of a list that a measure makes largest. -/
def argMaxOf (f : Nat → Nat) : List Nat → Option Nat
  | [] => none
  | a :: as => some (as.foldl (fun b x => if f b < f x then x else b) a)

/-- The move that the wear gap of a die calls for (R162): the free block, and the zone and position of the bound one. -/
def wearMove (s : State) (port die : Nat) (d : Die) : Option (Nat × Nat × Nat × Nat) :=
  let cold := coldBlocks s port die
  match argMaxOf d.eraseCount (freeBlocks s port die), argMin d.eraseCount (boundBlocks s port die) with
  | some hi, some lo =>
    if d.eraseCount lo + num s 0x2440 5 < d.eraseCount hi then
      (cold.find? fun c => d.eraseCount c.1 == d.eraseCount lo).map fun c => (hi, c.2.1, c.2.2.1, c.2.2.2)
    else none
  | _, _ => none

/-- WEAR_MOVE (R162), charged to the refresh class: a block that no block of the die takes leaves its zone Read Only (R99). -/
def execWearMove (port die : Nat) (placed : Bool) (s : State) : Host.Outcome State Fault Refusal :=
  match (dieOf s port die).bind (wearMove s port die), workStart s port die .program .refresh 0 with
  | some (k, nsid, idx, pos), some lent =>
    if upkeepRuns s = false then .next s
    else if placed then .next (moveMember nsid idx pos k .refresh lent s)
    else .next (settle (cannotPlace (zoneOf s nsid idx) s))
  | _, _ => .next s

/-- READ_COUNT_CHECKPOINT (R158). -/
def execReadCountCheckpoint (s : State) : Host.Outcome State Fault Refusal :=
  if upkeepRuns s = false then .next s
  else
    .next (tideRecord { s with
      hs := { s.hs with
        zones := s.hs.zones.map fun z => { z with members := z.members.map fun m => { m with ckpt := m.reads } } } })

/-- RETENTION_AGE_REACHED (R159): the block is queued for refresh relocation. -/
def execRetentionAgeReached (nsid idx pos : Nat) (s : State) : Host.Outcome State Fault Refusal :=
  if s.phase ≠ .running ∨ s.tierState = 2 then .next s else .next (queueRefresh nsid idx pos s)

/-! ### Rebuild (R166 to R169, R172) -/

/-- The step of R166 in which a zone is rebuilt. -/
def rebuildRank (z : Zone) : Nat :=
  match z.st with
  | .implicitOpen | .explicitOpen | .closed | .recallTarget => 1
  | _ =>
    match z.arch with
    | .inscribing => 2
    | .queued => 3
    | .resident => 4
    | .archivedResident | .released => 5

/-- A member is to be rebuilt: it is lost, or its volume is retiring (R166, R172). -/
def toRebuild (s : State) (m : Member) : Bool :=
  m.lost || ((volOf s m.port).map (·.retiring)).getD false

/-- The other 15 members of a stripe are there (R166, R167). -/
def othersThere (z : Zone) (pos : Nat) : Bool :=
  (List.range z.members.length).all fun i => i == pos || ((z.members[i]?).map fun m => !m.lost).getD true

/-- Positions of a zone whose members another die of their channel can take and the rest of the stripe gives (R166 to R168). -/
def rebuildable (s : State) (z : Zone) : List Nat :=
  (List.range z.members.length).filter fun i =>
    ((z.members[i]?).map (toRebuild s)).getD false && othersThere z i && (roomiestDie s (16 * z.lane + i)).isSome

/-- No zone of an earlier step of R166 still has a member to rebuild. -/
def rebuildTurn (s : State) (z : Zone) : Bool :=
  s.hs.zones.all fun y => decide (rebuildRank z ≤ rebuildRank y) || rebuildable s y == []

/-- The last member to rebuild is done: event 100 with the zones rebuilt (R512). -/
def rebuildDone (s : State) : State :=
  if s.hs.zones.any fun z => rebuildable s z != [] then s
  else raise 100 0 (evBytes 4 s.flash.rebuilt) { s with flash := { s.flash with rebuilt := 0 } }

/-- The class and tenant that a zone's rebuild is charged to: the host programs of the zone's tenant in step 1, refresh after it (R166). -/
def rebuildClass (s : State) (z : Zone) : ActClass × Nat :=
  if rebuildRank z = 1 then (.hostProgram, z.payer s) else (.refresh, 0)

/-- Put a rebuilt member on a block: the other members' written pages are read (R158). -/
def rebuildMember (z : Zone) (pos port die k : Nat) (s : State) : State :=
  let n := placedRows s z * s.tide.cellMode
  let s1 := ((z.members.zipIdx).filter fun x => x.2 != pos && !x.1.lost).foldl (fun t x => countReads n x.1.port x.1.die x.1.block t) s
  let z0 := zoneOf s1 z.nsid z.idx
  let z1 := { z0 with members := modNth z0.members pos fun _ => { port := port, die := die, block := k, since := nowNs s } }
  let s2 := { s1 with flash := { s1.flash with staging := s1.flash.staging.filter fun e =>
    !(e.nsid == z.nsid && e.idx == z.idx && decide (0 < e.filler)) } }
  setZone (z1.rowDone s fun i => i == pos) s2

/-- MEMBER_REBUILD (R166): the member is on a block of the die of its channel with the most free zone blocks. -/
def execMemberRebuild (nsid idx pos : Nat) (s : State) : Host.Outcome State Fault Refusal :=
  let z := zoneOf s nsid idx
  if upkeepRuns s = false ∨ (rebuildable s z).contains pos = false ∨ rebuildTurn s z = false then .next s
  else
    match (roomiestDie s (16 * z.lane + pos)).bind fun x => (bestBlock s x.1 x.2).map fun k => (x.1, x.2, k) with
    | none => .next s
    | some (port, die, k) =>
      let c := rebuildClass s z
      match workStart s port die .program c.1 c.2 with
      | none => .next s
      | some lent =>
        let cost := ((dieOf s port die).map (copyCycles s z)).getD 0
        let s1 := cacheLimitUpdate (chargeWork port die c.1 cost lent (rebuildMember z pos port die k s))
        let left := (zoneOf s1 nsid idx).members.any (toRebuild s)
        .next (settle (rebuildDone { s1 with flash := { s1.flash with rebuilt := s1.flash.rebuilt + (if left then 0 else 1) } }))

/-! ### Reads of the patrol (R157, R195) -/

/-- The block of a die and age bin that the cold-start reads take: that of the lowest zone (DESIGN CHOICE, log 139). -/
def coldBlock (s : State) (port die bin : Nat) : Option Nat :=
  s.hs.zones.findSome? fun z =>
    if z.placed = 0 then none
    else (z.members.find? fun m => m.port == port && m.die == die && !m.lost && ageBin (nowNs s) m == bin).map (·.block)

/-- COLD_START_READS (R157): 64 reads of one die and age bin feed R156, charged to the system class. -/
def execColdStartReads (port die bin : Nat) (ones zeros : List Nat) (s : State) : Host.Outcome State Fault Refusal :=
  if s.flash.coldReads.contains (port, die, bin) = false then .next s
  else match workStart s port die .read .system 0, dieOf s port die with
    | some lent, some d =>
      let s1 := learn port die bin 64 ones zeros s
      let s2 := match coldBlock s port die bin with
        | some k => countReads 64 port die k s1
        | none => s1
      let s3 := chargeWork port die .system (usCycles (64 * d.tRead)) lent s2
      .next { s3 with flash := { s3.flash with coldReads := s3.flash.coldReads.filter fun x => x != (port, die, bin) } }
    | _, _ => .next s

/-- The member block that a flash patrol pass reads last: passes go in zone order (log 20). -/
def lastPatrolled (s : State) : Option (Nat × Nat × Nat) :=
  ((s.hs.zones.filter fun z => decide (0 < z.placed)).flatMap fun z =>
    ((z.members.zipIdx).filter fun x => !x.1.lost).map fun x => (z.nsid, z.idx, x.2)).getLast?

/-- A flash patrol pass is complete (Table 5.10). -/
def countPass (done : Bool) (s : State) : State :=
  if done then { s with mem := { s.mem with flashPasses := (s.mem.flashPasses + 1) % 2 ^ 32 } } else s

/-- The wordlines that the patrol reads of a block with rows programmed: the first, the last, and evenly between them as many as
2620h.04 asks for in all (R195). -/
def patrolLines (rows n : Nat) : List Nat :=
  let k := max 2 n
  ((List.range k).map fun i => i * (rows - 1) / (k - 1)).foldl (fun l x => if l.contains x then l else l ++ [x]) []

/-- FLASH_PATROL (R195): the pages of a written member block are read, charged to the scrub class; each read counts, and feeds R156 and
R159. Step and bits are those of the worst page. -/
def execFlashPatrol (nsid idx pos bin step bits : Nat) (ones zeros : List Nat) (s : State) : Host.Outcome State Fault Refusal :=
  let z := zoneOf s nsid idx
  match z.members[pos]? with
  | none => .next s
  | some m =>
    if s.tierState = 2 ∨ bitOf (num s 0x2620 5) 2 = false ∨ m.lost ∨ z.placed = 0 then .next s
    else match workStart s m.port m.die .read .scrub 0, dieOf s m.port m.die with
      | some lent, some d =>
        let n := (patrolLines (placedRows s z) (num s 0x2620 4)).length
        let s1 := chargeWork m.port m.die .scrub (usCycles (n * d.tRead)) lent (countReads n m.port m.die m.block s)
        let s2 := if step ≤ 2 then learn m.port m.die bin n ones zeros s1 else s1
        .next (settle (readEffects nsid idx pos (effectiveStep z pos step) bits false
          (countPass (lastPatrolled s == some (nsid, idx, pos)) s2)))
      | _, _ => .next s

/-! ### Ends of tier format, adoption and retirement (R143, R171, R172) -/

/-- TIER_FORMAT_COMPLETE (R143 steps 3 to 5). -/
def execTierFormatComplete (failures : List (Nat × Nat × Nat)) (s : State) : Host.Outcome State Fault Refusal :=
  if s.flash.formatting = false ∨ s.phase ≠ .running then .next s
  else .next (cacheLimitUpdate (endTierFormat failures s))

/-- ADOPTION_COMPLETE (R171). -/
def execAdoptionComplete (port : Nat) (bad : List (List Nat)) (s : State) : Host.Outcome State Fault Refusal :=
  if s.phase = .running ∧ ((volOf s port).map fun v => v.st == .adopting).getD false then
    .next (endOperation 5 false (finishAdoption port bad s))
  else .next s

/-- RETIREMENT_COMPLETE (R172): every member of the volume has been rebuilt elsewhere, and it is deselected. -/
def execRetirementComplete (port : Nat) (s : State) : Host.Outcome State Fault Refusal :=
  let left := s.hs.zones.any fun z => z.members.any fun m => m.port == port
  if s.phase = .running ∧ ((volOf s port).map (·.retiring)).getD false ∧ left = false then
    .next (endOperation 6 false (deselect port s))
  else .next s

end Sys2Proof.Machine
end

