-- ==== Sys2Proof/Machine/Events.lean ====
section
/-! DEFINITION. The end of a Harbour flush (R545), the timers and transmissions of event delivery (R509, R510), and the
events and answers of the ports (R512, R513, R524, R525). -/

namespace Sys2Proof.Machine

open Sys2Proof

/-- HARBOUR_FLUSH_END (R147, R545, R554): what waited is programmed; a cause marked Reset, or a reset that waited for the
flush, resets the device. -/
def execHarbourFlushEnd (s : State) : Host.Outcome State Fault Refusal :=
  if s.sup.flushing = false then .next s
  else
    let s1 := flushDone s
    if resetCause s.harbourCause ∨ s.sup.resetN = false ∨ s.sup.benchReset then .next (fullReset s1) else .next s1

/-- MSIX_COALESCE_TIMER (R509): the message that several events share is sent. -/
def execMsixCoalesceTimer (s : State) : Host.Outcome State Fault Refusal :=
  let s1 := sendMsix (s.evt.msixWaiting.filter fun p => (s.ctrls.get p).vec2047) s
  .next { s1 with evt := { s1.evt with msixWaiting := [] } }

/-- EMERGENCY_MESSAGE_SENT (R510): the oldest message leaves; after drops, event 028 with cause 04h takes the place. -/
def execEmergencyMessageSent (s : State) : Host.Outcome State Fault Refusal :=
  match s.evt.emcy with
  | [] => .next s
  | m :: rest =>
    let s1 := { s with evt := { s.evt with emcy := rest, emcySent := some m } }
    .next (if 0 < s.evt.emcyDropped then raiseDropped s1 else s1)

/-- ETHERCAT_PORT_LINK_CHANGE (R512, R566): event 028 with cause 03h when a port loses its link. -/
def execEthercatPortLinkChange (port up : Bool) (s : State) : Host.Outcome State Fault Refusal :=
  let i := if port then 1 else 0
  let s1 := { s with doors := { s.doors with portLink := modNth s.doors.portLink i fun _ => up } }
  if up = false ∧ s.doors.portLink.getD i false then .next (raise 28 3 [i] s1) else .next s1

/-- TEMPERATURE_THRESHOLD_CROSSING (R512, R513): the composite temperature rises to the over-temperature threshold, event
008, or falls to the under-temperature threshold, event 009. -/
def execTemperatureThresholdCrossing (sensor : Nat) (t : Int) (s : State) : Host.Outcome State Fault Refusal :=
  let before := kelvin (compositeTemp s)
  let s1 := putTemp sensor t s
  let after := kelvin (compositeTemp s1)
  let s2 := { s1 with evt := { s1.evt with overTemp := decide (s.hs.tempOver ≤ after) } }
  if isRunning s = false then .next s1
  else if s.hs.tempOver ≤ after ∧ before < s.hs.tempOver then .next (reportSmart 1 1 (raise 8 0 (tempData sensor t) s2))
  else if after ≤ s.hs.tempUnder ∧ s.hs.tempUnder < before then .next (reportSmart 1 1 (raise 9 0 (tempData sensor t) s2))
  else .next s2

/-! ### SPDM (R524, R525) -/

/-- The SPDM responses the device gives (R524; request and response codes of SPDM 1.2, log 21). -/
def spdmResponse (request : Nat) : Option Nat :=
  if [0x81, 0x82, 0x83, 0x84, 0xE0, 0xE1, 0xE3, 0xE4, 0xE5, 0xEC].contains request then some (request - 0x80) else none

/-- Answer with a response code and measurement blocks. -/
def spdmAnswer (p : PortId) (code : Nat) (blocks : List (List Byte)) (s : State) : State :=
  modCtrl p (fun c => { c with spdmAnswer := code, spdmData := blocks }) s

/-- SPDM sessions of all ports. -/
def sessions (s : State) : Nat := sumOf (allPorts.map fun p => (s.ctrls.get p).spdm)

/-- Raw measurement block 3: firmware version, security version, anti-rollback counter (Table 16.15). -/
def block3 (s : State) : List Byte :=
  leBytes 2 s.fw.version ++ leBytes 2 s.fw.security ++ leBytes 2 (arCounter s.part.arCells)

/-- Raw measurement block 5: 2050h.01, 2060h.03, encrypted namespace count, 2060h.05 (Table 16.15). -/
def block5 (s : State) : List Byte :=
  leBytes 1 (num s 0x2050 1) ++ leBytes 1 s.tierState ++ leBytes 2 (s.hs.ns.filter (·.encrypted)).length ++ s.part.siteId.getD []

/-- A digest as 48 bytes, the first byte first. -/
def digestBytes (d : BitVec 384) : List Byte :=
  (List.range 48).map fun i => BitVec.ofNat 8 (d.toNat / 2 ^ (8 * (47 - i)))

/-- The image that runs, in the slot it was started from. -/
def bootedBytes (s : State) : List Byte :=
  let sl := if s.fw.booted = 1 then s.fw.slot1 else s.fw.slot2
  ((sl.image).map (·.bytes)).getD []

/-- The Korzel tables in effect: 4000h.12, 4400h.04, 4C00h.03 and the selected 4800h profile (Table 16.15). -/
def tablesBytes (s : State) : List Byte :=
  (computed s 0x4000 0x12).getD [] ++ (computed s 0x4400 4).getD [] ++ (computed s 0x4C00 3).getD [] ++
    ((dom s 0x4800 0).drop (16 * (num s 0x2220 0x0A - 1))).take (if num s 0x2220 0x0A = 0 then 0 else 16)

/-- Measurement block i (R525). -/
def measurement (s : State) (i : Nat) : List Byte :=
  match i with
  | 1 => digestBytes Config.bootRomDigest
  | 2 => digestBytes (Config.sha384 (bootedBytes s))
  | 3 => block3 s
  | 4 => digestBytes (Config.sha384 (tablesBytes s))
  | _ => block5 s

/-- GET_MEASUREMENTS: their number, all of the five blocks, or one. -/
def spdmMeasure (p : PortId) (which : Nat) (s : State) : State :=
  if which = 0 then spdmAnswer p 0x60 [[5]] s
  else if which = 0xFF then spdmAnswer p 0x60 ((List.range 5).map fun i => measurement s (i + 1)) s
  else if which ≤ 5 then spdmAnswer p 0x60 [measurement s which] s
  else spdmAnswer p 0x7F [] s

/-- SPDM_REQUEST (R524, R525): the device answers; KEY_EXCHANGE opens one of at most four sessions, END_SESSION closes one. -/
def execSpdmRequest (p : PortId) (msg : List Byte) (s : State) : Host.Outcome State Fault Refusal :=
  let c := s.ctrls.get p
  let code := cellByte msg 1
  if s.phase ≠ .running ∨ 3 ≤ s.pwr.ps ∨ c.present = false ∨ c.linkUp = false then .next s
  else match spdmResponse code with
    | none => .next (spdmAnswer p 0x7F [] s)
    | some r =>
      if code = 0x81 then .next (spdmAnswer p r [digestBytes Config.certificateDigest] s)
      else if code = 0xE0 then .next (spdmMeasure p (cellByte msg 3) s)
      else if code = 0xE4 then
        if 4 ≤ sessions s then .next (spdmAnswer p 0x7F [] s)
        else .next (spdmAnswer p r [] (modCtrl p (fun c => { c with spdm := c.spdm + 1 }) s))
      else if code = 0xE5 ∧ c.spdm = 0 then .next (spdmAnswer p 0x7F [] s)
      else if code = 0xEC then
        if c.spdm = 0 then .next (spdmAnswer p 0x7F [] s)
        else .next (spdmAnswer p r [] (modCtrl p (fun c => { c with spdm := c.spdm - 1 }) s))
      else .next (spdmAnswer p r [] s)

/-! ### One core cycle (R513, R515) -/

/-- Bin of the core junction histogram: n covers 5n − 20 to 5n − 15 °C, the last bin open (Table 16.10). -/
def junctionBin (t : Int) : Nat :=
  min 31 ((t + 200) / 50).toNat

/-- One core cycle passes: the clock, and what Tables 16.8 and 16.10 measure in time (log 2). -/
def idle (s : State) : State :=
  if s.phase = .held then s
  else
    let k := kelvin (compositeTemp s)
    let one := fun b : Bool => if b then 1 else 0
    { s with
      clock := s.clock + 1
      mem := { s.mem with opStatus := if s.mem.opStatus = 1 then 2 else s.mem.opStatus }
      adm := { s.adm with
        powerOn := s.adm.powerOn + 1
        sensorSum := (List.range 8).map fun i => s.adm.sensorSum.getD i 0 + s.sup.temps.getD i 0
        histogram := modNth s.adm.histogram (junctionBin (s.sup.temps.headD 0)) fun n => n + 1
        spindleOn := (List.range 16).map fun i =>
          s.adm.spindleOn.getD i 0 + one (if h : i < 16 then (s.bays.get ⟨i, h⟩).spin.speed != 0 else false)
        warnTime := s.adm.warnTime + one (decide (368 ≤ k))
        critTime := s.adm.critTime + one (decide (378 ≤ k))
        busy := s.adm.busy + (allPorts.filter fun p => s.hs.inflight.any fun i => i.port == p && i.sq != 0).length } }

end Sys2Proof.Machine
end

