-- ==== Sys2Proof/Machine/Dispatch.lean ====
section
/-! DEFINITION. The effect of each command on everything but the queue: one arm per constructor of Instr. -/

namespace Sys2Proof.Machine

open Sys2Proof

/-- The effect of command i on state s. -/
def exec (i : Instr) (s : State) : Host.Outcome State Fault Refusal :=
  match i with
  | .powerOnReset b => Sys2Proof.Machine.execPowerOnReset b s
  | .bootWatchdogExpiry b => Sys2Proof.Machine.execBootWatchdogExpiry b s
  | .bayStart b sbdi clamped => Sys2Proof.Machine.execBayStart b sbdi clamped s
  | .resetNAssert => Sys2Proof.Machine.execResetNAssert s
  | .supplyDipStart rail mv => Sys2Proof.Machine.execSupplyDipStart rail mv s
  | .dipRidden => Sys2Proof.Machine.execDipRidden s
  | .dipTimeLimit => Sys2Proof.Machine.execDipTimeLimit s
  | .supplyResetLevel rail mv => Sys2Proof.Machine.execSupplyResetLevel rail mv s
  | .fixedSupervisorTrip => Sys2Proof.Machine.execFixedSupervisorTrip s
  | .harbourFlushEnd => Sys2Proof.Machine.execHarbourFlushEnd s
  | .managementWatchdogExpiry => Sys2Proof.Machine.execManagementWatchdogExpiry s
  | .junctionOverTemperature sensor t => Sys2Proof.Machine.execJunctionOverTemperature sensor t s
  | .thermalHarbourRecovery => Sys2Proof.Machine.execThermalHarbourRecovery s
  | .cctempReached sensor t => Sys2Proof.Machine.execCctempReached sensor t s
  | .thermalThrottleRelease sensor t => Sys2Proof.Machine.execThermalThrottleRelease sensor t s
  | .holdupOkFall => Sys2Proof.Machine.execHoldupOkFall s
  | .holdupOkRise v0 => Sys2Proof.Machine.execHoldupOkRise v0 s
  | .startSelfTest door value v0 => Sys2Proof.Machine.execStartSelfTest door value v0 s
  | .holdupSelfTestEnd v1 => Sys2Proof.Machine.execHoldupSelfTestEnd v1 s
  | .holdupSelfTestInterval v0 => Sys2Proof.Machine.execHoldupSelfTestInterval v0 s
  | .holdupChargeWaitExpiry => Sys2Proof.Machine.execHoldupChargeWaitExpiry s
  | .perstNAssert p => Sys2Proof.Machine.execPerstNAssert p s
  | .perstNRelease p => Sys2Proof.Machine.execPerstNRelease p s
  | .controllerEnable p asqs acqs mps ams => Sys2Proof.Machine.execControllerEnable p asqs acqs mps ams s
  | .ccEnClear p => Sys2Proof.Machine.execCcEnClear p s
  | .functionLevelReset p => Sys2Proof.Machine.execFunctionLevelReset p s
  | .hotReset p => Sys2Proof.Machine.execHotReset p s
  | .linkDown p => Sys2Proof.Machine.execLinkDown p s
  | .shutdownNotification p => Sys2Proof.Machine.execShutdownNotification p s
  | .sqTailDoorbell p qid tail => Sys2Proof.Machine.execSqTailDoorbell p qid tail s
  | .cqHeadDoorbell p qid head => Sys2Proof.Machine.execCqHeadDoorbell p qid head s
  | .commandFetch p sq cid c d => Sys2Proof.Machine.execCommandFetch p sq cid c d s
  | .fetchError p sq => Sys2Proof.Machine.execFetchError p sq s
  | .commandDispatch e => Sys2Proof.Machine.execCommandDispatch e s
  | .registerWrite w => Sys2Proof.Machine.execRegisterWrite w s
  | .createIoSq src qid size cqid prio => Sys2Proof.Machine.execCreateIoSq src qid size cqid prio s
  | .createIoCq src qid size iv => Sys2Proof.Machine.execCreateIoCq src qid size iv s
  | .deleteIoSq src qid => Sys2Proof.Machine.execDeleteIoSq src qid s
  | .deleteIoCq src qid => Sys2Proof.Machine.execDeleteIoCq src qid s
  | .getLogPage src lid nsid off len rae => Sys2Proof.Machine.execGetLogPage src lid nsid off len rae s
  | .identify src cns nsid cntid csi => Sys2Proof.Machine.execIdentify src cns nsid cntid csi s
  | .abort src sq cid => Sys2Proof.Machine.execAbort src sq cid s
  | .setFeaturesPowerManagement src ps => Sys2Proof.Machine.execSetFeaturesPowerManagement src ps s
  | .setFeaturesVolatileWriteCache src on save => Sys2Proof.Machine.execSetFeaturesVolatileWriteCache src on save s
  | .setFeaturesNumberOfQueues src nsq ncq => Sys2Proof.Machine.execSetFeaturesNumberOfQueues src nsq ncq s
  | .setFeaturesArbitration src dw => Sys2Proof.Machine.execSetFeaturesArbitration src dw s
  | .setFeaturesTemperatureThreshold src dw => Sys2Proof.Machine.execSetFeaturesTemperatureThreshold src dw s
  | .setFeaturesInterruptCoalescing src dw => Sys2Proof.Machine.execSetFeaturesInterruptCoalescing src dw s
  | .setFeaturesInterruptVectorConfig src dw => Sys2Proof.Machine.execSetFeaturesInterruptVectorConfig src dw s
  | .setFeaturesAsyncEventConfig src dw => Sys2Proof.Machine.execSetFeaturesAsyncEventConfig src dw s
  | .setFeaturesTimestamp src ms => Sys2Proof.Machine.execSetFeaturesTimestamp src ms s
  | .setFeaturesFdp src nsid fid dw on types => Sys2Proof.Machine.execSetFeaturesFdp src nsid fid dw on types s
  | .getFeatures src fid nsid dw11 => Sys2Proof.Machine.execGetFeatures src fid nsid dw11 s
  | .asyncEventRequest src => Sys2Proof.Machine.execAsyncEventRequest src s
  | .namespaceCreate src spec => Sys2Proof.Machine.execNamespaceCreate src spec s
  | .namespaceDelete src nsid => Sys2Proof.Machine.execNamespaceDelete src nsid s
  | .namespaceAttach src nsid ctrls => Sys2Proof.Machine.execNamespaceAttach src nsid ctrls s
  | .namespaceDetach src nsid ctrls => Sys2Proof.Machine.execNamespaceDetach src nsid ctrls s
  | .firmwareImageDownload src off bytes => Sys2Proof.Machine.execFirmwareImageDownload src off bytes s
  | .firmwareCommitStore src action slot image => Sys2Proof.Machine.execFirmwareCommitStore src action slot image s
  | .firmwareCommitActivate src action slot => Sys2Proof.Machine.execFirmwareCommitActivate src action slot s
  | .formatNvm src nsid lbaf pi ses mset => Sys2Proof.Machine.execFormatNvm src nsid lbaf pi ses mset s
  | .formatComplete => Sys2Proof.Machine.execFormatComplete s
  | .sanitizeBlockErase src => Sys2Proof.Machine.execSanitizeBlockErase src s
  | .sanitizeCryptoErase src => Sys2Proof.Machine.execSanitizeCryptoErase src s
  | .sanitizeExitFailureMode src => Sys2Proof.Machine.execSanitizeExitFailureMode src s
  | .sanitizeComplete => Sys2Proof.Machine.execSanitizeComplete s
  | .dictionaryRead src nsid index sub ca len rsv => Sys2Proof.Machine.execDictionaryRead src nsid index sub ca len rsv s
  | .dictionaryWrite src nsid index sub ca data rsv => Sys2Proof.Machine.execDictionaryWrite src nsid index sub ca data rsv s
  | .flush src nsid => Sys2Proof.Machine.execFlush src nsid s
  | .write src e nsid slba blks fua pi handle => Sys2Proof.Machine.execWrite src e nsid slba blks fua pi handle s
  | .read src e nsid slba n fua pi => Sys2Proof.Machine.execRead src e nsid slba n fua pi s
  | .writeZeroes src e nsid slba n fua pi => Sys2Proof.Machine.execWriteZeroes src e nsid slba n fua pi s
  | .datasetManagement src nsid deallocate ranges => Sys2Proof.Machine.execDatasetManagement src nsid deallocate ranges s
  | .reservationRegister src nsid action cptpl iekey key new => Sys2Proof.Machine.execReservationRegister src nsid action cptpl iekey key new s
  | .reservationAcquire src nsid action rtype iekey key pkey => Sys2Proof.Machine.execReservationAcquire src nsid action rtype iekey key pkey s
  | .reservationReport src nsid => Sys2Proof.Machine.execReservationReport src nsid s
  | .reservationRelease src nsid action rtype iekey key => Sys2Proof.Machine.execReservationRelease src nsid action rtype iekey key s
  | .zoneOpen src nsid slba all => Sys2Proof.Machine.execZoneOpen src nsid slba all s
  | .zoneClose src nsid slba all => Sys2Proof.Machine.execZoneClose src nsid slba all s
  | .zoneFinish src nsid slba all => Sys2Proof.Machine.execZoneFinish src nsid slba all s
  | .zoneReset src nsid slba all => Sys2Proof.Machine.execZoneReset src nsid slba all s
  | .zoneOffline src nsid slba all => Sys2Proof.Machine.execZoneOffline src nsid slba all s
  | .setZoneDescriptorExtension src nsid slba => Sys2Proof.Machine.execSetZoneDescriptorExtension src nsid slba s
  | .zoneManagementReceive src nsid slba extended state len => Sys2Proof.Machine.execZoneManagementReceive src nsid slba extended state len s
  | .zoneAppend src e nsid zslba blks fua pi => Sys2Proof.Machine.execZoneAppend src e nsid zslba blks fua pi s
  | .zoneArchive src nsid zslba all tag rsv => Sys2Proof.Machine.execZoneArchive src nsid zslba all tag rsv s
  | .archiveCancel src nsid zslba all rsv => Sys2Proof.Machine.execArchiveCancel src nsid zslba all rsv s
  | .zoneRecall src nsid zslba obj rsv => Sys2Proof.Machine.execZoneRecall src nsid zslba obj rsv s
  | .archiveQuery src nsid key byZone level numd rsv => Sys2Proof.Machine.execArchiveQuery src nsid key byZone level numd rsv s
  | .queuePoolSplitWrite door sub value => Sys2Proof.Machine.execQueuePoolSplitWrite door sub value s
  | .tenantTableWrite door sub data => Sys2Proof.Machine.execTenantTableWrite door sub data s
  | .budgetWrite door sub value => Sys2Proof.Machine.execBudgetWrite door sub value s
  | .profileSelect door value => Sys2Proof.Machine.execProfileSelect door value s
  | .budgetPeriodBoundary => Sys2Proof.Machine.execBudgetPeriodBoundary s
  | .flashOperationStart port die op cls tenant level block reclaim => Sys2Proof.Machine.execFlashOperationStart port die op cls tenant level block reclaim s
  | .programRowDispatch nsid idx mem => Sys2Proof.Machine.execProgramRowDispatch nsid idx mem s
  | .flashStatusPoll port die r => Sys2Proof.Machine.execFlashStatusPoll port die r s
  | .flashOperationTimeout port die => Sys2Proof.Machine.execFlashOperationTimeout port die s
  | .programSuspend port die => Sys2Proof.Machine.execProgramSuspend port die s
  | .programResume port die => Sys2Proof.Machine.execProgramResume port die s
  | .stagedDataMigrate nsid idx => Sys2Proof.Machine.execStagedDataMigrate nsid idx s
  | .refreshRelocation nsid idx pos lost placed => Sys2Proof.Machine.execRefreshRelocation nsid idx pos lost placed s
  | .wearMove port die placed => Sys2Proof.Machine.execWearMove port die placed s
  | .readCountCheckpoint => Sys2Proof.Machine.execReadCountCheckpoint s
  | .memberRebuild nsid idx pos => Sys2Proof.Machine.execMemberRebuild nsid idx pos s
  | .coldStartReads port die bin ones zeros => Sys2Proof.Machine.execColdStartReads port die bin ones zeros s
  | .cellModeWrite door value => Sys2Proof.Machine.execCellModeWrite door value s
  | .tierFormatComplete failures => Sys2Proof.Machine.execTierFormatComplete failures s
  | .volumeAdopt door port => Sys2Proof.Machine.execVolumeAdopt door port s
  | .adoptionComplete port bad => Sys2Proof.Machine.execAdoptionComplete port bad s
  | .volumeRetire door port => Sys2Proof.Machine.execVolumeRetire door port s
  | .retirementComplete port => Sys2Proof.Machine.execRetirementComplete port s
  | .mapRegionRebuildComplete r => Sys2Proof.Machine.execMapRegionRebuildComplete r s
  | .bucketLeak m => Sys2Proof.Machine.execBucketLeak m s
  | .bucketClear door value => Sys2Proof.Machine.execBucketClear door value s
  | .bucketSettingsWrite door sub value => Sys2Proof.Machine.execBucketSettingsWrite door sub value s
  | .soundingPatrol hbm words hits => Sys2Proof.Machine.execSoundingPatrol hbm words hits s
  | .flashPatrol nsid idx pos bin step bits ones zeros => Sys2Proof.Machine.execFlashPatrol nsid idx pos bin step bits ones zeros s
  | .scratchpadCarveOut door value => Sys2Proof.Machine.execScratchpadCarveOut door value s
  | .cacheClean door byWay => Sys2Proof.Machine.execCacheClean door byWay s
  | .cacheInvalidate door byWay => Sys2Proof.Machine.execCacheInvalidate door byWay s
  | .cacheCleanAndInvalidate door byWay => Sys2Proof.Machine.execCacheCleanAndInvalidate door byWay s
  | .startSetNow door value => Sys2Proof.Machine.execStartSetNow door value s
  | .planBuildStart mem => Sys2Proof.Machine.execPlanBuildStart mem s
  | .planSeal => Sys2Proof.Machine.execPlanSeal s
  | .planRebuild sid => Sys2Proof.Machine.execPlanRebuild sid s
  | .planDigestCheck sid digest => Sys2Proof.Machine.execPlanDigestCheck sid digest s
  | .setBoundary => Sys2Proof.Machine.execSetBoundary s
  | .rowStage b reads mem => Sys2Proof.Machine.execRowStage b reads mem s
  | .rowStart b => Sys2Proof.Machine.execRowStart b s
  | .frameDecision b idx f => Sys2Proof.Machine.execFrameDecision b idx f s
  | .writeResume b => Sys2Proof.Machine.execWriteResume b s
  | .replacementStart => Sys2Proof.Machine.execReplacementStart s
  | .replacementPacingWindow => Sys2Proof.Machine.execReplacementPacingWindow s
  | .reconstructRequest door value => Sys2Proof.Machine.execReconstructRequest door value s
  | .reconstructionComplete failed => Sys2Proof.Machine.execReconstructionComplete failed s
  | .reallocation b pfa slot confirmed => Sys2Proof.Machine.execReallocation b pfa slot confirmed s
  | .resynchronisation b lead row read blanks slotsUsed => Sys2Proof.Machine.execResynchronisation b lead row read blanks slotsUsed s
  | .recallDiscIdentify b lead => Sys2Proof.Machine.execRecallDiscIdentify b lead s
  | .recallRead obj frames => Sys2Proof.Machine.execRecallRead obj frames s
  | .opc b layer steps => Sys2Proof.Machine.execOpc b layer steps s
  | .strategyTableWrite door index sub data => Sys2Proof.Machine.execStrategyTableWrite door index sub data s
  | .discFrameDecode b pfa content bits => Sys2Proof.Machine.execDiscFrameDecode b pfa content bits s
  | .ladderStep2Revolution b content => Sys2Proof.Machine.execLadderStep2Revolution b content s
  | .pqReconstruct b k role pfa sources => Sys2Proof.Machine.execPqReconstruct b k role pfa sources s
  | .channelStatisticsClear door b value => Sys2Proof.Machine.execChannelStatisticsClear door b value s
  | .spotSampleCell b cell => Sys2Proof.Machine.execSpotSampleCell b cell s
  | .servoCell b cell => Sys2Proof.Machine.execServoCell b cell s
  | .statusCell b cell => Sys2Proof.Machine.execStatusCell b cell s
  | .linkTraining b reads sets us delay => Sys2Proof.Machine.execLinkTraining b reads sets us delay s
  | .trainingTimeout b => Sys2Proof.Machine.execTrainingTimeout b s
  | .linkRetrain b reads sets us delay => Sys2Proof.Machine.execLinkRetrain b reads sets us delay s
  | .registerAckTimeout b => Sys2Proof.Machine.execRegisterAckTimeout b s
  | .cwFltNLow b faults => Sys2Proof.Machine.execCwFltNLow b faults s
  | .causewayClear door b value => Sys2Proof.Machine.execCausewayClear door b value s
  | .windowClose b cands => Sys2Proof.Machine.execWindowClose b cands s
  | .wedgeCommit b lens => Sys2Proof.Machine.execWedgeCommit b lens s
  | .acquireLock b cand => Sys2Proof.Machine.execAcquireLock b cand s
  | .eventFire b => Sys2Proof.Machine.execEventFire b s
  | .encoderCount b lineA lineB samples => Sys2Proof.Machine.execEncoderCount b lineA lineB samples s
  | .timebaseClear door b value => Sys2Proof.Machine.execTimebaseClear door b value s
  | .engineCycleBoundary ins frameOk => Sys2Proof.Machine.execEngineCycleBoundary ins frameOk s
  | .loopOverrun b loop => Sys2Proof.Machine.execLoopOverrun b loop s
  | .coefficientCommit door value => Sys2Proof.Machine.execCoefficientCommit door value s
  | .scheduleWrite door data => Sys2Proof.Machine.execScheduleWrite door data s
  | .focusCapture b layer => Sys2Proof.Machine.execFocusCapture b layer s
  | .captureSettleTimeout b => Sys2Proof.Machine.execCaptureSettleTimeout b s
  | .layerJump b layer => Sys2Proof.Machine.execLayerJump b layer s
  | .seek b row => Sys2Proof.Machine.execSeek b row s
  | .writeModeEntry b => Sys2Proof.Machine.execWriteModeEntry b s
  | .servoCalibration b cal layer r => Sys2Proof.Machine.execServoCalibration b cal layer r s
  | .servoCountsClear door b value => Sys2Proof.Machine.execServoCountsClear door b value s
  | .spindleStart7200 door b => Sys2Proof.Machine.execSpindleStart7200 door b s
  | .spindleStart9600 door b => Sys2Proof.Machine.execSpindleStart9600 door b s
  | .spindleBrake door b => Sys2Proof.Machine.execSpindleBrake door b s
  | .spindleCoast door b => Sys2Proof.Machine.execSpindleCoast door b s
  | .spindleStartAtSpeed door b => Sys2Proof.Machine.execSpindleStartAtSpeed door b s
  | .spindleWatchEnd b seen => Sys2Proof.Machine.execSpindleWatchEnd b seen s
  | .forcedCommutation b peaks again t => Sys2Proof.Machine.execForcedCommutation b peaks again t s
  | .startTimeout b => Sys2Proof.Machine.execStartTimeout b s
  | .brakeCheck b seen => Sys2Proof.Machine.execBrakeCheck b seen s
  | .brakeEnd b => Sys2Proof.Machine.execBrakeEnd b s
  | .zeroCrossing b c => Sys2Proof.Machine.execZeroCrossing b c s
  | .commutation b => Sys2Proof.Machine.execCommutation b s
  | .missedWindow b => Sys2Proof.Machine.execMissedWindow b s
  | .spindleRetry b => Sys2Proof.Machine.execSpindleRetry b s
  | .spindleRunning b => Sys2Proof.Machine.execSpindleRunning b s
  | .speedLimited b => Sys2Proof.Machine.execSpeedLimited b s
  | .coastObservationTimeout b => Sys2Proof.Machine.execCoastObservationTimeout b s
  | .spindleCountsClear door b value => Sys2Proof.Machine.execSpindleCountsClear door b value s
  | .stepTimer b which => Sys2Proof.Machine.execStepTimer b which s
  | .chopperOffsetUpdate b which sensedA sensedB => Sys2Proof.Machine.execChopperOffsetUpdate b which sensedA sensedB s
  | .sledHome door b => Sys2Proof.Machine.execSledHome door b s
  | .sledPark door b => Sys2Proof.Machine.execSledPark door b s
  | .sledStop door b => Sys2Proof.Machine.execSledStop door b s
  | .sledDeEnergise door b => Sys2Proof.Machine.execSledDeEnergise door b s
  | .sledTargetPosition door b value => Sys2Proof.Machine.execSledTargetPosition door b value s
  | .loaderOpen door b => Sys2Proof.Machine.execLoaderOpen door b s
  | .loaderClamp door b => Sys2Proof.Machine.execLoaderClamp door b s
  | .loaderStop door b => Sys2Proof.Machine.execLoaderStop door b s
  | .collimatorHome door b => Sys2Proof.Machine.execCollimatorHome door b s
  | .collimatorStop door b => Sys2Proof.Machine.execCollimatorStop door b s
  | .barrierLoss => Sys2Proof.Machine.execBarrierLoss s
  | .barrierRetrain ok results => Sys2Proof.Machine.execBarrierRetrain ok results s
  | .driveSupplyCrossing level mv => Sys2Proof.Machine.execDriveSupplyCrossing level mv s
  | .driveSupplyRecovery level mv => Sys2Proof.Machine.execDriveSupplyRecovery level mv s
  | .coilCurrentLimit b coil => Sys2Proof.Machine.execCoilCurrentLimit b coil s
  | .coilRetry b coil => Sys2Proof.Machine.execCoilRetry b coil s
  | .coilRetryEpisodeEnd b coil => Sys2Proof.Machine.execCoilRetryEpisodeEnd b coil s
  | .coilRmsThreshold b coil => Sys2Proof.Machine.execCoilRmsThreshold b coil s
  | .aggregateCoilLimit => Sys2Proof.Machine.execAggregateCoilLimit s
  | .aggregateCoilRepeat => Sys2Proof.Machine.execAggregateCoilRepeat s
  | .drvEnLow b => Sys2Proof.Machine.execDrvEnLow b s
  | .drvEnHigh b => Sys2Proof.Machine.execDrvEnHigh b s
  | .driveSideFault b cause bridge => Sys2Proof.Machine.execDriveSideFault b cause bridge s
  | .faultClear door b value => Sys2Proof.Machine.execFaultClear door b value s
  | .bayRestart door b sbdi results => Sys2Proof.Machine.execBayRestart door b sbdi results s
  | .enterBayHarbour door b => Sys2Proof.Machine.execEnterBayHarbour door b s
  | .calibrationRequest door b value results => Sys2Proof.Machine.execCalibrationRequest door b value results s
  | .bayEnableWrite door b value sbdi => Sys2Proof.Machine.execBayEnableWrite door b value sbdi s
  | .sdoDownload index sub ca segmented last data => Sys2Proof.Machine.execSdoDownload index sub ca segmented last data s
  | .sdoUpload index sub ca => Sys2Proof.Machine.execSdoUpload index sub ca s
  | .sdoInformation kind index sub => Sys2Proof.Machine.execSdoInformation kind index sub s
  | .segmentedTransferTimeout => Sys2Proof.Machine.execSegmentedTransferTimeout s
  | .benchRead frame => Sys2Proof.Machine.execBenchRead frame s
  | .benchWrite frame => Sys2Proof.Machine.execBenchWrite frame s
  | .benchAnswer => Sys2Proof.Machine.execBenchAnswer s
  | .benchHarbour frame => Sys2Proof.Machine.execBenchHarbour frame s
  | .benchReset frame => Sys2Proof.Machine.execBenchReset frame s
  | .benchNorRead frame => Sys2Proof.Machine.execBenchNorRead frame s
  | .benchNorErase frame => Sys2Proof.Machine.execBenchNorErase frame s
  | .benchNorProgram frame => Sys2Proof.Machine.execBenchNorProgram frame s
  | .benchReboot frame b => Sys2Proof.Machine.execBenchReboot frame b s
  | .restoreDefaults door value => Sys2Proof.Machine.execRestoreDefaults door value s
  | .lockNow door value => Sys2Proof.Machine.execLockNow door value s
  | .lockPoint => Sys2Proof.Machine.execLockPoint s
  | .libraryOpenLoader b seq => Sys2Proof.Machine.execLibraryOpenLoader b seq s
  | .libraryClamp b seq => Sys2Proof.Machine.execLibraryClamp b seq s
  | .libraryStopLoader b seq => Sys2Proof.Machine.execLibraryStopLoader b seq s
  | .libraryAnswerLoaded b seq lead => Sys2Proof.Machine.execLibraryAnswerLoaded b seq lead s
  | .libraryAnswerUnloaded b seq => Sys2Proof.Machine.execLibraryAnswerUnloaded b seq s
  | .libraryAnswerUnavailable b seq => Sys2Proof.Machine.execLibraryAnswerUnavailable b seq s
  | .libraryRequestTimeout b => Sys2Proof.Machine.execLibraryRequestTimeout b s
  | .blankRequestRetry b => Sys2Proof.Machine.execBlankRequestRetry b s
  | .unloadRepost b => Sys2Proof.Machine.execUnloadRepost b s
  | .discInserted b lead => Sys2Proof.Machine.execDiscInserted b lead s
  | .ethercatStateChange st seqs => Sys2Proof.Machine.execEthercatStateChange st seqs s
  | .pdoWatchdogExpiry => Sys2Proof.Machine.execPdoWatchdogExpiry s
  | .adminArm door value => Sys2Proof.Machine.execAdminArm door value s
  | .armWindowExpiry => Sys2Proof.Machine.execArmWindowExpiry s
  | .adminRequestFormat door nsid cdw10 cdw11 => Sys2Proof.Machine.execAdminRequestFormat door nsid cdw10 cdw11 s
  | .adminRequestSanitize door nsid cdw10 cdw11 => Sys2Proof.Machine.execAdminRequestSanitize door nsid cdw10 cdw11 s
  | .adminRequestNamespaceDelete door nsid cdw10 cdw11 => Sys2Proof.Machine.execAdminRequestNamespaceDelete door nsid cdw10 cdw11 s
  | .adminPolicyChange door value => Sys2Proof.Machine.execAdminPolicyChange door value s
  | .adoptTier door value => Sys2Proof.Machine.execAdoptTier door value s
  | .powerHandshakeDelay => Sys2Proof.Machine.execPowerHandshakeDelay s
  | .powerWake b => Sys2Proof.Machine.execPowerWake b s
  | .policyIdleTimer => Sys2Proof.Machine.execPolicyIdleTimer s
  | .shoalWatchCycle mv12 mvField temps discs links b => Sys2Proof.Machine.execShoalWatchCycle mv12 mvField temps discs links b s
  | .msixCoalesceTimer => Sys2Proof.Machine.execMsixCoalesceTimer s
  | .emergencyMessageSent => Sys2Proof.Machine.execEmergencyMessageSent s
  | .pcieLinkUp p rate width reversed inverted => Sys2Proof.Machine.execPcieLinkUp p rate width reversed inverted s
  | .ethercatPortLinkChange port up => Sys2Proof.Machine.execEthercatPortLinkChange port up s
  | .discRemoved b => Sys2Proof.Machine.execDiscRemoved b s
  | .temperatureThresholdCrossing sensor t => Sys2Proof.Machine.execTemperatureThresholdCrossing sensor t s
  | .spdmRequest p msg => Sys2Proof.Machine.execSpdmRequest p msg s
  | .retentionAgeReached nsid idx pos => Sys2Proof.Machine.execRetentionAgeReached nsid idx pos s
  | .laserFaultClear b => Sys2Proof.Machine.execLaserFaultClear b s

end Sys2Proof.Machine
end

