-- ==== Sys2Proof/Safety.lean ====
section
/-! DEFINITION. The terms the statements use: what a command yields, states in which a door, a bay or the host side is served,
the canonical form and bounds that every run keeps. -/

namespace Sys2Proof.Machine

open Sys2Proof

/-- Command c completes on s in a next state of which P holds. -/
def Yields (c : Instr) (s : State) (P : State → Prop) : Prop :=
  ∃ t, exec c s = .next t ∧ P t

/-- The newest record of an event has this cause and these data (R504, R506). -/
def HasEvent (ev cause : Nat) (data : List Nat) (t : State) : Prop :=
  ((t.evt.log.find? fun r => r.ev == ev).map fun r => (r.cause, r.data)) = some (cause, data)

/-- The device runs, in a power state whose domains serve every door (R491, R499). -/
def Active (s : State) : Prop :=
  s.phase = .running ∧ s.pwr.ps < 3

/-- A door takes a write: the device is active, and the mailbox is not in Init (R463). -/
def Served (door : Door) (s : State) : Prop :=
  Active s ∧ (door = .ethercat → s.doors.ecat ≠ .init)

/-- No command waits in flight and no shutdown runs, so that nothing else completes with the next command. -/
def Quiet (s : State) : Prop :=
  s.hs.inflight = [] ∧ s.hs.waitR = [] ∧ ∀ p : PortId, (s.ctrls.get p).shst ≠ 1

/-- A queue of a ready controller whose completions have somewhere to go, on a device that dispatches its commands: no
handshake runs, no dip, no map region is missing, the write cache is within its limit. -/
def HostReady (src : Src) (s : State) : Prop :=
  Active s ∧ Quiet s ∧ s.pwr.shaking = none ∧ s.sup.dip = false ∧ s.hs.regions = [] ∧ s.hs.promoted = [] ∧
    s.hs.rebuilding = [] ∧ (s.ctrls.get src.port).rdy = true ∧
    ∃ q k, (s.ctrls.get src.port).sq? src.sq = some q ∧ (s.ctrls.get src.port).cq? q.cqid = some k

/-- A command's own pointers have no fault (R51); an admin command uses PRPs (R47). -/
def Reaches (src : Src) (c : NvmeCmd) (s : State) : Prop :=
  dataFault s src c = none ∧ (isAdmin c = true → src.dptr.psdt = 0)

/-- The admin queue of a ready controller (R36). -/
def AdminReady (src : Src) (s : State) : Prop :=
  src.sq = 0 ∧ HostReady src s ∧ s.adm.running = []

/-- An I/O queue of a ready controller (R36). -/
def IoReady (src : Src) (s : State) : Prop :=
  src.sq ≠ 0 ∧ HostReady src s ∧ s.adm.running = [] ∧ s.adm.formatNs = [] ∧ sanitizeGate s = none

/-- The newest entry of the completion queue a command answers to (R40). -/
def newest (src : Src) (t : State) : Option Completion :=
  ((t.ctrls.get src.port).sq? src.sq).bind fun q =>
    ((t.ctrls.get src.port).cq? q.cqid).bind fun k => (k.posted ++ k.waiting).getLast?

/-- The newest entry of the completion queue a command answers to is the command's, with this status (R40). -/
def Answered (src : Src) (st : Status) (t : State) : Prop :=
  (newest src t).map (fun c => (c.cid, c.sq, (c.sct, c.sc))) = some (src.cid, src.sq, st.code)

/-- The bays, the flash tier, the archive, the part and the dictionary are as they were. -/
def DeviceKept (s t : State) : Prop :=
  t.bays = s.bays ∧ t.flash = s.flash ∧ t.ebb = s.ebb ∧ t.part = s.part ∧ t.doors = s.doors

/-- A namespace's zones other than the one named, and every other namespace's, are as they were. -/
def OtherZones (nsid idx : Nat) (s t : State) : Prop :=
  ∀ a b : Nat, (a, b) ≠ (nsid, idx) → zoneOf t a b = zoneOf s a b

/-- What no I/O command but an archive command touches: the bays, the part, the firmware, the dictionary, the power state,
the supplies. -/
def IoKept (s t : State) : Prop :=
  t.bays = s.bays ∧ t.part = s.part ∧ t.fw = s.fw ∧ t.doors = s.doors ∧ t.pwr = s.pwr ∧ t.sup = s.sup

/-- An I/O queue whose next command names a zoned namespace it may use (R37). -/
def ZonedReady (src : Src) (nsid : Nat) (n : Ns) (s : State) : Prop :=
  IoReady src s ∧ nsGate s src.port nsid = .ok n ∧ n.fdp = false ∧ writeGate s src.port n = none

/-- What a command meets on its way in the memories and their tags is free of errors, and the bytes it moves have pointers without fault
(R51, R53). -/
def Sound (src : Src) (e : Env) (x : Xfer) (s : State) : Prop :=
  e.mem = [] ∧ e.tag = none ∧ ptrFault s src x = none

/-- A write of blocks out to zone z1, opened in s1, is committed: the zone holds them behind its write pointer, no other zone
changes, and the command completes at once from the cache or waits for its data to be programmed (R43, R49, R55, R90). -/
def Committed (src : Src) (n : Ns) (z1 : Zone) (out : List Blk) (fua : Bool) (s1 t : State) : Prop :=
  zoneOf t n.nsid z1.idx = z1.written n out (writerOf s1 src fua) ∧ OtherZones n.nsid z1.idx s1 t ∧
    t.hs.ns = s1.hs.ns ∧ t.flash = s1.flash ∧ t.ebb = s1.ebb ∧
    (fromCache s1 fua = true → Answered src .success t) ∧
    (fromCache s1 fua = false → z1.flashed ≤ z1.wp →
      t.hs.inflight.map (fun i => (i.port, i.sq, i.cid)) = [(src.port, src.sq, src.cid)])

/-- A door's write of one subindex that passes every check of R455 to R461, R469 and R484, and the object's own: the door is
served, the subindex exists and may be written now, the value has its length and lies in range. -/
def Takes (door : Door) (s : State) (index sub : Nat) (data : List Byte) : Prop :=
  Served door s ∧ sub < 256 ∧ objectExists s index = true ∧ subExists s index sub = true ∧ accessAbort s index sub = none ∧
    valueAbort s index (sub, data) = none ∧ policyRefuses door s index [(sub, data)] = false ∧
    ownAbort s (keepValue index s (sub, data)) index [(sub, data)] = none

/-- Takes, for a numeric value. -/
def TakesNum (door : Door) (s : State) (index sub v : Nat) : Prop :=
  Takes door s index sub (valueBytes s index sub v)

/-- Takes, for a numeric value of a bay's object. -/
def TakesBay (door : Door) (s : State) (b : BayId) (off sub v : Nat) : Prop :=
  TakesNum door s (bayIndex b off) sub v

/-- The door has its answer: the mailbox or the bench port hold success; Dictionary Write answers with a completion (R463,
R465). -/
def Acked (door : Door) (index sub : Nat) (t : State) : Prop :=
  match door with
  | .ethercat => t.doors.sdo = { index := index, sub := sub, abort := 0, data := [] }
  | .bench => t.doors.bench = benchAnswer 0 0 [] ∧ t.doors.benchReady = true
  | .nvme => True

/-- A numeric subindex holds v, and every other value of the dictionary is as it was (R457). -/
def NumKept (index sub v : Nat) (s t : State) : Prop :=
  num t index sub = v ∧ t.doors.doms = s.doors.doms ∧
    ∀ i k : Nat, k < 256 → (i, k) ≠ (index, sub) → num t i k = num s i k

/-- A DOMAIN or string subindex holds data, and every other value of the dictionary is as it was (R457). -/
def DomKept (index sub : Nat) (data : List Byte) (s t : State) : Prop :=
  dom t index sub = data ∧ t.doors.nums = s.doors.nums ∧
    ∀ i k : Nat, k < 256 → (i, k) ≠ (index, sub) → dom t i k = dom s i k

/-- A bay that takes motor commands: enabled, and not in bay-Harbour (R449, R475). -/
def BayOpen (s : State) (b : BayId) : Prop :=
  bayEnabled s b = true ∧ (bayAt s b).harbour = false

/-- Every other bay is as it was. -/
def OtherBays (b : BayId) (s t : State) : Prop :=
  ∀ x : BayId, x ≠ b → bayAt t x = bayAt s x

/-- The part, the firmware, the host side, the flash tier and the archive are as they were. -/
def StoresKept (s t : State) : Prop :=
  t.part = s.part ∧ t.fw = s.fw ∧ t.hs = s.hs ∧ t.flash = s.flash ∧ t.ebb = s.ebb

/-- One bay changes, with what its events reach and the answers of the doors: the other bays and the stores are as they
were. -/
def OneBay (b : BayId) (s t : State) : Prop :=
  OtherBays b s t ∧ StoresKept s t

/-- No spindle start waits for its turn (R409). -/
def NoneWaits (s : State) : Prop :=
  ∀ x : BayId, (bayAt s x).spin.waitStart = none

/-- A spindle that neither runs sensorless nor counts as starting nor brakes: a start begins or waits. -/
def AtRest (p : Spin) : Prop :=
  p.sensorless = false ∧ p.starting = false ∧ p.state ≠ 6

/-- The boot NOR's contents are in canonical form (R467, log 6). -/
def State.norOk (s : State) : Bool :=
  norWf s.fw.nor

end Sys2Proof.Machine
end

