-- ==== Sys2Proof/Certificates/Slice0/Obligations.lean ====
section
/-! DEFINITION. The statements for the provers, family by family. -/

open Sys2Proof Sys2Proof.Machine

/-- Power-on with a good image ends with the device running (R521, R556). -/
def Obligations.PowerOnRuns : Prop :=
  ∀ (b : Boot) (s : State) (img : FwImage),
    (s.fw.active = 1 → s.fw.slot1.image = some img → s.fw.slot1.marked = false → s.fw.slot2.marked = false →
      imageFault s img = 0 → tornCells s.part.arCells = [] → s.fw.slot1.everReady = true → b.hbm0 = true → b.hbm1 = true →
      Yields (.powerOnReset b) s fun t =>
        t.phase = .running ∧ t.fw.booted = 1 ∧ t.fw.version = img.version ∧ t.ports = portsOf b.straps ∧ t.lockPassed = false) ∧
    (s.fw.slot1.image = none → s.fw.slot2.image = none →
      Yields (.powerOnReset b) s fun t => t.phase = .bootRecovery ∧ t.fw.booted = 0 ∧ t.doors.nums = s.doors.nums) ∧
    (s.fw.watchdog = true → s.fw.booted = 1 → s.fw.slot2.image = some img → imageFault s img = 0 →
      tornCells s.part.arCells = [] → s.fw.slot2.everReady = true → b.hbm0 = true → b.hbm1 = true →
      Yields (.bootWatchdogExpiry b) s fun t => t.phase = .running ∧ t.fw.booted = 2 ∧ t.fw.watchdog = false)

/-- The causes of Harbour take a running device there, each with its number (R543, R540, R538, R514, R554). -/
def Obligations.HarbourCauses : Prop :=
  ∀ (s : State) (rail : Rail) (mv sensor : Nat) (temp : Int), s.phase = .running →
    let harbour := fun (cause : Nat) (t : State) =>
      t.phase = .harbour ∧ t.harbourCause = cause ∧ HasEvent 2 cause [] t ∧ t.adm.harbours = s.adm.harbours + 1 ∧ t.hs.held = [] ∧
        t.part = s.part ∧ t.fw = s.fw ∧ t.hs.zones = s.hs.zones ∧ t.flash = s.flash
    (s.sup.dip = true → Yields .dipTimeLimit s (harbour 3)) ∧
    (mv ≤ resetLevel s rail → Yields (.supplyResetLevel rail mv) s (harbour (match rail with | .supmon12 => 1 | .core => 2))) ∧
    (resetLevel s rail < mv → Yields (.supplyResetLevel rail mv) s fun t => t = putRail rail mv s) ∧
    Yields .fixedSupervisorTrip s (harbour 4) ∧
    Yields .managementWatchdogExpiry s (harbour 8) ∧
    (1250 ≤ temp → Yields (.junctionOverTemperature sensor temp) s (harbour 5)) ∧
    (temp < 1250 → Yields (.junctionOverTemperature sensor temp) s fun t => t = putTemp sensor temp s) ∧
    Yields .resetNAssert s (harbour 7) ∧
    (∀ (u : State) (cause : Nat), u.phase = .harbour → harbourCommit cause u = u)

/-- The flush of a Harbour ends in a reset or in a Harbour that remains (R545, R147, R554). -/
def Obligations.HarbourEnds : Prop :=
  ∀ s : State,
    (s.sup.flushing = true → resetCause s.harbourCause = true →
      Yields .harbourFlushEnd s fun t => t.phase = .held ∧ t.part = s.part ∧ t.pending = s.pending) ∧
    (s.sup.flushing = true → resetCause s.harbourCause = false → s.sup.resetN = true → s.sup.benchReset = false →
      Yields .harbourFlushEnd s fun t =>
        t.sup.flushing = false ∧ t.phase = s.phase ∧ (∀ z ∈ t.hs.zones, z.flashed = z.wp) ∧ t.part = s.part) ∧
    (s.phase = .harbour → s.harbourCause = 5 → s.sup.flushing = false → (∀ x ∈ s.sup.temps, x < 1050) →
      Yields .thermalHarbourRecovery s fun t => t.phase = .held ∧ t.part = s.part) ∧
    (s.phase = .starting → Yields .resetNAssert s fun t => t.phase = .held ∧ t.part = s.part)

/-- HOLDUP_OK and the hold-up self-test (R56, R550, R551, R552). -/
def Obligations.HoldupCommands : Prop :=
  ∀ (s : State) (v0 v1 : Nat) (door : Door), Active s →
    let kept := fun (t : State) => t.bays = s.bays ∧ t.flash = s.flash ∧ t.part = s.part ∧ t.hs.zones = s.hs.zones
    (s.sup.holdupOk = true → Yields .holdupOkFall s fun t => t.sup.holdupOk = false ∧ cacheProtected t = false ∧ kept t) ∧
    (s.sup.holdupOk = false → s.sup.testing = false → s.sup.dip = false → s.sup.testEnd = none →
      Yields (.holdupOkRise v0) s fun t =>
        t.sup.holdupOk = true ∧ t.sup.testing = true ∧ t.sup.v0 = v0 ∧ t = { s with sup := t.sup }) ∧
    (s.sup.holdupOk = true → s.sup.testing = false → s.sup.dip = false → s.sup.testEnd = none → num s 0x2040 8 ≠ 0 →
      Yields (.holdupSelfTestInterval v0) s fun t =>
        t.sup.testing = true ∧ t.sup.result = 1 ∧ t.sup.v0 = v0 ∧ t = { s with sup := t.sup }) ∧
    (Served door s → s.sup.holdupOk = true → s.sup.testing = false → s.sup.dip = false → s.sup.testEnd = none →
      Yields (.startSelfTest door 1 v0) s fun t => t.sup.testing = true ∧ t.sup.result = 1 ∧ t.sup.v0 = v0 ∧ kept t) ∧
    (s.sup.testing = true →
      Yields (.holdupSelfTestEnd v1) s fun t =>
        t.sup.testing = false ∧
          t.sup.result =
            (if 5 * requiredEnergy s ≤ 4 * usableEnergy s (bankCapacitance s s.sup.v0 v1) v1 then 2 else 3) ∧ kept t) ∧
    (s.sup.holdupOk = false → s.sup.holdupFell = false →
      Yields .holdupChargeWaitExpiry s fun t => HasEvent 5 0 [0, 0, 0, 0] t ∧ kept t ∧ t.sup = s.sup)

/-- A dip begins, is ridden, and its record (R539, R540, R541, R513, R514). -/
def Obligations.SupplyDips : Prop :=
  ∀ (s : State) (rail : Rail) (mv sensor : Nat) (temp : Int), Active s → 1 ≤ sensor → sensor ≤ 8 →
    (warnLevel s rail ≤ mv → Yields (.supplyDipStart rail mv) s fun t => t = putRail rail mv s) ∧
    (mv < warnLevel s rail → s.sup.dip = false →
      Yields (.supplyDipStart rail mv) s fun t =>
        t.sup.dip = true ∧ t.sup.dipRail = railCode rail ∧ t.sup.dipFrom = s.clock ∧ t.sup.dipLow = mv ∧
          t.part = s.part ∧ t.fw = s.fw ∧ t.hs.zones = s.hs.zones ∧ t.flash = s.flash) ∧
    (s.sup.dip = true →
      Yields .dipRidden s fun t =>
        t.sup.dip = false ∧ t.adm.ridden = s.adm.ridden + 1 ∧ t.hs.held = [] ∧ t.hs.zones = s.hs.zones ∧
          t.part = s.part ∧ t.flash = s.flash) ∧
    (s.pwr.thermalCap = false → 378 ≤ kelvin (compositeTemp (putTemp sensor temp s)) →
      Yields (.cctempReached sensor temp) s fun t =>
        t.pwr.thermalCap = true ∧ HasEvent 10 1 (tempData sensor temp) t ∧ t.hs = s.hs ∧ t.bays = s.bays ∧ t.part = s.part) ∧
    (s.pwr.thermalCap = true → kelvin (compositeTemp (putTemp sensor temp s)) ≤ 373 →
      Yields (.thermalThrottleRelease sensor temp) s fun t =>
        t.pwr.thermalCap = false ∧ HasEvent 10 2 (tempData sensor temp) t ∧ t.hs = s.hs ∧ t.bays = s.bays ∧ t.part = s.part) ∧
    (kelvin (compositeTemp s) < s.hs.tempOver → s.hs.tempOver ≤ kelvin (compositeTemp (putTemp sensor temp s)) →
      Yields (.temperatureThresholdCrossing sensor temp) s fun t =>
        t.evt.overTemp = true ∧ HasEvent 8 0 (tempData sensor temp) t ∧ t.hs = s.hs ∧ t.bays = s.bays ∧ t.part = s.part)

/-- Each reset acts on one controller and raises its event (R13, R26, R39, R154). -/
def Obligations.ControllerResets : Prop :=
  ∀ (p : PortId) (s : State), Active s → (s.ctrls.get p).present = true → (s.ctrls.get p).accessible = true →
    (s.ctrls.get p).en = true → (s.ctrls.get p).perst = false → (s.ctrls.get p).linkUp = true →
    let gone := fun (t : State) =>
      (t.ctrls.get p).rdy = false ∧ (t.ctrls.get p).en = false ∧ (t.ctrls.get p).sqs = [] ∧ (t.ctrls.get p).cqs = [] ∧
        (t.ctrls.get p).aers = [] ∧ (∀ i ∈ t.hs.inflight, i.port ≠ p) ∧
        (∀ q : PortId, q ≠ p → (t.ctrls.get q).rdy = (s.ctrls.get q).rdy ∧ (t.ctrls.get q).sqs = (s.ctrls.get q).sqs) ∧
        t.hs.zones = s.hs.zones ∧ t.bays = s.bays ∧ t.flash = (discardOwned (fun o => o.1 == p) s).flash ∧ t.part = s.part
    Yields (.ccEnClear p) s (fun t => gone t ∧ HasEvent (40 + p.val) 1 [] t) ∧
    Yields (.functionLevelReset p) s (fun t => gone t ∧ HasEvent (40 + p.val) 2 [] t) ∧
    Yields (.hotReset p) s (fun t => gone t ∧ HasEvent (40 + p.val) 3 [] t) ∧
    Yields (.perstNAssert p) s (fun t => gone t ∧ HasEvent (40 + p.val) 5 [] t ∧ (t.ctrls.get p).linkUp = false) ∧
    Yields (.linkDown p) s (fun t => gone t ∧ HasEvent (32 + p.val) 1 [0, 0] t ∧ (t.ctrls.get p).linkUp = false)

/-- A port comes up and its controller is enabled and shut down (R18, R19, R22, R26, R27, R61). -/
def Obligations.ControllerComesUp : Prop :=
  ∀ (p : PortId) (s : State) (rate r width asqs acqs mps ams : Nat) (reversed : Bool) (inverted : List Nat), Active s → (s.ctrls.get p).present = true →
    Yields (.perstNRelease p) s (fun t =>
      (t.ctrls.get p).accessible = true ∧ (t.ctrls.get p).perst = false ∧ t = { s with ctrls := t.ctrls } ∧
        ∀ q : PortId, q ≠ p → t.ctrls.get q = s.ctrls.get q) ∧
    ((s.ctrls.get p).perst = false → linkRate rate = some r →
      let w := min width (splitWidth s)
      Yields (.pcieLinkUp p rate width reversed inverted) s fun t =>
        (t.ctrls.get p).linkUp = true ∧ (t.ctrls.get p).rate = r ∧ (t.ctrls.get p).width = w ∧
          (t.ctrls.get p).flit = (r == 64) ∧ (t.ctrls.get p).reversed = reversed ∧ (t.ctrls.get p).inverted = inverted ∧
          HasEvent (32 + p.val) (if r < 64 ∨ w < splitWidth s then 3 else 2) [r, w] t ∧ t.hs = s.hs ∧
          t.bays = s.bays ∧ t.flash = s.flash) ∧
    ((s.ctrls.get p).accessible = true → (s.ctrls.get p).en = false → 2 ≤ asqs → asqs ≤ 4096 → 2 ≤ acqs → acqs ≤ 4096 →
      mps ≤ 4 → ams ≤ 1 →
      Yields (.controllerEnable p asqs acqs mps ams) s fun t =>
        (t.ctrls.get p).rdy = true ∧ ((t.ctrls.get p).sqs.map fun q => (q.qid, q.size)) = [(0, asqs)] ∧
          ((t.ctrls.get p).cqs.map fun q => (q.qid, q.size)) = [(0, acqs)] ∧ t = { s with ctrls := t.ctrls } ∧
          ∀ q : PortId, q ≠ p → t.ctrls.get q = s.ctrls.get q) ∧
    ((s.ctrls.get p).accessible = true → (s.ctrls.get p).shst = 0 → ownTargets s p = [] →
      Yields (.shutdownNotification p) s fun t =>
        (t.ctrls.get p).shst = 2 ∧ HasEvent (40 + p.val) 4 [] t ∧ t.hs = s.hs ∧ t.bays = s.bays ∧ t.flash = s.flash)

/-- Doorbells, fetch, fetch errors and register writes (R23, R29, R35, R40, R45, R46, R103). -/
def Obligations.DoorbellsAndFetch : Prop :=
  ∀ (p : PortId) (s : State) (qid n tail head cid : Nat) (c : NvmeCmd) (d : Dptr) (q : Sq) (k : Cq) (v : BitVec 64), Active s →
    let entry := fun (e : Fetched) => (e.cid, e.cmd, e.dptr)
    let only := fun (t : State) => t = { s with ctrls := t.ctrls } ∧ ∀ x : PortId, x ≠ p → t.ctrls.get x = s.ctrls.get x
    ((s.ctrls.get p).rdy = true → (s.ctrls.get p).sq? qid = some q → tail < q.size →
      Yields (.sqTailDoorbell p qid tail) s fun t => (t.ctrls.get p).sq? qid = some { q with tail := tail } ∧ only t) ∧
    ((s.ctrls.get p).rdy = true → (s.ctrls.get p).sq? qid = some q → q.size ≤ tail →
      Yields (.sqTailDoorbell p qid tail) s fun t => ((t.ctrls.get p).sq? qid).map (·.stopped) = some true ∧ only t) ∧
    ((s.ctrls.get p).rdy = true → (s.ctrls.get p).cq? qid = some k → k.waiting = [] → k.consumed head = some n →
      Yields (.cqHeadDoorbell p qid head) s fun t =>
        ((t.ctrls.get p).cq? qid).map (fun x => (x.head, x.posted)) = some (head, k.posted.drop n) ∧ only t) ∧
    ((s.ctrls.get p).sq? qid = some q → mayFetch s p q = true →
      Yields (.commandFetch p qid cid c d) s fun t =>
        (((t.ctrls.get p).sq? qid).map fun x => (x.head, x.tail, x.fetched.map entry)) =
            some ((q.head + 1) % max 1 q.size, q.tail, q.fetched.map entry ++ [(cid, c, d)]) ∧
          t = { s with ctrls := t.ctrls } ∧ ∀ x : PortId, x ≠ p →
            ((t.ctrls.get x).sqs.map fun y => (y.qid, y.head, y.tail, y.fetched.map entry)) =
              ((s.ctrls.get x).sqs.map fun y => (y.qid, y.head, y.tail, y.fetched.map entry))) ∧
    ((s.ctrls.get p).sq? qid = some q → mayFetch s p q = true →
      Yields (.fetchError p qid) s fun t =>
        (t.ctrls.get p).cfs = true ∧ HasEvent (36 + p.val) 0 [] t ∧ t.hs = s.hs ∧ t.bays = s.bays ∧ t.flash = s.flash) ∧
    ((s.ctrls.get p).accessible = true → (s.ctrls.get p).en = false →
      Yields (.registerWrite (.bar p 0x28 v)) s fun t => (t.ctrls.get p).asq = v ∧ only t)

/-- I/O queues are created and deleted (R29, R34, R38, R51, R67, R154, R459). -/
def Obligations.QueueCommands : Prop :=
  ∀ (src : Src) (s : State) (qid size cqid prio iv : Nat), AdminReady src s → 0 < qid → qid ≤ allocOf s src.port →
    2 ≤ size → size ≤ 16384 →
    let kept := fun (t : State) => DeviceKept s t ∧ t.hs.zones = s.hs.zones ∧ t.hs.ns = s.hs.ns
    (Reaches src (.createCq qid size iv) s → ((s.ctrls.get src.port).cq? qid).isNone → iv < 2047 →
      Yields (.createIoCq src qid size iv) s fun t =>
        Answered src .success t ∧ ((t.ctrls.get src.port).cq? qid).map (fun k => (k.size, k.iv)) = some (size, iv) ∧
          t.lockPassed = true ∧ kept t) ∧
    (Reaches src (.createSq qid size cqid prio) s → ((s.ctrls.get src.port).sq? qid).isNone → cqid ≠ 0 → ((s.ctrls.get src.port).cq? cqid).isSome →
      Yields (.createIoSq src qid size cqid prio) s fun t =>
        Answered src .success t ∧ ((t.ctrls.get src.port).sq? qid).map (fun q => (q.size, q.cqid)) = some (size, cqid) ∧
          t.lockPassed = true ∧ kept t) ∧
    (Reaches src (.deleteSq qid) s → ((s.ctrls.get src.port).sq? qid).map (·.fetched) = some [] → sqIdle s src.port qid = true →
      Yields (.deleteIoSq src qid) s fun t =>
        Answered src .success t ∧ ((t.ctrls.get src.port).sq? qid).isNone ∧
          t.flash = (discardOwned (fun o => o == (src.port, qid)) s).flash ∧ DeviceKept { s with flash := t.flash } t ∧
          t.hs.zones = s.hs.zones ∧ t.hs.ns = s.hs.ns) ∧
    (Reaches src (.deleteCq qid) s → ((s.ctrls.get src.port).cq? qid).isSome → (∀ q ∈ (s.ctrls.get src.port).sqs, q.cqid ≠ qid) →
      Yields (.deleteIoCq src qid) s fun t =>
        Answered src .success t ∧ ((t.ctrls.get src.port).cq? qid).isNone ∧ kept t)

/-- Features are set and read back (R34, R36, R47, R57, R63, R67, R508). -/
def Obligations.FeatureCommands : Prop :=
  ∀ (src : Src) (s : State) (dw : Dword) (ms nsq ncq sq cid : Nat) (v : Dword × List Byte) (fid nsid dw11 : Nat)
    (on' : Bool) (types : List Nat), AdminReady src s → src.dptr.psdt = 0 →
    let kept := fun (t : State) => DeviceKept s t ∧ t.hs.zones = s.hs.zones ∧ t.hs.ns = s.hs.ns
    let feat := fun (t : State) => (t.ctrls.get src.port).feat
    let ok := fun (t : State) => Answered src .success t ∧ kept t
    (dirtyTargets s none = [] → ∀ on : Bool, Yields (.setFeaturesVolatileWriteCache src on false) s fun t => t.hs.wce = on ∧ ok t) ∧
    Yields (.setFeaturesVolatileWriteCache src true true) s (fun t => Answered src .notSaveable t ∧ kept t ∧ t.hs.wce = s.hs.wce) ∧
    Yields (.setFeaturesNumberOfQueues src nsq ncq) s (fun t => ok t ∧ feat t = feat s) ∧
    Yields (.setFeaturesArbitration src dw) s (fun t => (feat t).arbitration = dw ∧ ok t) ∧
    (bitsOf dw.toNat 16 21 = 0 →
      Yields (.setFeaturesTemperatureThreshold src dw) s fun t => t.hs.tempOver = bitsOf dw.toNat 0 15 ∧ ok t) ∧
    Yields (.setFeaturesInterruptCoalescing src dw) s (fun t => (feat t).coalescing = dw ∧ ok t) ∧
    (bitsOf dw.toNat 0 15 ≤ 2047 →
      Yields (.setFeaturesInterruptVectorConfig src dw) s fun t => getKey (bitsOf dw.toNat 0 15) (feat t).vectors = some dw ∧ ok t) ∧
    Yields (.setFeaturesAsyncEventConfig src dw) s (fun t => (feat t).asyncConfig = dw ∧ ok t) ∧
    (ms < 2 ^ 48 → Reaches src (.setTimestamp ms) s → Yields (.setFeaturesTimestamp src ms) s fun t => t.hs.timestamp = ms ∧ ok t) ∧
    (s.hs.ns = [] → bitsOf dw.toNat 8 15 = 0 → Reaches src (.setFdp 0 0x1D dw on' types) s →
      Yields (.setFeaturesFdp src 0 0x1D dw on' types) s fun t => t.hs.fdpOn = bitOf dw.toNat 0 ∧ ok t) ∧
    (featureValue s src.port fid nsid dw11 = some v → Reaches src (.getFeatures fid nsid dw11) s → Yields (.getFeatures src fid nsid dw11) s ok) ∧
    Yields (.abort src sq cid) s ok ∧
    ((s.ctrls.get src.port).aers.length < 8 → (s.ctrls.get src.port).errorPending = [] →
      (s.ctrls.get src.port).smartPending = [] → (s.ctrls.get src.port).pendingGroup = none →
      Yields (.asyncEventRequest src) s fun t => (t.ctrls.get src.port).aers = (s.ctrls.get src.port).aers ++ [src.cid] ∧ kept t)

/-- Log pages, Identify and the dictionary are read (R25, R67, R77, R513, R515). -/
def Obligations.ReportCommands : Prop :=
  ∀ (src : Src) (s : State) (lid nsid off len cns cntid csi index sub : Nat) (ca : Bool) (page data v : List Byte),
    AdminReady src s →
    let kept := fun (t : State) => DeviceKept s t ∧ t.hs = s.hs ∧ t.evt = s.evt
    (Reaches src (.getLogPage lid nsid off len true) s → logPage s src.port lid nsid = some page → off % 4 = 0 → off ≤ page.length →
      Yields (.getLogPage src lid nsid off len true) s fun t =>
        Answered src .success t ∧ (newest src t).map (·.data) = some ((page.drop off).take len) ∧ kept t) ∧
    (Reaches src (.identify cns nsid cntid csi) s → identifyData s src.port cns nsid cntid csi = .ok data →
      Yields (.identify src cns nsid cntid csi) s fun t =>
        Answered src .success t ∧ (newest src t).map (·.data) = some data ∧ kept t) ∧
    (Reaches src (.dictRead 0 index sub ca len 0) s → readDict s index sub ca = .ok v → 0 < len → len ≤ 4096 → v.length ≤ len →
      Yields (.dictionaryRead src 0 index sub ca len 0) s fun t =>
        Answered src .success t ∧ (newest src t).map (·.data) = some v ∧ kept t)

/-- Namespaces are created, deleted, attached and detached (R85, R98, R67, R144, R484). -/
def Obligations.NamespaceCommands : Prop :=
  ∀ (src : Src) (s : State) (spec : NsSpec) (nsid : Nat) (n : Ns) (p : PortId), AdminReady src s →
    let kept := fun (t : State) => t.bays = s.bays ∧ t.part = s.part ∧ t.fw = s.fw
    (Reaches src (.nsCreate spec) s → createCheck s spec = none → freeNsid s = some nsid →
      Yields (.namespaceCreate src spec) s fun t =>
        Answered src .success t ∧ nsOf t nsid = some { newNs s spec with nsid := nsid } ∧ t.hs.zones = s.hs.zones ∧
          t.flash = s.flash ∧ t.ebb = s.ebb ∧ kept t) ∧
    (Reaches src (.nsDelete nsid) s → operationStatus s 3 (nsid % 2 ^ 24) = none → deleteCheck s nsid = none → nsid ≠ 0xFFFFFFFF →
      Yields (.namespaceDelete src nsid) s fun t =>
        Answered src .success t ∧ nsOf t nsid = none ∧ (∀ z ∈ t.hs.zones, z.nsid ≠ nsid) ∧ kept t) ∧
    (Reaches src (.nsAttach nsid [p]) s → nsOf s nsid = some n → (s.ctrls.get p).present = true → n.attached.contains p = false →
      Yields (.namespaceAttach src nsid [p]) s fun t =>
        Answered src .success t ∧ (nsOf t nsid).map (·.attached) = some (n.attached ++ [p]) ∧ t.hs.zones = s.hs.zones ∧
          t.flash = s.flash ∧ kept t) ∧
    (Reaches src (.nsDetach nsid [p]) s → nsOf s nsid = some n → (s.ctrls.get p).present = true → n.attached.contains p = true →
      Yields (.namespaceDetach src nsid [p]) s fun t =>
        Answered src .success t ∧ (nsOf t nsid).map (·.attached) = some (n.attached.filter fun x => x != p) ∧
          t.hs.zones = s.hs.zones ∧ t.flash = s.flash ∧ kept t)

/-- Firmware is downloaded, stored and marked (R520, R521). -/
def Obligations.FirmwareCommands : Prop :=
  ∀ (src : Src) (s : State) (off slot : Nat) (bytes : List Byte) (image : FwImage), AdminReady src s →
    let kept := fun (t : State) => DeviceKept s t ∧ t.hs.zones = s.hs.zones ∧ t.hs.ns = s.hs.ns
    (Reaches src (.fwDownload off bytes) s → off % 4 = 0 → bytes.length % 4 = 0 → bytes ≠ [] → off + bytes.length ≤ slotSize →
      Yields (.firmwareImageDownload src off bytes) s fun t =>
        Answered src .success t ∧ (∀ i, i < bytes.length → getKey (off + i) t.fw.download = bytes[i]?) ∧ t.fw.nor = s.fw.nor ∧ kept t) ∧
    (src.dptr.psdt = 0 → imageFault s image = 0 → slot = 1 ∨ slot = 2 →
      Yields (.firmwareCommitStore src 0 slot image) s (fun t =>
        Answered src .success t ∧ (slotOf t.fw slot).image = some image ∧ (slotOf t.fw slot).marked = false ∧
          slotOf t.fw (3 - slot) = slotOf s.fw (3 - slot) ∧ kept t) ∧
      Yields (.firmwareCommitStore src 1 slot image) s fun t =>
        Answered src .needsReset t ∧ (slotOf t.fw slot).image = some image ∧ (slotOf t.fw slot).marked = true ∧
          (slotOf t.fw (3 - slot)).marked = false ∧ kept t) ∧
    (src.dptr.psdt = 0 → (slotOf s.fw slot).image = some image → imageFault s image = 0 → slot = 1 ∨ slot = 2 →
      Yields (.firmwareCommitActivate src 2 slot) s fun t =>
        Answered src .needsReset t ∧ (slotOf t.fw slot).marked = true ∧ (slotOf t.fw (3 - slot)).marked = false ∧
          t.fw.nor = s.fw.nor ∧ kept t)

/-- Format NVM and Sanitize start and end (R48, R484, R517, R518, R519). -/
def Obligations.FormatAndSanitize : Prop :=
  ∀ (src : Src) (s : State) (nsid lbaf pi ses : Nat) (mset : Bool) (n : Ns), AdminReady src s →
    src.dptr.psdt = 0 →
    (operationStatus s 1 (nsid % 2 ^ 24) = none → formatCheck s nsid { lbaf := lbaf, mset := mset, pi := pi, ses := ses } = none → nsOf s nsid = some n →
      Yields (.formatNvm src nsid lbaf pi ses mset) s fun t =>
        t.adm.running = [1] ∧ (∀ z ∈ t.hs.zones, z.nsid ≠ nsid) ∧
          (nsOf t nsid).map (fun m => (m.lbaf, m.mset, m.pi)) = some (lbaf, mset, pi) ∧
          t.hs.inflight = [{ port := src.port, sq := src.sq, cid := src.cid, wait := .format }] ∧ t.bays = s.bays ∧ t.part = s.part) ∧
    (operationStatus s 2 0 = none → sanitizeCheck s 2 = none →
      Yields (.sanitizeBlockErase src) s fun t =>
        Answered src .success t ∧ t.adm.running = [2] ∧ t.adm.sanitizeEver = 2 ∧ t.hs.zones = [] ∧
          (s.ebb.recalls = [] → t.bays = s.bays) ∧ t.part = s.part ∧ t.fw = s.fw) ∧
    (operationStatus s 2 0 = none → sanitizeCheck s 4 = none →
      Yields (.sanitizeCryptoErase src) s fun t =>
        Answered src .success t ∧ t.adm.running = [2] ∧ t.adm.sanitizeEver = 2 ∧ t.hs.zones = [] ∧
          (s.ebb.recalls = [] → t.bays = s.bays) ∧ t.part = s.part ∧ t.fw = s.fw) ∧
    (operationStatus s 2 0 = none →
      Yields (.sanitizeExitFailureMode src) s fun t =>
        Answered src .success t ∧ t.adm.sanitizeFailed = false ∧ t.hs.zones = s.hs.zones ∧ DeviceKept s t) ∧
    Yields .formatComplete { s with adm := { s.adm with running := [1] } } (fun t =>
      t.adm.running = [] ∧ t.adm.formatNs = [] ∧ t.hs.zones = s.hs.zones ∧ t.bays = s.bays) ∧
    Yields .sanitizeComplete { s with adm := { s.adm with running := [2] } } fun t =>
      t.adm.running = [] ∧ t.adm.sanitizeFailed = sanitizeFails s ∧ t.adm.sanitizeEver = (if sanitizeFails s then 3 else 1) ∧ t.bays = s.bays

/-- Write, Zone Append and Write Zeroes on a zoned namespace (R37, R43, R44, R49, R55, R88, R90, R91, R587). -/
def Obligations.WriteCommands : Prop :=
  ∀ (src : Src) (e : Env) (s s1 : State) (nsid slba cnt : Nat) (blks out : List Blk) (fua : Bool) (pi : PiCtl) (h : Option Nat)
    (n : Ns) (z1 : Zone) (m : ZMove), ZonedReady src nsid n s →
    let x := n.xfer pi false blks.length
    let z := zoneOf s nsid (slba / n.zsze)
    let at' := slba / n.zsze * n.zsze + z.wp
    table33 z .write = .ok m → slba / n.zsze * n.zsze + n.zsze ≤ n.size →
    (Sound src e x s → blks ≠ [] → blks.length ≤ 1024 → slba + blks.length ≤ n.size → cacheRoom s blks.length = true →
      wpGate z n (slba % n.zsze) blks.length false = none → openForWrite z true s = .ok (z1, s1) →
      entryBlks n pi false at' at' 0 blks = .ok out →
      Yields (.write src e nsid slba blks fua pi h) s fun t => Committed src n z1 out fua s1 t ∧ IoKept s t) ∧
    (Sound src e x s → blks ≠ [] → blks.length ≤ 512 → 0 < n.zsze → slba % n.zsze = 0 → cacheRoom s blks.length = true →
      wpGate z n 0 blks.length true = none → openForWrite z true s = .ok (z1, s1) →
      entryBlks n pi true slba at' 0 blks = .ok out →
      Yields (.zoneAppend src e nsid slba blks fua pi) s fun t =>
        Committed src n z1 out fua s1 t ∧ IoKept s t ∧
          (fromCache s1 fua = true →
            (newest src t).map (·.dw0) = some (BitVec.ofNat 32 (z1.idx * n.zsze + z1.wp)))) ∧
    (Sound src e {} s → 0 < cnt → slba + cnt ≤ n.size → cacheRoom s cnt = true →
      wpGate z n (slba % n.zsze) cnt false = none → openForWrite z false s = .ok (z1, s1) →
      Yields (.writeZeroes src e nsid slba cnt fua pi) s fun t => Committed src n z1 (zeroBlks n pi at' cnt) fua s1 t ∧ IoKept s t)

/-- Write and Dataset Management on an FDP namespace (R67, R104, R105, R37). -/
def Obligations.FdpCommands : Prop :=
  ∀ (src : Src) (e : Env) (s : State) (nsid slba : Nat) (blks out : List Blk) (fua : Bool) (pi : PiCtl) (n : Ns)
    (ranges : List (Nat × Nat)) (tg : Targets) (s1 : State), IoReady src s → nsGate s src.port nsid = .ok n → n.fdp = true → writeGate s src.port n = none →
    let x := n.xfer pi false blks.length
    let s0 := countRequests src x s
    (Sound src e x s → blks ≠ [] → blks.length ≤ 1024 → slba + blks.length ≤ n.size → cacheRoom s blks.length = true →
      entryBlks n pi false slba slba 0 blks = .ok out →
      placeFdp nsid (n.handles.getD 0 0) (writerOf s0 src fua) (out.length + 1) ((List.range out.length).map (slba + ·)) s0 =
        some (tg, s1) →
      Yields (.write src e nsid slba blks fua pi none) s fun t =>
        (nsOf t nsid).map (fun m => m.fdpWritten) = some (n.fdpWritten + out.length) ∧
          (∀ (i : Nat) (x : Blk), out[i]? = some x → ((nsOf t nsid).bind fun m => getKey (slba + i) m.fdpData) = some x) ∧
          (nsOf t nsid).map (fun m => m.fdpMap) = (nsOf s1 nsid).map (fun m => m.fdpMap) ∧ t.hs.zones = s1.hs.zones ∧
          t.flash = s1.flash ∧ (fromCache s fua = true → Answered src .success t) ∧ IoKept s t) ∧
    (Reaches src (.dsm nsid true ranges) s → (∀ r ∈ ranges, r.1 + r.2 ≤ n.size) →
      Yields (.datasetManagement src nsid true ranges) s fun t =>
        Answered src .success t ∧
          (nsOf t nsid).map (fun m => m.fdpData) =
            some (n.fdpData.filter fun x => !ranges.any fun r => decide (r.1 ≤ x.1) && decide (x.1 < r.1 + r.2)) ∧
          t.hs.zones = s.hs.zones ∧ IoKept s t)

/-- Read delivers what was written; Flush waits for what is not programmed (R42, R58, R59, R83, R94, R150, R199). -/
def Obligations.ReadAndFlush : Prop :=
  ∀ (src : Src) (e : Env) (s : State) (nsid slba cnt : Nat) (out : List Blk) (fua : Bool) (pi : PiCtl) (n : Ns),
    IoReady src s → nsGate s src.port nsid = .ok n →
    let z := zoneOf s nsid (slba / n.zsze)
    let off := slba % n.zsze
    let l := (List.range cnt).map fun i => { i := i, idx := z.idx, off := off + i, blk := readBlk n z (off + i) : ReadLba }
    let kept := fun (t : State) => t.hs.ns = s.hs.ns ∧ IoKept s t
    (n.fdp = false → Sound src e (n.xfer pi true cnt) s → 0 < cnt → cnt ≤ 1024 → slba + cnt ≤ n.size → reservAllows n src.port false = true → off + cnt ≤ n.zsze →
      z.st ≠ .offline → z.st ≠ .recallTarget → (fua = false ∨ min (off + cnt) z.wp ≤ z.flashed) →
      (∀ page ∈ pagesOf l, ∀ x ∈ page, effectiveStep z (memberOf z x.off) (mediaOf e.media page).step < 5) →
      (∀ x ∈ l, ∃ b, checkLba n slba e.media x = .ok (x.blk, b)) →
      exitBlks n pi slba 0 (l.map (·.blk)) = .ok out →
      Yields (.read src e nsid slba cnt fua pi) s fun t =>
        Answered src .success t ∧ (newest src t).map (·.blocks) = some out ∧ kept t) ∧
    (reservAllows n src.port true = true → dirtyTargets s (some nsid) = [] →
      Yields (.flush src nsid) s fun t => Answered src .success t ∧ t.hs.zones = s.hs.zones ∧ kept t) ∧
    (reservAllows n src.port true = true → (dirtyTargets s (some nsid)).all (targetMet s) = false →
      Yields (.flush src nsid) s fun t =>
        t.hs.inflight = [{ port := src.port, sq := src.sq, cid := src.cid, wait := .flush (dirtyTargets s (some nsid)) }] ∧
          (∀ p : PortId, (t.ctrls.get p).cqs = (s.ctrls.get p).cqs) ∧ t.hs.zones = s.hs.zones ∧ kept t)

/-- Zone Management Send moves a zone as Table 3.3 says (R89, R90, R92, R93, R100, R37). -/
def Obligations.ZoneCommands : Prop :=
  ∀ (src : Src) (s s1 : State) (nsid slba state len : Nat) (ext : Bool) (n : Ns) (m : ZMove), ZonedReady src nsid n s →
    let z := zoneOf s nsid (slba / n.zsze)
    let s0 := touchLine (zoneMapAddr s nsid z.idx) true s
    let moved := fun (t : State) =>
      Answered src .success t ∧ t.hs.zones = s1.hs.zones ∧ t.flash = s1.flash ∧ t.ebb = s1.ebb ∧ IoKept s t
    let same := fun (t : State) => t.hs.zones = s.hs.zones ∧ t.flash = s.flash ∧ t.ebb = s.ebb ∧ IoKept s t
    slba < n.size → 0 < n.zsze →
    (slba % n.zsze = 0 → moveZone z m s0 = .ok s1 →
      (table33 z .open = .ok m → Yields (.zoneOpen src nsid slba false) s moved) ∧
      (table33 z .close = .ok m → Yields (.zoneClose src nsid slba false) s moved) ∧
      (table33 z .finish = .ok m → Yields (.zoneFinish src nsid slba false) s moved) ∧
      (table33 z .reset = .ok m → Yields (.zoneReset src nsid slba false) s moved) ∧
      (table33 z .offline = .ok m → Yields (.zoneOffline src nsid slba false) s moved)) ∧
    Yields (.setZoneDescriptorExtension src nsid slba) s (fun t => Answered src .invalidField t ∧ same t) ∧
    (Reaches src (.zoneReceive nsid slba ext state len) s → state ≤ 7 → reservAllows n src.port false = true →
      Yields (.zoneManagementReceive src nsid slba ext state len) s fun t => Answered src .success t ∧ same t)

/-- Zones are archived, archives cancelled, recalled and queried (R69, R70, R71, R73, R75, R88, R95, R96, R252). -/
def Obligations.ArchiveCommands : Prop :=
  ∀ (src : Src) (s : State) (nsid slba tag id : Nat) (n : Ns) (m : ZMove) (o : Obj), ZonedReady src nsid n s →
    let z := zoneOf s nsid (slba / n.zsze)
    let kept := fun (t : State) => t.part = s.part ∧ t.fw = s.fw ∧ t.doors = s.doors
    slba < n.size → 0 < n.zsze → slba % n.zsze = 0 →
    (table33 z .archive = .ok m →
      Yields (.zoneArchive src nsid slba false tag 0) s fun t =>
        Answered src .success t ∧ (newest src t).map (·.dw0) = some (BitVec.ofNat 32 (nextObject s)) ∧
          zoneOf t nsid z.idx = { z with arch := .queued, obj := nextObject s, objLbas := z.wp, affinity := tag,
                                         changed := nowNs s, setId := 0, setK := 0 } ∧
          OtherZones nsid z.idx s t ∧ t.ebb.queue = s.ebb.queue ++ [nextObject s] ∧ t.hs.objNext = nextObject s + 1 ∧
          t.bays = s.bays ∧ t.flash = s.flash ∧ kept t) ∧
    (table33 z .cancel = .ok m →
      Yields (.archiveCancel src nsid slba false 0) s fun t =>
        Answered src .success t ∧ (zoneOf t nsid z.idx).arch = .resident ∧ (zoneOf t nsid z.idx).obj = 0 ∧
          OtherZones nsid z.idx s t ∧ t.ebb.queue = s.ebb.queue.filter (· != z.obj) ∧ t.bays = s.bays ∧ t.flash = s.flash ∧ kept t) ∧
    (table33 z .recall = .ok m → objOf s id = some o → o.lbaf = n.lbaf → o.lbas ≤ n.zcap → recallReason s o = 0 →
      activeFree s nsid = true → openFree s nsid = true → (bindZone z s).isSome →
      Yields (.zoneRecall src nsid slba id 0) s fun t =>
        Answered src .success t ∧ (zoneOf t nsid z.idx).st = .recallTarget ∧ (zoneOf t nsid z.idx).obj = o.oid ∧
          OtherZones nsid z.idx s t ∧ (∃ r ∈ t.ebb.recalls, r.obj = o.oid ∧ r.zone = z.idx) ∧ kept t) ∧
    (objOf s id = some o → Reaches src (.archiveQuery nsid id false 0 15 0) s →
      Yields (.archiveQuery src nsid id false 0 15 0) s fun t =>
        Answered src .success t ∧ (newest src t).map (·.data) = some (querySummary s o) ∧ t.ebb = s.ebb ∧ t.hs.zones = s.hs.zones ∧
          t.bays = s.bays ∧ t.flash = s.flash ∧ kept t)

/-- Reservations are registered, acquired, reported and released (R37, R67). The semantics are those of the NVMe Base
Specification as log 13 takes them. -/
def Obligations.ReservationCommands : Prop :=
  ∀ (src : Src) (s : State) (nsid rtype : Nat) (key new pk : BitVec 64) (n : Ns), IoReady src s →
    nsGate s src.port nsid = .ok n →
    let held := fun (t : State) (r : Reserv) =>
      Answered src .success t ∧ nsOf t nsid = some { n with resv := r } ∧ t.hs.zones = s.hs.zones ∧ IoKept s t
    (Reaches src (.resvRegister nsid 0 0 false key new) s → n.resv.key? src.port = none →
      Yields (.reservationRegister src nsid 0 0 false key new) s fun t =>
        held t { n.resv with keys := n.resv.keys ++ [(src.port, new)], gen := (n.resv.gen + 1) % 2 ^ 32 }) ∧
    (Reaches src (.resvAcquire nsid 0 rtype false key pk) s → n.resv.key? src.port = some key → n.resv.holder = none → 0 < rtype → rtype ≤ 6 →
      Yields (.reservationAcquire src nsid 0 rtype false key pk) s fun t =>
        held t { n.resv with holder := some src.port, rtype := rtype }) ∧
    (Reaches src (.resvRelease nsid 0 rtype false key) s → n.resv.key? src.port = some key → n.resv.holder = some src.port → n.resv.rtype = rtype →
      Yields (.reservationRelease src nsid 0 rtype false key) s fun t => held t { n.resv with holder := none, rtype := 0 }) ∧
    (Reaches src (.resvReport nsid) s → Yields (.reservationReport src nsid) s fun t =>
      Answered src .success t ∧ (newest src t).map (·.data) = some (resvData n.resv) ∧ t.hs.ns = s.hs.ns ∧
        t.hs.zones = s.hs.zones ∧ IoKept s t)

/-- The next fetched command leaves arbitration; a rebuilt map region is taken off the list (R36, R37, R103, R121,
R122, R493). -/
def Obligations.DispatchAndRebuild : Prop :=
  ∀ (e : Env) (src : Src) (s : State) (p : PortId) (qid left index sub r ps : Nat) (h : Fetched) (q : Sq) (data : List Byte)
    (ca : Bool),
    (chooseNext s = some (p, qid, left) → (s.ctrls.get p).sq? qid = some q → q.fetched.head? = some h →
      ∃ s1, Yields (.commandDispatch e) s (fun t =>
          t = markWaiting (settle (runNvme { port := p, sq := qid, cid := h.cid, dptr := h.dptr } h.cmd e s1))) ∧
        ((s1.ctrls.get p).sq? qid).map (·.fetched) = some q.fetched.tail ∧ s1.hs.burstSq = qid ∧ s1.hs.burstLeft = left ∧
        s1.hs.rr = p.val ∧ s1 = { s with ctrls := s1.ctrls, hs := s1.hs } ∧
        ∀ x : PortId, x ≠ p → s1.ctrls.get x = s.ctrls.get x) ∧
    (chooseNext s = none → Yields (.commandDispatch e) s (· = s)) ∧
    (Active s → Quiet s → s.hs.regions = [] → s.hs.promoted = [] → (∃ x ∈ s.hs.rebuilding, x.1 = r) →
      Yields (.mapRegionRebuildComplete r) s fun t =>
        t.hs.rebuilding = s.hs.rebuilding.filter (fun x => x.1 != r) ∧
          (t.hs.rebuilding = [] → HasEvent 46 0 (evBytes 4 ((s.clock - s.hs.rebuildFrom) / 1600000)) t) ∧
          t.hs.zones = s.hs.zones ∧ IoKept s t) ∧
    (let s0 := countRequests src { data := data.length } s;
      let w := writeDict .nvme {} index sub ca data s0;
      AdminReady src s → Reaches src (.dictWrite 0 index sub ca data 0) s → data ≠ [] → data.length ≤ 4096 → w.2 = none →
      w.1 = { s0 with doors := w.1.doors, tide := w.1.tide } →
      Yields (.dictionaryWrite src 0 index sub ca data 0) s fun t =>
        Answered src .success t ∧ t.doors = w.1.doors ∧ t.bays = s.bays ∧
          t.flash = s.flash ∧ t.ebb = s.ebb ∧ t.part = s.part ∧ t.hs = s.hs) ∧
    (AdminReady src s → src.dptr.psdt = 0 → s.pwr.waiting = [] → ps < 2 → ps ≠ s.pwr.ps →
      Yields (.setFeaturesPowerManagement src ps) s fun t =>
        Answered src .success t ∧ t.pwr.ps = ps ∧ t.pwr.ceiling = ps ∧ HasEvent 13 0 [s.pwr.ps, ps] t ∧ DeviceKept s t ∧
          t.hs = s.hs)

/-- A value written by any door is kept, and no other value changes (R109, R115, R117, R182, R187, R191, R284, R377,
R455, R457). -/
def Obligations.DictionaryKeeps : Prop :=
  ∀ (door : Door) (s : State) (index sub v : Nat) (data : List Byte),
    let kept := fun (t : State) =>
      t.bays = s.bays ∧ t.flash = s.flash ∧ t.ebb = s.ebb ∧ t.part = s.part ∧ t.hs = s.hs ∧ t.ctrls = s.ctrls
    let staged := fun (index sub : Nat) (t : State) => t.mem = (stageValues index [(sub, data)] s).mem
    (1 ≤ sub → sub ≤ 9 → TakesNum door s 0x2220 sub v →
      Yields (.budgetWrite door sub v) s fun t => NumKept 0x2220 sub v s t ∧ kept t ∧ t.mem = s.mem ∧ Acked door 0x2220 sub t) ∧
    (TakesNum door s 0x2220 0x0A v →
      Yields (.profileSelect door v) s fun t => NumKept 0x2220 0x0A v s t ∧ kept t ∧ t.mem = s.mem ∧ Acked door 0x2220 0x0A t) ∧
    (1 ≤ sub → sub ≤ 8 → s.mem.buckets.length = 8 → TakesNum door s 0x2600 sub v →
      Yields (.bucketSettingsWrite door sub v) s fun t =>
        NumKept 0x2600 sub v s t ∧ (bucketOf t sub).level = min (bucketOf s sub).level v ∧ kept t ∧ Acked door 0x2600 sub t) ∧
    (s.ebb.building = none → TakesNum door s 0x2610 1 v →
      Yields (.scratchpadCarveOut door v) s fun t =>
        NumKept 0x2610 1 v s t ∧ t.mem.scratchWays = v ∧ kept t ∧ Acked door 0x2610 1 t) ∧
    (1 ≤ sub → sub ≤ 6 → Takes door s 0x2210 sub data →
      Yields (.tenantTableWrite door sub data) s fun t =>
        DomKept 0x2210 sub data s t ∧ kept t ∧ staged 0x2210 sub t ∧ Acked door 0x2210 sub t) ∧
    (0x4400 ≤ index → index ≤ 0x4417 → 0x4410 ≤ index ∨ 2 ≤ sub → Takes door s index sub data →
      Yields (.strategyTableWrite door index sub data) s fun t =>
        DomKept index sub data s t ∧ kept t ∧ staged index sub t ∧ Acked door index sub t) ∧
    (Takes door s 0x4400 1 data →
      Yields (.strategyTableWrite door 0x4400 1 data) s fun t =>
        NumKept 0x4400 1 (ofBytes data) s t ∧ kept t ∧ t.mem = s.mem ∧ Acked door 0x4400 1 t) ∧
    (Takes door s 0x4C00 1 data →
      Yields (.scheduleWrite door data) s fun t =>
        DomKept 0x4C00 1 data s t ∧ kept t ∧ staged 0x4C00 1 t ∧ Acked door 0x4C00 1 t)

/-- The writes that act on the flash tier and the queue pool (R31, R32, R135, R143, R170, R172, R484). -/
def Obligations.TierWrites : Prop :=
  ∀ (door : Door) (s u : State) (sub v : Nat),
    let kept := fun (t : State) => t.bays = s.bays ∧ t.part = s.part ∧ t.fw = s.fw
    (1 ≤ sub → sub ≤ 4 → TakesNum door s 0x2110 sub v → sumOf (modNth s.hs.alloc (sub - 1) fun _ => v) ≤ 4096 →
      (v = 0 ∨ sub ≤ s.ports) →
      Yields (.queuePoolSplitWrite door sub v) s fun t =>
        t.hs = { s.hs with alloc := modNth s.hs.alloc (sub - 1) fun _ => v
                           allocKept := some (modNth s.hs.alloc (sub - 1) fun _ => v) } ∧
          t.ctrls = s.ctrls ∧ t.flash = s.flash ∧ t.ebb = s.ebb ∧ kept t ∧ Acked door 0x2110 sub t) ∧
    (TakesNum door s 0x2400 4 v → s.hs.ns = [] → s.flash.formatting = false →
      Yields (.cellModeWrite door v) s fun t =>
        t.flash.formatting = true ∧ t.flash.cellMode = v ∧ t.tide.cellMode = v ∧ t.flash.vols.map (·.port) = s.flash.vols.map (·.port) ∧ t.hs = s.hs ∧ t.ebb = s.ebb ∧ kept t ∧
          Acked door 0x2400 4 t) ∧
    (TakesNum door s 0x2410 9 v → adoptVolume v (tideRecord s) = .ok u →
      Yields (.volumeAdopt door v) s fun t =>
        t.flash = u.flash ∧ t.hs = s.hs ∧ t.ebb = s.ebb ∧ t.adm.running = s.adm.running ++ [5] ∧
          HasEvent 24 5 (evBytes 4 0 ++ [doorCode door]) t ∧ kept t ∧ Acked door 0x2410 9 t) ∧
    (TakesNum door s 0x2410 0x0A v → retireVolume v (tideRecord s) = .ok u →
      Yields (.volumeRetire door v) s fun t =>
        t.flash = u.flash ∧ t.hs = u.hs ∧ HasEvent 24 6 (evBytes 4 0 ++ [doorCode door]) t ∧ kept t ∧ Acked door 0x2410 0x0A t)

/-- The command subindices of memories, drain engine and coefficients (R180, R181, R184, R192, R209, R230, R382). -/
def Obligations.CommandWrites : Prop :=
  ∀ (door : Door) (s : State) (v : Nat) (byWay : Bool),
    let kept := fun (t : State) => t.flash = s.flash ∧ t.part = s.part ∧ t.fw = s.fw ∧ t.hs = s.hs ∧ t.ctrls = s.ctrls
    let idle := s.mem.opStatus ≠ 1 ∧ (byWay = true → num s 0x2610 6 < cacheWays s)
    let at' := fun (t : State) => t.mem.opStatus = 1 ∧ kept t ∧ t.bays = s.bays ∧ t.ebb = s.ebb ∧ Acked door 0x2610 8 t
    (TakesNum door s 0x5010 9 v → s.mem.buckets.length = 8 →
      Yields (.bucketClear door v) s fun t =>
        (∀ m : Nat, 1 ≤ m → m ≤ 8 → bucketOf t m = if v = 255 ∨ m = v then { leakFrom := s.clock } else bucketOf s m) ∧ kept t ∧
          t.bays = s.bays ∧ t.ebb = s.ebb ∧ Acked door 0x5010 9 t) ∧
    (TakesNum door s 0x2610 8 (if byWay then 0x81 else 1) → idle →
      Yields (.cacheClean door byWay) s fun t =>
        t.mem.lines = s.mem.lines.map (fun l => if opLines s byWay l then { l with dirty := false } else l) ∧ at' t) ∧
    (TakesNum door s 0x2610 8 (if byWay then 0x82 else 2) → idle →
      Yields (.cacheInvalidate door byWay) s fun t =>
        t.mem.lines = s.mem.lines.filter (fun l => !opLines s byWay l) ∧
          t.mem.dirtyInvalidates =
            s.mem.dirtyInvalidates + (s.mem.lines.filter fun l => opLines s byWay l && l.dirty).length ∧ at' t) ∧
    (TakesNum door s 0x2610 8 (if byWay then 0x83 else 3) → idle →
      Yields (.cacheCleanAndInvalidate door byWay) s fun t =>
        t.mem.lines = s.mem.lines.filter (fun l => !opLines s byWay l) ∧ t.mem.dirtyInvalidates = s.mem.dirtyInvalidates ∧ at' t) ∧
    (TakesNum door s 0x2800 3 v →
      Yields (.startSetNow door v) s fun t => t.ebb = { s.ebb with startNow := true } ∧ kept t ∧ t.bays = s.bays ∧ Acked door 0x2800 3 t) ∧
    (TakesNum door s 0x2820 5 v → (v ≤ 0x0D ∨ v = 0x80 ∨ v = 0x81) → s.ebb.recon.status ≠ 1 → s.ebb.recon.status ≠ 2 →
      (∀ o ∈ s.ebb.objs, o.setId = num s 0x2820 4 → o.arch = .archivedResident ∨ o.arch = .released) →
      (∃ d ∈ archivedDiscs s (num s 0x2820 4), d.role = v) → widthOf s (num s 0x2820 4) + 1 ≤ countedBays s →
      Yields (.reconstructRequest door v) s fun t =>
        t.ebb = { s.ebb with recon := { setId := num s 0x2820 4, role := v, status := 1 } } ∧ t.bays = s.bays ∧ t.hs = s.hs ∧
          t.flash = s.flash ∧ Acked door 0x2820 5 t) ∧
    (TakesNum door s 0x4000 0x13 v → anyWriting s = false →
      (s.doors.pending = [] ∨ pendingOk (tideRecord s) (installPending (tideRecord s)) = true) →
      Yields (.coefficientCommit door v) s fun t =>
        t.doors.pending = [] ∧ t.doors.doms = (installPending s).doors.doms ∧ kept t ∧ t.ebb = s.ebb ∧ Acked door 0x4000 0x13 t)

/-- The clear subindices of a bay zero their counts and nothing else (R309, R340, R363, R400, R468). -/
def Obligations.ClearWrites : Prop :=
  ∀ (door : Door) (b : BayId) (s : State) (v : Nat),
    let y := bayAt s b
    (TakesBay door s b 0x50 0x0E v →
      Yields (.channelStatisticsClear door b v) s fun t =>
        bayAt t b = { y with chan := { y.chan with
          begun := 0, confirmed := 0, slipped := 0, withdrawn := 0, byCriterion := List.replicate 8 0, read := 0
          byStep := List.replicate 6 0, reallocated := 0, flaggedRuns := 0, corrected := [], opcAccepted := 0
          opcRejected := 0, saturated := 0 } } ∧ OneBay b s t ∧ Acked door (bayIndex b 0x50) 0x0E t) ∧
    (TakesBay door s b 0x70 0x0D v →
      Yields (.causewayClear door b v) s fun t =>
        bayAt t b = { y with cway := { y.cway with upErrors := 0, dnErrors := 0, servoMissing := 0, rejected := 0, retrains := 0 } } ∧
          OneBay b s t ∧ Acked door (bayIndex b 0x70) 0x0D t) ∧
    (TakesBay door s b 0x80 0x12 v →
      Yields (.timebaseClear door b v) s fun t =>
        bayAt t b = { y with tb := { y.tb with accepted := 0, coasted := 0, rejectedC := [0, 0, 0, 0], late := 0, skips := 0 } } ∧
          OneBay b s t ∧ Acked door (bayIndex b 0x80) 0x12 t) ∧
    (TakesBay door s b 0x12 6 v →
      Yields (.servoCountsClear door b v) s fun t =>
        bayAt t b = { y with servo := { y.servo with
          overruns := List.replicate 7 0, missing := List.replicate 7 0, focusLost := 0, trackLost := 0, jumps := 0
          fallbacks := 0 } } ∧ OneBay b s t ∧ Acked door (bayIndex b 0x12) 6 t) ∧
    (TakesBay door s b 0x20 0x11 v →
      Yields (.spindleCountsClear door b v) s fun t =>
        bayAt t b = { y with spin := { y.spin with counts := List.replicate 6 0 } } ∧ OneBay b s t ∧
          Acked door (bayIndex b 0x20) 0x11 t)

/-- A spindle is started, braked and let coast from a door (R404, R406, R408, R409, R414, R416, R417). -/
def Obligations.SpindleCommands : Prop :=
  ∀ (door : Door) (b : BayId) (s : State),
    let p := (bayAt s b).spin
    let starts := fun (c : Instr) (rpm : Nat) =>
      (startRefused s b = false → BayOpen s b → AtRest p → NoneWaits s → startingCount s < 4 →
        Yields c s fun t =>
          (bayAt t b).spin = { p.watch rpm with order := nextOrder s } ∧ OneBay b s t ∧ Acked door (bayIndex b 0x20) 3 t) ∧
      (startRefused s b = false → BayOpen s b → AtRest p → 4 ≤ startingCount s →
        Yields c s fun t =>
          bayAt t b = { bayAt s b with spin := { p with waitStart := some rpm, order := nextOrder s } } ∧ OneBay b s t ∧
            Acked door (bayIndex b 0x20) 3 t)
    spindleBusy s b = false →
    (TakesBay door s b 0x20 3 1 → starts (.spindleStart7200 door b) 7200) ∧
    (TakesBay door s b 0x20 3 2 → starts (.spindleStart9600 door b) 9600) ∧
    (TakesBay door s b 0x20 3 5 → 1000 ≤ bnum s b 0x20 0x12 → bnum s b 0x20 0x12 ≤ 9600 →
      starts (.spindleStartAtSpeed door b) (bnum s b 0x20 0x12)) ∧
    (TakesBay door s b 0x20 3 3 → NoneWaits s → p.state ≠ 0 → p.state ≠ 8 → (bayAt s b).spindleFault = false →
      Yields (.spindleBrake door b) s fun t =>
        (bayAt t b).spin.state = 6 ∧ (bayAt t b).spin.target = 0 ∧
          (bayAt t b).spin.gates = (if p.speed < 30 then 3 else 2) ∧ OneBay b s t ∧ Acked door (bayIndex b 0x20) 3 t) ∧
    (TakesBay door s b 0x20 3 4 → NoneWaits s →
      Yields (.spindleCoast door b) s fun t =>
        (bayAt t b).spin.gates = 0 ∧ (bayAt t b).spin.sensorless = false ∧ (bayAt t b).spin.target = 0 ∧
          (bayAt t b).spin.state = (if p.state = 0 ∨ p.state = 8 then p.state else 7) ∧ OneBay b s t ∧
          Acked door (bayIndex b 0x20) 3 t)

/-- Sled, loader and collimator are commanded from a door (R418, R425, R426, R427, R428, R430). -/
def Obligations.StepperCommands : Prop :=
  ∀ (door : Door) (b : BayId) (s : State) (goal : Int),
    let y := bayAt s b
    let only := fun (off sub : Nat) (t : State) => OneBay b s t ∧ Acked door (bayIndex b off) sub t
    let free := fun (bit : Nat) => y.cald.faults.getLsbD bit = false
    let loaderGoes := loaderRefused y = 0 ∧ bayEnabled s b = true
    (TakesBay door s b 0x30 0x0F 1 → BayOpen s b → free 1 →
      Yields (.sledHome door b) s fun t =>
        (bayAt t b).sled.homing = true ∧ (bayAt t b).sled.lost = true ∧ (bayAt t b).sledState = 3 ∧
          (bayAt t b).sled.goal = y.sled.pos - ((bnum s b 0x30 0x0E * 11 / 10 : Nat) : Int) ∧ only 0x30 0x0F t) ∧
    (TakesBay door s b 0x30 0x0F 2 → BayOpen s b → free 1 → y.sled.lost = false →
      Yields (.sledPark door b) s fun t =>
        (bayAt t b).sled.goal = bint s 4 b 0x30 0x0D ∧ (bayAt t b).sled.vmode = false ∧ only 0x30 0x0F t) ∧
    (TakesBay door s b 0x30 0x0F 3 → bayEnabled s b = true → y.sled.moving = true →
      Yields (.sledStop door b) s fun t =>
        (bayAt t b).sled.moving = false ∧ (bayAt t b).sled.lost = true ∧ (bayAt t b).sledState = 4 ∧
          HasEvent (bayEvent b 5) 2 [] t ∧ only 0x30 0x0F t) ∧
    (TakesBay door s b 0x30 0x0F 4 →
      Yields (.sledDeEnergise door b) s fun t =>
        (bayAt t b).sled.energised = false ∧ (bayAt t b).sled.current = 0 ∧ (bayAt t b).sled.lost = true ∧
          (bayAt t b).sledState = 6 ∧ only 0x30 0x0F t) ∧
    (Takes door s (bayIndex b 0x30) 0x10 (leInt 4 goal) → 0 ≤ goal → goal ≤ (bnum s b 0x30 0x0E : Int) → goal < 2147483648 →
      servoIdle s b = true → BayOpen s b → free 1 →
      Yields (.sledTargetPosition door b goal) s fun t =>
        (bayAt t b).sled.goal = goal ∧ (bayAt t b).sled.vmode = false ∧ only 0x30 0x10 t) ∧
    (TakesBay door s b 0x40 3 1 → loaderGoes → free 2 →
      Yields (.loaderOpen door b) s fun t =>
        (bayAt t b).loader.goal = (if y.loader.lost then y.loader.pos - (((bnum s b 0x40 4 + 256) * 11 / 10 : Nat) : Int) else 0) ∧
          (bayAt t b).loader.homing = y.loader.lost ∧ only 0x40 3 t) ∧
    (TakesBay door s b 0x40 3 2 → loaderGoes → free 2 →
      Yields (.loaderClamp door b) s fun t =>
        (bayAt t b).loader.goal = bint s 4 b 0x40 4 + 256 ∧ (bayAt t b).loader.homing = false ∧ only 0x40 3 t) ∧
    (TakesBay door s b 0x40 3 3 → loaderGoes → y.loader.moving = true → y.running = none →
      Yields (.loaderStop door b) s fun t =>
        (bayAt t b).loader.moving = false ∧ (bayAt t b).loader.lost = true ∧ (bayAt t b).loaderState = 4 ∧ only 0x40 3 t) ∧
    (TakesBay door s b 0x40 0x17 1 → servoIdle s b = true → BayOpen s b → free 3 →
      Yields (.collimatorHome door b) s fun t =>
        (bayAt t b).coll.homing = true ∧ (bayAt t b).coll.lost = true ∧ (bayAt t b).collState = 3 ∧ only 0x40 0x17 t) ∧
    (TakesBay door s b 0x40 0x17 3 → servoIdle s b = true → y.coll.moving = true →
      Yields (.collimatorStop door b) s fun t =>
        (bayAt t b).coll.moving = false ∧ (bayAt t b).coll.lost = true ∧ (bayAt t b).collState = 4 ∧ only 0x40 0x17 t)

/-- Steps, the chopper's offsets and the library's loader commands (R418, R420, R422, R423, R425, R480, R482). -/
def Obligations.StepsAndLibraryLoader : Prop :=
  ∀ (b : BayId) (s : State) (seq : Nat) (ra rb : List Int),
    let y := bayAt s b
    let tk := y.sled.tick (if y.sled.homing then homeLim (bnum s b 0x30 7) else sledLim s b)
    let lk := y.loader.tick (if y.loader.homing then homeLim (bnum s b 0x40 8) else loaderLim s b)
    let ck := y.coll.tick (if y.coll.homing then homeLim (bnum s b 0x40 0x0F) else collLim s b)
    let h := bnum s b 0x40 0x11
    let as := fun (n : Nat) => ra.map (senseMa s b n)
    let bs := fun (n : Nat) => rb.map (senseMa s b n)
    let free := libraryOpen s = true ∧ bayEnabled s b = true ∧ y.ackSeq ≠ seq ∧ seq < 256 ∧ y.running = none ∧ y.waiting = none ∧
      s.pwr.ps < 3
    let done := fun (t : State) =>
      OneBay b s t ∧ (bayAt t b).libSeq = seq ∧
        ((bayAt t b).loader.moving = true → (bayAt t b).running = some seq) ∧
        ((bayAt t b).loader.moving = false → (bayAt t b).ackSeq = seq ∧ (bayAt t b).ackResult = 0)
    (s.sup.vfldDip = false → y.sled.moving = true → tk.moving = true →
      Yields (.stepTimer b 0) s fun t =>
        (bayAt t b).sled.pos = tk.pos ∧ (bayAt t b).sled.v = tk.v ∧ (bayAt t b).sled.interval = tk.interval ∧
          t = { s with bays := t.bays } ∧ OtherBays b s t) ∧
    (s.sup.vfldDip = false → y.loader.moving = true → lk.moving = true → clamped y = false →
      Yields (.stepTimer b 1) s fun t => bayAt t b = { y with loader := lk } ∧ t = { s with bays := t.bays } ∧ OtherBays b s t) ∧
    (s.sup.vfldDip = false → y.coll.moving = true → ck.moving = true →
      Yields (.stepTimer b 2) s fun t => bayAt t b = { y with coll := ck } ∧ t = { s with bays := t.bays } ∧ OtherBays b s t) ∧
    (y.sled.spring = true →
      Yields (.chopperOffsetUpdate b 0 ra rb) s fun t =>
        bayAt t b = { y with sled := y.sled.adapt s.clock h (as 1) (bs 2) } ∧ t = { s with bays := t.bays } ∧ OtherBays b s t) ∧
    (y.loader.energised = true →
      Yields (.chopperOffsetUpdate b 1 ra rb) s fun t =>
        bayAt t b = { y with loader := y.loader.adapt s.clock h (as 3) (bs 4) } ∧ t = { s with bays := t.bays } ∧ OtherBays b s t) ∧
    (y.coll.energised = true →
      Yields (.chopperOffsetUpdate b 2 ra rb) s fun t =>
        bayAt t b = { y with coll := y.coll.adapt s.clock h (as 5) (bs 6) } ∧ t = { s with bays := t.bays } ∧ OtherBays b s t) ∧
    (free → loaderRefused y = 0 → holdsDisc s b = false → y.loaderFault = false →
      Yields (.libraryOpenLoader b seq) s fun t => done t ∧ (y.loader.lost = false → (bayAt t b).loader.goal = 0)) ∧
    (free → loaderRefused y = 0 → y.loaderFault = false →
      Yields (.libraryClamp b seq) s fun t => done t ∧ (bayAt t b).loader.goal = clampGoal s b) ∧
    (free → Yields (.libraryStopLoader b seq) s fun t => done t ∧ (bayAt t b).loader.moving = false)

/-- A bay is enabled, restarted, put in bay-Harbour, cleared of faults and calibrated from a door (R449, R450, R451,
R452, R475, R569). -/
def Obligations.BayCommands : Prop :=
  ∀ (door : Door) (b : BayId) (s : State) (v : Nat) (sbdi : Bool) (c c4 : DriveCal) (cs rs : List DriveCal),
    let y := bayAt s b
    let kept := fun (t : State) => t.part = s.part ∧ t.fw = s.fw ∧ t.hs = s.hs ∧ t.flash = s.flash
    let alone := NoneWaits s ∧ s.ebb.recalls = [] ∧ discOn s b = none
    (TakesBay door s b 0x60 2 v → y.harbour = true → y.spin.speed < 30 →
      Yields (.faultClear door b v) s fun t =>
        (bayAt t b).cald.faults = y.cald.faults &&& ~~~ BitVec.ofNat 16 (v % 128) ∧ (bayAt t b).harbour = true ∧ OneBay b s t ∧
          Acked door (bayIndex b 0x60) 2 t) ∧
    (TakesBay door s b 0 3 2 → bayEnabled s b = true → y.harbour = false →
      Yields (.enterBayHarbour door b) s fun t =>
        (bayAt t b).harbour = true ∧ (bayAt t b).cause = 0x13 ∧ (bayAt t b).work = 0 ∧ (bayAt t b).cway.len = false ∧
          (bayAt t b).tb.state = 0 ∧ (alone → OtherBays b s t) ∧ kept t ∧ Acked door (bayIndex b 0) 3 t) ∧
    (TakesBay door s b 0 3 1 → s.phase = .running → restartRefused s b = false → bnum s b 0 2 = 1 → b.val < s.part.code.bays →
      Yields (.bayRestart door b sbdi rs) s fun t =>
        (bayAt t b).harbour = false ∧ (bayAt t b).cause = 0 ∧ (bayAt t b).fitted = sbdi ∧
          (sbdi = true → bayPowered s b = true → (bayAt t b).started = true) ∧ (NoneWaits s → OtherBays b s t) ∧ kept t ∧
          Acked door (bayIndex b 0) 3 t) ∧
    (TakesBay door s b 0x60 0x0E 1 → y.spin.gates = 0 → y.cald.gates = 0 → 1000 ≤ c.offUs → c.mv < 200 → c.noise < 10 →
      within (250000 / max 1 (bnum s b 0x60 4) / 20) c.values = true →
      Yields (.calibrationRequest door b 1 (c :: cs)) s fun t =>
        bayAt t b = putOffsets 0 (c.values.take 1) y ∧ OneBay b s t ∧ Acked door (bayIndex b 0x60) 0x0E t) ∧
    (TakesBay door s b 0x60 0x0E 8 → loopsOpen y = true → (∀ x ∈ y.cald.coils, x = 0) → 10000 ≤ c4.offUs → within 10 c4.values = true →
      Yields (.calibrationRequest door b 8 [c, c, c, c4]) s fun t =>
        bayAt t b = putOffsets 7 (c4.values.take 3) y ∧ OneBay b s t ∧ Acked door (bayIndex b 0x60) 0x0E t) ∧
    (TakesBay door s b 0 2 1 → num s (bayIndex b 0) 2 = 0 → b.val < s.part.code.bays → s.sup.barrier = 2 → s.sup.drive = 0 →
      y.harbour = false → y.fitted = true → y.cald.drvEn = true →
      Yields (.bayEnableWrite door b 1 sbdi) s fun t =>
        num t (bayIndex b 0) 2 = 1 ∧ (bayAt t b).fitted = sbdi ∧
          (sbdi = true → bayPowered s b = true → (bayAt t b).started = true) ∧
          (NoneWaits s → OtherBays b s t) ∧ kept t ∧ Acked door (bayIndex b 0) 2 t) ∧
    (TakesBay door s b 0 2 0 → num s (bayIndex b 0) 2 = 1 → holdsDisc s b = false →
      Yields (.bayEnableWrite door b 0 sbdi) s fun t =>
        num t (bayIndex b 0) 2 = 0 ∧ (bayAt t b).started = false ∧ (bayAt t b).work = 0 ∧ (bayAt t b).sled.energised = false ∧
          (bayAt t b).spin.gates = 0 ∧ (alone → OtherBays b s t) ∧ kept t ∧ Acked door (bayIndex b 0) 2 t)

/-- The barrier, the drive-side supplies and a bay's start (R434, R435, R436, R557, R569). -/
def Obligations.DriveSide : Prop :=
  ∀ (b : BayId) (s : State) (sbdi clamped : Bool) (level mv : Nat) (rs : List (List DriveCal)), Active s →
    let kept := fun (t : State) => t.part = s.part ∧ t.fw = s.fw ∧ t.hs = s.hs ∧ t.flash = s.flash ∧ t.doors = s.doors
    ((bayAt s b).started = false → (bayAt s b).harbour = false → bayMayStart s b = true → (bayAt s b).cald.drvEn = true →
      Yields (.bayStart b sbdi clamped) s fun t =>
        (bayAt t b).fitted = sbdi ∧ (bayAt t b).started = sbdi ∧ (NoneWaits s → OtherBays b s t) ∧ kept t ∧ t.ebb = s.ebb) ∧
    (s.sup.barrier = 2 →
      Yields .barrierLoss s fun t =>
        t.sup.barrier = 1 ∧ t.sup.barrierTries = 0 ∧ t.sup.barrierLosses = satAdd 4294967295 s.sup.barrierLosses 1 ∧
          HasEvent 7 1 [] t ∧
          (∀ x : BayId, bayEnabled s x = true → (bayAt t x).harbour = true ∧ (bayAt t x).cway.len = false) ∧ kept t) ∧
    (s.sup.barrier = 1 →
      Yields (.barrierRetrain true rs) s (fun t =>
        t.sup.barrier = 2 ∧ t.sup.barrierTries = 0 ∧ HasEvent 7 2 [] t ∧ kept t ∧ t.ebb = s.ebb) ∧
      (s.sup.barrierTries < 2 →
        Yields (.barrierRetrain false rs) s (· = { s with sup := { s.sup with barrierTries := s.sup.barrierTries + 1 } })) ∧
      (2 ≤ s.sup.barrierTries →
        Yields (.barrierRetrain false rs) s fun t =>
          t.sup.barrier = 3 ∧ HasEvent 7 3 [] t ∧ kept t ∧ t.ebb = s.ebb ∧ t.bays = s.bays)) ∧
    (1 ≤ level → level ≤ 6 →
      (beyondLevel level mv = true → s.sup.drive.getLsbD (level - 1) = false →
        Yields (.driveSupplyCrossing level mv) s fun t =>
          t.sup.drive = s.sup.drive ||| BitVec.ofNat 8 (2 ^ (level - 1)) ∧ HasEvent 6 level (evBytes 2 mv) t ∧
            (level = 1 → t.sup.vfldDip = true) ∧ kept t) ∧
      (levelRecovered level mv = true →
        Yields (.driveSupplyRecovery level mv) s fun t =>
          t.sup.drive = s.sup.drive &&& ~~~ BitVec.ofNat 8 (2 ^ (level - 1)) ∧ (level = 1 → t.sup.vfldDip = false) ∧ kept t ∧
            t.ebb = s.ebb)) ∧
    (1 ≤ level → level ≤ 7 →
      (beyondLevel level mv = false → Yields (.driveSupplyCrossing level mv) s (· = putSupply level mv s)) ∧
      (levelRecovered level mv = false → Yields (.driveSupplyRecovery level mv) s (· = putSupply level mv s))) ∧
    (mv < 2900 → s.sup.barrier = 1 ∨ s.sup.barrier = 2 →
      Yields (.driveSupplyCrossing 7 mv) s fun t => t.sup.barrier = 0 ∧ t.sup.vdl = mv ∧ kept t) ∧
    (2900 ≤ mv → s.sup.barrier = 0 →
      Yields (.driveSupplyRecovery 7 mv) s fun t => t.sup.barrier = 1 ∧ t.sup.barrierTries = s.sup.barrierTries ∧ t.bays = s.bays ∧ kept t)

/-- Coil limits, the aggregate limit, the interlock and bridge faults of a bay (R439, R440, R441, R442, R445, R446,
R447). -/
def Obligations.CoilsAndBridges : Prop :=
  ∀ (b : BayId) (s : State) (coil cause bridge : Nat), Active s → bayEnabled s b = true →
    let y := bayAt s b
    let ev := fun (n : Nat) => HasEvent (bayEvent b 6) n []
    let kept := fun (t : State) => t.part = s.part ∧ t.fw = s.fw ∧ t.hs = s.hs ∧ t.flash = s.flash ∧ t.doors = s.doors
    (coil < 3 → y.cald.coilOff.length = 3 → y.cald.retries.length = 3 →
      (y.cald.faults.getLsbD (4 + coil) = false →
        (y.cald.retries.getD coil 0 < 3 →
          Yields (.coilCurrentLimit b coil) s fun t =>
            (bayAt t b).cald.coilOff.getD coil false = true ∧ (bayAt t b).cald.faults.getLsbD 7 = true ∧ ev 5 t ∧ kept t) ∧
        (3 ≤ y.cald.retries.getD coil 0 → y.harbour = false →
          Yields (.coilCurrentLimit b coil) s fun t =>
            (bayAt t b).cald.faults.getLsbD (4 + coil) = true ∧ (bayAt t b).harbour = true ∧ (bayAt t b).cause = 5 ∧ ev 5 t ∧ kept t) ∧
        (y.cald.coilOff.getD coil false = true →
          Yields (.coilRetry b coil) s fun t =>
            bayAt t b = { y with cald := { y.cald with coilOff := modNth y.cald.coilOff coil fun _ => false
                                                       retries := modNth y.cald.retries coil (· + 1) } } ∧
              OtherBays b s t ∧ t = { s with bays := t.bays })) ∧
      (y.cald.retries.getD coil 0 ≠ 0 → y.cald.coilOff.getD coil false = false →
        Yields (.coilRetryEpisodeEnd b coil) s fun t =>
          (bayAt t b).cald.retries = modNth y.cald.retries coil (fun _ => 0) ∧ OtherBays b s t ∧ t = { s with bays := t.bays }) ∧
      (y.cald.coilOver.length = 3 → y.cald.coilOver.getD coil false = false →
        (250 < y.cald.rms.getD coil 0 → y.cald.rms.getD coil 0 ≤ 300 → coilRetrying y coil = false →
          Yields (.coilRmsThreshold b coil) s fun t =>
            (bayAt t b).cald.coilOver = modNth y.cald.coilOver coil (fun _ => true) ∧ (bayAt t b).cald.overload = true ∧ ev 6 t ∧
              (discOn s b = none → OtherBays b s t) ∧ kept t) ∧
        (300 < y.cald.rms.getD coil 0 → y.cald.faults.getLsbD (4 + coil) = false → y.harbour = false →
          Yields (.coilRmsThreshold b coil) s fun t =>
            (bayAt t b).cald.faults.getLsbD (4 + coil) = true ∧ (bayAt t b).harbour = true ∧ (bayAt t b).cause = 6 ∧ ev 6 t ∧
              kept t)) ∧
      (y.cald.rms.getD coil 0 < 225 →
        Yields (.coilRmsThreshold b coil) s fun t =>
          (bayAt t b).cald.coilOver = modNth y.cald.coilOver coil (fun _ => false) ∧ OtherBays b s t ∧
            t = { s with bays := t.bays })) ∧
    (coilSum s ≤ 7000 → Yields .aggregateCoilLimit s (· = { s with sup := { s.sup with aggregate := false } })) ∧
    (7000 < coilSum s → coilSum s ≤ 8000 →
      Yields .aggregateCoilLimit s fun t => HasEvent 6 7 (evBytes 2 (coilSum s)) t ∧ t.bays = s.bays ∧ t.ebb = s.ebb ∧ kept t) ∧
    (8000 < coilSum s → highestBay s = some b →
      let shed := fun (t : State) =>
        HasEvent 6 7 (evBytes 2 (coilSum s)) t ∧ (bayAt t b).harbour = true ∧ (bayAt t b).cause = 0x14 ∧ kept t
      Yields .aggregateCoilLimit s shed ∧ (s.sup.aggregate = true → Yields .aggregateCoilRepeat s shed)) ∧
    (y.cald.drvEn = true → y.harbour = false →
      Yields (.drvEnLow b) s fun t =>
        (bayAt t b).cald.drvEn = false ∧ (bayAt t b).harbour = true ∧ (bayAt t b).cause = 7 ∧ ev 7 t ∧ kept t) ∧
    Yields (.drvEnHigh b) s (fun t =>
      bayAt t b = { y with cald := { y.cald with drvEn := true, faults := y.cald.faults &&& ~~~ BitVec.ofNat 16 256 } } ∧
        OtherBays b s t ∧ t = { s with bays := t.bays }) ∧
    (1 ≤ cause → cause ≤ 4 → bridge ≤ 3 → (2 < cause → bridge = 0) → y.harbour = false →
      Yields (.driveSideFault b cause bridge) s fun t =>
        (bayAt t b).harbour = true ∧ (bayAt t b).cause = cause ∧ (bayAt t b).cald.faults.getLsbD bridge = true ∧ ev cause t ∧ kept t)

/-- The CoE mailbox reads and writes the dictionary (R462, R463, R469, R511). What SDO Information answers is laid out
as log 17 says. -/
def Obligations.MailboxAccess : Prop :=
  ∀ (s : State) (index sub kind i k : Nat) (ca : Bool) (data v bs : List Byte) (a : Abort), Served .ethercat s →
    let answer := fun (x y : Nat) (abort : Nat) (d : List Byte) (u : State) =>
      { u with doors := { u.doors with sdo := { index := x, sub := y, abort := abort, data := d } } }
    let s0 : State := { s with doors := { s.doors with segment := none } }
    let w := fun (l : List Byte) => writeDict .ethercat {} index sub ca l s0
    let all := segmentBytes s index sub ++ data
    (readDict s index sub ca = .ok v → Yields (.sdoUpload index sub ca) s (· = answer index sub 0 v s)) ∧
    (readDict s index sub ca = .error a → Yields (.sdoUpload index sub ca) s (· = answer index sub a.code [] s)) ∧
    ((w data).2 = none → ∀ last : Bool,
      Yields (.sdoDownload index sub ca false last data) s (· = answer index sub 0 [] (w data).1)) ∧
    ((w data).2 = some a → ∀ last : Bool,
      Yields (.sdoDownload index sub ca false last data) s (· = answer index sub a.code [] (w data).1)) ∧
    ((w all).2 = none → Yields (.sdoDownload index sub ca true true data) s (· = answer index sub 0 [] (w all).1)) ∧
    Yields (.sdoDownload index sub ca true false data) s
      (· = { s with doors := { s.doors with segment := some (index, sub, all) } }) ∧
    (s.doors.segment = some (i, k, bs) →
      Yields .segmentedTransferTimeout s (· = answer i k Abort.timedOut.code [] s0)) ∧
    (informationOf s kind index sub = .ok v → Yields (.sdoInformation kind index sub) s (· = answer index sub 0 v s))

/-- The bench port reads, writes and takes the device to Harbour; its answer is clocked out (R465, R466, R511, R543,
R545, R554). -/
def Obligations.BenchPort : Prop :=
  ∀ (s : State) (f v : List Byte),
    let put := fun (abort n : Nat) (d : List Byte) (u : State) =>
      { u with doors := { u.doors with benchBusy := false, benchReady := true, bench := benchAnswer abort n d } }
    let w := writeDict .bench {} (cellField f 1 2) (cellByte f 3) (bitOf (cellByte f 4) 0) (frameData f) s
    let len := cellField f 5 2
    (Active s → frameOk f = true →
      (cellByte f 0 = 1 → frameData f = [] → 0 < len → len ≤ 4096 → cellByte f 4 < 2 →
        readDict s (cellField f 1 2) (cellByte f 3) (bitOf (cellByte f 4) 0) = .ok v → v.length ≤ len →
        Yields (.benchRead f) s (· = put 0 v.length v s)) ∧
      (cellByte f 0 = 2 → (frameData f).length = len → 0 < len → len ≤ 4096 → cellByte f 4 < 2 → w.2 = none →
        Yields (.benchWrite f) s (· = put 0 0 [] w.1)) ∧
      (cellByte f 0 = 3 → deviceFrame f 0x4842 = true →
        Yields (.benchHarbour f) s fun t =>
          t.phase = .harbour ∧ t.harbourCause = 9 ∧ t.doors.bench = benchAnswer 0 0 [] ∧ t.doors.benchReady = true ∧
            t.part = s.part ∧ t.fw = s.fw ∧ t.hs.zones = s.hs.zones) ∧
      (cellByte f 0 = 4 → deviceFrame f 0x5253 = true →
        Yields (.benchReset f) s fun t =>
          t.phase = .harbour ∧ t.harbourCause = 10 ∧ t.doors.bench = benchAnswer 0 0 [] ∧ t.doors.benchReady = true ∧
            t.part = s.part ∧ t.fw = s.fw ∧ t.hs.zones = s.hs.zones)) ∧
    (s.doors.benchBusy = true → Yields .benchAnswer s (· = { s with doors := { s.doors with benchOut := [0xA5#8] } })) ∧
    (s.doors.benchBusy = false → s.doors.benchReady = true →
      Yields .benchAnswer s (· = { s with doors := { s.doors with benchOut := s.doors.bench, benchReady := false } }))

/-- Boot recovery reads, erases and programs the boot NOR, and reboots (R467, R520, R521). -/
def Obligations.BootRecovery : Prop :=
  ∀ (s : State) (f : List Byte) (b : Boot) (n : Nat) (img : FwImage), s.phase = .bootRecovery → frameOk f = true →
    let a := norAddr f
    let len := cellField f 5 2
    let kept := fun (t : State) => t = { s with doors := t.doors, fw := t.fw, free := t.free } ∧ t.doors.nums = s.doors.nums
    (cellByte f 0 = 0x10 → frameData f = [] → 0 < len → len ≤ 4096 → a + len ≤ 0x4000000 →
      Yields (.benchNorRead f) s fun t => t.doors.bench = benchAnswer 0 len (norRead s.fw.nor a len) ∧ t.fw = s.fw ∧ kept t) ∧
    (cellByte f 0 = 0x11 → slotAt a = some n → a % 0x10000 = 0 → len = 0 → frameData f = [] →
      Yields (.benchNorErase f) s fun t =>
        (∀ x : Nat, norByte t.fw.nor x = if a ≤ x ∧ x < a + 0x10000 then 0xFF#8 else norByte s.fw.nor x) ∧ kept t) ∧
    (cellByte f 0 = 0x12 → slotAt a = some n → 0 < len → len ≤ 256 → (frameData f).length = len → a % 256 + len ≤ 256 →
      norWf s.fw.nor = true → (∀ i : Nat, i < len → norByte s.fw.nor (a + i) = 0xFF#8) →
      Yields (.benchNorProgram f) s fun t =>
        (∀ i : Nat, i < len → (frameData f)[i]? = some (norByte t.fw.nor (a + i))) ∧
          (∀ x : Nat, x < a ∨ a + len ≤ x → norByte t.fw.nor x = norByte s.fw.nor x) ∧ norWf t.fw.nor = true ∧ kept t) ∧
    (cellByte f 0 = 0x13 → a = 0 → len = 0 → frameData f = [] → s.fw.active = 1 → s.fw.slot1.image = some img →
      s.fw.slot1.marked = false → s.fw.slot2.marked = false → imageFault s img = 0 → tornCells s.part.arCells = [] →
      s.fw.slot1.everReady = true → b.hbm0 = true → b.hbm1 = true →
      Yields (.benchReboot f b) s fun t => t.phase = .running ∧ t.fw.booted = 1 ∧ t.fw.version = img.version)

/-- Locks, defaults, the arm window and the admin door policy (R458, R459, R483, R484, R516). -/
def Obligations.Administration : Prop :=
  ∀ (door : Door) (s : State) (v : Nat),
    let kept := fun (t : State) => t.bays = s.bays ∧ t.flash = s.flash ∧ t.ebb = s.ebb ∧ t.part = s.part ∧ t.hs = s.hs
    (TakesNum door s 0x1011 1 v → anyWriting s = false →
      Yields (.restoreDefaults door v) s fun t =>
        t.tide.restore = true ∧ t.doors.nums = s.doors.nums ∧ kept t ∧ Acked door 0x1011 1 t) ∧
    (TakesNum door s 0x2000 6 v →
      Yields (.lockNow door v) s fun t => t.lockPassed = true ∧ t.doors.nums = s.doors.nums ∧ kept t ∧ Acked door 0x2000 6 t) ∧
    Yields .lockPoint s (· = { s with lockPassed := true }) ∧
    (TakesNum door s 0x2050 3 v → door ≠ .bench → 1 ≤ v / 2 ^ 24 → v / 2 ^ 24 ≤ 7 →
      Yields (.adminArm door v) s fun t =>
        t.adm = { s.adm with armCode := v / 2 ^ 24, armArg := v % 2 ^ 24, armDoor := doorCode door, armAt := s.clock } ∧
          t.doors.nums = s.doors.nums ∧ kept t ∧ Acked door 0x2050 3 t) ∧
    Yields .armWindowExpiry s (· = { s with adm := { s.adm with armCode := 0, armArg := 0, armDoor := 0, armAt := 0 } }) ∧
    (TakesNum door s 0x2050 1 v →
      Yields (.adminPolicyChange door v) s fun t =>
        NumKept 0x2050 1 v s t ∧ t.adm.running = [] ∧ HasEvent 25 7 (evBytes 4 0 ++ [doorCode door]) t ∧ kept t ∧
          Acked door 0x2050 1 t)

/-- Format, Sanitize and namespace delete are requested through the dictionary; a tier is adopted (R485, R517, R519,
R528). -/
def Obligations.AdminRequests : Prop :=
  ∀ (door : Door) (s : State) (nsid v : Nat) (cdw10 cdw11 : Dword), nsid < 2 ^ 32 →
    let kept := fun (t : State) => t.part = s.part ∧ t.fw = s.fw ∧ Acked door 0x2050 4 t
    let fm := formatFields cdw10
    let takes := fun (code : Nat) => Takes door s 0x2050 4 (requestBytes code nsid cdw10 cdw11)
    let action := bitsOf cdw10.toNat 0 2
    (takes 1 → formatCheck s nsid fm = none → nsid ≠ 0xFFFFFFFF →
      Yields (.adminRequestFormat door nsid cdw10 cdw11) s fun t =>
        t.adm.running = [1] ∧ (∀ z ∈ t.hs.zones, z.nsid ≠ nsid) ∧
          (∀ n ∈ t.hs.ns, n.nsid = nsid → n.lbaf = fm.lbaf ∧ n.mset = fm.mset ∧ n.pi = fm.pi) ∧ t.bays = s.bays ∧ kept t) ∧
    (takes 2 → sanitizeCheck s action = none → action ≠ 1 →
      Yields (.adminRequestSanitize door nsid cdw10 cdw11) s fun t =>
        t.adm.running = [2] ∧ t.adm.sanitizeEver = 2 ∧ t.hs.zones = [] ∧ (s.ebb.recalls = [] → t.bays = s.bays) ∧ kept t) ∧
    (takes 2 → action = 1 →
      Yields (.adminRequestSanitize door nsid cdw10 cdw11) s fun t =>
        t.adm = { s.adm with sanitizeFailed := false } ∧ t.hs = s.hs ∧ t.bays = s.bays ∧ kept t) ∧
    (takes 3 → deleteCheck s nsid = none → nsid ≠ 0xFFFFFFFF →
      Yields (.adminRequestNamespaceDelete door nsid cdw10 cdw11) s fun t =>
        nsOf t nsid = none ∧ (∀ z ∈ t.hs.zones, z.nsid ≠ nsid) ∧ t.adm.running = [] ∧ t.bays = s.bays ∧ kept t) ∧
    (TakesNum door s 0x2060 4 v → s.tierState = 2 →
      Yields (.adoptTier door v) s fun t =>
        t.tierState = 1 ∧ t.tide.writer = s.part.serial ∧ t.adm.running = [] ∧
          HasEvent 22 0 [doorCode door, (s.hs.ns.filter (·.encrypted)).length] t ∧ t.part = s.part ∧ t.fw = s.fw ∧
          Acked door 0x2060 4 t)

/-- Event delivery, the EtherCAT state and the sideband (R459, R482, R509, R510, R512, R524, R525). The SPDM codes are
those log 21 takes. -/
def Obligations.EventDelivery : Prop :=
  ∀ (s : State) (m : EmcyMsg) (rest : List EmcyMsg) (port : Bool) (st : Nat) (e : EcatState) (seqs : List Nat) (p : PortId)
    (msg : List Byte), Active s →
    let stores := fun (t : State) => StoresKept s t
    let i := if port then 1 else 0
    let code := cellByte msg 1
    let ports := s.evt.msixWaiting.filter fun q => (s.ctrls.get q).vec2047
    let sd := fun (t : State) => (t.ctrls.get p).spdmAnswer
    let only := fun (t : State) => t = { s with ctrls := t.ctrls } ∧ ∀ q : PortId, q ≠ p → t.ctrls.get q = s.ctrls.get q
    Yields .msixCoalesceTimer s (fun t =>
      t = { s with evt := t.evt } ∧ t.evt.msixWaiting = [] ∧ t.evt.log = s.evt.log ∧
        t.evt.msixSent = s.evt.msixSent + ports.length) ∧
    (s.evt.emcy = m :: rest → s.evt.emcyDropped = 0 →
      Yields .emergencyMessageSent s (· = { s with evt := { s.evt with emcy := rest, emcySent := some m } })) ∧
    (s.evt.emcy = m :: rest → 0 < s.evt.emcyDropped →
      Yields .emergencyMessageSent s fun t =>
        t.evt.emcySent = some m ∧ t.evt.emcy.length = rest.length + 1 ∧ t.evt.emcyDropped = 0 ∧
          HasEvent 28 4 (evBytes 2 s.evt.emcyDropped) t ∧ t.bays = s.bays ∧ stores t) ∧
    Yields (.ethercatPortLinkChange port true) s
      (· = { s with doors := { s.doors with portLink := modNth s.doors.portLink i fun _ => true } }) ∧
    (s.doors.portLink.getD i false = true →
      Yields (.ethercatPortLinkChange port false) s fun t =>
        t.doors.portLink = modNth s.doors.portLink i (fun _ => false) ∧ HasEvent 28 3 [i] t ∧ t.bays = s.bays ∧ stores t) ∧
    (ecatOf st = some e →
      Yields (.ethercatStateChange st seqs) s fun t =>
        t.doors.ecat = e ∧ (e = .safeOp ∨ e = .op → t.lockPassed = true) ∧ stores t ∧
          (e = .op → s.doors.ecat ≠ .op → ∀ b : BayId, (bayAt t b).ackSeq = seqs.getD b.val 0 % 256) ∧
          (e ≠ .op → s.doors.ecat = .op → HasEvent 28 1 [] t ∧ ∀ b : BayId, (bayAt t b).waiting = none)) ∧
    (s.doors.ecat = .op → s.doors.watchdog = false →
      Yields .pdoWatchdogExpiry s fun t =>
        t.doors.watchdog = true ∧ HasEvent 28 2 [] t ∧ (∀ b : BayId, (bayAt t b).waiting = none) ∧ stores t) ∧
    ((s.ctrls.get p).present = true → (s.ctrls.get p).linkUp = true →
      (spdmResponse code = none → Yields (.spdmRequest p msg) s fun t => sd t = 0x7F ∧ only t) ∧
      (∀ r : Nat, spdmResponse code = some r → code ≠ 0xE0 → code ≠ 0xE4 → code ≠ 0xE5 → code ≠ 0xEC →
        Yields (.spdmRequest p msg) s fun t => sd t = r ∧ only t) ∧
      (code = 0xE0 → 1 ≤ cellByte msg 3 → cellByte msg 3 ≤ 5 →
        Yields (.spdmRequest p msg) s fun t =>
          sd t = 0x60 ∧ (t.ctrls.get p).spdmData = [measurement s (cellByte msg 3)] ∧ only t) ∧
      (code = 0xE4 → sessions s < 4 →
        Yields (.spdmRequest p msg) s fun t => sd t = 0x64 ∧ (t.ctrls.get p).spdm = (s.ctrls.get p).spdm + 1 ∧ only t) ∧
      (code = 0xEC → 0 < (s.ctrls.get p).spdm →
        Yields (.spdmRequest p msg) s fun t => sd t = 0x6C ∧ (t.ctrls.get p).spdm = (s.ctrls.get p).spdm - 1 ∧ only t))

/-- Handshakes, the power policy, wakes and the Shoal watch (R491, R493, R494, R495, R499, R500, R501). -/
def Obligations.PowerStates : Prop :=
  ∀ (s : State) (target block sum ms mv12 mvF cause : Nat) (temps : List Int) (discs : List (Bool × Bool)) (links : List Bool)
    (b : Boot) (data : List Nat), s.phase = .running → s.pwr.waiting = [] →
    let kept := fun (t : State) => t.part = s.part ∧ t.fw = s.fw
    let agree := fun (tgt k : Nat) => askBlock tgt k s = .agree
    let woken := fun (t : State) => t.pwr.ps = s.pwr.fromPs ∧ HasEvent 13 0 [s.pwr.ps, s.pwr.fromPs] t ∧ kept t
    let hbm := b.hbm0 = true ∧ b.hbm1 = true
    (s.pwr.shaking = some (target, block, sum) → 2 ≤ target → target ≤ 3 → s.pwr.ps < 3 → 1 ≤ block →
      (∀ k : Nat, block ≤ k → k ≤ lastBlock target → agree target k) →
      Yields .powerHandshakeDelay s fun t =>
        t.pwr.ps = target ∧ t.pwr.shaking = none ∧ HasEvent 13 0 [s.pwr.ps, target] t ∧ kept t) ∧
    (s.pwr.shaking = some (target, block, sum) → 1 ≤ block → block ≤ lastBlock target → askBlock target block s = .delay ms →
      sum + ms ≤ 500 →
      Yields .powerHandshakeDelay s (· = { s with pwr := { s.pwr with shaking := some (target, block, sum + ms) } })) ∧
    (s.pwr.shaking = none → num s 0x2020 1 = 1 → s.pwr.ps < 2 → num s 0x2020 2 ≠ 0 → archiveIdle s = true →
      Yields .policyIdleTimer s fun t => t.pwr.ps = 2 ∧ HasEvent 13 0 [s.pwr.ps, 2] t ∧ kept t) ∧
    (s.pwr.shaking = none → num s 0x2020 1 = 1 → s.pwr.ps = 2 → num s 0x2020 3 ≠ 0 →
      (∀ k : Nat, 1 ≤ k → k ≤ 13 → agree (if num s 0x2020 4 = 1 then 4 else 3) k) →
      Yields .policyIdleTimer s fun t => t.pwr.ps = (if num s 0x2020 4 = 1 then 4 else 3) ∧ kept t) ∧
    (s.pwr.shaking = none → s.pwr.fromPs < 3 → s.pwr.captured = [] → s.pwr.shoal = none → s.evt.deferred = [] →
      (s.pwr.ps = 3 → Yields (.powerWake b) s woken) ∧
      (s.pwr.ps = 4 → hbm → Yields (.powerWake b) s fun t => woken t ∧ t.mem.hbmTrained = true) ∧
      (s.pwr.ps = 4 → b.hbm0 = false →
        Yields (.powerWake b) s fun t => t.phase = .harbour ∧ t.harbourCause = 6 ∧ kept t) ∧
      (s.pwr.ps = 4 → shoalCause mv12 mvF temps discs links s = none →
        Yields (.shoalWatchCycle mv12 mvF temps discs links b) s (· = shoalSample mv12 mvF temps discs links s)) ∧
      (s.pwr.ps = 4 → shoalCause mv12 mvF temps discs links s = some (cause, data) → s.sup.dip = false → hbm →
        Yields (.shoalWatchCycle mv12 mvF temps discs links b) s fun t =>
          woken t ∧ HasEvent 12 cause data t ∧ t.pwr.shoal = none ∧ t.sup.v12 = mv12 ∧ t.sup.vfld = mvF))

/-- A spindle is watched, aligned, forced, handed over and retried (R404, R405, R406, R407, R409, R410). -/
def Obligations.SpindleStarts : Prop :=
  ∀ (b : BayId) (s : State) (seen : EmfWatch) (t0 : Nat) (peaks again : List Nat), Active s →
    bayEnabled s b = true → (bayAt s b).cway.wg = false →
    let y := bayAt s b
    let p := y.spin
    let spin := fun (t : State) => (bayAt t b).spin
    let speed := watchSpeed s b seen
    let good := EmfWatch.forward seen = true ∧ 300 < speed
    let failed := fun (cause : Nat) (t : State) =>
      HasEvent (bayEvent b 4) cause [] t ∧ (spin t).gates = 0 ∧ (spin t).sensorless = false ∧ (spin t).state = 7 ∧
        (spin t).retryDue = true ∧ OneBay b s t
    (p.state = 1 → good →
      Yields (.spindleWatchEnd b seen) s fun t =>
        (spin t).state = 3 ∧ (spin t).speed = speed ∧ (spin t).tPrev = EmfWatch.interval seen ∧ OneBay b s t) ∧
    (p.state = 1 → ¬ good → EmfWatch.backward seen = true ∨ 30 ≤ speed → y.spindleFault = false →
      Yields (.spindleWatchEnd b seen) s fun t =>
        (spin t).state = 6 ∧ (spin t).target = p.target ∧ (spin t).afterBrake = true ∧ OneBay b s t) ∧
    (p.state = 1 → EmfWatch.backward seen = false → speed < 30 →
      Yields (.spindleWatchEnd b seen) s fun t =>
        (spin t).state = 2 ∧ (spin t).target = p.target ∧ (spin t).gates = 0 ∧ OneBay b s t) ∧
    (p.state = 2 →
      Yields (.forcedCommutation b peaks again t0) s fun t =>
        (spin t).state = 3 ∧ (spin t).gates = 1 ∧ (spin t).comm = (rotorState peaks again + 2) % 6 ∧ (spin t).forced = 0 ∧
          (spin t).lastComm = t0 ∧ OneBay b s t) ∧
    (p.state = 3 → p.gates = 1 → p.sensorless = false → p.forced < forcedCount s b →
      Yields (.forcedCommutation b peaks again t0) s fun t =>
        (spin t).comm = (p.comm + 1) % 6 ∧ (spin t).forced = p.forced + 1 ∧ (spin t).lastComm = t0 ∧ OneBay b s t) ∧
    (p.duePred ≠ 0 → p.state = 3 → p.gates = 0 →
      Yields (.commutation b) s fun t =>
        (spin t).comm = (p.comm + 1) % 6 ∧ (spin t).lastComm = p.duePred ∧ (spin t).gates = 1 ∧ (spin t).sensorless = true ∧
          OneBay b s t) ∧
    (NoneWaits s → p.runAt = none → p.retries < bnum s b 0x20 0x0C →
      (p.state = 3 → p.sensorless = false → p.gates = 1 → Yields (.startTimeout b) s (failed 2)) ∧
      (p.state = 4 → p.sensorless = true → p.crossed = false → p.missedRun = 4 → Yields (.missedWindow b) s (failed 1))) ∧
    (NoneWaits s → startingCount s < 4 → p.state = 7 → p.retryDue = true → p.sensorless = false →
      Yields (.spindleRetry b) s fun t =>
        (spin t).state = 1 ∧ (spin t).target = p.target ∧ (spin t).retries = p.retries + 1 ∧ OneBay b s t)

/-- A sensorless spindle commutates, reports its speed, brakes and comes to rest (R402, R403, R406, R408, R412, R414,
R415). -/
def Obligations.SpindleRuns : Prop :=
  ∀ (b : BayId) (s : State) (c : Crossing) (seen : EmfWatch), Active s → (bayAt s b).cway.wg = false →
    let y := bayAt s b
    let p := y.spin
    let speed := watchSpeed s b seen
    let spin := fun (t : State) => (bayAt t b).spin
    let only := fun (t : State) => t = { s with bays := t.bays } ∧ OtherBays b s t
    (p.sensorless = true → p.crossed = false → crossingState c = p.comm → p.comm < 6 → p.tPrev ≤ 4 * (c.t - p.lastComm) →
      Yields (.zeroCrossing b c) s fun t =>
        bayAt t b = { y with spin := { p with crossed := true, duePred := c.t + commDelay s b p.tPrev, missedRun := 0 } } ∧ only t) ∧
    (p.duePred ≠ 0 → p.sensorless = true → p.state = 4 → NoneWaits s →
      Yields (.commutation b) s fun t =>
        (spin t).comm = (p.comm + 1) % 6 ∧ (spin t).lastComm = p.duePred ∧ (spin t).duePred = 0 ∧ OneBay b s t) ∧
    (p.sensorless = true → p.crossed = false → p.missedRun < 4 → NoneWaits s →
      Yields (.missedWindow b) s fun t =>
        (spin t).comm = (p.comm + 1) % 6 ∧ (spin t).lastComm = p.lastComm + p.tPrev ∧ OneBay b s t) ∧
    (p.sensorless = true → p.state = 3 ∨ p.state = 5 → p.onTarget = true → 0 < p.target → NoneWaits s →
      Yields (.spindleRunning b) s fun t => (spin t).state = 4 ∧ (spin t).runAt = some s.clock ∧ only t) ∧
    (p.sensorless = true → p.state = 3 ∨ p.state = 4 → p.duty = bnum s b 0x20 0x0F → p.speed * 200 < p.target * 199 → NoneWaits s →
      Yields (.speedLimited b) s fun t => (spin t).state = 5 ∧ (spin t).sensorless = true ∧ only t) ∧
    (p.state = 6 → p.brakeHold = false →
      Yields (.brakeCheck b seen) s fun t =>
        (spin t).speed = speed ∧ (spin t).state = 6 ∧ (spin t).brakeHold = decide (speed < 30) ∧ OneBay b s t) ∧
    (p.state = 7 → p.retryDue = false → p.dipCoast = false → speed < 30 → NoneWaits s →
      Yields (.brakeCheck b seen) s fun t => (spin t).state = 0 ∧ (spin t).speed = 0 ∧ OneBay b s t) ∧
    (p.state = 6 → p.brakeHold = true → p.waitStart = none → p.afterBrake = false →
      Yields (.brakeEnd b) s fun t => (spin t).state = 0 ∧ (spin t).speed = 0 ∧ (bayAt t b).tb.state = 0 ∧ OneBay b s t) ∧
    (p.state = 6 → p.brakeHold = true → p.waitStart = none → p.afterBrake = true →
      Yields (.brakeEnd b) s fun t => (spin t).state = 2 ∧ (spin t).target = p.target ∧ OneBay b s t) ∧
    (p.dipCoast = true →
      Yields (.coastObservationTimeout b) s fun t =>
        bayAt t b = { y with spin := { p with dipCoast := false, duePred := 0, crossed := false } } ∧ only t)

/-- The library's answers, its silences, and discs that come and go (R214, R223, R230, R234, R478, R479, R481). What a
bay does next after a request ended is as the model orders it (nextRequest). -/
def Obligations.LibraryAnswers : Prop :=
  ∀ (b : BayId) (s : State) (lead : LeadIn), Active s → libraryOpen s = true →
    let y := bayAt s b
    let kept := fun (t : State) => t.part = s.part ∧ t.fw = s.fw ∧ t.doors = s.doors
    let one := fun (t : State) => OtherBays b s t ∧ t.hs = s.hs ∧ t.flash = s.flash ∧ kept t
    let said := fun (code : Nat) (t : State) => (bayAt t b).ansCode = code ∧ (bayAt t b).ansSeq = y.reqSeq
    let asks := fun (code reason : Nat) (serial : List Byte) (t : State) =>
      (bayAt t b).reqCode = code ∧ (bayAt t b).reqReason = reason ∧ (bayAt t b).reqSerial = serial
    let idle := asks 0 0 []
    let starts := NoneWaits s ∧ startingCount s < 4 ∧ AtRest y.spin
    let turns := fun (rpm : Nat) (t : State) => (bayAt t b).spin.state = 1 ∧ (bayAt t b).spin.target = rpm
    let serial := if LeadIn.readable lead = true ∧ LeadIn.version lead = 1 then LeadIn.serial lead else []
    let blank := fun (sid : Nat) (d : SetDisc) => if isRecon s sid then 3 else if d.replacement then 4 else 1
    let open1 := fun (sid : Nat) (d : SetDisc) => discOn s b = some (sid, d) ∧ d.resync = false ∧ d.serial = []
    let set1 := fun (sid : Nat) (d : SetDisc) (a : ArchSet) => discOn s b = some (sid, d) ∧ setOf s sid = some a ∧ d ∈ a.discs
    let noWork := discOn s b = none ∧ recallOn s b = none ∧ reconSerial s b = none
    (y.reqSeq < 256 → clamped y = false →
      Yields (.libraryAnswerLoaded b y.reqSeq lead) s fun t =>
        bayAt t b = { y with ansCode := 1, ansSeq := y.reqSeq, ansLead := some lead } ∧ t.ebb = s.ebb ∧ one t) ∧
    (y.reqSeq < 256 → clamped y = true →
      (y.reqCode = 1 → (∀ (sid : Nat) (d : SetDisc), discOn s b = some (sid, d) → LeadIn.discState lead = 2 → starts →
        Yields (.libraryAnswerLoaded b y.reqSeq lead) s fun t =>
          (bayAt t b).disc = 2 ∧ (bayAt t b).serial = LeadIn.serial lead ∧ discOn t b = some (sid, { d with serial := LeadIn.serial lead }) ∧
            idle t ∧ turns 7200 t ∧ said 1 t ∧ one t)) ∧
      (y.reqCode = 1 → y.spin.state = 0 → y.cway.wg = false → LeadIn.discState lead ≠ 2 ∨ discOn s b = none →
        Yields (.libraryAnswerLoaded b y.reqSeq lead) s fun t =>
          (bayAt t b).disc = LeadIn.discState lead ∧ (bayAt t b).serial = serial ∧ asks 3 7 [] t ∧ said 1 t ∧ one t) ∧
      (y.reqCode = 2 → y.reqReason = 2 → starts →
        Yields (.libraryAnswerLoaded b y.reqSeq lead) s fun t =>
          (bayAt t b).disc = 1 ∧ asks 2 2 y.reqSerial t ∧ turns 9600 t ∧ said 1 t ∧ t.ebb = s.ebb ∧ one t) ∧
      (y.reqCode = 2 → y.reqReason ≠ 2 → serial = y.reqSerial → starts →
        Yields (.libraryAnswerLoaded b y.reqSeq lead) s fun t =>
          (bayAt t b).disc = LeadIn.discState lead ∧ (bayAt t b).serial = serial ∧ idle t ∧
            turns (if y.reqReason = 5 then 7200 else 9600) t ∧ said 1 t ∧ t.ebb = s.ebb ∧ one t) ∧
      (y.reqCode = 2 → y.reqReason ≠ 2 → serial ≠ y.reqSerial → y.misread = false → y.spin.state = 0 → y.cway.wg = false →
        Yields (.libraryAnswerLoaded b y.reqSeq lead) s fun t =>
          (bayAt t b).misread = true ∧ asks 3 7 [] t ∧ said 1 t ∧ one t) ∧
      (y.reqCode = 2 → y.reqReason = 3 → serial ≠ y.reqSerial → y.misread = true →
        Yields (.libraryAnswerLoaded b y.reqSeq lead) s fun t =>
          t.ebb.recon.status = 4 ∧ t.ebb.recon.bays = [] ∧
            HasEvent 122 4 (evBytes 4 s.ebb.recon.setId ++ [s.ebb.recon.role]) t ∧ kept t)) ∧
    (y.reqSeq < 256 → y.reqCode = 3 → y.present = false →
      (noWork → Yields (.libraryAnswerUnloaded b y.reqSeq) s fun t =>
        idle t ∧ (bayAt t b).unloadDue = none ∧ said 2 t ∧ one t) ∧
      (∀ (sid : Nat) (d : SetDisc), open1 sid d →
        Yields (.libraryAnswerUnloaded b y.reqSeq) s fun t =>
          asks 1 (blank sid d) [] t ∧ (bayAt t b).unloadDue = none ∧ said 2 t ∧ t.ebb = s.ebb ∧ one t) ∧
      (∀ r : Recall, discOn s b = none → recallOn s b = some r →
        Yields (.libraryAnswerUnloaded b y.reqSeq) s fun t =>
          asks 2 2 (expectedSerial s b r) t ∧ (bayAt t b).unloadDue = none ∧ said 2 t ∧ t.ebb = s.ebb ∧ one t)) ∧
    (y.reqSeq < 256 → (y.reqCode = 1 →
        Yields (.libraryAnswerUnavailable b y.reqSeq) s fun t => idle t ∧ (bayAt t b).blankDue = true ∧ said 3 t ∧ one t) ∧
      (∀ r : Recall, y.reqCode = 2 → y.reqReason = 2 → recallOn s b = some r →
        Yields (.libraryAnswerUnavailable b y.reqSeq) s fun t =>
          HasEvent 121 3 (evBytes 8 r.obj) t ∧ (∀ x ∈ t.ebb.recalls, x.obj ≠ r.obj) ∧ kept t) ∧
      (y.reqCode = 2 → y.reqReason = 3 →
        Yields (.libraryAnswerUnavailable b y.reqSeq) s fun t =>
          t.ebb.recon.status = 4 ∧ HasEvent 122 4 (evBytes 4 s.ebb.recon.setId ++ [s.ebb.recon.role]) t ∧ kept t) ∧
      (y.reqCode = 3 →
        Yields (.libraryAnswerUnavailable b y.reqSeq) s fun t =>
          HasEvent 123 0 [b.val, y.reqReason] t ∧ idle t ∧ (bayAt t b).unloadDue = some y.reqReason ∧ said 3 t ∧ one t)) ∧
    ((∀ (sid : Nat) (d : SetDisc) (a : ArchSet), y.reqCode = 1 → isRecon s sid = false → set1 sid d a →
        Yields (.libraryRequestTimeout b) s fun t =>
          HasEvent 114 4 (evBytes 4 sid ++ [d.role]) t ∧ HasEvent 123 0 [b.val, y.reqReason] t ∧ kept t) ∧
      (∀ (sid : Nat) (d : SetDisc) (a : ArchSet), y.reqCode = 0 → y.blankDue = true → isRecon s sid = false → set1 sid d a →
        Yields (.libraryRequestTimeout b) s fun t =>
          HasEvent 114 4 (evBytes 4 sid ++ [d.role]) t ∧ (bayAt t b).blankDue = false ∧ kept t) ∧
      (∀ r : Recall, y.reqCode = 2 → y.reqReason = 2 → recallOn s b = some r →
        Yields (.libraryRequestTimeout b) s fun t =>
          HasEvent 121 3 (evBytes 8 r.obj) t ∧ (∀ x ∈ t.ebb.recalls, x.obj ≠ r.obj) ∧ kept t) ∧
      (y.reqCode = 2 → y.reqReason = 3 →
        Yields (.libraryRequestTimeout b) s fun t =>
          t.ebb.recon.status = 4 ∧ HasEvent 122 4 (evBytes 4 s.ebb.recon.setId ++ [s.ebb.recon.role]) t ∧ kept t) ∧
      (y.reqCode = 3 →
        Yields (.libraryRequestTimeout b) s fun t =>
          HasEvent 123 0 [b.val, y.reqReason] t ∧ idle t ∧ (bayAt t b).unloadDue = some y.reqReason ∧ one t)) ∧
    (y.blankDue = true → y.reqCode = 0 →
      (noWork → Yields (.blankRequestRetry b) s fun t => (bayAt t b).blankDue = false ∧ one t) ∧
      (∀ (sid : Nat) (d : SetDisc), y.present = false → open1 sid d →
        Yields (.blankRequestRetry b) s fun t =>
          asks 1 (blank sid d) [] t ∧ (bayAt t b).blankDue = false ∧ t.ebb = s.ebb ∧ one t)) ∧
    (∀ r : Nat, y.unloadDue = some r → y.reqCode = 0 → y.present = true → y.spin.state = 0 → y.cway.wg = false →
      Yields (.unloadRepost b) s fun t => asks 3 r [] t ∧ (bayAt t b).unloadDue = none ∧ one t) ∧
    (y.present = false →
      (y.loaderState ≠ 3 → Yields (.discInserted b lead) s fun t =>
        (bayAt t b).present = true ∧ (bayAt t b).disc = 1 ∧ t = { s with bays := t.bays } ∧ one t) ∧
      (y.loaderState = 3 → y.reqCode = 0 → y.started = true → bayEnabled s b = true → y.spin.state = 0 → y.cway.wg = false →
        aboutToAsk s b serial = false →
        Yields (.discInserted b lead) s fun t =>
          (bayAt t b).present = true ∧ (bayAt t b).disc = LeadIn.discState lead ∧ (bayAt t b).serial = serial ∧
            asks 3 8 [] t ∧ one t)) ∧
    (y.present = true →
      Yields (.discRemoved b) s (fun t =>
        (bayAt t b).present = false ∧ (bayAt t b).disc = 0 ∧ (bayAt t b).serial = [] ∧ t.hs = s.hs ∧ t.flash = s.flash ∧ kept t) ∧
      ∀ (sid : Nat) (d : SetDisc) (a : ArchSet), set1 sid d a → d.serial ≠ [] → d.resync = false →
        Yields (.discRemoved b) s fun t => HasEvent 114 3 (evBytes 4 sid ++ [d.role]) t)

/-- Spot sample, servo and status cells arrive from a head (R296, R297, R314, R317, R318, R319, R321, R328, R339). -/
def Obligations.CellsArrive : Prop :=
  ∀ (b : BayId) (cell : List Byte) (s : State), Active s → bayEnabled s b = true → (bayAt s b).cway.state = 2 →
    (bayAt s b).cway.wg = false →
    let y := bayAt s b
    let c := y.cway
    let spot := cellByte cell 0 % 16
    let seq := cellByte cell 1
    let after := fun (p : Nat) => (p + 1) % 256
    let noted := modNth c.seqs spot fun _ => some seq
    let first := cellField cell 4 4
    let stamped := fun (sc : Nat) => { y with cway := { c with sc := sc % 2 ^ 32, scAt := nowPs s - 1000 * y.tb.delay } }
    let st := stamped (first + cellByte cell 2 - 1)
    let heard := if 4 ≤ spot ∧ spot < 8 then takeSamples s (spot - 4) first (cellSamples cell) st else st
    let only := fun (z : Bay) (t : State) => bayAt t b = z ∧ t = { s with bays := t.bays } ∧ OtherBays b s t
    let bad := { y with cway := { c with upErrors := satAdd 4294967295 c.upErrors 1,
                                         errorsAt := (s.clock :: c.errorsAt.filter fun t => decide (s.clock < t + usCycles 10000)).take 256 } }
    let joined := fun (t : State) =>
      (bayAt t b).servo.cells = (quadrants cell :: y.servo.cells).take 4 ∧ (bayAt t b).servo.cellSeq = some seq
    (cellKnown cell = true → cellType cell = 1 → ∀ p : Nat, (c.seqs[spot]?).join = some p →
      (after p = seq → Yields (.spotSampleCell b cell) s (only { heard with cway := { heard.cway with seqs := noted } })) ∧
      (after p ≠ seq → 4 ≤ spot → heard.chan.gaps.contains (spot - 4) = false →
        Yields (.spotSampleCell b cell) s (only
          { heard with cway := { heard.cway with seqs := noted, upErrors := satAdd 4294967295 heard.cway.upErrors 1 },
                       chan := { heard.chan with gaps := (spot - 4) :: heard.chan.gaps } }))) ∧
    (cellKnown cell = false → bad.cway.errorsAt.length ≤ bnum s b 0x70 0x0C →
      Yields (.spotSampleCell b cell) s (only bad) ∧ Yields (.servoCell b cell) s (only bad) ∧
        Yields (.statusCell b cell) s (only bad)) ∧
    (cellKnown cell = true → cellType cell = 2 → ∀ p : Nat, y.servo.cellSeq = some p →
      (seq = after p → p < 256 → Yields (.servoCell b cell) s fun t =>
        joined t ∧ (bayAt t b).cway = (stamped first).cway ∧ t = { s with bays := t.bays } ∧ OtherBays b s t) ∧
      (2 ≤ (seq + 255 - p) % 256 → Yields (.servoCell b cell) s fun t =>
        joined t ∧ (bayAt t b).cway.servoMissing = satAdd 4294967295 c.servoMissing ((seq + 255 - p) % 256) ∧
          HasEvent (bayEvent b 7) 4 (evBytes 2 c.faults.toNat) t ∧ OneBay b s t)) ∧
    (cellKnown cell = true → cellType cell = 3 → cellField cell 4 2 = c.faults.toNat → cellField cell 14 2 ≤ c.dnSeen →
      cellByte cell 2 ≠ 0 → c.regQueue = [] →
      Yields (.statusCell b cell) s (only
        { y with cway := { c with laser := cellByte cell 2, inhibit := bitOf (cellByte cell 3) 1,
                                  headEpoch := cellByte cell 7 % 16, dnErrors := satAdd 4294967295 c.dnErrors 0,
                                  dnSeen := cellField cell 14 2, rejSeen := cellField cell 16 4,
                                  rejected := satAdd 4294967295 c.rejected (cellField cell 16 4 - c.rejSeen),
                                  sc := cellField cell 8 4 % 2 ^ 32, scAt := nowPs s - 1000 * y.tb.delay,
                                  regOut := if cellByte cell 6 = c.regSeq then none else c.regOut } }))

/-- Links train, retrain, and answer their faults (R328, R335, R336, R337, R338, R339). -/
def Obligations.LinkTrains : Prop :=
  ∀ (b : BayId) (s : State) (identity : List Byte) (reads sets : List (List Byte)) (us delay : Nat), Active s → bayEnabled s b = true →
    (bayAt s b).cway.wg = false →
    let y := bayAt s b
    let c := y.cway
    let good := identityRead reads = some identity ∧ identityOk identity = true ∧ lanesOk b sets = true ∧ us ≤ 200000
    let bad := ∀ x : List Byte, identityRead reads = some x → identityOk x = false ∨ lanesOk b sets = false ∨ 200000 < us
    let link := fun (t : State) => (bayAt t b).cway
    let up := fun (t : State) =>
      (link t).state = 2 ∧ (link t).identity = identity ∧ (link t).trainTime = us ∧ (link t).readPower = num s 0x2830 6 ∧
        (link t).spotMask = 0xF0 ∧ (link t).serial = identitySerial identity ∧ (link t).retraining = false ∧
        (bayAt t b).tb.delay = delay ∧ OneBay b s t
    let attempt := fun (t : State) => (link t).state = 1 ∧ (link t).attempts = c.attempts + 1 ∧ t = { s with bays := t.bays } ∧ OneBay b s t
    let failed := fun (t : State) =>
      HasEvent (bayEvent b 7) 1 (evBytes 2 c.faults.toNat) t ∧ (link t).state = 3 ∧ (link t).len = false ∧ OneBay b s t
    (c.state = 1 → c.retraining = false →
      (good → identitySerial identity = c.serial → Yields (.linkTraining b reads sets us delay) s up) ∧
      (good → identitySerial identity ≠ c.serial →
        Yields (.linkTraining b reads sets us delay) s fun t =>
          HasEvent (bayEvent b 7) 5 (evBytes 2 c.faults.toNat) t ∧ (link t).newHead = true ∧ (bayAt t b).servo.fresh = 0 ∧
            (bayAt t b).chan.opcDue = true ∧ up t) ∧
      (bad → c.attempts < 2 → Yields (.linkTraining b reads sets us delay) s attempt) ∧
      (bad → c.attempts = 2 → Yields (.linkTraining b reads sets us delay) s failed) ∧
      (c.attempts < 2 → Yields (.trainingTimeout b) s attempt) ∧
      (c.attempts = 2 → Yields (.trainingTimeout b) s failed)) ∧
    (c.state = 2 → y.servo.closed 0 = false → good → identitySerial identity = c.serial →
      Yields (.linkRetrain b reads sets us delay) s fun t =>
        HasEvent (bayEvent b 7) 2 (evBytes 2 c.faults.toNat) t ∧ (link t).retrains = satAdd 4294967295 c.retrains 1 ∧ up t) ∧
    (∀ a v n : Nat, c.regOut = some (a, v, n) → n < 8 →
      Yields (.registerAckTimeout b) s fun t =>
        bayAt t b = { y with cway := { c with regOut := some (a, v, n + 1) } } ∧ t = { s with bays := t.bays } ∧
          OtherBays b s t) ∧
    (∀ f : BitVec 16, c.state = 2 → c.faults = 0 → f &&& 0x00F3#16 = 0 → f &&& 0x000C#16 ≠ 0 →
      Yields (.cwFltNLow b f) s fun t =>
        HasEvent (bayEvent b 7) 3 (evBytes 2 f.toNat) t ∧ bayAt t b = { y with cway := { c with faults := f, len := false } } ∧
          OneBay b s t) ∧
    (c.state = 2 → c.faults &&& 0x0003#16 ≠ 0 → c.faults &&& 0x000C#16 = 0 → y.harbour = false → c.regOut = none →
      Yields (.laserFaultClear b) s fun t =>
        (link t).len = true ∧ (link t).regOut = some (4, (c.faults &&& 0x0003#16).toNat, 1) ∧
          (link t).regQueue = c.regQueue ++ [(0, 1)] ∧ t = { s with bays := t.bays } ∧ OtherBays b s t)

/-- The timebase locks, closes windows, and commits their outcomes (R345, R347, R348, R350, R351, R352, R353, R359).
-/
def Obligations.WindowsAndCommits : Prop :=
  ∀ (b : BayId) (s : State) (cand : Cand) (cands : List Cand) (lens : Int), Active s → bayEnabled s b = true →
    (bayAt s b).cway.wg = false →
    let y := bayAt s b
    let v := y.servo
    let t0 := y.tb
    let tb := fun (t : State) => (bayAt t b).tb
    let p := placeCand y cand
    let run := ((p.wedge / 2, p.t) :: t0.lockRun).take 3
    let only := fun (t : State) => t = { s with bays := t.bays } ∧ OtherBays b s t
    (t0.state = 1 → parityOk 6 p.layer = true → parityOk 11 p.wedge = true →
      (lockFits y.spin.speed run = false → Yields (.acquireLock b cand) s fun t =>
        bayAt t b = { y with tb := { t0 with lockRun := run } } ∧ only t) ∧
      (lockFits y.spin.speed run = true → v.confirming = false → Yields (.acquireLock b cand) s fun t =>
        (tb t).state = 2 ∧ (tb t).period = (p.t - (run.getD 2 (0, 0)).2) / 2 ∧
          (tb t).pred = p.t + (p.t - (run.getD 2 (0, 0)).2) / 2 ∧ (tb t).wedge % 960 = (p.wedge / 2 + 1) % 960 ∧
          (tb t).missed = 0 ∧ only t)) ∧
    (t0.state = 2 ∨ t0.state = 3 → t0.closed = none →
      ((∀ c ∈ cands, insideWindow t0 (placeCand y c) = false) → Yields (.windowClose b cands) s fun t =>
        (tb t).state = 3 ∧ (tb t).closed = some none ∧ (tb t).standing = [] ∧ (bayAt t b).servo = v ∧ only t) ∧
      (cand.spot < 4 → bnum s b 0x80 3 ≤ cand.corr → insideWindow t0 p = true → candFails v t0 p = 0 →
        Yields (.windowClose b [cand]) s fun t =>
          (tb t).state = t0.state ∧ (tb t).closed = some (some p.t) ∧
            (tb t).standing = [(cand.spot, burstError (v.track + cand.spot) p, grayDecode p.track)] ∧
            (bayAt t b).servo = v ∧ only t)) ∧
    (t0.state = 2 ∨ t0.state = 3 → v.closed 0 = false → v.closed 1 = false → v.state < 4 →
      (∀ o : Nat, t0.closed = some (some o) → Yields (.wedgeCommit b lens) s fun t =>
        (tb t).state = 2 ∧ (tb t).pred = ((t0.pred + t0.period : Nat) + (t0.kp : Int) * ((o : Int) - t0.pred) / 256).toNat ∧
          (tb t).period = ((t0.period : Int) + (t0.kf : Int) * ((o : Int) - t0.pred) / 256).toNat ∧
          (tb t).wedge = t0.wedge + 1 ∧ (tb t).accepted = satAdd 18446744073709551615 t0.accepted 1 ∧ (tb t).missed = 0 ∧ only t) ∧
      (t0.closed = some none → t0.missed + 1 < t0.coastLim → Yields (.wedgeCommit b lens) s fun t =>
        (tb t).state = 3 ∧ (tb t).pred = t0.pred + t0.period ∧ (tb t).period = t0.period ∧ (tb t).wedge = t0.wedge + 1 ∧
          (tb t).coasted = satAdd 4294967295 t0.coasted 1 ∧ (tb t).missed = t0.missed + 1 ∧ only t) ∧
      (t0.closed = some none → t0.coastLim ≤ t0.missed + 1 → Yields (.wedgeCommit b lens) s fun t =>
        HasEvent (bayEvent b 2) 0 [] t ∧ (tb t).state = 1 ∧ (tb t).queue = [] ∧ OneBay b s t))

/-- Queued entries fire at their angle, and the sled encoder counts (R354, R355, R356, R360, R361). -/
def Obligations.FiringAndEncoder : Prop :=
  ∀ (b : BayId) (s : State) (e : QEvent) (rest : List QEvent) (lineA lineB : Bool) (samples : Nat), Active s →
    bayEnabled s b = true →
    let y := bayAt s b
    let t0 := y.tb
    let fired := fun (t : State) =>
      (bayAt t b).tb.queue = rest ∧ (bayAt t b).tb.angle = max (presentAngle s b) e.stamp ∧ t = { s with bays := t.bays } ∧
        OtherBays b s t
    let ab := lineA.toNat * 2 + lineB.toNat
    let step := quadStep t0.encAB ab
    let cnt := t0.encoder + step.getD 0
    let lim := encLimit (bnum s b 0x80 0x0D)
    let near := (cnt - t0.encBase).natAbs ≤ lim ∧ ∀ p ∈ t0.encHist, (cnt - p.2).natAbs ≤ lim
    (t0.queue = e :: rest →
      (e.kind = 1 → Yields (.eventFire b) s fun t =>
        (bayAt t b).cway = { y.cway with wg := false } ∧ (bayAt t b).servo = y.servo ∧ fired t) ∧
      (e.kind = 2 → Yields (.eventFire b) s fun t => (bayAt t b).tb.powerInForce = e.arg ∧ (bayAt t b).cway = y.cway ∧ fired t) ∧
      (e.kind = 3 → Yields (.eventFire b) s fun t =>
        (bayAt t b).tb.captured = some (y.snap e.arg (max (presentAngle s b) e.stamp)) ∧ (bayAt t b).servo = y.servo ∧ fired t) ∧
      (∀ l : Loop, ∀ u : Int, e.kind = 4 → y.servo.loops[e.arg]? = some l → l.next = some u →
        Yields (.eventFire b) s fun t =>
          (bayAt t b).servo.loops[e.arg]? = some { l with out := u, next := none } ∧
            (bayAt t b).tb.updates = t0.updates + 1 ∧ fired t) ∧
      (e.kind = 5 → mayRaiseGate s b = true → Yields (.eventFire b) s fun t =>
        (bayAt t b).cway = { y.cway with wg := true } ∧ fired t) ∧
      (e.kind = 5 → mayRaiseGate s b = false → Yields (.eventFire b) s fun t =>
        (bayAt t b).cway = y.cway ∧ (bayAt t b).chan.rowActive = false ∧ fired t)) ∧
    (bnum s b 0x80 0x0C = 1 → near →
      (∀ d : Int, step = some d → Yields (.encoderCount b lineA lineB samples) s fun t =>
        (bayAt t b).tb.encoder = t0.encoder + d ∧ (bayAt t b).tb.skips = t0.skips ∧
          (bayAt t b).tb.uncertain = t0.uncertain ∧ t = { s with bays := t.bays } ∧ OtherBays b s t) ∧
      (step = none → t0.encSkipAt = none → Yields (.encoderCount b lineA lineB samples) s fun t =>
        (bayAt t b).tb.encoder = t0.encoder ∧ (bayAt t b).tb.skips = satAdd 4294967295 t0.skips 1 ∧
          (bayAt t b).tb.uncertain = t0.uncertain ∧ t = { s with bays := t.bays } ∧ OtherBays b s t) ∧
      (∀ k : Nat, step = none → t0.encSkipAt = some k → t0.encAt + max 1 samples < k + 1024 → t0.uncertain = false →
        Yields (.encoderCount b lineA lineB samples) s fun t =>
          HasEvent (bayEvent b 5) 1 [] t ∧ (bayAt t b).tb.uncertain = true ∧ OneBay b s t))

/-- Focus is captured, jumps to another layer, and the spots seek a row (R388, R389, R390, R392, R398). -/
def Obligations.FocusMoves : Prop :=
  ∀ (b : BayId) (s : State) (layer : Nat) (row : Int), Active s → bayEnabled s b = true → (bayAt s b).harbour = false →
    (bayAt s b).cway.wg = false → layer < 24 →
    let y := bayAt s b
    let v := y.servo
    let servo := fun (t : State) => (bayAt t b).servo
    let only := fun (t : State) => t = { s with bays := t.bays } ∧ OtherBays b s t
    let rejected := fun (reason l : Nat) (t : State) =>
      let r := [1, reason, l, 0] ++ evBytes 4 (presentAngle s b / revUnits % 4194304)
      HasEvent (bayEvent b 8) 1 r t ∧ (servo t).rejection = r
    (v.closed 0 = false → captureReady s b layer = true → Yields (.focusCapture b layer) s fun t =>
      (servo t).state = 2 ∧ (servo t).mode = 0 ∧ (servo t).target = layer ∧ (servo t).layer = 255 ∧
        (servo t).prof.on = true ∧ (servo t).prof.r = profUnits (v.depthOf layer + 40) ∧ only t) ∧
    (v.closed 0 = false → captureReady s b layer = false → Yields (.focusCapture b layer) s fun t =>
      rejected 1 layer t ∧ (servo t).state = v.state ∧ (servo t).loops = v.loops ∧ OneBay b s t) ∧
    (v.state = 2 → v.closed 0 = true → v.attempts + 1 < bnum s b 0x10 0x0A → Yields (.captureSettleTimeout b) s fun t =>
      rejected 4 v.target t ∧ (servo t).state = 1 ∧ (servo t).closed 0 = false ∧ (servo t).attempts = v.attempts + 1 ∧
        OneBay b s t) ∧
    (v.state = 2 → v.closed 0 = true → bnum s b 0x10 0x0A ≤ v.attempts + 1 → Yields (.captureSettleTimeout b) s fun t =>
      rejected 4 v.target t ∧ (bayAt t b).harbour = true ∧ (bayAt t b).cause = 0x11 ∧ (bayAt t b).cway.len = false ∧
        t.part = s.part ∧ t.fw = s.fw ∧ t.hs = s.hs) ∧
    (v.closed 0 = true → v.layer ≠ 255 → v.layer ≠ layer → v.state ≠ 5 → Yields (.layerJump b layer) s fun t =>
      (servo t).state = 5 ∧ (servo t).mode = 2 ∧ (servo t).target = layer ∧ (servo t).lastLayer = v.layer ∧
        (servo t).rampF.on = true ∧ (servo t).rampF.m0 = v.estQ ∧ (servo t).rampF.r = v.depthOf layer * 32768 / 10 ∧
        (bayAt t b).coll.goal = collTarget s b layer ∧ only t) ∧
    (-1704 ≤ row → row ≤ 39207 → v.closed 0 = true → y.tb.state = 2 → v.state ≠ 5 →
      ((4 * row - v.unwrapped / 65536).natAbs ≤ 256 → Yields (.seek b row) s fun t =>
        (servo t).state = 4 ∧ (servo t).expectRow = row ∧ (servo t).track = 4 * row ∧ (servo t).rampT.on = true ∧
          (servo t).rampT.r = 4 * row * 32768 + 49152 ∧ (bayAt t b).sled = y.sled ∧ only t) ∧
      (256 < (4 * row - v.unwrapped / 65536).natAbs → Yields (.seek b row) s fun t =>
        (servo t).state = 4 ∧ (servo t).expectRow = row ∧ (servo t).rampT.on = false ∧
          (bayAt t b).sled.goal = sledPosition s b (trackRadius (4 * row + 2) - 110) ∧ only t))

/-- Mode write, calibrations, overruns and the engine cycle (R186, R364, R368, R378, R380, R394, R398, R433). -/
def Obligations.ServoWork : Prop :=
  ∀ (b : BayId) (s : State) (cal layer loop : Nat) (r : CalIn), Active s → bayEnabled s b = true →
    let y := bayAt s b
    let v := y.servo
    let servo := fun (t : State) => (bayAt t b).servo
    let only := fun (t : State) => t = { s with bays := t.bays } ∧ OtherBays b s t
    let g := bandIndex v.track / 4
    let rejected := fun (reason : Nat) (t : State) =>
      HasEvent (bayEvent b 8) 1 ([cal, reason, layer, g] ++ evBytes 4 (presentAngle s b / revUnits % 4194304)) t ∧
        (servo t).fresh = v.fresh ∧ OneBay b s t
    (y.harbour = false → y.work = 3 ∨ y.work = 5 →
      (writeReady s b = true → Yields (.writeModeEntry b) s fun t =>
        (servo t).state = 6 ∧ (servo t).mode = 3 ∧ (servo t).writeAsked = false ∧ (bayAt t b).cway = y.cway.write 0 2 ∧ only t) ∧
      (writeReady s b = false → Yields (.writeModeEntry b) s fun t =>
        bayAt t b = { y with servo := { v with writeAsked := true } } ∧ only t)) ∧
    (1 ≤ cal → cal ≤ 5 → layer < 24 →
      (calReady s b cal r = true →
        (∀ x : Int, calResult v cal r = some x → calBounds s b cal layer r x = true →
          (recordWrite b cal r x s = (true, s) →
            Yields (.servoCalibration b cal layer r) s fun t =>
              bayAt t b = { y with servo := acceptCal cal layer g r x v } ∧ only t) ∧
          ((recordWrite b cal r x s).1 = false →
            Yields (.servoCalibration b cal layer r) s fun t =>
              (servo t).loops.map Loop.calPending = v.loops.map Loop.calPending)) ∧
        ((∀ x : Int, calResult v cal r = some x → calBounds s b cal layer r x = false) →
          Yields (.servoCalibration b cal layer r) s (rejected 2))) ∧
      (calReady s b cal r = false → Yields (.servoCalibration b cal layer r) s (rejected 1))) ∧
    (loop < 7 → (bayAt s b).cway.wg = false → ∀ l : Loop, v.loops[loop]? = some l →
      (loop ≠ 0 ∨ v.focusRuns < 2 → Yields (.loopOverrun b loop) s fun t =>
        HasEvent 16 0 [b.val, loop] t ∧ (servo t).loops[loop]? = some l.restore ∧
          (servo t).overruns = modNth v.overruns loop (fun n => satAdd 4294967295 n 1) ∧ OneBay b s t) ∧
      (loop = 0 → 2 ≤ v.focusRuns → l.isOpen = false → Yields (.loopOverrun b loop) s fun t =>
        HasEvent (bayEvent b 0) 6 [v.layer] t ∧ (servo t).state = 1 ∧ (servo t).closed 0 = false ∧
          (servo t).focusLost = satAdd 4294967295 v.focusLost 1 ∧ OneBay b s t)) ∧
    (∀ (ins : List EngineIn) (ok : Bool), Yields (.engineCycleBoundary ins ok) s fun t =>
      t.servoPhase = s.servoPhase + 1 ∧ t.part = s.part ∧ t.fw = s.fw ∧ t.hs = s.hs ∧ t.flash = s.flash ∧
        (ok = true → s.sup.barrier = 2 → ∀ (x : BayId) (i : Nat), i < 3 →
          let off := (bayAt t x).cald.coilOff.getD i false = true ∨ (bayAt t x).cald.drvEn = false
          ((bayAt t x).harbour = false →
            (bayAt t x).cald.coils.getD i 1 = if off then 0 else (((bayAt t x).servo.loops[i]?).map Loop.out).getD 0) ∧
          ((bayAt s x).harbour = true →
            (bayAt t x).cald.coils.getD i 1 = if off then 0
              else Int.tdiv ((bayAt s x).cald.rampFrom.getD i 0 * (bayAt s x).cald.rampLeft) 768))) ∧
    (∀ (ins : List EngineIn) (ok : Bool) (l : Loop) (set : List Byte),
      (∀ x : BayId, x ≠ b → (bayAt s x).started = false) → y.started = true → y.cway.state ≠ 2 → v.wedgeDue = none →
      v.state = 1 → v.prof.on = false → v.loops[0]? = some l → l.isOpen = true → l.shadow = some set →
      Yields (.engineCycleBoundary ins ok) s fun t =>
        (servo t).loops[0]?.map (fun q => (q.set, q.shadow)) = some (set, none))

/-- A staged row starts, its frames are decided, and it resumes behind a gate drop (R219, R220, R221, R281, R282,
R292, R293, R295). -/
def Obligations.DiscWriting : Prop :=
  ∀ (b : BayId) (s : State) (a : ArchSet) (d : SetDisc) (idx j : Nat) (f g : FrameW) (r : FrameRead), Active s →
    bayEnabled s b = true → writingOn s b = some (a, d) →
    let y := bayAt s b
    let c := y.chan
    let chan := fun (t : State) => (bayAt t b).chan
    let only := fun (t : State) => t = { s with bays := t.bays } ∧ OtherBays b s t
    let kept := fun (t : State) => OtherBays b s t ∧ t.part = s.part ∧ t.fw = s.fw ∧ t.flash = s.flash ∧ t.hs = s.hs
    let now := presentAngle s b
    (∀ (q : Int) (fs : List FrameW), nextRow a.plan d = some (q, fs) → d.staged ≠ 0 → c.rowActive = false →
      c.resumeFrom = none → mayWrite s b a d q = true →
      Yields (.rowStart b) s fun t =>
        (chan t).frames = fs.map (fun f => { f with content := discContent s a d f.planned }) ∧ (chan t).rowActive = true ∧ (chan t).rowOf = q ∧ (chan t).rowFail = 0 ∧
          (chan t).rowStart = nextStart now (rowStart d.layer q) 0 ∧ (bayAt t b).servo.state = 6 ∧ only t) ∧
    (c.frames[idx]? = some f → c.frames[j]? = some g → j ≠ idx → g.st < 3 → c.rowActive = true → c.resumeFrom = none →
      f.st < 3 → c.rowStart + f.start + unitsOfNs y.tb y.cway.latency ≤ now → y.cway.wg = false →
      let crit := criterion s b (tableTarget (rowTable s b a d.layer c.rowOf)) (c.gaps.contains f.spot) c.rx f r
      let judged := fun (st : Nat) => modNth c.frames idx fun x => { x with st := st }
      (crit = 0 → Yields (.frameDecision b idx r) s fun t =>
        (chan t).frames = judged 3 ∧ (chan t).confirmed = satAdd 18446744073709551615 c.confirmed 1 ∧ (chan t).slipped = c.slipped ∧
          t.ebb = (countInscribed a d f.planned s).ebb ∧ kept t) ∧
      (crit ≠ 0 → f.slips = true → a.discs.find? (fun x => x.role == d.role) = some d → d.slot < reserveSlots → c.runFail.getD f.spot 0 < 7 →
        4 * (c.rowFail + 1) ≤ c.frames.length → f.spot < c.runFail.length → Yields (.frameDecision b idx r) s fun t =>
          (chan t).frames = judged 4 ∧ (chan t).slipped = satAdd 18446744073709551615 c.slipped 1 ∧ (chan t).confirmed = c.confirmed ∧
            t.ebb = (modDisc a.sid d.role
              (fun x => { x with slips := x.slips ++ [(f.planned, x.slot)], slot := x.slot + 1, slipped := x.slipped + 1 }) s).ebb ∧
            kept t) ∧
      (crit ≠ 0 → f.slips = false → c.runFail.getD f.spot 0 = 7 → f.spot < c.runFail.length →
        Yields (.frameDecision b idx r) s fun t =>
          (chan t).frames = judged 4 ∧ (chan t).opcDue = true ∧ (chan t).runFail = [0, 0, 0, 0] ∧ t.ebb = s.ebb ∧ kept t)) ∧
    (∀ i off : Nat, rowEnded c = false → c.resumeFrom = some i → resumeOffset c.frames = some off → y.cway.wg = false →
      mayWrite s b a d c.rowOf = true → Yields (.writeResume b) s fun t =>
        (chan t).rowActive = true ∧ (chan t).frames = c.frames.map (fun x => if x.st = 5 then { x with st := 0 } else x) ∧
          (chan t).rowStart = nextStart now (rowStart d.layer c.rowOf) off ∧ only t)

/-- Optimum power calibrations and the first steps of reading (R200, R230, R286, R287, R289, R290, R299, R301, R302,
R305, R306, R309). -/
def Obligations.OpcAndReads : Prop :=
  ∀ (b : BayId) (s : State) (layer k role bits pfa : Nat) (content : List Byte) (steps : List OpcStep) (sources : List SourceRead),
    Active s → bayEnabled s b = true →
    let y := bayAt s b
    let c := y.chan
    let chan := fun (t : State) => (bayAt t b).chan
    let only := fun (t : State) => t = { s with bays := t.bays } ∧ OtherBays b s t
    let used := modNth c.testRow layer (· + 1)
    let step := fun (n : Nat) => modNth c.byStep n (satAdd 18446744073709551615 1)
    let ratios := fun (p : Nat) => frameLlrs (pfaTrackInt p) (pfaSlot p) c.rx
    let r := s.ebb.recon
    let mine := r.status = 2 ∧ r.role = role ∧ r.bays.contains b = true
    let got := sources.filterMap fun x => (sourceFrame s b pfa x).map fun p => (x.role, p.2)
    let served := s.ebb.recalls.find? fun q => q.bay == some b && q.step4 && !q.full
    (layer < 24 → c.rejects.getD layer 0 < 4 →
      (opcMayRun s b layer = false → Yields (.opc b layer steps) s fun t =>
        HasEvent (bayEvent b 8) 3 [layer] t ∧ bayAt t b = y ∧ OneBay b s t) ∧
      (∀ w : Nat, opcMayRun s b layer = true → opcAccepts s b layer steps = some w →
        Yields (.opc b layer steps) s fun t =>
          (chan t).power = modNth c.power layer (fun _ => w) ∧ (chan t).opcAt = modNth c.opcAt layer (fun _ => some s.clock) ∧
            (chan t).opcDue = false ∧ (chan t).trims = [0, 0, 0, 0] ∧ (chan t).testRow = used ∧ only t) ∧
      (opcMayRun s b layer = true → opcAccepts s b layer steps = none → Yields (.opc b layer steps) s fun t =>
        HasEvent (bayEvent b 8) 3 [layer] t ∧ (chan t).rejects = modNth c.rejects layer (· + 1) ∧
          (chan t).power = c.power ∧ (chan t).testRow = used ∧ OneBay b s t)) ∧
    (mayRead s b = true →
      (readOk s b pfa content = true → Yields (.discFrameDecode b pfa content bits) s fun t =>
        (chan t).read = satAdd 18446744073709551615 c.read 1 ∧ (chan t).corrected = (bits :: c.corrected).take 65536 ∧ (chan t).soft = ratios pfa ∧
          (chan t).byStep = step 0 ∧ (chan t).step2 = 0 ∧ (chan t).rx = c.rx ∧ only t) ∧
      (readOk s b pfa content = false → Yields (.discFrameDecode b pfa content bits) s fun t =>
        (chan t).read = satAdd 18446744073709551615 c.read 1 ∧ (chan t).corrected = c.corrected ∧ (chan t).byStep = c.byStep ∧ (chan t).step2 = 1 ∧
          (chan t).ladderAt = pfa ∧ (chan t).rx = c.rx.afresh ∧ only t) ∧
      (c.step2 ≠ 0 → readOk s b c.ladderAt content = true → Yields (.ladderStep2Revolution b content) s fun t =>
        chan t = { c with soft := ratios c.ladderAt, byStep := step 1, step2 := 0 } ∧ only t) ∧
      (c.step2 = 1 ∨ c.step2 = 2 → readOk s b c.ladderAt content = false →
        Yields (.ladderStep2Revolution b content) s fun t =>
          chan t = { c with soft := ratios c.ladderAt, step2 := c.step2 + 1 } ∧ only t) ∧
      (c.step2 = 3 → readOk s b c.ladderAt content = false → Yields (.ladderStep2Revolution b content) s fun t =>
        chan t = { c with
          soft := ratios c.ladderAt, step2 := 0
          byStep := if y.work = 4 ∨ y.work = 5 then c.byStep else step 5 } ∧ only t)) ∧
    ((∀ q ∈ s.ebb.recalls, q.bay = some b → q.full = false → othersReady s q = true) →
      (∀ f : List Byte, rebuildFrame k role got = some f → rebuiltOk s b role pfa f = true →
        Yields (.pqReconstruct b k role pfa sources) s fun t =>
          chan t = { c with byStep := step 3, rebuilt := f } ∧ OtherBays b s t ∧
            (mine → t.ebb.recon = { r with frames := putKey pfa f r.frames }) ∧ (¬ mine → t.ebb = s.ebb)) ∧
      ((∀ f : List Byte, rebuildFrame k role got = some f → rebuiltOk s b role pfa f = false) →
        (served = none → ¬ mine →
          Yields (.pqReconstruct b k role pfa sources) s fun t => chan t = { c with byStep := step 5 } ∧ only t) ∧
        (served = none → mine →
          Yields (.pqReconstruct b k role pfa sources) s fun t =>
            HasEvent 122 4 (evBytes 4 r.setId ++ [r.role]) t ∧ t.ebb.recon.status = 4) ∧
        (∀ q : Recall, served = some q →
          Yields (.pqReconstruct b k role pfa sources) s fun t =>
            HasEvent 121 4 (evBytes 8 q.obj) t ∧ ∀ x ∈ t.ebb.recalls, x.obj ≠ q.obj))) ∧
    (∀ q ∈ s.ebb.recalls, q.bay = some b → q.full = false → othersReady s q = false →
      Yields (.pqReconstruct b k role pfa sources) s fun t => t = s)

/-- Plans are begun, sealed, lost, checked, and discarded (R209, R210, R211, R215, R217, R223). -/
def Obligations.PlanCommands : Prop :=
  ∀ (s : State) (sid : Nat) (digest : BitVec 64), Active s →
    let kept := fun (t : State) => t.part = s.part ∧ t.fw = s.fw ∧ t.hs = s.hs ∧ t.flash = s.flash
    (∀ k : Nat, setWidth s = some k → s.ebb.building = none →
      let f := placeAll s k
      (s.tierState ≠ 2 → s.ebb.plans.length < num s 0x2810 5 → f.extents ≠ [] → s.ebb.nextSet ≤ 0xFFFFFF →
        (f.left || oldEnough s || s.ebb.startNow) = true →
        Yields (.planBuildStart []) s fun t => t = { s with mem := t.mem, ebb := { s.ebb with
          building := some { setId := s.ebb.nextSet, k := k, extents := f.extents.reverse, inStore := true },
          buildAt := s.clock, startNow := false, nextSet := s.ebb.nextSet + 1 } }) ∧
      ((f.left || oldEnough s || s.ebb.startNow) = false → Yields (.planBuildStart []) s fun t => t = s)) ∧
    (∀ p : Plan, s.ebb.building = some p → num s 0x2800 7 ≠ 1 → Yields .planSeal s fun t =>
      t.ebb.building = none ∧ t.tide.clean = false ∧ t.bays = s.bays ∧ kept t ∧
        t.ebb.plans = s.ebb.plans ++ [{ p with
          strategy := dom s 0x4400 3,
          digest := Config.planDigest p.setId p.k (p.extents.map fun e => (e.obj, e.disc, e.first, e.count)) (dom s 0x4400 3),
          sealedAt := s.clock }]) ∧
    (Yields (.planRebuild sid) s fun t =>
      (∀ p ∈ t.ebb.plans, p.setId = sid → p.inStore = false) ∧
        t.ebb.plans.map Plan.extents = s.ebb.plans.map Plan.extents ∧ t = { s with ebb := t.ebb } ∧
        (∀ p ∈ s.ebb.plans, p.setId ≠ sid → p ∈ t.ebb.plans)) ∧
    (∀ p : Plan, rebuiltPlan s sid = some p →
      (digest = p.digest → Yields (.planDigestCheck sid digest) s fun t =>
        (∀ q ∈ t.ebb.plans, q.setId = sid → q.inStore = true) ∧
          (∀ a ∈ t.ebb.sets, a.sid = sid → a.plan.inStore = true) ∧ t = { s with ebb := t.ebb }) ∧
      (digest ≠ p.digest → setOf s sid = none → Yields (.planDigestCheck sid digest) s fun t =>
        HasEvent 117 0 (evBytes 4 sid) t ∧ t.ebb.plans = s.ebb.plans.filter (fun q => q.setId != sid) ∧ t.bays = s.bays ∧
          kept t) ∧
      (∀ a : ArchSet, digest ≠ p.digest → setOf s sid = some a → Yields (.planDigestCheck sid digest) s fun t =>
        HasEvent 117 0 (evBytes 4 sid) t ∧ (setOf t sid).map (fun x => x.discs.any SetDisc.live) = some false ∧ kept t))

/-- Sets and replacements claim free bays, and rows are staged (R199, R207, R208, R213, R214, R219, R227, R228, R229).
-/
def Obligations.SetBoundaries : Prop :=
  ∀ (s : State) (b : BayId), Active s →
    ((writingSet s).isSome = true → Yields .setBoundary s fun t => t = s) ∧
    (∀ k : Nat, writingSet s = none → s.ebb.recalls = [] → s.ebb.recon.status = 0 → pendingReplacement s = none →
      setWidth s = some k →
      (∀ (p : Plan) (rest : List Plan), s.ebb.plans = p :: rest → p.k = k → p.inStore = true → num s 0x2800 7 ≠ 0 →
        k + 2 ≤ (freeBays s).length → (∀ x ∈ freeBays s, (bayAt s x).present = false) →
        Yields .setBoundary s fun t =>
          HasEvent 112 0 (evBytes 4 p.setId ++ [k]) t ∧
            (∃ a ∈ t.ebb.sets, a.sid = p.setId ∧ a.plan = p ∧ a.discs.map SetDisc.role = (List.range (k + 2)).map (roleAt k)) ∧
            (∀ q ∈ t.ebb.plans, q.setId ≠ p.setId) ∧
            (∀ (j : Nat) (x : BayId), j < k + 2 → (freeBays s)[(j + p.setId % (k + 2)) % (k + 2)]? = some x →
              (bayAt t x).work = 3 ∧ (bayAt t x).role = roleAt k j ∧ (bayAt t x).reqCode = 1 ∧ (bayAt t x).reqReason = 1) ∧
            (∀ x : BayId, x ∉ (freeBays s).take (k + 2) → bayAt t x = bayAt s x) ∧ t.part = s.part ∧ t.fw = s.fw) ∧
      (s.ebb.plans = [] → s.ebb.queue ≠ [] → ebbRuns s = true → Yields .setBoundary s fun t =>
        HasEvent 125 0 [] t ∧ t.ebb = s.ebb ∧ t.bays = s.bays ∧ t.hs = s.hs)) ∧
    (∀ (sid : Nat) (d : SetDisc) (x : BayId) (rest : List BayId), s.ebb.recalls = [] →
      pendingReplacement s = some (sid, d) → freeBays s = x :: rest →
      (∀ z ∈ freeBays s, (bayAt s z).present = false ∧ (bayAt s z).disc ≠ 2) →
      Yields .replacementStart s fun t =>
        (bayAt t x).work = 3 ∧ (bayAt t x).role = d.role ∧ (bayAt t x).reqCode = 1 ∧ (bayAt t x).reqReason = 4 ∧
          (∀ a ∈ t.ebb.sets, a.sid = sid → ∀ e ∈ a.discs, e.role = d.role →
            e.status = .rebuilding ∧ e.replacement = true ∧ e.bay = x.val) ∧ t.ebb.window = 0 ∧ OtherBays x s t) ∧
    (Yields .replacementPacingWindow s fun t => t = { s with ebb := { s.ebb with window := 0 } }) ∧
    (∀ (a : ArchSet) (d : SetDisc), writingOn s b = some (a, d) → d.resync = false → a.plan.inStore = true →
      s.pwr.ps < 2 → d.part = 1 → d.row + d.staged < dataRows → (nextRow a.plan d).isSome = true → stagedFrames a.plan d ≤ bufferFrames →
      notAhead a d = true → d.replacement = false → ∀ (reads : List (Nat × Media)) (vs : List (Nat × Nat)) (u : State),
      drainRow s a d reads = (vs, u) →
      (vs = [] → Yields (.rowStage b reads []) s fun t => t = stageRow a d u) ∧
      (∀ v : Nat × Nat, vs = [v] → u.phase = .running → u.pwr.ps < 3 → Yields (.rowStage b reads []) s fun t =>
        HasEvent 116 0 (evBytes 4 v.1 ++ evBytes 4 v.2) t ∧ ∀ x ∈ t.ebb.sets, x.sid = a.sid → v ∈ x.voids))

/-- Recalls are served, frames reallocated, discs taken up again, and reconstructions end (R73, R74, R200, R201, R230,
R231, R232, R234, R235, R307). -/
def Obligations.RecallsAndRecon : Prop :=
  ∀ (s : State) (b : BayId) (lead : LeadIn) (r : Recall), Active s → bayEnabled s b = true → (bayAt s b).cway.wg = false →
    NoneWaits s →
    let y := bayAt s b
    let gone := fun (id : Nat) (t : State) => ∀ q ∈ t.ebb.recalls, q.obj ≠ id
    let wrong := LeadIn.readable lead = false ∨ LeadIn.version lead ≠ 1 ∨ LeadIn.serial lead = [] ∨ LeadIn.serial lead ≠ expectedSerial s b r
    (s.ebb.recalls.find? (fun q => (q.bay == some b && !q.loaded) || q.others.contains b) = some r → r.bay = some b →
      r.loaded = false → clamped y = true →
      (¬ wrong → Yields (.recallDiscIdentify b lead) s fun t =>
        (∀ q ∈ t.ebb.recalls, q.obj = r.obj → q.loaded = true) ∧ (bayAt t b).serial = LeadIn.serial lead ∧
          (bayAt t b).reqCode = 0 ∧ (bayAt t b).misread = false ∧ OtherBays b s t) ∧
      (wrong → y.misread = false → y.spin.state = 0 → y.reqCode ≠ 3 → Yields (.recallDiscIdentify b lead) s fun t =>
        HasEvent (bayEvent b 9) 0 (evStr ((LeadIn.serial lead).take 8)) t ∧ (bayAt t b).misread = true ∧ (bayAt t b).reqCode = 3 ∧
          (bayAt t b).reqReason = 7 ∧ OtherBays b s t) ∧
      (wrong → y.misread = true → Yields (.recallDiscIdentify b lead) s fun t =>
        HasEvent 121 3 (evBytes 8 r.obj) t ∧ gone r.obj t)) ∧
    (∀ (o : Obj) (n : Ns) (frames : List DiscFrame), s.ebb.recalls.find? (fun q => q.obj == r.obj) = some r →
      objOf s r.obj = some o → r.bay = some b → r.loaded = true → r.full = false → y.spin.state = 4 →
      y.spin.target = 9600 → nsOf s r.nsid = some n → (zoneOf s r.nsid r.zone).st = .recallTarget →
      let z := zoneOf s r.nsid r.zone
      let fs := frames.take (o.lbas - r.frames)
      let m := r.frames + fs.length
      let good := goodFrames o y.chan.rebuilt r.frames fs
      (good.length = fs.length → m < o.lbas → Yields (.recallRead r.obj frames) s fun t =>
        (zoneOf t r.nsid r.zone).wp = m ∧
          (zoneOf t r.nsid r.zone).data =
            z.data ++ good.mapIdx (fun i f => (r.frames + i, recallBlk n (r.zone * n.zsze + r.frames + i) (frameBlk f.content))) ∧
          (∀ q ∈ t.ebb.recalls, q.obj = r.obj → q.frames = m) ∧ OtherZones r.nsid r.zone s t ∧ OtherBays b s t) ∧
      (good.length = fs.length → (∀ f ∈ good, f.step ≤ 2) → m = o.lbas → r.todo = [] → Yields (.recallRead r.obj frames) s fun t =>
        HasEvent 120 0 (evBytes 8 r.obj) t ∧ gone r.obj t ∧ (zoneOf t r.nsid r.zone).st = .full ∧
          (zoneOf t r.nsid r.zone).arch = .archivedResident ∧ (zoneOf t r.nsid r.zone).wp = m ∧ (bayAt t b).work = 0) ∧
      (∀ f : DiscFrame, frames = [f] → DiscFrame.found o y.chan.rebuilt r.frames f = none → r.frames < o.lbas →
        (countedBays s < widthOf s o.setId + 1 → Yields (.recallRead r.obj frames) s fun t =>
          HasEvent 121 6 (evBytes 8 r.obj) t ∧ gone r.obj t ∧ (zoneOf t r.nsid r.zone).st = .empty) ∧
        (widthOf s o.setId + 1 ≤ countedBays s → Yields (.recallRead r.obj frames) s fun t =>
          ∀ q ∈ t.ebb.recalls, q.obj = r.obj → q.step4 = true ∧ q.frames = r.frames))) ∧
    (∀ pfa slot : Nat, s.ebb.recalls.find? (fun q => q.bay == some b && q.todo.contains pfa) = some r →
      (reserveSlots ≤ slot → ∀ ok : Bool, Yields (.reallocation b pfa slot ok) s fun t =>
        HasEvent 118 0 [b.val, pfaLayer pfa] t ∧ ∀ q ∈ t.ebb.recalls, q.obj = r.obj → pfa ∉ q.todo) ∧
      (slot < reserveSlots → y.spin.state = 4 → y.spin.target = 7200 → y.servo.layer = pfaLayer pfa →
        opcFresh s b (pfaLayer pfa) = true → Yields (.reallocation b pfa slot true) s fun t =>
          HasEvent 119 0 [b.val, pfaLayer pfa] t ∧ (bayAt t b).chan.reallocated = satAdd 4294967295 y.chan.reallocated 1 ∧
            ∀ q ∈ t.ebb.recalls, q.obj = r.obj → pfa ∉ q.todo)) ∧
    (∀ (a : ArchSet) (d : SetDisc) (row used : Nat) (read : List (Nat × List Byte)) (blanks : List Nat), writingOn s b = some (a, d) →
      d.resync = true → a.plan.inStore = true → clamped y = true → y.started = true → LeadIn.readable lead = true →
      LeadIn.version lead = 1 →
      let superseded := read.filter fun p => p.2 != discContent (identify b lead s) a d p.1
      (LeadIn.serial lead = d.serial → y.spin.state = 4 → y.spin.target = 7200 → Yields (.resynchronisation b lead row read blanks used) s fun t =>
        HasEvent 124 0 (evBytes 4 a.sid ++ [d.role] ++ evBytes 3 superseded.length) t ∧
          ∀ x ∈ t.ebb.sets, x.sid = a.sid → ∀ e ∈ x.discs, e.role = d.role → e.resync = false) ∧
      (LeadIn.serial lead ≠ d.serial → y.spin.state = 0 → y.reqCode ≠ 3 →
        Yields (.resynchronisation b lead row read blanks used) s fun t =>
          (bayAt t b).reqCode = 3 ∧ (bayAt t b).reqReason = 7 ∧ t.ebb = s.ebb ∧ OtherBays b s t)) ∧
    (∀ (a : ArchSet) (d : SetDisc), s.ebb.recon.status = 2 → setOf s s.ebb.recon.setId = some a → a.discs.head? = some d →
      let ended := fun (cause : Nat) (t : State) =>
        HasEvent 122 cause (evBytes 4 s.ebb.recon.setId ++ [s.ebb.recon.role]) t ∧ t.ebb.recon.status = cause
      (d.status = .closed → Yields (.reconstructionComplete false) s (ended 3)) ∧
      (d.status = .failed → Yields (.reconstructionComplete false) s (ended 4)) ∧
      (Yields (.reconstructionComplete true) s (ended 4)))

/-- Budgets, array operations, suspension, leak timers and the patrol of memories (R107, R108, R112, R113, R114, R115,
R119, R120, R158, R190, R193, R194). -/
def Obligations.BreakwaterRuns : Prop :=
  ∀ (s : State) (port die op cls tn level block reclaim m words : Nat) (d : Die), Active s →
    let o := askedOp s port die op cls tn level block reclaim
    let w : WaitOp := { port := port, die := die, op := o }
    let only := fun (t : State) => t = { s with bw := t.bw, flash := t.flash }
    (Yields .budgetPeriodBoundary s fun t =>
      t.bw.budgets = budgetsAt s ∧ t.bw.lending = lendingAt s ∧ t.bw.tenants = dom s 0x2210 1 ∧
        t.bw.queueMaps = [dom s 0x2210 2, dom s 0x2210 3, dom s 0x2210 4, dom s 0x2210 5] ∧ t.bw.nsMap = dom s 0x2210 6 ∧
        t.bw.periods = s.bw.periods + 1 ∧ only t ∧
        ∀ (p i : Nat) (x : Die), dieOf s p i = some x → dieOf t p i = some (Die.refill (budgetsAt s) (Die.accrue s.clock x))) ∧
    (dieOf s port die = some d →
      (reclaim = 0 ∨ ((nsOf s reclaim).map (·.fdp)).getD false = true →
        (∀ lent : Bool, mayStart s port die d o = some lent →
          Yields (.flashOperationStart port die op cls tn level block reclaim) s fun t =>
            (dieOf t port die).map (fun x => x.op) =
                some (some { o with lent := lent, started := s.clock, charged := s.clock }) ∧
              t.bw = { s.bw with waiting := s.bw.waiting.erase w } ∧ t.ebb = s.ebb ∧ t.bays = s.bays ∧
              (o.kind = .read → ∀ (nsid idx i : Nat) (b : Member), (zoneOf s nsid idx).members[i]? = some b →
                b.port = port → b.die = die → b.block = o.block →
                ((zoneOf t nsid idx).members[i]?).map Member.reads = some (b.reads + 1))) ∧
        (mayStart s port die d o = none → dieTakes s port die o.kind = true → (waitingOn s port die).contains o = false →
          Yields (.flashOperationStart port die op cls tn level block reclaim) s fun t =>
            t = { s with bw := { s.bw with waiting := s.bw.waiting ++ [w] } })) ∧
      (∀ o : FlashOp, d.op = some o → maySuspend s port die d o = true → Yields (.programSuspend port die) s fun t =>
        (dieOf t port die).map (fun x => (x.op, x.susp)) =
          some (none, some { o with suspends := o.suspends + 1, charged := s.clock, suspendedFor := s.clock }) ∧ only t) ∧
      (∀ o : FlashOp, d.op = none → d.susp = some o → resumeDue s port die d = true →
        Yields (.programResume port die) s fun t =>
          (dieOf t port die).map (fun x => (x.op, x.susp)) =
            some (some { o with
              started := s.clock, charged := s.clock, forced := rightWaits s port die, suspendedFor := 0 }, none) ∧ only t)) ∧
    (1 ≤ m → m ≤ 8 → Yields (.bucketLeak m) s fun t =>
      t = { s with mem := { s.mem with buckets := modNth s.mem.buckets (m - 1) fun x => { x with level := x.level - 1 } } }) ∧
    (∀ (hbm : Bool) (hits : List MemHit),
      let on := bitOf (num s 0x2620 5) (if hbm then 0 else 1)
      let r := patrolStep s.mem.hbmAt words hbmLines
      let moved := if hbm then { s.mem with hbmAt := r.1, hbmPasses := s.mem.hbmPasses + r.2 }
        else { s.mem with sramAt := (patrolStep s.mem.sramAt words sramWords).1 }
      (on = false → Yields (.soundingPatrol hbm words hits) s fun t => t = s) ∧
      (on = true → (∀ h ∈ hits, patrolled s hbm words h = false) →
        Yields (.soundingPatrol hbm words hits) s fun t => t = { s with mem := moved }) ∧
      (∀ h : MemHit,
        let n := MemPart.bucket h.part h.addr
        on = true → patrolled s hbm words h = true → hitKind s h = .corrected → 1 ≤ n → n ≤ s.mem.buckets.length →
        (bucketOf s n).level ≠ bucketDepth s n → Yields (.soundingPatrol hbm words [h]) s fun t =>
          (bucketOf t n).total = (bucketOf s n).total + 1 ∧ (bucketOf t n).level = (bucketOf s n).level + 1 ∧
            t = { s with mem := t.mem }))

/-- Rows are programmed, polled, timed out, and blocks moved (R99, R114, R128, R129, R138, R140, R145, R160, R162,
R163, R164). -/
def Obligations.FlashOperations : Prop :=
  ∀ (s : State) (nsid idx pos port die : Nat), Active s → Quiet s → s.sup.dip = false →
    let z := zoneOf s nsid idx
    let there := z.members.filter fun m => !m.lost
    let kept := fun (t : State) => t.bays = s.bays ∧ t.part = s.part ∧ t.fw = s.fw ∧ OtherZones nsid idx s t
    let due := z.programmed = true ∧ (rowEnd s z).isSome = true ∧ (there.map fun m => (m.port, m.die)).Nodup
    let running := fun (t : State) =>
      (zoneOf t nsid idx).rowBusy = z.pageOrder.filter (fun i => ((z.members[i]?).map fun m => !m.lost).getD false) ∧
        (zoneOf t nsid idx).members = z.members ∧ kept t ∧
        ∀ (i : Nat) (m : Member) (d : Die), i < 16 → z.members[i]? = some m → m.lost = false →
          dieOf s m.port m.die = some d →
          (∀ lent : Bool, mayStart s m.port m.die d (rowOp s z m) = some lent →
            ((dieOf t m.port m.die).bind fun x => x.op) =
              some { rowOp s z m with lent := lent, started := s.clock, charged := s.clock }) ∧
          (mayStart s m.port m.die d (rowOp s z m) = none → dieLive s m.port m.die = true →
            { port := m.port, die := m.die, op := rowOp s z m } ∈ t.bw.waiting)
    (due → (urgent s = true → z.flashed < z.ack) → Yields (.programRowDispatch nsid idx []) s running) ∧
    (z.programmed = false ∨ rowEnd s z = none → stages s z = true → z.st ≠ .empty → (urgent s = true → z.flashed < z.ack) →
      let dies := stagingDies s (z.payer s)
      let s1 := setZone { z with flashed := z.wp } (stageSpan z (dies.map (·.1)) z.flashed (z.wp - z.flashed) false s)
      dies ≠ [] → unprogrammed s1 ≤ stagingRoom s1 →
      Yields (.programRowDispatch nsid idx []) s fun t => zoneOf t nsid idx = { z with flashed := z.wp } ∧ kept t) ∧
    (upkeepRuns s = true → z.placed < z.flashed → due → Yields (.stagedDataMigrate nsid idx) s running) ∧
    (∀ (d : Die) (o : FlashOp), dieOf s port die = some d → d.op = some o →
      (Yields (.flashStatusPoll port die .busy) s fun t => t = s) ∧
      (o.kind = .program → o.zone = some (nsid, idx) → memberAt z port die o.block = some pos → z.st ≠ .empty →
        (z.rowBusy.filter fun i => i != pos) ≠ [] →
        Yields (.flashStatusPoll port die (.passed 0 1 0 [] [] 0)) s fun t =>
          (dieOf t port die).map (fun x => x.op) = some none ∧
            (zoneOf t nsid idx).rowBusy = z.rowBusy.filter (fun i => i != pos) ∧ kept t) ∧
      (o.kind = .erase → Yields (.flashStatusPoll port die .failed) s fun t =>
        HasEvent 102 0 (blockData port die o.block) t ∧
          (dieOf t port die).map (fun x => (x.op, x.grown, x.spare)) = some (none, d.grown ++ [o.block], d.spare - 1) ∧
          t.hs.zones = s.hs.zones ∧ t.bays = s.bays) ∧
      (timedOutBefore s d = false →
        let d1 : Die := { d.accrue s.clock with op := none, timeoutAt := some s.clock }
        let s1 := modDie port die (fun x => { x.accrue s.clock with op := none, timeoutAt := some s.clock }) s
        let o1 : FlashOp := { o with retried := true, lent := false }
        (∀ lent : Bool, mayStart s1 port die d1 o1 = some lent → Yields (.flashOperationTimeout port die) s fun t =>
          (dieOf t port die).map (fun x => (x.op, x.timeoutAt)) =
            some (some { o1 with lent := lent, started := s.clock, charged := s.clock }, some s.clock) ∧ t.bw = s.bw) ∧
        (mayStart s1 port die d1 o1 = none → dieTakes s1 port die o.kind = true →
          Yields (.flashOperationTimeout port die) s fun t =>
            (dieOf t port die).map (fun x => (x.op, x.timeoutAt)) = some (none, some s.clock) ∧
              t.bw.waiting = s.bw.waiting ++ [{ port := port, die := die, op := o1 }])) ∧
      (timedOutBefore s d = true → d.failed = false → laneOf port < 8 → Yields (.flashOperationTimeout port die) s fun t =>
        HasEvent (64 + laneOf port) 9 (evBytes 2 port ++ [die]) t ∧
          (dieOf t port die).map (fun x => (x.failed, x.reason, x.op)) = some (true, 9, none))) ∧
    (∀ m : Member, z.members[pos]? = some m → upkeepRuns s = true → z.st ≠ .empty →
      let moved := fun (k : Nat) (t : State) =>
        (zoneOf t nsid idx).members =
            modNth z.members pos (fun x => { x with
              block := k, reads := 0, ckpt := 0, refresh := false, since := nowNs s }) ∧ kept t
      let full := z.st = .full ∧ z.arch = .resident
      (m.refresh = true → m.lost = false → z.rowBusy.contains pos = false →
        (workStart s m.port m.die .program .refresh 0).isSome = true →
        (∀ k : Nat, bestBlock s m.port m.die = some k → Yields (.refreshRelocation nsid idx pos false true) s (moved k)) ∧
        (full → bestBlock s m.port m.die = none → Yields (.refreshRelocation nsid idx pos false true) s fun t =>
          (zoneOf t nsid idx).st = .readOnly ∧ kept t) ∧
        (full → Yields (.refreshRelocation nsid idx pos true true) s fun t =>
          (zoneOf t nsid idx).st = .offline ∧ kept t)) ∧
      (∀ (d : Die) (k : Nat), dieOf s port die = some d → wearMove s port die d = some (k, nsid, idx, pos) →
        (workStart s port die .program .refresh 0).isSome = true → m.port = port → m.die = die →
        Yields (.wearMove port die true) s (moved k) ∧
          (z.st = .full → Yields (.wearMove port die false) s fun t => (zoneOf t nsid idx).st = .readOnly ∧ kept t)))

/-- Checkpoints, rebuilds, patrols, and the ends of tier format, adoption and retirement (R143, R156, R157, R158,
R159, R166, R171, R172, R195). -/
def Obligations.FlashUpkeep : Prop :=
  ∀ (s : State) (nsid idx pos port : Nat), Active s → Quiet s → s.sup.dip = false → s.tierState ≠ 2 → upkeepRuns s = true →
    let z := zoneOf s nsid idx
    let place := fun (x : Member) => (x.port, x.die, x.block, x.lost)
    let may := fun (p d : Nat) (k : OpKind) (c : ActClass) (tn : Nat) => (workStart s p d k c tn).isSome = true
    (Yields .readCountCheckpoint s fun t =>
      (zoneOf t nsid idx).members = z.members.map (fun m => { m with ckpt := m.reads }) ∧ t.flash = s.flash ∧ t.ebb = s.ebb ∧
        t.bays = s.bays ∧ t.tide.clean = false) ∧
    (∀ m : Member, z.members[pos]? = some m → z.st ≠ .empty →
      (Yields (.retentionAgeReached nsid idx pos) s fun t =>
        zoneOf t nsid idx = { z with members := modNth z.members pos fun x => { x with refresh := true } } ∧
          OtherZones nsid idx s t ∧ t.flash = s.flash) ∧
      (∀ (bin bits : Nat) (ones zeros : List Nat), bitOf (num s 0x2620 5) 2 = true → m.lost = false → z.placed ≠ 0 →
        may m.port m.die .read .scrub 0 → Yields (.flashPatrol nsid idx pos bin 1 bits ones zeros) s fun t =>
          ((zoneOf t nsid idx).members[pos]?).map Member.reads =
              some (m.reads + (patrolLines (placedRows s z) (num s 0x2620 4)).length) ∧
            t.ebb = s.ebb ∧ t.bays = s.bays) ∧
      (∀ (p d k : Nat), (rebuildable s z).contains pos = true → rebuildTurn s z = true →
        roomiestDie s (16 * z.lane + pos) = some (p, d) → bestBlock s p d = some k → z.rowBusy = [] →
        may p d .program (rebuildClass s z).1 (rebuildClass s z).2 → Yields (.memberRebuild nsid idx pos) s fun t =>
          (zoneOf t nsid idx).members[pos]? = some { port := p, die := d, block := k, since := nowNs s } ∧
            (∀ a i : Nat, (a, i) ≠ (nsid, idx) →
              zoneOf t a i = { zoneOf s a i with members := (zoneOf t a i).members } ∧
                (zoneOf t a i).members.map place = (zoneOf s a i).members.map place) ∧
            (∀ i : Nat, i ≠ pos → ((zoneOf t nsid idx).members[i]?).map place = (z.members[i]?).map place) ∧
            t.ebb = s.ebb ∧ t.bays = s.bays)) ∧
    (∀ (die bin : Nat) (ones zeros : List Nat) (d : Die) (x : Bin), s.flash.coldReads.contains (port, die, bin) = true →
      may port die .read .system 0 → dieOf s port die = some d → d.bins[bin]? = some x →
      Yields (.coldStartReads port die bin ones zeros) s fun t =>
        (dieOf t port die).bind (fun e => e.bins[bin]?) = some (Bin.learn 64 ones zeros x) ∧
          (port, die, bin) ∉ t.flash.coldReads ∧ t = { s with flash := t.flash, hs := t.hs, mem := t.mem }) ∧
    (s.flash.formatting = true → Yields (.tierFormatComplete []) s fun t =>
      t.flash.formatting = false ∧ t.flash.progress = 100 ∧ t.tierState = 1 ∧ t.tide.tier = true ∧
        t.tide.writer = s.part.serial ∧ t.tide.lanes = s.flash.laneSets ∧ t.bays = s.bays) ∧
    (∀ v : Vol, volOf s port = some v →
      (v.st = .adopting → s.flash.vols.any (fun w => w.serves && laneOf w.port == laneOf port) = true → ∀ bad : List (List Nat),
        Yields (.adoptionComplete port bad) s fun t =>
          HasEvent 96 0 (evBytes 2 port) t ∧ HasEvent 25 5 (evBytes 4 s.adm.prog.nsid ++ [s.adm.prog.door]) t ∧
            (volOf t port).map (fun w => (w.st, w.progress)) = some (.inService, 100) ∧ 5 ∉ t.adm.running) ∧
      (v.retiring = true → (∀ y ∈ s.hs.zones, ∀ m ∈ y.members, m.port ≠ port) →
        Yields (.retirementComplete port) s fun t =>
          HasEvent 97 0 (evBytes 2 port) t ∧ HasEvent 25 6 (evBytes 4 s.adm.prog.nsid ++ [s.adm.prog.door]) t ∧
            (volOf t port).map (fun w => (w.st, w.reason, w.retiring)) = some (.retired, 0x0B, false) ∧ 6 ∉ t.adm.running ∧
            t.hs.zones = s.hs.zones))

/-- Abort completes at once and aborts nothing (R63). -/
def Obligations.AbortAborts : Prop :=
  ∀ (src : Src) (s : State) (sq cid : Nat), AdminReady src s → Reaches src (.abort sq cid) s →
    Yields (.abort src sq cid) s fun t =>
      Answered src .success t ∧ (newest src t).map (fun c => c.dw0 &&& 1) = some 1 ∧ t.hs = s.hs ∧ t.adm = s.adm ∧
        DeviceKept s t ∧
        ∀ (p : PortId) (i : Nat), ((t.ctrls.get p).sq? i).map Sq.fetched = ((s.ctrls.get p).sq? i).map Sq.fetched

/-- Set Zone Descriptor Extension is refused (R93). -/
def Obligations.DescriptorExtension : Prop :=
  ∀ (src : Src) (s : State) (nsid slba : Nat) (n : Ns), IoReady src s → nsGate s src.port nsid = .ok n → n.fdp = false →
    Reaches src (.zoneSend nsid slba .setExtension false) s → Yields (.setZoneDescriptorExtension src nsid slba) s fun t =>
      Answered src .invalidField t ∧ t.hs.zones = s.hs.zones ∧ DeviceKept s t

/-- A step runs the command at the front of the queue (00_scope.md). The queue is the model's own; what a step does on
an empty queue is the model's choice (log 2). -/
def Obligations.StepRunsCommand : Prop :=
  ∀ (c : Instr) (rest : List Instr) (s : State),
    step { s with pending := c :: rest } = exec c { s with pending := rest } ∧
      step { s with pending := [] } = .next (idle { s with pending := [] })

/-- The state right after reset (R16, R115, R331, R344, R488, R556). Values without a reset value in the spec are the
model's choice (log 1) and not named here. -/
def Obligations.ResetState : Prop :=
  State.reset.pending = [] ∧ State.reset.phase = .held ∧ State.reset.pwr.ps = 0 ∧ State.reset.evt.log = [] ∧
    (∀ p : PortId, (State.reset.ctrls.get p).rdy = false ∧ (State.reset.ctrls.get p).sqs = []) ∧
    (∀ b : BayId, (bayAt State.reset b).harbour = false ∧ (bayAt State.reset b).cway.wg = false ∧
      (bayAt State.reset b).spin.gates = 0 ∧ (bayAt State.reset b).tb.state = 0) ∧
    State.reset.norOk = true ∧ num State.reset 0x2800 1 = 14 ∧ num State.reset 0x2800 7 = 1 ∧
    budgetsFit (ownBudgets State.reset) = true

/-- Every step completes, takes one command off the queue, and keeps identity, anti-rollback and the NOR's form (R1,
R467, R520, R522). -/
def Obligations.EveryStepKeeps : Prop :=
  ∀ s : State, ∃ t : State, step s = .next t ∧ t.pending = s.pending.tail ∧ t.part.code = s.part.code ∧
    t.part.serial = s.part.serial ∧
    (∀ i : Nat, s.part.arCells[i]? = some .blown → t.part.arCells[i]? = some .blown) ∧ (s.norOk = true → t.norOk = true)
end

