-- ==== Sys2Proof/Laws/Anchor.lean ====
section
/-! SUPPORT. The anchor of a state: the waiting commands, the part's identity, its anti-rollback cells and the boot NOR. Every
operation that is not about firmware, anti-rollback or the queue leaves it as it was, one lemma each. -/

namespace Sys2Proof.Machine

open Sys2Proof

/-- The waiting commands, ordering code, serial number, anti-rollback cells and boot NOR of a state. -/
def State.anchor (s : State) : List Instr × OrderingCode × List Byte × List ArCell × List Host.Cell :=
  (s.pending, s.part.code, s.part.serial, s.part.arCells, s.fw.nor)

@[simp] theorem anchor_fold (s : State) : (s.pending, s.part.code, s.part.serial, s.part.arCells, s.fw.nor) = s.anchor := rfl

@[simp ↓] theorem anchor_ite (c : Prop) [Decidable c] (a b : State) :
    (if c then a else b).anchor = if c then a.anchor else b.anchor := by split <;> rfl

@[simp ↓] theorem foldl_anchor {α : Type} (g : State → α → State) (h : ∀ t a, (g t a).anchor = t.anchor) (l : List α) (s : State) :
    (l.foldl g s).anchor = s.anchor := by
  induction l generalizing s with
  | nil => rfl
  | cons a l ih => simp [List.foldl, ih, h]

theorem foldl_snd_anchor {α β : Type} (g : β × State → α → β × State) (h : ∀ r a, (g r a).2.anchor = r.2.anchor) (l : List α)
    (r : β × State) : (l.foldl g r).2.anchor = r.2.anchor := by
  induction l generalizing r with
  | nil => rfl
  | cons a l ih => simp [List.foldl, ih, h]

@[simp ↓] theorem anchor_mk (pending : List Instr) (clock : Nat) (epochNs : Nat) (free : Nat) (phase : Phase)
    (ports : Nat) (lockPassed : Bool) (harbourCause : Nat) (tierState : Nat) (servoPhase : Nat) (part : Part) (fw : Fw) (evt : Evt) (ctrls : Vector Ctrl 4) (hs : Hs) (flash : Flash) (tide : Tide) (bw : Bw) (mem : Mem) (ebb : Ebb) (bays : Vector Bay 16) (doors : Doors) (adm : Adm) (pwr : Pwr) (sup : Sup) :
    (State.mk pending clock epochNs free phase ports lockPassed harbourCause tierState servoPhase part fw evt ctrls hs flash tide bw mem ebb bays doors adm pwr sup).anchor = (pending, part.code, part.serial, part.arCells, fw.nor) := rfl

@[simp ↓] theorem putNum_anchor (x0 : Nat) (x1 : Nat) (x2 : Nat) (s : State) : (putNum x0 x1 x2 s).anchor = s.anchor := by
  unfold putNum
  repeat' (first | (simp; done) | split | (refine (foldl_anchor _ ?_ _ _).trans ?_ <;> intros) | simp)

@[simp ↓] theorem putDom_anchor (x0 : Nat) (x1 : Nat) (x2 : List Byte) (s : State) :
    (putDom x0 x1 x2 s).anchor = s.anchor := by
  unfold putDom
  repeat' (first | (simp; done) | split | (refine (foldl_anchor _ ?_ _ _).trans ?_ <;> intros) | simp)

@[simp ↓] theorem spend_anchor (s : State) : (spend s).anchor = s.anchor := by
  unfold spend
  repeat' (first | (simp; done) | split | (refine (foldl_anchor _ ?_ _ _).trans ?_ <;> intros) | simp)

@[simp ↓] theorem modBay_anchor (x0 : BayId) (x1 : Bay → Bay) (s : State) : (modBay x0 x1 s).anchor = s.anchor := by
  unfold modBay
  repeat' (first | (simp; done) | split | (refine (foldl_anchor _ ?_ _ _).trans ?_ <;> intros) | simp)

@[simp ↓] theorem modBays_anchor (x0 : BayId → Bay → Bay) (s : State) : (modBays x0 s).anchor = s.anchor := by
  unfold modBays
  repeat' (first | (simp; done) | split | (refine (foldl_anchor _ ?_ _ _).trans ?_ <;> intros) | simp)

@[simp ↓] theorem modCtrl_anchor (x0 : PortId) (x1 : Ctrl → Ctrl) (s : State) : (modCtrl x0 x1 s).anchor = s.anchor := by
  unfold modCtrl
  repeat' (first | (simp; done) | split | (refine (foldl_anchor _ ?_ _ _).trans ?_ <;> intros) | simp)

@[simp ↓] theorem tideRecord_anchor (s : State) : (tideRecord s).anchor = s.anchor := by
  unfold tideRecord
  repeat' (first | (simp; done) | split | (refine (foldl_anchor _ ?_ _ _).trans ?_ <;> intros) | simp)

@[simp ↓] theorem passLock_anchor (s : State) : (passLock s).anchor = s.anchor := by
  unfold passLock
  repeat' (first | (simp; done) | split | (refine (foldl_anchor _ ?_ _ _).trans ?_ <;> intros) | simp)

@[simp ↓] theorem modSq_anchor (x0 : PortId) (x1 : Nat) (x2 : Sq → Sq) (s : State) :
    (modSq x0 x1 x2 s).anchor = s.anchor := by
  unfold modSq
  repeat' (first | (simp; done) | split | (refine (foldl_anchor _ ?_ _ _).trans ?_ <;> intros) | simp)

@[simp ↓] theorem modCq_anchor (x0 : PortId) (x1 : Nat) (x2 : Cq → Cq) (s : State) :
    (modCq x0 x1 x2 s).anchor = s.anchor := by
  unfold modCq
  repeat' (first | (simp; done) | split | (refine (foldl_anchor _ ?_ _ _).trans ?_ <;> intros) | simp)

@[simp ↓] theorem post_anchor (x0 : PortId) (x1 : Completion) (s : State) : (post x0 x1 s).anchor = s.anchor := by
  unfold post
  repeat' (first | (simp; done) | split | (refine (foldl_anchor _ ?_ _ _).trans ?_ <;> intros) | simp)

@[simp ↓] theorem logError_anchor (x0 : Src) (x1 : Completion) (s : State) : (logError x0 x1 s).anchor = s.anchor := by
  unfold logError
  repeat' (first | (simp; done) | split | (refine (foldl_anchor _ ?_ _ _).trans ?_ <;> intros) | simp)

@[simp ↓] theorem hold_anchor (x0 : Src) (x1 : Wait) (s : State) (x3 : optParam Completion { }) :
    (hold x0 x1 s x3).anchor = s.anchor := by
  unfold hold
  repeat' (first | (simp; done) | split | (refine (foldl_anchor _ ?_ _ _).trans ?_ <;> intros) | simp)

@[simp ↓] theorem finish_anchor (x0 : Src) (x1 : Completion) (s : State) : (finish x0 x1 s).anchor = s.anchor := by
  unfold finish
  repeat' (first | (simp; done) | split | (refine (foldl_anchor _ ?_ _ _).trans ?_ <;> intros) | simp)

@[simp ↓] theorem answer_anchor (x0 : Src) (x1 : Completion) (s : State) : (answer x0 x1 s).anchor = s.anchor := by
  unfold answer
  repeat' (first | (simp; done) | split | (refine (foldl_anchor _ ?_ _ _).trans ?_ <;> intros) | simp)

@[simp ↓] theorem complete_anchor (x0 : Src) (x1 : Status) (x2 : Dword) (x3 : Dword)
    (x4 : List Byte) (x5 : List Blk) (s : State) :
    (complete x0 x1 x2 x3 x4 x5 s).anchor = s.anchor := by
  unfold complete
  repeat' (first | (simp; done) | split | (refine (foldl_anchor _ ?_ _ _).trans ?_ <;> intros) | simp)

@[simp ↓] theorem finishWrite_anchor (x0 : Src) (x1 : Completion) (s : State) : (finishWrite x0 x1 s).anchor = s.anchor := by
  unfold finishWrite
  repeat' (first | (simp; done) | split | (refine (foldl_anchor _ ?_ _ _).trans ?_ <;> intros) | simp)

@[simp ↓] theorem completeWrite_anchor (x0 : Src) (x1 : Dword) (x2 : Dword) (s : State) :
    (completeWrite x0 x1 x2 s).anchor = s.anchor := by
  unfold completeWrite
  repeat' (first | (simp; done) | split | (refine (foldl_anchor _ ?_ _ _).trans ?_ <;> intros) | simp)

@[simp ↓] theorem reportAer_anchor (x0 : Nat) (x1 : PortId) (s : State) : (reportAer x0 x1 s).anchor = s.anchor := by
  unfold reportAer
  repeat' (first | (simp; done) | split | (refine (foldl_anchor _ ?_ _ _).trans ?_ <;> intros) | simp)

@[simp ↓] theorem reportSmart_anchor (x0 : Nat) (x1 : Nat) (s : State) : (reportSmart x0 x1 s).anchor = s.anchor := by
  unfold reportSmart
  repeat' (first | (simp; done) | split | (refine (foldl_anchor _ ?_ _ _).trans ?_ <;> intros) | simp)

@[simp ↓] theorem sendMsix_anchor (x0 : List PortId) (s : State) : (sendMsix x0 s).anchor = s.anchor := by
  unfold sendMsix
  repeat' (first | (simp; done) | split | (refine (foldl_anchor _ ?_ _ _).trans ?_ <;> intros) | simp)

@[simp ↓] theorem reportMsix_anchor (s : State) : (reportMsix s).anchor = s.anchor := by
  unfold reportMsix
  repeat' (first | (simp; done) | split | (refine (foldl_anchor _ ?_ _ _).trans ?_ <;> intros) | simp)

@[simp ↓] theorem reportEmcy_anchor (x0 : EventRec) (s : State) : (reportEmcy x0 s).anchor = s.anchor := by
  unfold reportEmcy
  repeat' (first | (simp; done) | split | (refine (foldl_anchor _ ?_ _ _).trans ?_ <;> intros) | simp)

@[simp ↓] theorem deliver_anchor (x0 : EventRec) (s : State) : (deliver x0 s).anchor = s.anchor := by
  unfold deliver
  repeat' (first | (simp; done) | split | (refine (foldl_anchor _ ?_ _ _).trans ?_ <;> intros) | simp)

@[simp ↓] theorem putLog_anchor (x0 : Nat) (x1 : List EventRec) (s : State) : (putLog x0 x1 s).anchor = s.anchor := by
  unfold putLog
  repeat' (first | (simp; done) | split | (refine (foldl_anchor _ ?_ _ _).trans ?_ <;> intros) | simp)

@[simp ↓] theorem pushRecord_anchor (x0 : EventRec) (s : State) : (pushRecord x0 s).anchor = s.anchor := by
  unfold pushRecord
  repeat' (first | (simp; done) | split | (refine (foldl_anchor _ ?_ _ _).trans ?_ <;> intros) | simp)

@[simp ↓] theorem raiseNow_anchor (x0 : Nat) (x1 : Nat) (x2 : List Nat) (s : State) :
    (raiseNow x0 x1 x2 s).anchor = s.anchor := by
  unfold raiseNow
  repeat' (first | (simp; done) | split | (refine (foldl_anchor _ ?_ _ _).trans ?_ <;> intros) | simp)

@[simp ↓] theorem raise_anchor (x0 : Nat) (x1 : Nat) (x2 : List Nat) (s : State) : (raise x0 x1 x2 s).anchor = s.anchor := by
  unfold raise
  repeat' (first | (simp; done) | split | (refine (foldl_anchor _ ?_ _ _).trans ?_ <;> intros) | simp)

@[simp ↓] theorem raiseDeferred_anchor (s : State) : (raiseDeferred s).anchor = s.anchor := by
  unfold raiseDeferred
  repeat' (first | (simp; done) | split | (refine (foldl_anchor _ ?_ _ _).trans ?_ <;> intros) | simp)

@[simp ↓] theorem raiseDropped_anchor (s : State) : (raiseDropped s).anchor = s.anchor := by
  unfold raiseDropped
  repeat' (first | (simp; done) | split | (refine (foldl_anchor _ ?_ _ _).trans ?_ <;> intros) | simp)

@[simp ↓] theorem raiseBay_anchor (x0 : BayId) (x1 : Nat) (x2 : Nat) (x3 : List Nat) (s : State) :
    (raiseBay x0 x1 x2 x3 s).anchor = s.anchor := by
  unfold raiseBay
  repeat' (first | (simp; done) | split | (refine (foldl_anchor _ ?_ _ _).trans ?_ <;> intros) | simp)

@[simp ↓] theorem modDisc_anchor (x0 : Nat) (x1 : Nat) (x2 : SetDisc → SetDisc) (s : State) :
    (modDisc x0 x1 x2 s).anchor = s.anchor := by
  unfold modDisc
  repeat' (first | (simp; done) | split | (refine (foldl_anchor _ ?_ _ _).trans ?_ <;> intros) | simp)

@[simp ↓] theorem postRequest_anchor (x0 : BayId) (x1 : Nat) (x2 : Nat) (x3 : List Byte) (s : State) :
    (postRequest x0 x1 x2 x3 s).anchor = s.anchor := by
  unfold postRequest
  repeat' (first | (simp; done) | split | (refine (foldl_anchor _ ?_ _ _).trans ?_ <;> intros) | simp)

@[simp ↓] theorem withdraw_anchor (x0 : BayId) (s : State) : (withdraw x0 s).anchor = s.anchor := by
  unfold withdraw
  repeat' (first | (simp; done) | split | (refine (foldl_anchor _ ?_ _ _).trans ?_ <;> intros) | simp)

@[simp ↓] theorem discFailed_anchor (x0 : Nat) (x1 : Nat) (x2 : Nat) (s : State) :
    (discFailed x0 x1 x2 s).anchor = s.anchor := by
  unfold discFailed
  repeat' (first | (simp; done) | split | (refine (foldl_anchor _ ?_ _ _).trans ?_ <;> intros) | simp)

@[simp ↓] theorem slipFrame_anchor (x0 : Nat) (x1 : Nat) (x2 : Nat) (s : State) :
    (slipFrame x0 x1 x2 s).anchor = s.anchor := by
  unfold slipFrame
  repeat' (first | (simp; done) | split | (refine (foldl_anchor _ ?_ _ _).trans ?_ <;> intros) | simp)

@[simp ↓] theorem dropGate_anchor (x0 : BayId) (x1 : Nat) (s : State) : (dropGate x0 x1 s).anchor = s.anchor := by
  unfold dropGate
  repeat' (first | (simp; done) | split | (refine (foldl_anchor _ ?_ _ _).trans ?_ <;> intros) | simp)

@[simp ↓] theorem dropAllGates_anchor (x0 : Nat) (s : State) : (dropAllGates x0 s).anchor = s.anchor := by
  unfold dropAllGates
  repeat' (first | (simp; done) | split | (refine (foldl_anchor _ ?_ _ _).trans ?_ <;> intros) | simp)

@[simp ↓] theorem trackingLost_anchor (x0 : BayId) (x1 : Nat) (x2 : Nat) (s : State) :
    (trackingLost x0 x1 x2 s).anchor = s.anchor := by
  unfold trackingLost
  repeat' (first | (simp; done) | split | (refine (foldl_anchor _ ?_ _ _).trans ?_ <;> intros) | simp)

@[simp ↓] theorem focusLost_anchor (x0 : BayId) (x1 : Nat) (x2 : Nat) (s : State) :
    (focusLost x0 x1 x2 s).anchor = s.anchor := by
  unfold focusLost
  repeat' (first | (simp; done) | split | (refine (foldl_anchor _ ?_ _ _).trans ?_ <;> intros) | simp)

@[simp ↓] theorem leaveLock_anchor (x0 : BayId) (x1 : Nat) (x2 : Nat) (s : State) :
    (leaveLock x0 x1 x2 s).anchor = s.anchor := by
  unfold leaveLock
  repeat' (first | (simp; done) | split | (refine (foldl_anchor _ ?_ _ _).trans ?_ <;> intros) | simp)

@[simp ↓] theorem causewayError_anchor (x0 : BayId) (x1 : Nat) (s : State) : (causewayError x0 x1 s).anchor = s.anchor := by
  unfold causewayError
  repeat' (first | (simp; done) | split | (refine (foldl_anchor _ ?_ _ _).trans ?_ <;> intros) | simp)

@[simp ↓] theorem admitStarts_anchor (x0 : Nat) (s : State) : (admitStarts x0 s).anchor = s.anchor := by
  induction x0 generalizing s with
  | zero => rfl
  | succ n ih =>
    unfold admitStarts
    repeat' (first | (simp [ih]; done) | split | (refine (foldl_anchor _ ?_ _ _).trans ?_ <;> intros) | simp [ih])

@[simp ↓] theorem setBrakeDuty_anchor (x0 : BayId) (s : State) : (setBrakeDuty x0 s).anchor = s.anchor := by
  unfold setBrakeDuty
  repeat' (first | (simp; done) | split | (refine (foldl_anchor _ ?_ _ _).trans ?_ <;> intros) | simp)

@[simp ↓] theorem spinBrake_anchor (x0 : BayId) (s : State) : (spinBrake x0 s).anchor = s.anchor := by
  unfold spinBrake
  repeat' (first | (simp; done) | split | (refine (foldl_anchor _ ?_ _ _).trans ?_ <;> intros) | simp)

@[simp ↓] theorem spinCoast_anchor (x0 : BayId) (s : State) : (spinCoast x0 s).anchor = s.anchor := by
  unfold spinCoast
  repeat' (first | (simp; done) | split | (refine (foldl_anchor _ ?_ _ _).trans ?_ <;> intros) | simp)

@[simp ↓] theorem haltSled_anchor (x0 : BayId) (s : State) : (haltSled x0 s).anchor = s.anchor := by
  unfold haltSled
  repeat' (first | (simp; done) | split | (refine (foldl_anchor _ ?_ _ _).trans ?_ <;> intros) | simp)

@[simp ↓] theorem haltLoader_anchor (x0 : BayId) (s : State) : (haltLoader x0 s).anchor = s.anchor := by
  unfold haltLoader
  repeat' (first | (simp; done) | split | (refine (foldl_anchor _ ?_ _ _).trans ?_ <;> intros) | simp)

@[simp ↓] theorem haltColl_anchor (x0 : BayId) (s : State) : (haltColl x0 s).anchor = s.anchor := by
  unfold haltColl
  repeat' (first | (simp; done) | split | (refine (foldl_anchor _ ?_ _ _).trans ?_ <;> intros) | simp)

@[simp ↓] theorem sledTo_anchor (x0 : BayId) (x1 : Int) (s : State) : (sledTo x0 x1 s).anchor = s.anchor := by
  unfold sledTo
  repeat' (first | (simp; done) | split | (refine (foldl_anchor _ ?_ _ _).trans ?_ <;> intros) | simp)

@[simp ↓] theorem collTo_anchor (x0 : BayId) (x1 : Int) (s : State) : (collTo x0 x1 s).anchor = s.anchor := by
  unfold collTo
  repeat' (first | (simp; done) | split | (refine (foldl_anchor _ ?_ _ _).trans ?_ <;> intros) | simp)

@[simp ↓] theorem parkSteppers_anchor (x0 : BayId) (s : State) : (parkSteppers x0 s).anchor = s.anchor := by
  unfold parkSteppers
  repeat' (first | (simp; done) | split | (refine (foldl_anchor _ ?_ _ _).trans ?_ <;> intros) | simp)

@[simp ↓] theorem deEnergise_anchor (x0 : BayId) (s : State) : (deEnergise x0 s).anchor = s.anchor := by
  unfold deEnergise
  repeat' (first | (simp; done) | split | (refine (foldl_anchor _ ?_ _ _).trans ?_ <;> intros) | simp)

@[simp ↓] theorem freeRecalls_anchor (x0 : BayId) (s : State) : (freeRecalls x0 s).anchor = s.anchor := by
  unfold freeRecalls
  repeat' (first | (simp; done) | split | (refine (foldl_anchor _ ?_ _ _).trans ?_ <;> intros) | simp)

@[simp ↓] theorem enterBayHarbour_anchor (x0 : BayId) (x1 : Nat) (x2 : Nat) (x3 : Bool) (s : State) :
    (enterBayHarbour x0 x1 x2 x3 s).anchor = s.anchor := by
  unfold enterBayHarbour
  repeat' (first | (simp; done) | split | (refine (foldl_anchor _ ?_ _ _).trans ?_ <;> intros) | simp)

@[simp ↓] theorem startTraining_anchor (x0 : BayId) (s : State) : (startTraining x0 s).anchor = s.anchor := by
  unfold startTraining
  repeat' (first | (simp; done) | split | (refine (foldl_anchor _ ?_ _ _).trans ?_ <;> intros) | simp)

@[simp ↓] theorem trainingFailed_anchor (x0 : BayId) (s : State) : (trainingFailed x0 s).anchor = s.anchor := by
  unfold trainingFailed
  repeat' (first | (simp; done) | split | (refine (foldl_anchor _ ?_ _ _).trans ?_ <;> intros) | simp)

@[simp ↓] theorem newHead_anchor (x0 : BayId) (x1 : List Byte) (s : State) : (newHead x0 x1 s).anchor = s.anchor := by
  unfold newHead
  repeat' (first | (simp; done) | split | (refine (foldl_anchor _ ?_ _ _).trans ?_ <;> intros) | simp)

@[simp ↓] theorem linkUp_anchor (x0 : BayId) (x1 : List Byte) (x2 : Nat) (x3 : Nat) (s : State) :
    (linkUp x0 x1 x2 x3 s).anchor = s.anchor := by
  unfold linkUp
  repeat' (first | (simp; done) | split | (refine (foldl_anchor _ ?_ _ _).trans ?_ <;> intros) | simp)

@[simp ↓] theorem trained_anchor (x0 : BayId) (x1 : List (List Byte)) (x2 : List (List Byte)) (x3 : Nat) (x4 : Nat)
    (s : State) :
    (trained x0 x1 x2 x3 x4 s).anchor = s.anchor := by
  unfold trained
  repeat' (first | (simp; done) | split | (refine (foldl_anchor _ ?_ _ _).trans ?_ <;> intros) | simp)

@[simp ↓] theorem retrain_anchor (x0 : BayId) (s : State) : (retrain x0 s).anchor = s.anchor := by
  unfold retrain
  repeat' (first | (simp; done) | split | (refine (foldl_anchor _ ?_ _ _).trans ?_ <;> intros) | simp)

@[simp ↓] theorem cellErrors_anchor (x0 : BayId) (x1 : Nat) (s : State) : (cellErrors x0 x1 s).anchor = s.anchor := by
  unfold cellErrors
  repeat' (first | (simp; done) | split | (refine (foldl_anchor _ ?_ _ _).trans ?_ <;> intros) | simp)

@[simp ↓] theorem badCell_anchor (x0 : BayId) (s : State) : (badCell x0 s).anchor = s.anchor := by
  unfold badCell
  repeat' (first | (simp; done) | split | (refine (foldl_anchor _ ?_ _ _).trans ?_ <;> intros) | simp)

@[simp ↓] theorem noteSc_anchor (x0 : BayId) (x1 : Nat) (s : State) : (noteSc x0 x1 s).anchor = s.anchor := by
  unfold noteSc
  repeat' (first | (simp; done) | split | (refine (foldl_anchor _ ?_ _ _).trans ?_ <;> intros) | simp)

@[simp ↓] theorem servoCellsMissing_anchor (x0 : BayId) (x1 : Nat) (s : State) :
    (servoCellsMissing x0 x1 s).anchor = s.anchor := by
  unfold servoCellsMissing
  repeat' (first | (simp; done) | split | (refine (foldl_anchor _ ?_ _ _).trans ?_ <;> intros) | simp)

@[simp ↓] theorem inhibitFault_anchor (x0 : BayId) (s : State) : (inhibitFault x0 s).anchor = s.anchor := by
  unfold inhibitFault
  repeat' (first | (simp; done) | split | (refine (foldl_anchor _ ?_ _ _).trans ?_ <;> intros) | simp)

@[simp ↓] theorem laserFault_anchor (x0 : BayId) (s : State) : (laserFault x0 s).anchor = s.anchor := by
  unfold laserFault
  repeat' (first | (simp; done) | split | (refine (foldl_anchor _ ?_ _ _).trans ?_ <;> intros) | simp)

@[simp ↓] theorem faultBits_anchor (x0 : BayId) (x1 : BitVec 16) (s : State) : (faultBits x0 x1 s).anchor = s.anchor := by
  unfold faultBits
  repeat' (first | (simp; done) | split | (refine (foldl_anchor _ ?_ _ _).trans ?_ <;> intros) | simp)

@[simp ↓] theorem clearCauseway_anchor (x0 : BayId) (s : State) : (clearCauseway x0 s).anchor = s.anchor := by
  unfold clearCauseway
  repeat' (first | (simp; done) | split | (refine (foldl_anchor _ ?_ _ _).trans ?_ <;> intros) | simp)

@[simp ↓] theorem evalRegion_anchor (x0 : BayId) (s : State) : (evalRegion x0 s).anchor = s.anchor := by
  unfold evalRegion
  repeat' (first | (simp; done) | split | (refine (foldl_anchor _ ?_ _ _).trans ?_ <;> intros) | simp)

@[simp ↓] theorem loadLoops_anchor (x0 : BayId) (s : State) : (loadLoops x0 s).anchor = s.anchor := by
  unfold loadLoops
  repeat' (first | (simp; done) | split | (refine (foldl_anchor _ ?_ _ _).trans ?_ <;> intros) | simp)

@[simp ↓] theorem setMode_anchor (x0 : BayId) (x1 : Nat) (x2 : Nat) (s : State) :
    (setMode x0 x1 x2 s).anchor = s.anchor := by
  unfold setMode
  repeat' (first | (simp; done) | split | (refine (foldl_anchor _ ?_ _ _).trans ?_ <;> intros) | simp)

@[simp ↓] theorem enqueue_anchor (x0 : BayId) (x1 : QEvent) (s : State) : (enqueue x0 x1 s).anchor = s.anchor := by
  unfold enqueue
  repeat' (first | (simp; done) | split | (refine (foldl_anchor _ ?_ _ _).trans ?_ <;> intros) | simp)

@[simp ↓] theorem setSpeed_anchor (x0 : BayId) (x1 : Nat) (s : State) : (setSpeed x0 x1 s).anchor = s.anchor := by
  unfold setSpeed
  repeat' (first | (simp; done) | split | (refine (foldl_anchor _ ?_ _ _).trans ?_ <;> intros) | simp)

@[simp ↓] theorem unloadReady_anchor (x0 : BayId) (s : State) : (unloadReady x0 s).anchor = s.anchor := by
  unfold unloadReady
  repeat' (first | (simp; done) | split | (refine (foldl_anchor _ ?_ _ _).trans ?_ <;> intros) | simp)

@[simp ↓] theorem spinStopped_anchor (x0 : BayId) (s : State) : (spinStopped x0 s).anchor = s.anchor := by
  unfold spinStopped
  repeat' (first | (simp; done) | split | (refine (foldl_anchor _ ?_ _ _).trans ?_ <;> intros) | simp)

@[simp ↓] theorem rejectServo_anchor (x0 : BayId) (x1 : Nat) (x2 : Nat) (x3 : Nat) (x4 : Nat) (s : State) :
    (rejectServo x0 x1 x2 x3 x4 s).anchor = s.anchor := by
  unfold rejectServo
  repeat' (first | (simp; done) | split | (refine (foldl_anchor _ ?_ _ _).trans ?_ <;> intros) | simp)

@[simp ↓] theorem captureFailed_anchor (x0 : BayId) (x1 : Nat) (s : State) : (captureFailed x0 x1 s).anchor = s.anchor := by
  unfold captureFailed
  repeat' (first | (simp; done) | split | (refine (foldl_anchor _ ?_ _ _).trans ?_ <;> intros) | simp)

@[simp ↓] theorem laserRead_anchor (x0 : BayId) (s : State) : (laserRead x0 s).anchor = s.anchor := by
  unfold laserRead
  repeat' (first | (simp; done) | split | (refine (foldl_anchor _ ?_ _ _).trans ?_ <;> intros) | simp)

@[simp ↓] theorem laserOff_anchor (x0 : BayId) (s : State) : (laserOff x0 s).anchor = s.anchor := by
  unfold laserOff
  repeat' (first | (simp; done) | split | (refine (foldl_anchor _ ?_ _ _).trans ?_ <;> intros) | simp)

@[simp ↓] theorem promoteRegion_anchor (x0 : Nat) (s : State) : (promoteRegion x0 s).anchor = s.anchor := by
  unfold promoteRegion
  repeat' (first | (simp; done) | split | (refine (foldl_anchor _ ?_ _ _).trans ?_ <;> intros) | simp)

@[simp ↓] theorem fillRebuilds_anchor (x0 : Nat) (s : State) : (fillRebuilds x0 s).anchor = s.anchor := by
  induction x0 generalizing s with
  | zero => rfl
  | succ n ih =>
    unfold fillRebuilds
    repeat' (first | (simp [ih]; done) | split | (refine (foldl_anchor _ ?_ _ _).trans ?_ <;> intros) | simp [ih])

@[simp ↓] theorem loseRegion_anchor (x0 : Nat) (s : State) : (loseRegion x0 s).anchor = s.anchor := by
  unfold loseRegion
  repeat' (first | (simp; done) | split | (refine (foldl_anchor _ ?_ _ _).trans ?_ <;> intros) | simp)

@[simp ↓] theorem modBucket_anchor (x0 : Nat) (x1 : Bucket → Bucket) (s : State) :
    (modBucket x0 x1 s).anchor = s.anchor := by
  unfold modBucket
  repeat' (first | (simp; done) | split | (refine (foldl_anchor _ ?_ _ _).trans ?_ <;> intros) | simp)

@[simp ↓] theorem countCorrectable_anchor (x0 : Nat) (s : State) : (countCorrectable x0 s).anchor = s.anchor := by
  unfold countCorrectable
  repeat' (first | (simp; done) | split | (refine (foldl_anchor _ ?_ _ _).trans ?_ <;> intros) | simp)

@[simp ↓] theorem leakBucket_anchor (x0 : Nat) (s : State) : (leakBucket x0 s).anchor = s.anchor := by
  unfold leakBucket
  repeat' (first | (simp; done) | split | (refine (foldl_anchor _ ?_ _ _).trans ?_ <;> intros) | simp)

@[simp ↓] theorem clearBucket_anchor (x0 : Nat) (s : State) : (clearBucket x0 s).anchor = s.anchor := by
  unfold clearBucket
  repeat' (first | (simp; done) | split | (refine (foldl_anchor _ ?_ _ _).trans ?_ <;> intros) | simp)

@[simp ↓] theorem logMemErr_anchor (x0 : Nat) (x1 : Nat) (x2 : Nat) (s : State) :
    (logMemErr x0 x1 x2 s).anchor = s.anchor := by
  unfold logMemErr
  repeat' (first | (simp; done) | split | (refine (foldl_anchor _ ?_ _ _).trans ?_ <;> intros) | simp)

@[simp ↓] theorem touchLine_anchor (x0 : Nat) (x1 : Bool) (s : State) : (touchLine x0 x1 s).anchor = s.anchor := by
  unfold touchLine
  repeat' (first | (simp; done) | split | (refine (foldl_anchor _ ?_ _ _).trans ?_ <;> intros) | simp)

@[simp ↓] theorem cleanLines_anchor (x0 : Line → Bool) (s : State) : (cleanLines x0 s).anchor = s.anchor := by
  unfold cleanLines
  repeat' (first | (simp; done) | split | (refine (foldl_anchor _ ?_ _ _).trans ?_ <;> intros) | simp)

@[simp ↓] theorem flushLines_anchor (x0 : Line → Bool) (s : State) : (flushLines x0 s).anchor = s.anchor := by
  unfold flushLines
  repeat' (first | (simp; done) | split | (refine (foldl_anchor _ ?_ _ _).trans ?_ <;> intros) | simp)

@[simp ↓] theorem invalidateLines_anchor (x0 : Line → Bool) (s : State) : (invalidateLines x0 s).anchor = s.anchor := by
  unfold invalidateLines
  repeat' (first | (simp; done) | split | (refine (foldl_anchor _ ?_ _ _).trans ?_ <;> intros) | simp)

@[simp ↓] theorem applyCarveOut_anchor (s : State) : (applyCarveOut s).anchor = s.anchor := by
  unfold applyCarveOut
  repeat' (first | (simp; done) | split | (refine (foldl_anchor _ ?_ _ _).trans ?_ <;> intros) | simp)

@[simp ↓] theorem stageDomain_anchor (x0 : List Byte) (s : State) : (stageDomain x0 s).anchor = s.anchor := by
  unfold stageDomain
  repeat' (first | (simp; done) | split | (refine (foldl_anchor _ ?_ _ _).trans ?_ <;> intros) | simp)

@[simp ↓] theorem loseBlockTable_anchor (x0 : Nat) (x1 : Nat) (s : State) : (loseBlockTable x0 x1 s).anchor = s.anchor := by
  unfold loseBlockTable
  repeat' (first | (simp; done) | split | (refine (foldl_anchor _ ?_ _ _).trans ?_ <;> intros) | simp)

@[simp ↓] theorem losePlan_anchor (x0 : Nat) (s : State) : (losePlan x0 s).anchor = s.anchor := by
  unfold losePlan
  repeat' (first | (simp; done) | split | (refine (foldl_anchor _ ?_ _ _).trans ?_ <;> intros) | simp)

@[simp ↓] theorem gapRecord_anchor (x0 : Nat) (s : State) : (gapRecord x0 s).anchor = s.anchor := by
  unfold gapRecord
  repeat' (first | (simp; done) | split | (refine (foldl_anchor _ ?_ _ _).trans ?_ <;> intros) | simp)

@[simp ↓] theorem restartRegion_anchor (x0 : Nat) (s : State) : (restartRegion x0 s).anchor = s.anchor := by
  unfold restartRegion
  repeat' (first | (simp; done) | split | (refine (foldl_anchor _ ?_ _ _).trans ?_ <;> intros) | simp)

@[simp ↓] theorem hbmLost_anchor (x0 : MemHit) (s : State) : (hbmLost x0 s).anchor = s.anchor := by
  unfold hbmLost
  repeat' (first | (simp; done) | split | (refine (foldl_anchor _ ?_ _ _).trans ?_ <;> intros) | simp)

@[simp ↓] theorem cacheDataLost_anchor (x0 : MemHit) (s : State) : (cacheDataLost x0 s).anchor = s.anchor := by
  unfold cacheDataLost
  repeat' (first | (simp; done) | split | (refine (foldl_anchor _ ?_ _ _).trans ?_ <;> intros) | simp)

@[simp ↓] theorem restartBuild_anchor (s : State) : (restartBuild s).anchor = s.anchor := by
  unfold restartBuild
  repeat' (first | (simp; done) | split | (refine (foldl_anchor _ ?_ _ _).trans ?_ <;> intros) | simp)

@[simp ↓] theorem memLost_anchor (x0 : MemHit) (s : State) : (memLost x0 s).anchor = s.anchor := by
  unfold memLost
  repeat' (first | (simp; done) | split | (refine (foldl_anchor _ ?_ _ _).trans ?_ <;> intros) | simp)

@[simp ↓] theorem memError_anchor (x0 : MemHit) (s : State) : (memError x0 s).anchor = s.anchor := by
  unfold memError
  repeat' (first | (simp; done) | split | (refine (foldl_anchor _ ?_ _ _).trans ?_ <;> intros) | simp)

@[simp ↓] theorem memErrors_anchor (x0 : List MemHit) (s : State) : (memErrors x0 s).anchor = s.anchor := by
  unfold memErrors
  repeat' (first | (simp; done) | split | (refine (foldl_anchor _ ?_ _ _).trans ?_ <;> intros) | simp)

@[simp ↓] theorem tagLost_anchor (x0 : TagFail) (s : State) : (tagLost x0 s).anchor = s.anchor := by
  unfold tagLost
  repeat' (first | (simp; done) | split | (refine (foldl_anchor _ ?_ _ _).trans ?_ <;> intros) | simp)

@[simp ↓] theorem putTag_anchor (x0 : Nat) (x1 : Nat) (x2 : Nat) (s : State) : (putTag x0 x1 x2 s).anchor = s.anchor := by
  unfold putTag
  repeat' (first | (simp; done) | split | (refine (foldl_anchor _ ?_ _ _).trans ?_ <;> intros) | simp)

@[simp ↓] theorem tagError_anchor (x0 : TagFail) (s : State) : (tagError x0 s).anchor = s.anchor := by
  unfold tagError
  repeat' (first | (simp; done) | split | (refine (foldl_anchor _ ?_ _ _).trans ?_ <;> intros) | simp)

@[simp ↓] theorem writeNarrow_anchor (x0 : Nat) (x1 : List Nat) (x2 : BitVec 64) (x3 : BitVec 64) (s : State) :
    ((writeNarrow x0 x1 x2 x3 s).2).anchor = s.anchor := by
  unfold writeNarrow
  repeat' (first | (simp; done) | split | (refine (foldl_anchor _ ?_ _ _).trans ?_ <;> intros) | simp)

@[simp ↓] theorem startCapture_anchor (x0 : BayId) (x1 : Nat) (s : State) : (startCapture x0 x1 s).anchor = s.anchor := by
  unfold startCapture
  repeat' (first | (simp; done) | split | (refine (foldl_anchor _ ?_ _ _).trans ?_ <;> intros) | simp)

@[simp ↓] theorem startJump_anchor (x0 : BayId) (x1 : Nat) (s : State) : (startJump x0 x1 s).anchor = s.anchor := by
  unfold startJump
  repeat' (first | (simp; done) | split | (refine (foldl_anchor _ ?_ _ _).trans ?_ <;> intros) | simp)

@[simp ↓] theorem confirmLayer_anchor (x0 : BayId) (x1 : Nat) (s : State) : (confirmLayer x0 x1 s).anchor = s.anchor := by
  unfold confirmLayer
  repeat' (first | (simp; done) | split | (refine (foldl_anchor _ ?_ _ _).trans ?_ <;> intros) | simp)

@[simp ↓] theorem seekRamp_anchor (x0 : BayId) (x1 : Int) (s : State) : (seekRamp x0 x1 s).anchor = s.anchor := by
  unfold seekRamp
  repeat' (first | (simp; done) | split | (refine (foldl_anchor _ ?_ _ _).trans ?_ <;> intros) | simp)

@[simp ↓] theorem startSeek_anchor (x0 : BayId) (x1 : Int) (s : State) : (startSeek x0 x1 s).anchor = s.anchor := by
  unfold startSeek
  repeat' (first | (simp; done) | split | (refine (foldl_anchor _ ?_ _ _).trans ?_ <;> intros) | simp)

@[simp ↓] theorem enterWrite_anchor (x0 : BayId) (s : State) : (enterWrite x0 s).anchor = s.anchor := by
  unfold enterWrite
  repeat' (first | (simp; done) | split | (refine (foldl_anchor _ ?_ _ _).trans ?_ <;> intros) | simp)

@[simp ↓] theorem recordWrite_anchor (x0 : BayId) (x1 : Nat) (x2 : CalIn) (x3 : Int) (s : State) :
    ((recordWrite x0 x1 x2 x3 s).2).anchor = s.anchor := by
  unfold recordWrite
  repeat' (first | (simp; done) | split | (refine (foldl_anchor _ ?_ _ _).trans ?_ <;> intros) | simp)

@[simp ↓] theorem lockOn_anchor (x0 : BayId) (x1 : Nat) (x2 : Nat) (x3 : Nat) (s : State) :
    (lockOn x0 x1 x2 x3 s).anchor = s.anchor := by
  unfold lockOn
  repeat' (first | (simp; done) | split | (refine (foldl_anchor _ ?_ _ _).trans ?_ <;> intros) | simp)

@[simp ↓] theorem reestablish_anchor (x0 : BayId) (x1 : Int) (s : State) : (reestablish x0 x1 s).anchor = s.anchor := by
  unfold reestablish
  repeat' (first | (simp; done) | split | (refine (foldl_anchor _ ?_ _ _).trans ?_ <;> intros) | simp)

@[simp ↓] theorem judgeWedge_anchor (x0 : BayId) (s : State) : (judgeWedge x0 s).anchor = s.anchor := by
  unfold judgeWedge
  repeat' (first | (simp; done) | split | (refine (foldl_anchor _ ?_ _ _).trans ?_ <;> intros) | simp)

@[simp ↓] theorem seekOn_anchor (x0 : BayId) (s : State) : (seekOn x0 s).anchor = s.anchor := by
  unfold seekOn
  repeat' (first | (simp; done) | split | (refine (foldl_anchor _ ?_ _ _).trans ?_ <;> intros) | simp)

@[simp ↓] theorem commitWedge_anchor (x0 : BayId) (x1 : Option Nat) (x2 : Int) (s : State) :
    (commitWedge x0 x1 x2 s).anchor = s.anchor := by
  unfold commitWedge
  repeat' (first | (simp; done) | split | (refine (foldl_anchor _ ?_ _ _).trans ?_ <;> intros) | simp)

@[simp ↓] theorem fireEvent_anchor (x0 : BayId) (x1 : QEvent) (s : State) : (fireEvent x0 x1 s).anchor = s.anchor := by
  unfold fireEvent
  repeat' (first | (simp; done) | split | (refine (foldl_anchor _ ?_ _ _).trans ?_ <;> intros) | simp)

@[simp ↓] theorem clearTimebase_anchor (x0 : BayId) (s : State) : (clearTimebase x0 s).anchor = s.anchor := by
  unfold clearTimebase
  repeat' (first | (simp; done) | split | (refine (foldl_anchor _ ?_ _ _).trans ?_ <;> intros) | simp)

@[simp ↓] theorem missSample_anchor (x0 : BayId) (x1 : Nat) (s : State) : (missSample x0 x1 s).anchor = s.anchor := by
  unfold missSample
  repeat' (first | (simp; done) | split | (refine (foldl_anchor _ ?_ _ _).trans ?_ <;> intros) | simp)

@[simp ↓] theorem computeLoop_anchor (x0 : BayId) (x1 : Nat) (x2 : Int) (s : State) :
    (computeLoop x0 x1 x2 s).anchor = s.anchor := by
  unfold computeLoop
  repeat' (first | (simp; done) | split | (refine (foldl_anchor _ ?_ _ _).trans ?_ <;> intros) | simp)

@[simp ↓] theorem badWord_anchor (x0 : BayId) (x1 : Nat) (x2 : EngineIn) (s : State) :
    (badWord x0 x1 x2 s).anchor = s.anchor := by
  unfold badWord
  repeat' (first | (simp; done) | split | (refine (foldl_anchor _ ?_ _ _).trans ?_ <;> intros) | simp)

@[simp ↓] theorem runLoop_anchor (x0 : BayId) (x1 : Nat) (x2 : EngineIn) (x3 : Option Int) (s : State) :
    (runLoop x0 x1 x2 x3 s).anchor = s.anchor := by
  unfold runLoop
  repeat' (first | (simp; done) | split | (refine (foldl_anchor _ ?_ _ _).trans ?_ <;> intros) | simp)

@[simp ↓] theorem swapLoop_anchor (x0 : BayId) (x1 : Nat) (s : State) : (swapLoop x0 x1 s).anchor = s.anchor := by
  unfold swapLoop
  repeat' (first | (simp; done) | split | (refine (foldl_anchor _ ?_ _ _).trans ?_ <;> intros) | simp)

@[simp ↓] theorem measureDepth_anchor (x0 : BayId) (x1 : Nat) (x2 : FocusSample) (x3 : EngineIn) (s : State) :
    (measureDepth x0 x1 x2 x3 s).anchor = s.anchor := by
  unfold measureDepth
  repeat' (first | (simp; done) | split | (refine (foldl_anchor _ ?_ _ _).trans ?_ <;> intros) | simp)

@[simp ↓] theorem endCurve_anchor (x0 : BayId) (x1 : EngineIn) (s : State) : (endCurve x0 x1 s).anchor = s.anchor := by
  unfold endCurve
  repeat' (first | (simp; done) | split | (refine (foldl_anchor _ ?_ _ _).trans ?_ <;> intros) | simp)

@[simp ↓] theorem closeFocus_anchor (x0 : BayId) (s : State) : (closeFocus x0 s).anchor = s.anchor := by
  unfold closeFocus
  repeat' (first | (simp; done) | split | (refine (foldl_anchor _ ?_ _ _).trans ?_ <;> intros) | simp)

@[simp ↓] theorem focusProfile_anchor (x0 : BayId) (s : State) : (focusProfile x0 s).anchor = s.anchor := by
  unfold focusProfile
  repeat' (first | (simp; done) | split | (refine (foldl_anchor _ ?_ _ _).trans ?_ <;> intros) | simp)

@[simp ↓] theorem sweepSample_anchor (x0 : BayId) (x1 : EngineIn) (x2 : Option FocusSample) (s : State) :
    (sweepSample x0 x1 x2 s).anchor = s.anchor := by
  unfold sweepSample
  repeat' (first | (simp; done) | split | (refine (foldl_anchor _ ?_ _ _).trans ?_ <;> intros) | simp)

@[simp ↓] theorem acquire_anchor (x0 : BayId) (s : State) : (acquire x0 s).anchor = s.anchor := by
  unfold acquire
  repeat' (first | (simp; done) | split | (refine (foldl_anchor _ ?_ _ _).trans ?_ <;> intros) | simp)

@[simp ↓] theorem settleCount_anchor (x0 : BayId) (x1 : Int) (s : State) : (settleCount x0 x1 s).anchor = s.anchor := by
  unfold settleCount
  repeat' (first | (simp; done) | split | (refine (foldl_anchor _ ?_ _ _).trans ?_ <;> intros) | simp)

@[simp ↓] theorem settleSample_anchor (x0 : BayId) (x1 : EngineIn) (x2 : Option FocusSample) (s : State) :
    (settleSample x0 x1 x2 s).anchor = s.anchor := by
  unfold settleSample
  repeat' (first | (simp; done) | split | (refine (foldl_anchor _ ?_ _ _).trans ?_ <;> intros) | simp)

@[simp ↓] theorem jumpFallback_anchor (x0 : BayId) (s : State) : (jumpFallback x0 s).anchor = s.anchor := by
  unfold jumpFallback
  repeat' (first | (simp; done) | split | (refine (foldl_anchor _ ?_ _ _).trans ?_ <;> intros) | simp)

@[simp ↓] theorem jumpCrossing_anchor (x0 : BayId) (x1 : FocusSample) (x2 : EngineIn) (s : State) :
    (jumpCrossing x0 x1 x2 s).anchor = s.anchor := by
  unfold jumpCrossing
  repeat' (first | (simp; done) | split | (refine (foldl_anchor _ ?_ _ _).trans ?_ <;> intros) | simp)

@[simp ↓] theorem landJump_anchor (x0 : BayId) (s : State) : (landJump x0 s).anchor = s.anchor := by
  unfold landJump
  repeat' (first | (simp; done) | split | (refine (foldl_anchor _ ?_ _ _).trans ?_ <;> intros) | simp)

@[simp ↓] theorem rampSample_anchor (x0 : BayId) (x1 : EngineIn) (x2 : Option FocusSample) (s : State) :
    (rampSample x0 x1 x2 s).anchor = s.anchor := by
  unfold rampSample
  repeat' (first | (simp; done) | split | (refine (foldl_anchor _ ?_ _ _).trans ?_ <;> intros) | simp)

@[simp ↓] theorem fallbackSample_anchor (x0 : BayId) (x1 : EngineIn) (x2 : Option FocusSample) (s : State) :
    (fallbackSample x0 x1 x2 s).anchor = s.anchor := by
  unfold fallbackSample
  repeat' (first | (simp; done) | split | (refine (foldl_anchor _ ?_ _ _).trans ?_ <;> intros) | simp)

@[simp ↓] theorem landedSample_anchor (x0 : BayId) (x1 : EngineIn) (x2 : Option FocusSample) (s : State) :
    (landedSample x0 x1 x2 s).anchor = s.anchor := by
  unfold landedSample
  repeat' (first | (simp; done) | split | (refine (foldl_anchor _ ?_ _ _).trans ?_ <;> intros) | simp)

@[simp ↓] theorem judgeFocus_anchor (x0 : BayId) (x1 : Option Bool) (x2 : Option Int) (s : State) :
    (judgeFocus x0 x1 x2 s).anchor = s.anchor := by
  unfold judgeFocus
  repeat' (first | (simp; done) | split | (refine (foldl_anchor _ ?_ _ _).trans ?_ <;> intros) | simp)

@[simp ↓] theorem followSample_anchor (x0 : BayId) (x1 : EngineIn) (x2 : Option FocusSample) (s : State) :
    (followSample x0 x1 x2 s).anchor = s.anchor := by
  unfold followSample
  repeat' (first | (simp; done) | split | (refine (foldl_anchor _ ?_ _ _).trans ?_ <;> intros) | simp)

@[simp ↓] theorem parkSample_anchor (x0 : BayId) (s : State) : (parkSample x0 s).anchor = s.anchor := by
  unfold parkSample
  repeat' (first | (simp; done) | split | (refine (foldl_anchor _ ?_ _ _).trans ?_ <;> intros) | simp)

@[simp ↓] theorem focusSlot_anchor (x0 : BayId) (x1 : EngineIn) (s : State) : (focusSlot x0 x1 s).anchor = s.anchor := by
  unfold focusSlot
  repeat' (first | (simp; done) | split | (refine (foldl_anchor _ ?_ _ _).trans ?_ <;> intros) | simp)

@[simp ↓] theorem queueUpdate_anchor (x0 : BayId) (x1 : Nat) (s : State) : (queueUpdate x0 x1 s).anchor = s.anchor := by
  unfold queueUpdate
  repeat' (first | (simp; done) | split | (refine (foldl_anchor _ ?_ _ _).trans ?_ <;> intros) | simp)

@[simp ↓] theorem feedUpdate_anchor (x0 : BayId) (s : State) : (feedUpdate x0 s).anchor = s.anchor := by
  unfold feedUpdate
  repeat' (first | (simp; done) | split | (refine (foldl_anchor _ ?_ _ _).trans ?_ <;> intros) | simp)

@[simp ↓] theorem trackSlot_anchor (x0 : BayId) (x1 : EngineIn) (x2 : Bool) (s : State) :
    (trackSlot x0 x1 x2 s).anchor = s.anchor := by
  unfold trackSlot
  repeat' (first | (simp; done) | split | (refine (foldl_anchor _ ?_ _ _).trans ?_ <;> intros) | simp)

@[simp ↓] theorem tiltSlot_anchor (x0 : BayId) (x1 : EngineIn) (s : State) : (tiltSlot x0 x1 s).anchor = s.anchor := by
  unfold tiltSlot
  repeat' (first | (simp; done) | split | (refine (foldl_anchor _ ?_ _ _).trans ?_ <;> intros) | simp)

@[simp ↓] theorem sledSlot_anchor (x0 : BayId) (x1 : EngineIn) (s : State) : (sledSlot x0 x1 s).anchor = s.anchor := by
  unfold sledSlot
  repeat' (first | (simp; done) | split | (refine (foldl_anchor _ ?_ _ _).trans ?_ <;> intros) | simp)

@[simp ↓] theorem speedRamp_anchor (x0 : BayId) (x1 : Nat) (s : State) : (speedRamp x0 x1 s).anchor = s.anchor := by
  unfold speedRamp
  repeat' (first | (simp; done) | split | (refine (foldl_anchor _ ?_ _ _).trans ?_ <;> intros) | simp)

@[simp ↓] theorem speedSlot_anchor (x0 : BayId) (x1 : EngineIn) (x2 : Bool) (s : State) :
    (speedSlot x0 x1 x2 s).anchor = s.anchor := by
  unfold speedSlot
  repeat' (first | (simp; done) | split | (refine (foldl_anchor _ ?_ _ _).trans ?_ <;> intros) | simp)

@[simp ↓] theorem wedgeSlot_anchor (x0 : BayId) (x1 : EngineIn) (s : State) : (wedgeSlot x0 x1 s).anchor = s.anchor := by
  unfold wedgeSlot
  repeat' (first | (simp; done) | split | (refine (foldl_anchor _ ?_ _ _).trans ?_ <;> intros) | simp)

@[simp ↓] theorem currentSlot_anchor (x0 : BayId) (x1 : EngineIn) (s : State) : (currentSlot x0 x1 s).anchor = s.anchor := by
  unfold currentSlot
  repeat' (first | (simp; done) | split | (refine (foldl_anchor _ ?_ _ _).trans ?_ <;> intros) | simp)

@[simp ↓] theorem collSlot_anchor (x0 : BayId) (x1 : EngineIn) (s : State) : (collSlot x0 x1 s).anchor = s.anchor := by
  unfold collSlot
  repeat' (first | (simp; done) | split | (refine (foldl_anchor _ ?_ _ _).trans ?_ <;> intros) | simp)

@[simp ↓] theorem engineBay_anchor (x0 : BayId) (x1 : EngineIn) (s : State) : (engineBay x0 x1 s).anchor = s.anchor := by
  unfold engineBay
  repeat' (first | (simp; done) | split | (refine (foldl_anchor _ ?_ _ _).trans ?_ <;> intros) | simp)

@[simp ↓] theorem clearServo_anchor (x0 : BayId) (s : State) : (clearServo x0 s).anchor = s.anchor := by
  unfold clearServo
  repeat' (first | (simp; done) | split | (refine (foldl_anchor _ ?_ _ _).trans ?_ <;> intros) | simp)

@[simp ↓] theorem queueStart_anchor (x0 : BayId) (x1 : Nat) (s : State) : (queueStart x0 x1 s).anchor = s.anchor := by
  unfold queueStart
  repeat' (first | (simp; done) | split | (refine (foldl_anchor _ ?_ _ _).trans ?_ <;> intros) | simp)

@[simp ↓] theorem startSpindle_anchor (x0 : BayId) (x1 : Nat) (s : State) : (startSpindle x0 x1 s).anchor = s.anchor := by
  unfold startSpindle
  repeat' (first | (simp; done) | split | (refine (foldl_anchor _ ?_ _ _).trans ?_ <;> intros) | simp)

@[simp ↓] theorem startFromRest_anchor (x0 : BayId) (x1 : Nat) (s : State) : (startFromRest x0 x1 s).anchor = s.anchor := by
  unfold startFromRest
  repeat' (first | (simp; done) | split | (refine (foldl_anchor _ ?_ _ _).trans ?_ <;> intros) | simp)

@[simp ↓] theorem forcedCrossing_anchor (x0 : BayId) (x1 : Nat) (s : State) :
    (forcedCrossing x0 x1 s).anchor = s.anchor := by
  unfold forcedCrossing
  repeat' (first | (simp; done) | split | (refine (foldl_anchor _ ?_ _ _).trans ?_ <;> intros) | simp)

@[simp ↓] theorem speedAtCommutation_anchor (x0 : BayId) (s : State) : (speedAtCommutation x0 s).anchor = s.anchor := by
  unfold speedAtCommutation
  repeat' (first | (simp; done) | split | (refine (foldl_anchor _ ?_ _ _).trans ?_ <;> intros) | simp)

@[simp ↓] theorem afterCommutation_anchor (x0 : BayId) (s : State) : (afterCommutation x0 s).anchor = s.anchor := by
  unfold afterCommutation
  repeat' (first | (simp; done) | split | (refine (foldl_anchor _ ?_ _ _).trans ?_ <;> intros) | simp)

@[simp ↓] theorem startFailed_anchor (x0 : BayId) (x1 : Nat) (s : State) : (startFailed x0 x1 s).anchor = s.anchor := by
  unfold startFailed
  repeat' (first | (simp; done) | split | (refine (foldl_anchor _ ?_ _ _).trans ?_ <;> intros) | simp)

@[simp ↓] theorem resumeSpindle_anchor (x0 : BayId) (s : State) : (resumeSpindle x0 s).anchor = s.anchor := by
  unfold resumeSpindle
  repeat' (first | (simp; done) | split | (refine (foldl_anchor _ ?_ _ _).trans ?_ <;> intros) | simp)

@[simp ↓] theorem clearSpindle_anchor (x0 : BayId) (s : State) : (clearSpindle x0 s).anchor = s.anchor := by
  unfold clearSpindle
  repeat' (first | (simp; done) | split | (refine (foldl_anchor _ ?_ _ _).trans ?_ <;> intros) | simp)

@[simp ↓] theorem homeSled_anchor (x0 : BayId) (s : State) : (homeSled x0 s).anchor = s.anchor := by
  unfold homeSled
  repeat' (first | (simp; done) | split | (refine (foldl_anchor _ ?_ _ _).trans ?_ <;> intros) | simp)

@[simp ↓] theorem homeColl_anchor (x0 : BayId) (s : State) : (homeColl x0 s).anchor = s.anchor := by
  unfold homeColl
  repeat' (first | (simp; done) | split | (refine (foldl_anchor _ ?_ _ _).trans ?_ <;> intros) | simp)

@[simp ↓] theorem openLoader_anchor (x0 : BayId) (s : State) : (openLoader x0 s).anchor = s.anchor := by
  unfold openLoader
  repeat' (first | (simp; done) | split | (refine (foldl_anchor _ ?_ _ _).trans ?_ <;> intros) | simp)

@[simp ↓] theorem clampLoader_anchor (x0 : BayId) (s : State) : (clampLoader x0 s).anchor = s.anchor := by
  unfold clampLoader
  repeat' (first | (simp; done) | split | (refine (foldl_anchor _ ?_ _ _).trans ?_ <;> intros) | simp)

@[simp ↓] theorem libraryAck_anchor (x0 : BayId) (x1 : Nat) (x2 : Nat) (s : State) :
    (libraryAck x0 x1 x2 s).anchor = s.anchor := by
  unfold libraryAck
  repeat' (first | (simp; done) | split | (refine (foldl_anchor _ ?_ _ _).trans ?_ <;> intros) | simp)

@[simp ↓] theorem libraryRun_anchor (x0 : BayId) (x1 : Nat) (x2 : Nat) (s : State) :
    (libraryRun x0 x1 x2 s).anchor = s.anchor := by
  unfold libraryRun
  repeat' (first | (simp; done) | split | (refine (foldl_anchor _ ?_ _ _).trans ?_ <;> intros) | simp)

@[simp ↓] theorem libraryNext_anchor (x0 : BayId) (s : State) : (libraryNext x0 s).anchor = s.anchor := by
  unfold libraryNext
  repeat' (first | (simp; done) | split | (refine (foldl_anchor _ ?_ _ _).trans ?_ <;> intros) | simp)

@[simp ↓] theorem libraryCommand_anchor (x0 : BayId) (x1 : Nat) (x2 : Nat) (s : State) :
    (libraryCommand x0 x1 x2 s).anchor = s.anchor := by
  unfold libraryCommand
  repeat' (first | (simp; done) | split | (refine (foldl_anchor _ ?_ _ _).trans ?_ <;> intros) | simp)

@[simp ↓] theorem sledEnd_anchor (x0 : BayId) (s : State) : (sledEnd x0 s).anchor = s.anchor := by
  unfold sledEnd
  repeat' (first | (simp; done) | split | (refine (foldl_anchor _ ?_ _ _).trans ?_ <;> intros) | simp)

@[simp ↓] theorem sledStep_anchor (x0 : BayId) (s : State) : (sledStep x0 s).anchor = s.anchor := by
  unfold sledStep
  repeat' (first | (simp; done) | split | (refine (foldl_anchor _ ?_ _ _).trans ?_ <;> intros) | simp)

@[simp ↓] theorem loaderEnd_anchor (x0 : BayId) (s : State) : (loaderEnd x0 s).anchor = s.anchor := by
  unfold loaderEnd
  repeat' (first | (simp; done) | split | (refine (foldl_anchor _ ?_ _ _).trans ?_ <;> intros) | simp)

@[simp ↓] theorem loaderStep_anchor (x0 : BayId) (s : State) : (loaderStep x0 s).anchor = s.anchor := by
  unfold loaderStep
  repeat' (first | (simp; done) | split | (refine (foldl_anchor _ ?_ _ _).trans ?_ <;> intros) | simp)

@[simp ↓] theorem collEnd_anchor (x0 : BayId) (s : State) : (collEnd x0 s).anchor = s.anchor := by
  unfold collEnd
  repeat' (first | (simp; done) | split | (refine (foldl_anchor _ ?_ _ _).trans ?_ <;> intros) | simp)

@[simp ↓] theorem collStep_anchor (x0 : BayId) (s : State) : (collStep x0 s).anchor = s.anchor := by
  unfold collStep
  repeat' (first | (simp; done) | split | (refine (foldl_anchor _ ?_ _ _).trans ?_ <;> intros) | simp)

@[simp ↓] theorem deEnergiseSled_anchor (x0 : BayId) (s : State) : (deEnergiseSled x0 s).anchor = s.anchor := by
  unfold deEnergiseSled
  repeat' (first | (simp; done) | split | (refine (foldl_anchor _ ?_ _ _).trans ?_ <;> intros) | simp)

@[simp ↓] theorem sledCommand_anchor (x0 : BayId) (x1 : Nat) (s : State) : (sledCommand x0 x1 s).anchor = s.anchor := by
  unfold sledCommand
  repeat' (first | (simp; done) | split | (refine (foldl_anchor _ ?_ _ _).trans ?_ <;> intros) | simp)

@[simp ↓] theorem loaderCommand_anchor (x0 : BayId) (x1 : Nat) (s : State) : (loaderCommand x0 x1 s).anchor = s.anchor := by
  unfold loaderCommand
  repeat' (first | (simp; done) | split | (refine (foldl_anchor _ ?_ _ _).trans ?_ <;> intros) | simp)

@[simp ↓] theorem collCommand_anchor (x0 : BayId) (x1 : Nat) (s : State) : (collCommand x0 x1 s).anchor = s.anchor := by
  unfold collCommand
  repeat' (first | (simp; done) | split | (refine (foldl_anchor _ ?_ _ _).trans ?_ <;> intros) | simp)

@[simp ↓] theorem sledTarget_anchor (x0 : BayId) (x1 : Int) (s : State) : (sledTarget x0 x1 s).anchor = s.anchor := by
  unfold sledTarget
  repeat' (first | (simp; done) | split | (refine (foldl_anchor _ ?_ _ _).trans ?_ <;> intros) | simp)

@[simp ↓] theorem driveFault_anchor (x0 : BayId) (x1 : Nat) (x2 : Nat) (s : State) :
    (driveFault x0 x1 x2 s).anchor = s.anchor := by
  unfold driveFault
  repeat' (first | (simp; done) | split | (refine (foldl_anchor _ ?_ _ _).trans ?_ <;> intros) | simp)

@[simp ↓] theorem outputsOff_anchor (x0 : BayId) (x1 : Nat) (s : State) : (outputsOff x0 x1 s).anchor = s.anchor := by
  unfold outputsOff
  repeat' (first | (simp; done) | split | (refine (foldl_anchor _ ?_ _ _).trans ?_ <;> intros) | simp)

@[simp ↓] theorem barrierLost_anchor (x0 : Bool) (s : State) : (barrierLost x0 s).anchor = s.anchor := by
  unfold barrierLost
  repeat' (first | (simp; done) | split | (refine (foldl_anchor _ ?_ _ _).trans ?_ <;> intros) | simp)

@[simp ↓] theorem rejectDrive_anchor (x0 : BayId) (x1 : Nat) (x2 : Nat) (x3 : Nat) (s : State) :
    (rejectDrive x0 x1 x2 x3 s).anchor = s.anchor := by
  unfold rejectDrive
  repeat' (first | (simp; done) | split | (refine (foldl_anchor _ ?_ _ _).trans ?_ <;> intros) | simp)

@[simp ↓] theorem stepperZero_anchor (x0 : BayId) (x1 : DriveCal) (s : State) (x3 : Nat) :
    (stepperZero x0 x1 s x3).anchor = s.anchor := by
  unfold stepperZero
  repeat' (first | (simp; done) | split | (refine (foldl_anchor _ ?_ _ _).trans ?_ <;> intros) | simp)

@[simp ↓] theorem runDriveCal_anchor (x0 : BayId) (x1 : Nat) (x2 : DriveCal) (s : State) :
    (runDriveCal x0 x1 x2 s).anchor = s.anchor := by
  unfold runDriveCal
  repeat' (first | (simp; done) | split | (refine (foldl_anchor _ ?_ _ _).trans ?_ <;> intros) | simp)

@[simp ↓] theorem spendN_anchor (x0 : Nat) (s : State) : (spendN x0 s).anchor = s.anchor := by
  unfold spendN
  repeat' (first | (simp; done) | split | (refine (foldl_anchor _ ?_ _ _).trans ?_ <;> intros) | simp)

@[simp ↓] theorem driveCals_anchor (x0 : BayId) (x1 : Nat) (x2 : List DriveCal) (s : State) :
    (driveCals x0 x1 x2 s).anchor = s.anchor := by
  unfold driveCals
  repeat' (first | (simp; done) | split | (refine (foldl_anchor _ ?_ _ _).trans ?_ <;> intros) | simp)

@[simp ↓] theorem putSupply_anchor (x0 : Nat) (x1 : Nat) (s : State) : (putSupply x0 x1 s).anchor = s.anchor := by
  unfold putSupply
  repeat' (first | (simp; done) | split | (refine (foldl_anchor _ ?_ _ _).trans ?_ <;> intros) | simp)

@[simp ↓] theorem supplyFault_anchor (s : State) : (supplyFault s).anchor = s.anchor := by
  unfold supplyFault
  repeat' (first | (simp; done) | split | (refine (foldl_anchor _ ?_ _ _).trans ?_ <;> intros) | simp)

@[simp ↓] theorem supplyHarbour_anchor (x0 : Bool) (s : State) : (supplyHarbour x0 s).anchor = s.anchor := by
  unfold supplyHarbour
  repeat' (first | (simp; done) | split | (refine (foldl_anchor _ ?_ _ _).trans ?_ <;> intros) | simp)

@[simp ↓] theorem resumeBays_anchor (s : State) : (resumeBays s).anchor = s.anchor := by
  unfold resumeBays
  repeat' (first | (simp; done) | split | (refine (foldl_anchor _ ?_ _ _).trans ?_ <;> intros) | simp)

@[simp ↓] theorem latchCoil_anchor (x0 : BayId) (x1 : Nat) (x2 : Nat) (s : State) :
    (latchCoil x0 x1 x2 s).anchor = s.anchor := by
  unfold latchCoil
  repeat' (first | (simp; done) | split | (refine (foldl_anchor _ ?_ _ _).trans ?_ <;> intros) | simp)

@[simp ↓] theorem coilLost_anchor (x0 : BayId) (x1 : Nat) (s : State) : (coilLost x0 x1 s).anchor = s.anchor := by
  unfold coilLost
  repeat' (first | (simp; done) | split | (refine (foldl_anchor _ ?_ _ _).trans ?_ <;> intros) | simp)

@[simp ↓] theorem coilOverload_anchor (x0 : BayId) (x1 : Nat) (s : State) : (coilOverload x0 x1 s).anchor = s.anchor := by
  unfold coilOverload
  repeat' (first | (simp; done) | split | (refine (foldl_anchor _ ?_ _ _).trans ?_ <;> intros) | simp)

@[simp ↓] theorem shedBay_anchor (s : State) : (shedBay s).anchor = s.anchor := by
  unfold shedBay
  repeat' (first | (simp; done) | split | (refine (foldl_anchor _ ?_ _ _).trans ?_ <;> intros) | simp)

@[simp ↓] theorem bridgeOff_anchor (x0 : BayId) (x1 : Nat) (s : State) : (bridgeOff x0 x1 s).anchor = s.anchor := by
  unfold bridgeOff
  repeat' (first | (simp; done) | split | (refine (foldl_anchor _ ?_ _ _).trans ?_ <;> intros) | simp)

@[simp ↓] theorem clearFaults_anchor (x0 : BayId) (x1 : Nat) (s : State) : (clearFaults x0 x1 s).anchor = s.anchor := by
  unfold clearFaults
  repeat' (first | (simp; done) | split | (refine (foldl_anchor _ ?_ _ _).trans ?_ <;> intros) | simp)

@[simp ↓] theorem startBay_anchor (x0 : BayId) (x1 : Bool) (x2 : Bool) (s : State) :
    (startBay x0 x1 x2 s).anchor = s.anchor := by
  unfold startBay
  repeat' (first | (simp; done) | split | (refine (foldl_anchor _ ?_ _ _).trans ?_ <;> intros) | simp)

@[simp ↓] theorem homeLost_anchor (x0 : BayId) (s : State) : (homeLost x0 s).anchor = s.anchor := by
  unfold homeLost
  repeat' (first | (simp; done) | split | (refine (foldl_anchor _ ?_ _ _).trans ?_ <;> intros) | simp)

@[simp ↓] theorem restartBay_anchor (x0 : BayId) (x1 : Bool) (x2 : List DriveCal) (s : State) :
    (restartBay x0 x1 x2 s).anchor = s.anchor := by
  unfold restartBay
  repeat' (first | (simp; done) | split | (refine (foldl_anchor _ ?_ _ _).trans ?_ <;> intros) | simp)

@[simp ↓] theorem disableBay_anchor (x0 : BayId) (s : State) : (disableBay x0 s).anchor = s.anchor := by
  unfold disableBay
  repeat' (first | (simp; done) | split | (refine (foldl_anchor _ ?_ _ _).trans ?_ <;> intros) | simp)

@[simp ↓] theorem cfgWrite_anchor (x0 : PortId) (x1 : Nat) (x2 : Dword) (s : State) :
    (cfgWrite x0 x1 x2 s).anchor = s.anchor := by
  unfold cfgWrite
  repeat' (first | (simp; done) | split | (refine (foldl_anchor _ ?_ _ _).trans ?_ <;> intros) | simp)

@[simp ↓] theorem countRequests_anchor (x0 : Src) (x1 : Xfer) (s : State) : (countRequests x0 x1 s).anchor = s.anchor := by
  unfold countRequests
  repeat' (first | (simp; done) | split | (refine (foldl_anchor _ ?_ _ _).trans ?_ <;> intros) | simp)

@[simp ↓] theorem modNs_anchor (x0 : Nat) (x1 : Ns → Ns) (s : State) : (modNs x0 x1 s).anchor = s.anchor := by
  unfold modNs
  repeat' (first | (simp; done) | split | (refine (foldl_anchor _ ?_ _ _).trans ?_ <;> intros) | simp)

@[simp ↓] theorem drawKey_anchor (x0 : Nat) (s : State) : (drawKey x0 s).anchor = s.anchor := by
  unfold drawKey
  repeat' (first | (simp; done) | split | (refine (foldl_anchor _ ?_ _ _).trans ?_ <;> intros) | simp)

@[simp ↓] theorem noteChange_anchor (x0 : Nat) (x1 : Nat) (x2 : Nat) (s : State) :
    (noteChange x0 x1 x2 s).anchor = s.anchor := by
  unfold noteChange
  repeat' (first | (simp; done) | split | (refine (foldl_anchor _ ?_ _ _).trans ?_ <;> intros) | simp)

@[simp ↓] theorem setZone_anchor (x0 : Zone) (s : State) : (setZone x0 s).anchor = s.anchor := by
  unfold setZone
  repeat' (first | (simp; done) | split | (refine (foldl_anchor _ ?_ _ _).trans ?_ <;> intros) | simp)

@[simp ↓] theorem modVol_anchor (x0 : Nat) (x1 : Vol → Vol) (s : State) : (modVol x0 x1 s).anchor = s.anchor := by
  unfold modVol
  repeat' (first | (simp; done) | split | (refine (foldl_anchor _ ?_ _ _).trans ?_ <;> intros) | simp)

@[simp ↓] theorem modDie_anchor (x0 : Nat) (x1 : Nat) (x2 : Die → Die) (s : State) :
    (modDie x0 x1 x2 s).anchor = s.anchor := by
  unfold modDie
  repeat' (first | (simp; done) | split | (refine (foldl_anchor _ ?_ _ _).trans ?_ <;> intros) | simp)

theorem bindZone_anchor (x0 : Zone) (s : State) (z : Zone) (t : State) (h : bindZone x0 s = some (z, t)) :
    t.anchor = s.anchor := by
  unfold bindZone at h
  try dsimp only at h
  repeat' (split at h)
  all_goals first | (cases h; done) | (cases h; rfl) | (cases h; simp; done) | (have h := Except.ok.inj h; subst h; simp; done) | (have h := Option.some.inj h; subst h; simp; done)

@[simp ↓] theorem unbind_anchor (x0 : Zone) (s : State) : (unbind x0 s).anchor = s.anchor := by
  unfold unbind
  repeat' (first | (simp; done) | split | (refine (foldl_anchor _ ?_ _ _).trans ?_ <;> intros) | simp)

@[simp ↓] theorem modObj_anchor (x0 : Nat) (x1 : Obj → Obj) (s : State) : (modObj x0 x1 s).anchor = s.anchor := by
  unfold modObj
  repeat' (first | (simp; done) | split | (refine (foldl_anchor _ ?_ _ _).trans ?_ <;> intros) | simp)

@[simp ↓] theorem discardPlansOf_anchor (x0 : Nat) (s : State) : (discardPlansOf x0 s).anchor = s.anchor := by
  unfold discardPlansOf
  repeat' (first | (simp; done) | split | (refine (foldl_anchor _ ?_ _ _).trans ?_ <;> intros) | simp)

@[simp ↓] theorem retireObj_anchor (x0 : Nat) (s : State) : (retireObj x0 s).anchor = s.anchor := by
  unfold retireObj
  repeat' (first | (simp; done) | split | (refine (foldl_anchor _ ?_ _ _).trans ?_ <;> intros) | simp)

@[simp ↓] theorem releaseObj_anchor (x0 : Nat) (s : State) : (releaseObj x0 s).anchor = s.anchor := by
  unfold releaseObj
  repeat' (first | (simp; done) | split | (refine (foldl_anchor _ ?_ _ _).trans ?_ <;> intros) | simp)

@[simp ↓] theorem zoneEvent_anchor (x0 : Nat) (x1 : Zone) (s : State) : (zoneEvent x0 x1 s).anchor = s.anchor := by
  unfold zoneEvent
  repeat' (first | (simp; done) | split | (refine (foldl_anchor _ ?_ _ _).trans ?_ <;> intros) | simp)

@[simp ↓] theorem emptyZone_anchor (x0 : Zone) (s : State) : (emptyZone x0 s).anchor = s.anchor := by
  unfold emptyZone
  repeat' (first | (simp; done) | split | (refine (foldl_anchor _ ?_ _ _).trans ?_ <;> intros) | simp)

@[simp ↓] theorem fillZone_anchor (x0 : Zone) (s : State) : (fillZone x0 s).anchor = s.anchor := by
  unfold fillZone
  repeat' (first | (simp; done) | split | (refine (foldl_anchor _ ?_ _ _).trans ?_ <;> intros) | simp)

@[simp ↓] theorem offlineZone_anchor (x0 : Zone) (s : State) : (offlineZone x0 s).anchor = s.anchor := by
  unfold offlineZone
  repeat' (first | (simp; done) | split | (refine (foldl_anchor _ ?_ _ _).trans ?_ <;> intros) | simp)

@[simp ↓] theorem readOnlyZone_anchor (x0 : Zone) (s : State) : (readOnlyZone x0 s).anchor = s.anchor := by
  unfold readOnlyZone
  repeat' (first | (simp; done) | split | (refine (foldl_anchor _ ?_ _ _).trans ?_ <;> intros) | simp)

@[simp ↓] theorem contentLost_anchor (x0 : Zone) (s : State) : (contentLost x0 s).anchor = s.anchor := by
  unfold contentLost
  repeat' (first | (simp; done) | split)
  have h := bindZone_anchor _ _ _ _ (by assumption)
  simp at h
  simp [h]

theorem closeLeastRecent_anchor (x0 : Nat) (s : State) (t : State) (h : closeLeastRecent x0 s = some t) :
    t.anchor = s.anchor := by
  unfold closeLeastRecent at h
  dsimp only at h
  split at h
  · cases h
  · cases h
    repeat' (first | (simp; done) | split | (refine (foldl_anchor _ ?_ _ _).trans ?_ <;> intros) | simp)

theorem takeSlots_anchor (x0 : Nat) (x1 : Bool) (x2 : Bool) (s : State) (t : State) (h : takeSlots x0 x1 x2 s = .ok t) :
    t.anchor = s.anchor := by
  unfold takeSlots at h
  repeat' (split at h)
  all_goals first | (cases h; done) | (cases h; rfl) | (cases h; exact closeLeastRecent_anchor _ _ _ (by assumption))

theorem openZone_anchor (x0 : Zone) (x1 : ZState) (x2 : Bool) (s : State) (z : Zone) (t : State)
    (h : openZone x0 x1 x2 s = .ok (z, t)) :
    t.anchor = s.anchor := by
  unfold openZone at h
  repeat' (split at h)
  all_goals first | (cases h; done) | (cases h; rfl) | (cases h; exact takeSlots_anchor _ _ _ _ _ (by assumption)) | (cases h; exact (bindZone_anchor _ _ _ _ (by assumption)).trans (takeSlots_anchor _ _ _ _ _ (by assumption)))

@[simp ↓] theorem modDies_anchor (x0 : Die → Die) (s : State) : (modDies x0 s).anchor = s.anchor := by
  unfold modDies
  repeat' (first | (simp; done) | split | (refine (foldl_anchor _ ?_ _ _).trans ?_ <;> intros) | simp)

@[simp ↓] theorem takeBudgets_anchor (s : State) : (takeBudgets s).anchor = s.anchor := by
  unfold takeBudgets
  repeat' (first | (simp; done) | split | (refine (foldl_anchor _ ?_ _ _).trans ?_ <;> intros) | simp)

@[simp ↓] theorem addWait_anchor (x0 : Nat) (x1 : Nat) (x2 : FlashOp) (s : State) :
    (addWait x0 x1 x2 s).anchor = s.anchor := by
  unfold addWait
  repeat' (first | (simp; done) | split | (refine (foldl_anchor _ ?_ _ _).trans ?_ <;> intros) | simp)

@[simp ↓] theorem unwait_anchor (x0 : Nat) (x1 : Nat) (x2 : FlashOp) (s : State) :
    (unwait x0 x1 x2 s).anchor = s.anchor := by
  unfold unwait
  repeat' (first | (simp; done) | split | (refine (foldl_anchor _ ?_ _ _).trans ?_ <;> intros) | simp)

@[simp ↓] theorem countReads_anchor (x0 : Nat) (x1 : Nat) (x2 : Nat) (x3 : Nat) (s : State) :
    (countReads x0 x1 x2 x3 s).anchor = s.anchor := by
  unfold countReads
  repeat' (first | (simp; done) | split | (refine (foldl_anchor _ ?_ _ _).trans ?_ <;> intros) | simp)

@[simp ↓] theorem startOp_anchor (x0 : Nat) (x1 : Nat) (x2 : FlashOp) (s : State) :
    (startOp x0 x1 x2 s).anchor = s.anchor := by
  unfold startOp
  repeat' (first | (simp; done) | split | (refine (foldl_anchor _ ?_ _ _).trans ?_ <;> intros) | simp)

@[simp ↓] theorem requestOp_anchor (x0 : Nat) (x1 : Nat) (x2 : FlashOp) (s : State) :
    (requestOp x0 x1 x2 s).anchor = s.anchor := by
  unfold requestOp
  repeat' (first | (simp; done) | split | (refine (foldl_anchor _ ?_ _ _).trans ?_ <;> intros) | simp)

@[simp ↓] theorem chargeWork_anchor (x0 : Nat) (x1 : Nat) (x2 : ActClass) (x3 : Nat) (x4 : Bool) (s : State) :
    (chargeWork x0 x1 x2 x3 x4 s).anchor = s.anchor := by
  unfold chargeWork
  repeat' (first | (simp; done) | split | (refine (foldl_anchor _ ?_ _ _).trans ?_ <;> intros) | simp)

@[simp ↓] theorem recordPort_anchor (x0 : PortRec) (s : State) : (recordPort x0 s).anchor = s.anchor := by
  unfold recordPort
  repeat' (first | (simp; done) | split | (refine (foldl_anchor _ ?_ _ _).trans ?_ <;> intros) | simp)

@[simp ↓] theorem spareEvent_anchor (u : State) (s : State) : (spareEvent u s).anchor = s.anchor := by
  unfold spareEvent
  repeat' (first | (simp; done) | split | (refine (foldl_anchor _ ?_ _ _).trans ?_ <;> intros) | simp)

@[simp ↓] theorem growBad_anchor (x0 : Nat) (x1 : Nat) (x2 : Nat) (s : State) : (growBad x0 x1 x2 s).anchor = s.anchor := by
  unfold growBad
  repeat' (first | (simp; done) | split | (refine (foldl_anchor _ ?_ _ _).trans ?_ <;> intros) | simp)

@[simp ↓] theorem releaseStaging_anchor (s : State) : (releaseStaging s).anchor = s.anchor := by
  unfold releaseStaging
  repeat' (first | (simp; done) | split | (refine (foldl_anchor _ ?_ _ _).trans ?_ <;> intros) | simp)

@[simp ↓] theorem stageSpan_anchor (x0 : Zone) (x1 : List (Nat × Nat)) (x2 : Nat) (x3 : Nat) (x4 : Bool) (s : State) :
    (stageSpan x0 x1 x2 x3 x4 s).anchor = s.anchor := by
  unfold stageSpan
  repeat' (first | (simp; done) | split | (refine (foldl_anchor _ ?_ _ _).trans ?_ <;> intros) | simp)

@[simp ↓] theorem cacheLimitUpdate_anchor (s : State) : (cacheLimitUpdate s).anchor = s.anchor := by
  unfold cacheLimitUpdate
  repeat' (first | (simp; done) | split | (refine (foldl_anchor _ ?_ _ _).trans ?_ <;> intros) | simp)

@[simp ↓] theorem loseMembers_anchor (x0 : Member → Bool) (s : State) : (loseMembers x0 s).anchor = s.anchor := by
  unfold loseMembers
  repeat' (first | (simp; done) | split | (refine (foldl_anchor _ ?_ _ _).trans ?_ <;> intros) | simp)

@[simp ↓] theorem laneOut_anchor (x0 : Nat) (s : State) : (laneOut x0 s).anchor = s.anchor := by
  unfold laneOut
  repeat' (first | (simp; done) | split | (refine (foldl_anchor _ ?_ _ _).trans ?_ <;> intros) | simp)

@[simp ↓] theorem failChannel_anchor (x0 : Nat) (s : State) : (failChannel x0 s).anchor = s.anchor := by
  unfold failChannel
  repeat' (first | (simp; done) | split | (refine (foldl_anchor _ ?_ _ _).trans ?_ <;> intros) | simp)

@[simp ↓] theorem failDie_anchor (x0 : Nat) (x1 : Nat) (x2 : Nat) (s : State) : (failDie x0 x1 x2 s).anchor = s.anchor := by
  unfold failDie
  repeat' (first | (simp; done) | split | (refine (foldl_anchor _ ?_ _ _).trans ?_ <;> intros) | simp)

@[simp ↓] theorem learn_anchor (x0 : Nat) (x1 : Nat) (x2 : Nat) (x3 : Nat) (x4 : List Nat) (x5 : List Nat) (s : State) :
    (learn x0 x1 x2 x3 x4 x5 s).anchor = s.anchor := by
  unfold learn
  repeat' (first | (simp; done) | split | (refine (foldl_anchor _ ?_ _ _).trans ?_ <;> intros) | simp)

@[simp ↓] theorem queueRefresh_anchor (x0 : Nat) (x1 : Nat) (x2 : Nat) (s : State) :
    (queueRefresh x0 x1 x2 s).anchor = s.anchor := by
  unfold queueRefresh
  repeat' (first | (simp; done) | split | (refine (foldl_anchor _ ?_ _ _).trans ?_ <;> intros) | simp)

@[simp ↓] theorem countRecovery_anchor (x0 : Nat) (x1 : Nat) (x2 : Nat) (s : State) :
    (countRecovery x0 x1 x2 s).anchor = s.anchor := by
  unfold countRecovery
  repeat' (first | (simp; done) | split | (refine (foldl_anchor _ ?_ _ _).trans ?_ <;> intros) | simp)

@[simp ↓] theorem recordFdp_anchor (x0 : Nat) (x1 : Nat) (x2 : Nat) (s : State) :
    (recordFdp x0 x1 x2 s).anchor = s.anchor := by
  unfold recordFdp
  repeat' (first | (simp; done) | split | (refine (foldl_anchor _ ?_ _ _).trans ?_ <;> intros) | simp)

@[simp ↓] theorem fdpMoved_anchor (x0 : Zone) (s : State) : (fdpMoved x0 s).anchor = s.anchor := by
  unfold fdpMoved
  repeat' (first | (simp; done) | split | (refine (foldl_anchor _ ?_ _ _).trans ?_ <;> intros) | simp)

@[simp ↓] theorem moveMember_anchor (x0 : Nat) (x1 : Nat) (x2 : Nat) (x3 : Nat) (x4 : ActClass) (x5 : Bool) (s : State) :
    (moveMember x0 x1 x2 x3 x4 x5 s).anchor = s.anchor := by
  unfold moveMember
  repeat' (first | (simp; done) | split | (refine (foldl_anchor _ ?_ _ _).trans ?_ <;> intros) | simp)

@[simp ↓] theorem cannotPlace_anchor (x0 : Zone) (s : State) : (cannotPlace x0 s).anchor = s.anchor := by
  unfold cannotPlace
  repeat' (first | (simp; done) | split | (refine (foldl_anchor _ ?_ _ _).trans ?_ <;> intros) | simp)

@[simp ↓] theorem relocate_anchor (x0 : Nat) (x1 : Nat) (x2 : Nat) (x3 : Bool) (x4 : Bool) (x5 : Bool) (s : State) :
    (relocate x0 x1 x2 x3 x4 x5 s).anchor = s.anchor := by
  unfold relocate
  repeat' (first | (simp; done) | split | (refine (foldl_anchor _ ?_ _ _).trans ?_ <;> intros) | simp)

@[simp ↓] theorem readEffects_anchor (x0 : Nat) (x1 : Nat) (x2 : Nat) (x3 : Nat) (x4 : Nat) (x5 : Bool) (s : State) :
    (readEffects x0 x1 x2 x3 x4 x5 s).anchor = s.anchor := by
  unfold readEffects
  repeat' (first | (simp; done) | split | (refine (foldl_anchor _ ?_ _ _).trans ?_ <;> intros) | simp)

@[simp ↓] theorem startTierFormat_anchor (x0 : Nat) (s : State) : (startTierFormat x0 s).anchor = s.anchor := by
  unfold startTierFormat
  repeat' (first | (simp; done) | split | (refine (foldl_anchor _ ?_ _ _).trans ?_ <;> intros) | simp)

@[simp ↓] theorem reformTier_anchor (x0 : Nat) (s : State) : (reformTier x0 s).anchor = s.anchor := by
  unfold reformTier
  repeat' (first | (simp; done) | split | (refine (foldl_anchor _ ?_ _ _).trans ?_ <;> intros) | simp)

@[simp ↓] theorem endTierFormat_anchor (x0 : List (Nat × Nat × Nat)) (s : State) :
    (endTierFormat x0 s).anchor = s.anchor := by
  unfold endTierFormat
  repeat' (first | (simp; done) | split | (refine (foldl_anchor _ ?_ _ _).trans ?_ <;> intros) | simp)

theorem adoptVolume_anchor (x0 : Nat) (s : State) (t : State) (h : adoptVolume x0 s = .ok t) : t.anchor = s.anchor := by
  unfold adoptVolume at h
  try dsimp only at h
  repeat' (split at h)
  all_goals first | (cases h; done) | (cases h; rfl) | (cases h; simp; done) | (have h := Except.ok.inj h; subst h; simp; done) | (have h := Option.some.inj h; subst h; simp; done)

@[simp ↓] theorem laneEnter_anchor (x0 : Nat) (s : State) : (laneEnter x0 s).anchor = s.anchor := by
  unfold laneEnter
  repeat' (first | (simp; done) | split | (refine (foldl_anchor _ ?_ _ _).trans ?_ <;> intros) | simp)

@[simp ↓] theorem finishAdoption_anchor (x0 : Nat) (x1 : List (List Nat)) (s : State) :
    (finishAdoption x0 x1 s).anchor = s.anchor := by
  unfold finishAdoption
  repeat' (first | (simp; done) | split | (refine (foldl_anchor _ ?_ _ _).trans ?_ <;> intros) | simp)

@[simp ↓] theorem deselect_anchor (x0 : Nat) (s : State) : (deselect x0 s).anchor = s.anchor := by
  unfold deselect
  repeat' (first | (simp; done) | split | (refine (foldl_anchor _ ?_ _ _).trans ?_ <;> intros) | simp)

theorem retireVolume_anchor (x0 : Nat) (s : State) (t : State) (h : retireVolume x0 s = .ok t) : t.anchor = s.anchor := by
  unfold retireVolume at h
  repeat' (split at h)
  all_goals first | (simp at h; done) | (simp at h; subst h; simp; done) | (simp at h; obtain ⟨rfl, rfl⟩ := h; simp; done)

@[simp ↓] theorem loseStaging_anchor (x0 : List MemHit) (s : State) : (loseStaging x0 s).anchor = s.anchor := by
  unfold loseStaging
  repeat' (first | (simp; done) | split | (refine (foldl_anchor _ ?_ _ _).trans ?_ <;> intros) | simp)

@[simp ↓] theorem countWrite_anchor (x0 : Nat) (s : State) : (countWrite x0 s).anchor = s.anchor := by
  unfold countWrite
  repeat' (first | (simp; done) | split | (refine (foldl_anchor _ ?_ _ _).trans ?_ <;> intros) | simp)

@[simp ↓] theorem endWrite_anchor (x0 : Src) (x1 : Bool) (x2 : Targets) (x3 : Dword) (x4 : Dword) (s : State) :
    (endWrite x0 x1 x2 x3 x4 s).anchor = s.anchor := by
  unfold endWrite
  repeat' (first | (simp; done) | split | (refine (foldl_anchor _ ?_ _ _).trans ?_ <;> intros) | simp)

@[simp ↓] theorem commitZone_anchor (x0 : Src) (x1 : Ns) (x2 : Zone) (x3 : List Blk) (x4 : Bool) (x5 : Bool) (s : State) :
    (commitZone x0 x1 x2 x3 x4 x5 s).anchor = s.anchor := by
  unfold commitZone
  repeat' (first | (simp; done) | split | (refine (foldl_anchor _ ?_ _ _).trans ?_ <;> intros) | simp)

theorem openForWrite_anchor (x0 : Zone) (x1 : Bool) (s : State) (z : Zone) (t : State)
    (h : openForWrite x0 x1 s = .ok (z, t)) :
    t.anchor = s.anchor := by
  unfold openForWrite at h
  try dsimp only at h
  repeat' (split at h)
  all_goals first | (cases h; done) | (cases h; rfl) | (cases h; simp; done) | (have h := Except.ok.inj h; subst h; simp; done) | (have h := Option.some.inj h; subst h; simp; done) | (cases h; exact openZone_anchor _ _ _ _ _ _ h) | (exact openZone_anchor _ _ _ _ _ _ h)

@[simp ↓] theorem writeZone_anchor (x0 : Src) (x1 : Ns) (x2 : Nat) (x3 : Nat) (x4 : Bool) (x5 : Bool) (x6 : Bool)
    (x7 : Xfer) (x8 : Nat → Except PiErr (List Blk)) (s : State) :
    (writeZone x0 x1 x2 x3 x4 x5 x6 x7 x8 s).anchor = s.anchor := by
  unfold writeZone
  dsimp only
  split <;> simp
  exact openForWrite_anchor _ _ _ _ _ (by assumption)

theorem newUnit_anchor (x0 : Ns) (x1 : Nat) (s : State) (z : Zone) (t : State) (h : newUnit x0 x1 s = some (z, t)) :
    t.anchor = s.anchor := by
  unfold newUnit at h
  dsimp only at h
  split at h
  · cases h
    exact bindZone_anchor _ _ _ _ (by assumption)
  · exact (bindZone_anchor _ _ _ _ h).trans (by simp)
  · cases h

theorem unitFor_anchor (x0 : Ns) (x1 : Nat) (s : State) (z : Zone) (t : State) (h : unitFor x0 x1 s = some (z, t)) :
    t.anchor = s.anchor := by
  unfold unitFor at h
  split at h
  · cases h
    rfl
  · exact newUnit_anchor _ _ _ _ _ h

theorem placeFdp_anchor (nsid ruh : Nat) (w : Writer) (k : Nat) (l : List Nat) (s : State) (r : Targets × State)
    (h : placeFdp nsid ruh w k l s = some r) : r.2.anchor = s.anchor := by
  induction k generalizing l s r with
  | zero => cases l <;> simp [placeFdp] at h; subst h; rfl
  | succ k ih =>
    cases l with
    | nil => simp [placeFdp] at h; subst h; rfl
    | cons a l =>
      unfold placeFdp at h
      split at h
      · cases h
      · obtain ⟨q, hq, rfl⟩ := Option.map_eq_some_iff.1 h
        obtain ⟨n, -, hu⟩ := Option.bind_eq_some_iff.1 (by assumption)
        simpa using (ih _ _ _ hq).trans (by simpa using unitFor_anchor _ _ _ _ _ hu)

@[simp ↓] theorem touchSpan_anchor (x0 : Nat) (x1 : Nat) (x2 : Bool) (s : State) :
    (touchSpan x0 x1 x2 s).anchor = s.anchor := by
  unfold touchSpan
  repeat' (first | (simp; done) | split | (refine (foldl_anchor _ ?_ _ _).trans ?_ <;> intros) | simp)

@[simp ↓] theorem touchFdp_anchor (s : State) (x1 : Nat) (x2 : Nat) (x3 : Nat) (x4 : Bool) :
    (touchFdp s x1 x2 x3 x4).anchor = s.anchor := by
  unfold touchFdp
  repeat' (first | (simp; done) | split | (refine (foldl_anchor _ ?_ _ _).trans ?_ <;> intros) | simp)

@[simp ↓] theorem commitFdp_anchor (x0 : Src) (x1 : Ns) (x2 : Nat) (x3 : Nat) (x4 : List Blk) (x5 : Bool) (s : State) :
    (commitFdp x0 x1 x2 x3 x4 x5 s).anchor = s.anchor := by
  unfold commitFdp
  split
  · simp
  · simpa using placeFdp_anchor _ _ _ _ _ _ _ (by assumption)

@[simp ↓] theorem writeFdp_anchor (x0 : Src) (x1 : Ns) (x2 : Nat) (x3 : Bool) (x4 : Option Nat) (x5 : Xfer)
    (x6 : Except PiErr (List Blk)) (s : State) :
    (writeFdp x0 x1 x2 x3 x4 x5 x6 s).anchor = s.anchor := by
  unfold writeFdp
  repeat' (first | (simp; done) | split | (refine (foldl_anchor _ ?_ _ _).trans ?_ <;> intros) | simp)

@[simp ↓] theorem ioWrite_anchor (x0 : Src) (x1 : Nat) (x2 : Nat) (x3 : List Blk) (x4 : Bool) (x5 : PiCtl)
    (x6 : Option Nat) (s : State) :
    (ioWrite x0 x1 x2 x3 x4 x5 x6 s).anchor = s.anchor := by
  unfold ioWrite
  repeat' (first | (simp; done) | split | (refine (foldl_anchor _ ?_ _ _).trans ?_ <;> intros) | simp)

@[simp ↓] theorem ioWriteZeroes_anchor (x0 : Src) (x1 : Nat) (x2 : Nat) (x3 : Nat) (x4 : Bool) (x5 : PiCtl) (s : State) :
    (ioWriteZeroes x0 x1 x2 x3 x4 x5 s).anchor = s.anchor := by
  unfold ioWriteZeroes
  repeat' (first | (simp; done) | split | (refine (foldl_anchor _ ?_ _ _).trans ?_ <;> intros) | simp)

@[simp ↓] theorem ioZoneAppend_anchor (x0 : Src) (x1 : Nat) (x2 : Nat) (x3 : List Blk) (x4 : Bool) (x5 : PiCtl) (s : State) :
    (ioZoneAppend x0 x1 x2 x3 x4 x5 s).anchor = s.anchor := by
  unfold ioZoneAppend
  repeat' (first | (simp; done) | split | (refine (foldl_anchor _ ?_ _ _).trans ?_ <;> intros) | simp)

@[simp ↓] theorem readOps_anchor (x0 : FlashOp) (x1 : Zone) (x2 : Nat) (x3 : Nat) (s : State) :
    (readOps x0 x1 x2 x3 s).anchor = s.anchor := by
  unfold readOps
  repeat' (first | (simp; done) | split | (refine (foldl_anchor _ ?_ _ _).trans ?_ <;> intros) | simp)

@[simp ↓] theorem checkPage_anchor (n : Ns) (slba pos : Nat) (media : List Media) (page : List ReadLba) (r : ReadAcc × State) :
    (checkPage n slba pos media page r).2.anchor = r.2.anchor := by
  unfold checkPage
  refine foldl_snd_anchor _ (fun q x => ?_) _ _
  split <;> simp

@[simp ↓] theorem readPage_anchor (src : Src) (n : Ns) (slba : Nat) (media : List Media) (page : List ReadLba)
    (r : ReadAcc × State) : (readPage src n slba media page r).2.anchor = r.2.anchor := by
  cases page with
  | nil => rfl
  | cons l ls =>
    unfold readPage
    dsimp only
    repeat' (first | rfl | (simp; done) | split)

@[simp ↓] theorem readPages_anchor (src : Src) (n : Ns) (slba : Nat) (media : List Media) (l : List ReadLba) (s : State) :
    (readPages src n slba media l s).2.anchor = s.anchor := by
  have h : ((pagesOf l).foldl (fun r page => readPage src n slba media page r) (({}, s) : ReadAcc × State)).2.anchor = s.anchor :=
    foldl_snd_anchor _ (fun r page => readPage_anchor src n slba media page r) _ _
  unfold readPages
  dsimp only
  split <;> simpa using h

@[simp ↓] theorem countHostRead_anchor (x0 : Nat) (s : State) : (countHostRead x0 s).anchor = s.anchor := by
  unfold countHostRead
  repeat' (first | (simp; done) | split | (refine (foldl_anchor _ ?_ _ _).trans ?_ <;> intros) | simp)

@[simp ↓] theorem deliverRead_anchor (x0 : Src) (x1 : Targets) (x2 : Completion) (s : State) :
    (deliverRead x0 x1 x2 s).anchor = s.anchor := by
  unfold deliverRead
  repeat' (first | (simp; done) | split | (refine (foldl_anchor _ ?_ _ _).trans ?_ <;> intros) | simp)

@[simp ↓] theorem readZoned_anchor (x0 : Src) (x1 : Env) (x2 : Ns) (x3 : Zone) (x4 : Nat) (x5 : Nat) (x6 : Nat)
    (x7 : Bool) (x8 : PiCtl) (s : State) :
    (readZoned x0 x1 x2 x3 x4 x5 x6 x7 x8 s).anchor = s.anchor := by
  unfold readZoned
  repeat' (first | (simp; done) | split | (refine (foldl_anchor _ ?_ _ _).trans ?_ <;> intros) | simp)

@[simp ↓] theorem readFdpNs_anchor (x0 : Src) (x1 : Env) (x2 : Ns) (x3 : Nat) (x4 : Nat) (x5 : Bool) (x6 : PiCtl)
    (s : State) :
    (readFdpNs x0 x1 x2 x3 x4 x5 x6 s).anchor = s.anchor := by
  unfold readFdpNs
  repeat' (first | (simp; done) | split | (refine (foldl_anchor _ ?_ _ _).trans ?_ <;> intros) | simp)

@[simp ↓] theorem ioRead_anchor (x0 : Src) (x1 : Env) (x2 : Nat) (x3 : Nat) (x4 : Nat) (x5 : Bool) (x6 : PiCtl) (s : State) :
    (ioRead x0 x1 x2 x3 x4 x5 x6 s).anchor = s.anchor := by
  unfold ioRead
  repeat' (first | (simp; done) | split | (refine (foldl_anchor _ ?_ _ _).trans ?_ <;> intros) | simp)

@[simp ↓] theorem ioFlush_anchor (x0 : Src) (x1 : Nat) (s : State) : (ioFlush x0 x1 s).anchor = s.anchor := by
  unfold ioFlush
  repeat' (first | (simp; done) | split | (refine (foldl_anchor _ ?_ _ _).trans ?_ <;> intros) | simp)

@[simp ↓] theorem ioDsm_anchor (x0 : Src) (x1 : Nat) (x2 : Bool) (x3 : List (Nat × Nat)) (s : State) :
    (ioDsm x0 x1 x2 x3 s).anchor = s.anchor := by
  unfold ioDsm
  repeat' (first | (simp; done) | split | (refine (foldl_anchor _ ?_ _ _).trans ?_ <;> intros) | simp)

theorem moveZone_anchor (x0 : Zone) (x1 : ZMove) (s : State) (t : State) (h : moveZone x0 x1 s = .ok t) :
    t.anchor = s.anchor := by
  unfold moveZone at h
  repeat' (split at h)
  all_goals first | (cases h; done) | (cases h; rfl) | (cases h; simp; done) | (cases h; simp; exact openZone_anchor _ _ _ _ _ _ (by assumption)) | (cases h; simp; exact bindZone_anchor _ _ _ _ (by assumption)) | (cases h; split <;> simp)

@[simp ↓] theorem moveAll_anchor (x0 : Nat) (x1 : ZAct) (s : State) : (moveAll x0 x1 s).anchor = s.anchor := by
  unfold moveAll
  refine foldl_anchor _ ?_ _ _
  intro t a
  dsimp only
  repeat' (first | rfl | split)
  exact moveZone_anchor _ _ _ _ (by assumption)

@[simp ↓] theorem ioZoneSend_anchor (x0 : Src) (x1 : Nat) (x2 : Nat) (x3 : ZAct) (x4 : Bool) (s : State) :
    (ioZoneSend x0 x1 x2 x3 x4 s).anchor = s.anchor := by
  unfold ioZoneSend
  dsimp only
  repeat' (first | (simp; done) | split)
  simp
  have h := moveZone_anchor _ _ _ _ (by assumption)
  simpa using h

@[simp ↓] theorem ioZoneReceive_anchor (x0 : Src) (x1 : Nat) (x2 : Nat) (x3 : Bool) (x4 : Nat) (x5 : Nat) (s : State) :
    (ioZoneReceive x0 x1 x2 x3 x4 x5 s).anchor = s.anchor := by
  unfold ioZoneReceive
  repeat' (first | (simp; done) | split | (refine (foldl_anchor _ ?_ _ _).trans ?_ <;> intros) | simp)

@[simp ↓] theorem postUnload_anchor (x0 : BayId) (x1 : Nat) (s : State) : (postUnload x0 x1 s).anchor = s.anchor := by
  unfold postUnload
  repeat' (first | (simp; done) | split | (refine (foldl_anchor _ ?_ _ _).trans ?_ <;> intros) | simp)

@[simp ↓] theorem queueRow_anchor (x0 : BayId) (x1 : Nat) (x2 : Nat) (x3 : Nat) (s : State) :
    (queueRow x0 x1 x2 x3 s).anchor = s.anchor := by
  unfold queueRow
  repeat' (first | (simp; done) | split | (refine (foldl_anchor _ ?_ _ _).trans ?_ <;> intros) | simp)

@[simp ↓] theorem setArchived_anchor (x0 : ArchSet) (s : State) : (setArchived x0 s).anchor = s.anchor := by
  unfold setArchived
  repeat' (first | (simp; done) | split | (refine (foldl_anchor _ ?_ _ _).trans ?_ <;> intros) | simp)

@[simp ↓] theorem discClosed_anchor (x0 : BayId) (x1 : Nat) (x2 : SetDisc) (s : State) :
    (discClosed x0 x1 x2 s).anchor = s.anchor := by
  unfold discClosed
  repeat' (first | (simp; done) | split | (refine (foldl_anchor _ ?_ _ _).trans ?_ <;> intros) | simp)

@[simp ↓] theorem stepRow_anchor (x0 : BayId) (x1 : Int) (s : State) : (stepRow x0 x1 s).anchor = s.anchor := by
  unfold stepRow
  repeat' (first | (simp; done) | split | (refine (foldl_anchor _ ?_ _ _).trans ?_ <;> intros) | simp)

@[simp ↓] theorem rowDone_anchor (x0 : BayId) (s : State) : (rowDone x0 s).anchor = s.anchor := by
  unfold rowDone
  repeat' (first | (simp; done) | split | (refine (foldl_anchor _ ?_ _ _).trans ?_ <;> intros) | simp)

@[simp ↓] theorem countInscribed_anchor (x0 : ArchSet) (x1 : SetDisc) (x2 : Nat) (s : State) :
    (countInscribed x0 x1 x2 s).anchor = s.anchor := by
  unfold countInscribed
  repeat' (first | (simp; done) | split | (refine (foldl_anchor _ ?_ _ _).trans ?_ <;> intros) | simp)

@[simp ↓] theorem frameConfirmed_anchor (x0 : BayId) (x1 : ArchSet) (x2 : SetDisc) (x3 : Nat) (x4 : FrameW)
    (x5 : Int) (s : State) :
    (frameConfirmed x0 x1 x2 x3 x4 x5 s).anchor = s.anchor := by
  unfold frameConfirmed
  repeat' (first | (simp; done) | split | (refine (foldl_anchor _ ?_ _ _).trans ?_ <;> intros) | simp)

@[simp ↓] theorem verifyStop_anchor (x0 : BayId) (s : State) : (verifyStop x0 s).anchor = s.anchor := by
  unfold verifyStop
  repeat' (first | (simp; done) | split | (refine (foldl_anchor _ ?_ _ _).trans ?_ <;> intros) | simp)

@[simp ↓] theorem frameFailed_anchor (x0 : BayId) (x1 : ArchSet) (x2 : SetDisc) (x3 : Nat) (x4 : FrameW) (x5 : Nat)
    (s : State) :
    (frameFailed x0 x1 x2 x3 x4 x5 s).anchor = s.anchor := by
  unfold frameFailed
  repeat' (first | (simp; done) | split | (refine (foldl_anchor _ ?_ _ _).trans ?_ <;> intros) | simp)

@[simp ↓] theorem opcEvent_anchor (x0 : BayId) (x1 : Nat) (s : State) : (opcEvent x0 x1 s).anchor = s.anchor := by
  unfold opcEvent
  repeat' (first | (simp; done) | split | (refine (foldl_anchor _ ?_ _ _).trans ?_ <;> intros) | simp)

@[simp ↓] theorem clearChannel_anchor (x0 : BayId) (s : State) : (clearChannel x0 s).anchor = s.anchor := by
  unfold clearChannel
  repeat' (first | (simp; done) | split | (refine (foldl_anchor _ ?_ _ _).trans ?_ <;> intros) | simp)

@[simp ↓] theorem drainLost_anchor (x0 : MemHit) (s : State) : (drainLost x0 s).anchor = s.anchor := by
  unfold drainLost
  repeat' (first | (simp; done) | split | (refine (foldl_anchor _ ?_ _ _).trans ?_ <;> intros) | simp)

@[simp ↓] theorem memHits_anchor (x0 : List MemHit) (s : State) : (memHits x0 s).anchor = s.anchor := by
  unfold memHits
  repeat' (first | (simp; done) | split | (refine (foldl_anchor _ ?_ _ _).trans ?_ <;> intros) | simp)

@[simp ↓] theorem policyUp_anchor (s : State) : (policyUp s).anchor = s.anchor := by
  unfold policyUp
  repeat' (first | (simp; done) | split | (refine (foldl_anchor _ ?_ _ _).trans ?_ <;> intros) | simp)

@[simp ↓] theorem modPlan_anchor (x0 : Nat) (x1 : Plan → Plan) (s : State) : (modPlan x0 x1 s).anchor = s.anchor := by
  unfold modPlan
  repeat' (first | (simp; done) | split | (refine (foldl_anchor _ ?_ _ _).trans ?_ <;> intros) | simp)

@[simp ↓] theorem setWork_anchor (x0 : BayId) (x1 : Nat) (x2 : Nat) (s : State) :
    (setWork x0 x1 x2 s).anchor = s.anchor := by
  unfold setWork
  repeat' (first | (simp; done) | split | (refine (foldl_anchor _ ?_ _ _).trans ?_ <;> intros) | simp)

@[simp ↓] theorem acceptDisc_anchor (x0 : BayId) (x1 : Nat) (x2 : Nat) (s : State) :
    (acceptDisc x0 x1 x2 s).anchor = s.anchor := by
  unfold acceptDisc
  repeat' (first | (simp; done) | split | (refine (foldl_anchor _ ?_ _ _).trans ?_ <;> intros) | simp)

@[simp ↓] theorem askBlank_anchor (x0 : BayId) (x1 : Nat) (x2 : Nat) (x3 : Nat) (s : State) :
    (askBlank x0 x1 x2 x3 s).anchor = s.anchor := by
  unfold askBlank
  repeat' (first | (simp; done) | split | (refine (foldl_anchor _ ?_ _ _).trans ?_ <;> intros) | simp)

@[simp ↓] theorem askDisc_anchor (x0 : BayId) (x1 : Nat) (x2 : Nat) (x3 : List Byte) (s : State) :
    (askDisc x0 x1 x2 x3 s).anchor = s.anchor := by
  unfold askDisc
  repeat' (first | (simp; done) | split | (refine (foldl_anchor _ ?_ _ _).trans ?_ <;> intros) | simp)

@[simp ↓] theorem modRecall_anchor (x0 : Nat) (x1 : Recall → Recall) (s : State) :
    (modRecall x0 x1 s).anchor = s.anchor := by
  unfold modRecall
  repeat' (first | (simp; done) | split | (refine (foldl_anchor _ ?_ _ _).trans ?_ <;> intros) | simp)

@[simp ↓] theorem giveRecall_anchor (s : State) (x1 : Recall) : (giveRecall s x1).anchor = s.anchor := by
  unfold giveRecall
  repeat' (first | (simp; done) | split | (refine (foldl_anchor _ ?_ _ _).trans ?_ <;> intros) | simp)

@[simp ↓] theorem giveOthers_anchor (x0 : Nat) (s : State) : (giveOthers x0 s).anchor = s.anchor := by
  unfold giveOthers
  dsimp only
  split
  · rfl
  · refine foldl_anchor _ ?_ _ _
    intro t a
    split <;> simp

@[simp ↓] theorem serveRecall_anchor (s : State) (x1 : Recall) : (serveRecall s x1).anchor = s.anchor := by
  unfold serveRecall
  repeat' (first | (simp; done) | split | (refine (foldl_anchor _ ?_ _ _).trans ?_ <;> intros) | simp)

@[simp ↓] theorem giveRecalls_anchor (s : State) : (giveRecalls s).anchor = s.anchor := by
  unfold giveRecalls
  repeat' (first | (simp; done) | split | (refine (foldl_anchor _ ?_ _ _).trans ?_ <;> intros) | simp)

@[simp ↓] theorem releaseBay_anchor (s : State) (x1 : BayId) : (releaseBay s x1).anchor = s.anchor := by
  unfold releaseBay
  repeat' (first | (simp; done) | split | (refine (foldl_anchor _ ?_ _ _).trans ?_ <;> intros) | simp)

@[simp ↓] theorem endRecall_anchor (x0 : Recall) (s : State) : (endRecall x0 s).anchor = s.anchor := by
  unfold endRecall
  repeat' (first | (simp; done) | split | (refine (foldl_anchor _ ?_ _ _).trans ?_ <;> intros) | simp)

@[simp ↓] theorem failRecall_anchor (x0 : Nat) (s : State) (x2 : Recall) : (failRecall x0 s x2).anchor = s.anchor := by
  unfold failRecall
  repeat' (first | (simp; done) | split | (refine (foldl_anchor _ ?_ _ _).trans ?_ <;> intros) | simp)

@[simp ↓] theorem finishRecall_anchor (x0 : Recall) (s : State) : (finishRecall x0 s).anchor = s.anchor := by
  unfold finishRecall
  repeat' (first | (simp; done) | split | (refine (foldl_anchor _ ?_ _ _).trans ?_ <;> intros) | simp)

@[simp ↓] theorem checkRecalls_anchor (s : State) : (checkRecalls s).anchor = s.anchor := by
  unfold checkRecalls
  repeat' (first | (simp; done) | split | (refine (foldl_anchor _ ?_ _ _).trans ?_ <;> intros) | simp)

@[simp ↓] theorem markRecon_anchor (x0 : Nat) (x1 : Nat) (x2 : Bool) (s : State) :
    (markRecon x0 x1 x2 s).anchor = s.anchor := by
  unfold markRecon
  repeat' (first | (simp; done) | split | (refine (foldl_anchor _ ?_ _ _).trans ?_ <;> intros) | simp)

@[simp ↓] theorem endRecon_anchor (x0 : Nat) (s : State) : (endRecon x0 s).anchor = s.anchor := by
  unfold endRecon
  repeat' (first | (simp; done) | split | (refine (foldl_anchor _ ?_ _ _).trans ?_ <;> intros) | simp)

@[simp ↓] theorem checkRecon_anchor (s : State) : (checkRecon s).anchor = s.anchor := by
  unfold checkRecon
  repeat' (first | (simp; done) | split | (refine (foldl_anchor _ ?_ _ _).trans ?_ <;> intros) | simp)

@[simp ↓] theorem startRecon_anchor (s : State) : (startRecon s).anchor = s.anchor := by
  unfold startRecon
  repeat' (first | (simp; done) | split | (refine (foldl_anchor _ ?_ _ _).trans ?_ <;> intros) | simp)

theorem requestRecon_anchor (x0 : Nat) (s : State) (t : State) (h : requestRecon x0 s = .ok t) : t.anchor = s.anchor := by
  unfold requestRecon at h
  try dsimp only at h
  repeat' (split at h)
  all_goals first | (cases h; done) | (cases h; rfl) | (cases h; simp; done) | (have h := Except.ok.inj h; subst h; simp; done) | (have h := Option.some.inj h; subst h; simp; done)

@[simp ↓] theorem giveReplacement_anchor (s : State) : (giveReplacement s).anchor = s.anchor := by
  unfold giveReplacement
  repeat' (first | (simp; done) | split | (refine (foldl_anchor _ ?_ _ _).trans ?_ <;> intros) | simp)

@[simp ↓] theorem giveReplacements_anchor (x0 : Nat) (s : State) : (giveReplacements x0 s).anchor = s.anchor := by
  induction x0 generalizing s with
  | zero => rfl
  | succ n ih =>
    unfold giveReplacements
    repeat' (first | (simp [ih]; done) | split | (refine (foldl_anchor _ ?_ _ _).trans ?_ <;> intros) | simp [ih])

@[simp ↓] theorem dropNarrow_anchor (x0 : Nat) (s : State) : (dropNarrow x0 s).anchor = s.anchor := by
  unfold dropNarrow
  repeat' (first | (simp; done) | split | (refine (foldl_anchor _ ?_ _ _).trans ?_ <;> intros) | simp)

@[simp ↓] theorem startSet_anchor (x0 : Plan) (x1 : List BayId) (s : State) : (startSet x0 x1 s).anchor = s.anchor := by
  unfold startSet
  repeat' (first | (simp; done) | split | (refine (foldl_anchor _ ?_ _ _).trans ?_ <;> intros) | simp)

@[simp ↓] theorem nextSetStart_anchor (s : State) : (nextSetStart s).anchor = s.anchor := by
  unfold nextSetStart
  repeat' (first | (simp; done) | split | (refine (foldl_anchor _ ?_ _ _).trans ?_ <;> intros) | simp)

@[simp ↓] theorem countVoids_anchor (x0 : ArchSet) (x1 : SetDisc) (x2 : List (Nat × Nat)) (s : State) :
    (countVoids x0 x1 x2 s).anchor = s.anchor := by
  unfold countVoids
  repeat' (first | (simp; done) | split | (refine (foldl_anchor _ ?_ _ _).trans ?_ <;> intros) | simp)

@[simp ↓] theorem drainPage_anchor (op : FlashOp) (o : Obj) (n : Ns) (media : List Media) (r : List (Nat × Nat) × State) (page : List ReadLba) :
    (drainPage op o n media r page).2.anchor = r.2.anchor := by
  cases page with
  | nil => rfl
  | cons l ls =>
    unfold drainPage
    dsimp only
    repeat' (first | rfl | (simp; done) | split)
    refine (foldl_snd_anchor _ (fun q x => ?_) _ _).trans (by simp)
    repeat' (first | (simp; done) | split)

@[simp ↓] theorem drainObject_anchor (cls : ActClass) (spare : Bool) (reads : List (Nat × Media)) (r : List (Nat × Nat) × State)
    (x : Nat × List Nat) : (drainObject cls spare reads r x).2.anchor = r.2.anchor := by
  unfold drainObject
  repeat' (first | rfl | split)
  exact foldl_snd_anchor _ (fun q y => drainPage_anchor _ _ _ _ q y) _ _

@[simp ↓] theorem drainRow_anchor (s : State) (a : ArchSet) (d : SetDisc) (reads : List (Nat × Media)) :
    (drainRow s a d reads).2.anchor = s.anchor := by
  unfold drainRow
  split
  · rfl
  · dsimp only
    exact (foldl_snd_anchor _ (fun q y => drainObject_anchor _ _ _ q y) _ _).trans
      (foldl_snd_anchor _ (fun q y => drainObject_anchor _ _ _ q y) _ _)

@[simp ↓] theorem stageRow_anchor (x0 : ArchSet) (x1 : SetDisc) (s : State) : (stageRow x0 x1 s).anchor = s.anchor := by
  unfold stageRow
  repeat' (first | (simp; done) | split | (refine (foldl_anchor _ ?_ _ _).trans ?_ <;> intros) | simp)

@[simp ↓] theorem identify_anchor (x0 : BayId) (x1 : LeadIn) (s : State) : (identify x0 x1 s).anchor = s.anchor := by
  unfold identify
  repeat' (first | (simp; done) | split | (refine (foldl_anchor _ ?_ _ _).trans ?_ <;> intros) | simp)

@[simp ↓] theorem markRealloc_anchor (x0 : Nat) (s : State) : (markRealloc x0 s).anchor = s.anchor := by
  unfold markRealloc
  repeat' (first | (simp; done) | split | (refine (foldl_anchor _ ?_ _ _).trans ?_ <;> intros) | simp)

@[simp ↓] theorem recallOver_anchor (x0 : Nat) (s : State) : (recallOver x0 s).anchor = s.anchor := by
  unfold recallOver
  repeat' (first | (simp; done) | split | (refine (foldl_anchor _ ?_ _ _).trans ?_ <;> intros) | simp)

@[simp ↓] theorem recallInto_anchor (x0 : Recall) (x1 : List DiscTry) (s : State) :
    (recallInto x0 x1 s).anchor = s.anchor := by
  unfold recallInto
  repeat' (first | (simp; done) | split | (refine (foldl_anchor _ ?_ _ _).trans ?_ <;> intros) | simp)

@[simp ↓] theorem countRecalled_anchor (x0 : BayId) (x1 : List DiscTry) (s : State) :
    (countRecalled x0 x1 s).anchor = s.anchor := by
  unfold countRecalled
  repeat' (first | (simp; done) | split | (refine (foldl_anchor _ ?_ _ _).trans ?_ <;> intros) | simp)

@[simp ↓] theorem needStep4_anchor (x0 : Recall) (x1 : Obj) (s : State) : (needStep4 x0 x1 s).anchor = s.anchor := by
  unfold needStep4
  repeat' (first | (simp; done) | split | (refine (foldl_anchor _ ?_ _ _).trans ?_ <;> intros) | simp)

@[simp ↓] theorem frameUnrecovered_anchor (x0 : BayId) (x1 : Nat) (s : State) :
    (frameUnrecovered x0 x1 s).anchor = s.anchor := by
  unfold frameUnrecovered
  repeat' (first | (simp; done) | split | (refine (foldl_anchor _ ?_ _ _).trans ?_ <;> intros) | simp)

@[simp ↓] theorem nextRequest_anchor (x0 : BayId) (s : State) : (nextRequest x0 s).anchor = s.anchor := by
  unfold nextRequest
  repeat' (first | (simp; done) | split | (refine (foldl_anchor _ ?_ _ _).trans ?_ <;> intros) | simp)

@[simp ↓] theorem putAnswer_anchor (x0 : BayId) (x1 : Nat) (x2 : Nat) (s : State) :
    (putAnswer x0 x1 x2 s).anchor = s.anchor := by
  unfold putAnswer
  repeat' (first | (simp; done) | split | (refine (foldl_anchor _ ?_ _ _).trans ?_ <;> intros) | simp)

@[simp ↓] theorem blankLoaded_anchor (x0 : BayId) (x1 : LeadIn) (s : State) : (blankLoaded x0 x1 s).anchor = s.anchor := by
  unfold blankLoaded
  repeat' (first | (simp; done) | split | (refine (foldl_anchor _ ?_ _ _).trans ?_ <;> intros) | simp)

@[simp ↓] theorem namedLoaded_anchor (x0 : BayId) (x1 : LeadIn) (s : State) : (namedLoaded x0 x1 s).anchor = s.anchor := by
  unfold namedLoaded
  repeat' (first | (simp; done) | split | (refine (foldl_anchor _ ?_ _ _).trans ?_ <;> intros) | simp)

@[simp ↓] theorem takeLoaded_anchor (x0 : BayId) (x1 : LeadIn) (s : State) : (takeLoaded x0 x1 s).anchor = s.anchor := by
  unfold takeLoaded
  repeat' (first | (simp; done) | split | (refine (foldl_anchor _ ?_ _ _).trans ?_ <;> intros) | simp)

@[simp ↓] theorem evalLoaded_anchor (x0 : BayId) (s : State) : (evalLoaded x0 s).anchor = s.anchor := by
  unfold evalLoaded
  repeat' (first | (simp; done) | split | (refine (foldl_anchor _ ?_ _ _).trans ?_ <;> intros) | simp)

@[simp ↓] theorem unloaded_anchor (x0 : BayId) (s : State) : (unloaded x0 s).anchor = s.anchor := by
  unfold unloaded
  repeat' (first | (simp; done) | split | (refine (foldl_anchor _ ?_ _ _).trans ?_ <;> intros) | simp)

@[simp ↓] theorem discUnavailable_anchor (x0 : BayId) (s : State) : (discUnavailable x0 s).anchor = s.anchor := by
  unfold discUnavailable
  repeat' (first | (simp; done) | split | (refine (foldl_anchor _ ?_ _ _).trans ?_ <;> intros) | simp)

@[simp ↓] theorem namedUnavailable_anchor (x0 : BayId) (s : State) : (namedUnavailable x0 s).anchor = s.anchor := by
  unfold namedUnavailable
  repeat' (first | (simp; done) | split | (refine (foldl_anchor _ ?_ _ _).trans ?_ <;> intros) | simp)

@[simp ↓] theorem unloadUnanswered_anchor (x0 : BayId) (s : State) : (unloadUnanswered x0 s).anchor = s.anchor := by
  unfold unloadUnanswered
  repeat' (first | (simp; done) | split | (refine (foldl_anchor _ ?_ _ _).trans ?_ <;> intros) | simp)

@[simp ↓] theorem unanswered_anchor (x0 : BayId) (s : State) : (unanswered x0 s).anchor = s.anchor := by
  unfold unanswered
  repeat' (first | (simp; done) | split | (refine (foldl_anchor _ ?_ _ _).trans ?_ <;> intros) | simp)

@[simp ↓] theorem recallDiscGone_anchor (x0 : BayId) (s : State) : (recallDiscGone x0 s).anchor = s.anchor := by
  unfold recallDiscGone
  repeat' (first | (simp; done) | split | (refine (foldl_anchor _ ?_ _ _).trans ?_ <;> intros) | simp)

@[simp ↓] theorem enterEcat_anchor (x0 : EcatState) (s : State) : (enterEcat x0 s).anchor = s.anchor := by
  unfold enterEcat
  repeat' (first | (simp; done) | split | (refine (foldl_anchor _ ?_ _ _).trans ?_ <;> intros) | simp)

@[simp ↓] theorem discardWaiting_anchor (s : State) : (discardWaiting s).anchor = s.anchor := by
  unfold discardWaiting
  repeat' (first | (simp; done) | split | (refine (foldl_anchor _ ?_ _ _).trans ?_ <;> intros) | simp)

@[simp ↓] theorem protectionLost_anchor (s : State) : (protectionLost s).anchor = s.anchor := by
  unfold protectionLost
  repeat' (first | (simp; done) | split | (refine (foldl_anchor _ ?_ _ _).trans ?_ <;> intros) | simp)

@[simp ↓] theorem discardTest_anchor (s : State) : (discardTest s).anchor = s.anchor := by
  unfold discardTest
  repeat' (first | (simp; done) | split | (refine (foldl_anchor _ ?_ _ _).trans ?_ <;> intros) | simp)

@[simp ↓] theorem startSelfTest_anchor (x0 : Nat) (s : State) : (startSelfTest x0 s).anchor = s.anchor := by
  unfold startSelfTest
  repeat' (first | (simp; done) | split | (refine (foldl_anchor _ ?_ _ _).trans ?_ <;> intros) | simp)

@[simp ↓] theorem endSelfTest_anchor (x0 : Nat) (s : State) : (endSelfTest x0 s).anchor = s.anchor := by
  unfold endSelfTest
  repeat' (first | (simp; done) | split | (refine (foldl_anchor _ ?_ _ _).trans ?_ <;> intros) | simp)

@[simp ↓] theorem refusePower_anchor (x0 : Nat) (x1 : Nat) (x2 : Nat) (s : State) :
    (refusePower x0 x1 x2 s).anchor = s.anchor := by
  unfold refusePower
  repeat' (first | (simp; done) | split | (refine (foldl_anchor _ ?_ _ _).trans ?_ <;> intros) | simp)

@[simp ↓] theorem endHandshake_anchor (s : State) : (endHandshake s).anchor = s.anchor := by
  unfold endHandshake
  repeat' (first | (simp; done) | split | (refine (foldl_anchor _ ?_ _ _).trans ?_ <;> intros) | simp)

@[simp ↓] theorem refuseWaiting_anchor (s : State) : (refuseWaiting s).anchor = s.anchor := by
  unfold refuseWaiting
  repeat' (first | (simp; done) | split | (refine (foldl_anchor _ ?_ _ _).trans ?_ <;> intros) | simp)

@[simp ↓] theorem putRail_anchor (x0 : Rail) (x1 : Nat) (s : State) : (putRail x0 x1 s).anchor = s.anchor := by
  unfold putRail
  repeat' (first | (simp; done) | split | (refine (foldl_anchor _ ?_ _ _).trans ?_ <;> intros) | simp)

@[simp ↓] theorem postHeld_anchor (s : State) : (postHeld s).anchor = s.anchor := by
  unfold postHeld
  repeat' (first | (simp; done) | split | (refine (foldl_anchor _ ?_ _ _).trans ?_ <;> intros) | simp)

@[simp ↓] theorem harbourBay_anchor (s : State) (x1 : BayId) : (harbourBay s x1).anchor = s.anchor := by
  unfold harbourBay
  repeat' (first | (simp; done) | split | (refine (foldl_anchor _ ?_ _ _).trans ?_ <;> intros) | simp)

@[simp ↓] theorem harbourCommit_anchor (x0 : Nat) (s : State) : (harbourCommit x0 s).anchor = s.anchor := by
  unfold harbourCommit
  repeat' (first | (simp; done) | split | (refine (foldl_anchor _ ?_ _ _).trans ?_ <;> intros) | simp)

@[simp ↓] theorem putTemp_anchor (x0 : Nat) (x1 : Int) (s : State) : (putTemp x0 x1 s).anchor = s.anchor := by
  unfold putTemp
  repeat' (first | (simp; done) | split | (refine (foldl_anchor _ ?_ _ _).trans ?_ <;> intros) | simp)

@[simp ↓] theorem volumeEvents_anchor (x0 : List Vol) (s : State) : (volumeEvents x0 s).anchor = s.anchor := by
  unfold volumeEvents
  repeat' (first | (simp; done) | split | (refine (foldl_anchor _ ?_ _ _).trans ?_ <;> intros) | simp)

@[simp ↓] theorem settleVolumes_anchor (x0 : List Vol) (s : State) : (settleVolumes x0 s).anchor = s.anchor := by
  unfold settleVolumes
  repeat' (first | (simp; done) | split | (refine (foldl_anchor _ ?_ _ _).trans ?_ <;> intros) | simp)

@[simp ↓] theorem discoverKnown_anchor (x0 : Boot) (s : State) : (discoverKnown x0 s).anchor = s.anchor := by
  unfold discoverKnown
  repeat' (first | (simp; done) | split | (refine (foldl_anchor _ ?_ _ _).trans ?_ <;> intros) | simp)

@[simp ↓] theorem discoverNew_anchor (x0 : Boot) (s : State) : (discoverNew x0 s).anchor = s.anchor := by
  unfold discoverNew
  repeat' (first | (simp; done) | split | (refine (foldl_anchor _ ?_ _ _).trans ?_ <;> intros) | simp)

@[simp ↓] theorem discover_anchor (x0 : Boot) (s : State) : (discover x0 s).anchor = s.anchor := by
  unfold discover
  repeat' (first | (simp; done) | split | (refine (foldl_anchor _ ?_ _ _).trans ?_ <;> intros) | simp)

@[simp ↓] theorem compareIds_anchor (x0 : Boot) (s : State) : (compareIds x0 s).anchor = s.anchor := by
  unfold compareIds
  repeat' (first | (simp; done) | split | (refine (foldl_anchor _ ?_ _ _).trans ?_ <;> intros) | simp)

@[simp ↓] theorem cutZone_anchor (x0 : Zone) (x1 : Nat) (s : State) : (cutZone x0 x1 s).anchor = s.anchor := by
  unfold cutZone
  repeat' (first | (simp; done) | split | (refine (foldl_anchor _ ?_ _ _).trans ?_ <;> intros) | simp)

@[simp ↓] theorem revertFdp_anchor (s : State) : (revertFdp s).anchor = s.anchor := by
  unfold revertFdp
  repeat' (first | (simp; done) | split | (refine (foldl_anchor _ ?_ _ _).trans ?_ <;> intros) | simp)

@[simp ↓] theorem loseUnprogrammed_anchor (s : State) : (loseUnprogrammed s).anchor = s.anchor := by
  unfold loseUnprogrammed
  repeat' (first | (simp; done) | split | (refine (foldl_anchor _ ?_ _ _).trans ?_ <;> intros) | simp)

@[simp ↓] theorem fullReset_anchor (s : State) : (fullReset s).anchor = s.anchor := by
  unfold fullReset
  repeat' (first | (simp; done) | split | (refine (foldl_anchor _ ?_ _ _).trans ?_ <;> intros) | simp)

@[simp ↓] theorem modSlot_anchor (x0 : Nat) (x1 : FwSlot → FwSlot) (s : State) : (modSlot x0 x1 s).anchor = s.anchor := by
  unfold modSlot
  repeat' (first | (simp; done) | split | (refine (foldl_anchor _ ?_ _ _).trans ?_ <;> intros) | simp)

@[simp ↓] theorem chooseSlot_anchor (x0 : List Nat) (s : State) : ((chooseSlot x0 s).1).anchor = s.anchor := by
  induction x0 generalizing s with
  | nil => rfl
  | cons n ns ih =>
    unfold chooseSlot
    repeat' (first | (simp [ih]; done) | split | (refine (foldl_anchor _ ?_ _ _).trans ?_ <;> intros) | simp [ih])

@[simp ↓] theorem restoreDefaults_anchor (s : State) : (restoreDefaults s).anchor = s.anchor := by
  unfold restoreDefaults
  repeat' (first | (simp; done) | split | (refine (foldl_anchor _ ?_ _ _).trans ?_ <;> intros) | simp)

@[simp ↓] theorem replayUnclean_anchor (s : State) : (replayUnclean s).anchor = s.anchor := by
  unfold replayUnclean
  repeat' (first | (simp; done) | split | (refine (foldl_anchor _ ?_ _ _).trans ?_ <;> intros) | simp)

@[simp ↓] theorem tierAtBoot_anchor (s : State) : (tierAtBoot s).anchor = s.anchor := by
  unfold tierAtBoot
  repeat' (first | (simp; done) | split | (refine (foldl_anchor _ ?_ _ _).trans ?_ <;> intros) | simp)

@[simp ↓] theorem bayWorkAtBoot_anchor (s : State) : (bayWorkAtBoot s).anchor = s.anchor := by
  unfold bayWorkAtBoot
  repeat' (first | (simp; done) | split | (refine (foldl_anchor _ ?_ _ _).trans ?_ <;> intros) | simp)

@[simp ↓] theorem dropStaging_anchor (x0 : List Nat) (s : State) : (dropStaging x0 s).anchor = s.anchor := by
  unfold dropStaging
  repeat' (first | (simp; done) | split | (refine (foldl_anchor _ ?_ _ _).trans ?_ <;> intros) | simp)

@[simp ↓] theorem replay_anchor (x0 : List Nat) (s : State) : (replay x0 s).anchor = s.anchor := by
  unfold replay
  repeat' (first | (simp; done) | split | (refine (foldl_anchor _ ?_ _ _).trans ?_ <;> intros) | simp)

@[simp ↓] theorem abruptLoss_anchor (s : State) : (abruptLoss s).anchor = s.anchor := by
  unfold abruptLoss
  repeat' (first | (simp; done) | split | (refine (foldl_anchor _ ?_ _ _).trans ?_ <;> intros) | simp)

@[simp ↓] theorem flushDone_anchor (s : State) : (flushDone s).anchor = s.anchor := by
  unfold flushDone
  repeat' (first | (simp; done) | split | (refine (foldl_anchor _ ?_ _ _).trans ?_ <;> intros) | simp)

@[simp ↓] theorem quietBays_anchor (s : State) : (quietBays s).anchor = s.anchor := by
  unfold quietBays
  repeat' (first | (simp; done) | split | (refine (foldl_anchor _ ?_ _ _).trans ?_ <;> intros) | simp)

@[simp ↓] theorem sleepMemories_anchor (s : State) : (sleepMemories s).anchor = s.anchor := by
  unfold sleepMemories
  repeat' (first | (simp; done) | split | (refine (foldl_anchor _ ?_ _ _).trans ?_ <;> intros) | simp)

@[simp ↓] theorem sleepDeep_anchor (s : State) : (sleepDeep s).anchor = s.anchor := by
  unfold sleepDeep
  repeat' (first | (simp; done) | split | (refine (foldl_anchor _ ?_ _ _).trans ?_ <;> intros) | simp)

@[simp ↓] theorem enterState_anchor (x0 : Nat) (s : State) : (enterState x0 s).anchor = s.anchor := by
  unfold enterState
  repeat' (first | (simp; done) | split | (refine (foldl_anchor _ ?_ _ _).trans ?_ <;> intros) | simp)

@[simp ↓] theorem powerDone_anchor (x0 : Nat) (s : State) : (powerDone x0 s).anchor = s.anchor := by
  unfold powerDone
  repeat' (first | (simp; done) | split | (refine (foldl_anchor _ ?_ _ _).trans ?_ <;> intros) | simp)

@[simp ↓] theorem askFrom_anchor (x0 : Nat) (x1 : Nat) (x2 : Nat) (x3 : Nat) (s : State) :
    (askFrom x0 x1 x2 x3 s).anchor = s.anchor := by
  induction x0 generalizing x2 x3 s with
  | zero => unfold askFrom; simp
  | succ n ih =>
    unfold askFrom
    repeat' (first | (simp [ih]; done) | split | (refine (foldl_anchor _ ?_ _ _).trans ?_ <;> intros) | simp [ih])

@[simp ↓] theorem startTransition_anchor (x0 : Option (PortId × Nat × Nat)) (x1 : Nat) (s : State) :
    (startTransition x0 x1 s).anchor = s.anchor := by
  unfold startTransition
  repeat' (first | (simp; done) | split | (refine (foldl_anchor _ ?_ _ _).trans ?_ <;> intros) | simp)

@[simp ↓] theorem drainWaiting_anchor (x0 : Nat) (s : State) : (drainWaiting x0 s).anchor = s.anchor := by
  induction x0 generalizing s with
  | zero => rfl
  | succ n ih =>
    unfold drainWaiting
    repeat' (first | (simp [ih]; done) | split | (refine (foldl_anchor _ ?_ _ _).trans ?_ <;> intros) | simp [ih])

@[simp ↓] theorem requestPower_anchor (x0 : Option (PortId × Nat × Nat)) (x1 : Nat) (s : State) :
    (requestPower x0 x1 s).anchor = s.anchor := by
  unfold requestPower
  repeat' (first | (simp; done) | split | (refine (foldl_anchor _ ?_ _ _).trans ?_ <;> intros) | simp)

@[simp ↓] theorem admSetPower_anchor (x0 : Src) (x1 : Nat) (s : State) : (admSetPower x0 x1 s).anchor = s.anchor := by
  unfold admSetPower
  repeat' (first | (simp; done) | split | (refine (foldl_anchor _ ?_ _ _).trans ?_ <;> intros) | simp)

@[simp ↓] theorem exitState_anchor (x0 : Boot) (s : State) : (exitState x0 s).anchor = s.anchor := by
  unfold exitState
  repeat' (first | (simp; done) | split | (refine (foldl_anchor _ ?_ _ _).trans ?_ <;> intros) | simp)

@[simp ↓] theorem shoalSample_anchor (x0 : Nat) (x1 : Nat) (x2 : List Int) (x3 : List (Bool × Bool))
    (x4 : List Bool) (s : State) :
    (shoalSample x0 x1 x2 x3 x4 s).anchor = s.anchor := by
  unfold shoalSample
  repeat' (first | (simp; done) | split | (refine (foldl_anchor _ ?_ _ _).trans ?_ <;> intros) | simp)

@[simp ↓] theorem dropCommands_anchor (x0 : PortId) (s : State) : (dropCommands x0 s).anchor = s.anchor := by
  unfold dropCommands
  repeat' (first | (simp; done) | split | (refine (foldl_anchor _ ?_ _ _).trans ?_ <;> intros) | simp)

@[simp ↓] theorem discardOwned_anchor (x0 : PortId × Nat → Bool) (s : State) : (discardOwned x0 s).anchor = s.anchor := by
  unfold discardOwned
  repeat' (first | (simp; done) | split | (refine (foldl_anchor _ ?_ _ _).trans ?_ <;> intros) | simp)

@[simp ↓] theorem resetController_anchor (x0 : PortId) (x1 : Bool) (s : State) :
    (resetController x0 x1 s).anchor = s.anchor := by
  unfold resetController
  repeat' (first | (simp; done) | split | (refine (foldl_anchor _ ?_ _ _).trans ?_ <;> intros) | simp)

@[simp ↓] theorem raiseReset_anchor (x0 : PortId) (x1 : Nat) (s : State) : (raiseReset x0 x1 s).anchor = s.anchor := by
  unfold raiseReset
  repeat' (first | (simp; done) | split | (refine (foldl_anchor _ ?_ _ _).trans ?_ <;> intros) | simp)

@[simp ↓] theorem capture_anchor (x0 : Cap) (s : State) : (capture x0 s).anchor = s.anchor := by
  unfold capture
  repeat' (first | (simp; done) | split | (refine (foldl_anchor _ ?_ _ _).trans ?_ <;> intros) | simp)

@[simp ↓] theorem enableController_anchor (x0 : PortId) (x1 : Nat) (x2 : Nat) (x3 : Nat) (x4 : Nat) (s : State) :
    (enableController x0 x1 x2 x3 x4 s).anchor = s.anchor := by
  unfold enableController
  repeat' (first | (simp; done) | split | (refine (foldl_anchor _ ?_ _ _).trans ?_ <;> intros) | simp)

@[simp ↓] theorem disableController_anchor (x0 : PortId) (s : State) : (disableController x0 s).anchor = s.anchor := by
  unfold disableController
  repeat' (first | (simp; done) | split | (refine (foldl_anchor _ ?_ _ _).trans ?_ <;> intros) | simp)

@[simp ↓] theorem checkpointIfAll_anchor (s : State) : (checkpointIfAll s).anchor = s.anchor := by
  unfold checkpointIfAll
  repeat' (first | (simp; done) | split | (refine (foldl_anchor _ ?_ _ _).trans ?_ <;> intros) | simp)

@[simp ↓] theorem settleShutdown_anchor (x0 : PortId) (s : State) : (settleShutdown x0 s).anchor = s.anchor := by
  unfold settleShutdown
  repeat' (first | (simp; done) | split | (refine (foldl_anchor _ ?_ _ _).trans ?_ <;> intros) | simp)

@[simp ↓] theorem notifyShutdown_anchor (x0 : PortId) (s : State) : (notifyShutdown x0 s).anchor = s.anchor := by
  unfold notifyShutdown
  repeat' (first | (simp; done) | split | (refine (foldl_anchor _ ?_ _ _).trans ?_ <;> intros) | simp)

@[simp ↓] theorem errorEvent_anchor (x0 : PortId) (s : State) : (errorEvent x0 s).anchor = s.anchor := by
  unfold errorEvent
  repeat' (first | (simp; done) | split | (refine (foldl_anchor _ ?_ _ _).trans ?_ <;> intros) | simp)

@[simp ↓] theorem sqDoorbell_anchor (x0 : PortId) (x1 : Nat) (x2 : Nat) (s : State) :
    (sqDoorbell x0 x1 x2 s).anchor = s.anchor := by
  unfold sqDoorbell
  repeat' (first | (simp; done) | split | (refine (foldl_anchor _ ?_ _ _).trans ?_ <;> intros) | simp)

@[simp ↓] theorem cqDoorbell_anchor (x0 : PortId) (x1 : Nat) (x2 : Nat) (s : State) :
    (cqDoorbell x0 x1 x2 s).anchor = s.anchor := by
  unfold cqDoorbell
  repeat' (first | (simp; done) | split | (refine (foldl_anchor _ ?_ _ _).trans ?_ <;> intros) | simp)

@[simp ↓] theorem writeMsix_anchor (x0 : PortId) (x1 : Nat) (x2 : Dword) (s : State) :
    (writeMsix x0 x1 x2 s).anchor = s.anchor := by
  unfold writeMsix
  repeat' (first | (simp; done) | split | (refine (foldl_anchor _ ?_ _ _).trans ?_ <;> intros) | simp)

@[simp ↓] theorem writeCc_anchor (x0 : PortId) (x1 : Nat) (s : State) : (writeCc x0 x1 s).anchor = s.anchor := by
  unfold writeCc
  repeat' (first | (simp; done) | split | (refine (foldl_anchor _ ?_ _ _).trans ?_ <;> intros) | simp)

@[simp ↓] theorem barWrite4_anchor (x0 : PortId) (x1 : Nat) (x2 : Dword) (s : State) :
    (barWrite4 x0 x1 x2 s).anchor = s.anchor := by
  unfold barWrite4
  repeat' (first | (simp; done) | split | (refine (foldl_anchor _ ?_ _ _).trans ?_ <;> intros) | simp)

@[simp ↓] theorem barWrite_anchor (x0 : PortId) (x1 : Nat) (x2 : BitVec 64) (s : State) :
    (barWrite x0 x1 x2 s).anchor = s.anchor := by
  unfold barWrite
  repeat' (first | (simp; done) | split | (refine (foldl_anchor _ ?_ _ _).trans ?_ <;> intros) | simp)

@[simp ↓] theorem hostWrite_anchor (x0 : PortId) (x1 : Nat) (x2 : BitVec 64) (s : State) :
    (hostWrite x0 x1 x2 s).anchor = s.anchor := by
  unfold hostWrite
  repeat' (first | (simp; done) | split | (refine (foldl_anchor _ ?_ _ _).trans ?_ <;> intros) | simp)

@[simp ↓] theorem hostWrite4_anchor (x0 : PortId) (x1 : Nat) (x2 : Dword) (s : State) :
    (hostWrite4 x0 x1 x2 s).anchor = s.anchor := by
  unfold hostWrite4
  repeat' (first | (simp; done) | split | (refine (foldl_anchor _ ?_ _ _).trans ?_ <;> intros) | simp)

@[simp ↓] theorem applyCap_anchor (x0 : Cap) (s : State) : (applyCap x0 s).anchor = s.anchor := by
  unfold applyCap
  repeat' (first | (simp; done) | split | (refine (foldl_anchor _ ?_ _ _).trans ?_ <;> intros) | simp)

@[simp ↓] theorem applyCaptured_anchor (s : State) : (applyCaptured s).anchor = s.anchor := by
  unfold applyCaptured
  repeat' (first | (simp; done) | split | (refine (foldl_anchor _ ?_ _ _).trans ?_ <;> intros) | simp)

@[simp ↓] theorem markWaiting_anchor (s : State) : (markWaiting s).anchor = s.anchor := by
  unfold markWaiting
  repeat' (first | (simp; done) | split | (refine (foldl_anchor _ ?_ _ _).trans ?_ <;> intros) | simp)

@[simp ↓] theorem archiveZone_anchor (x0 : Ns) (x1 : Zone) (x2 : Nat) (s : State) :
    (archiveZone x0 x1 x2 s).anchor = s.anchor := by
  unfold archiveZone
  repeat' (first | (simp; done) | split | (refine (foldl_anchor _ ?_ _ _).trans ?_ <;> intros) | simp)

@[simp ↓] theorem completeId_anchor (x0 : Src) (x1 : Nat) (s : State) : (completeId x0 x1 s).anchor = s.anchor := by
  unfold completeId
  repeat' (first | (simp; done) | split | (refine (foldl_anchor _ ?_ _ _).trans ?_ <;> intros) | simp)

@[simp ↓] theorem ioArchive_anchor (x0 : Src) (x1 : Nat) (x2 : Nat) (x3 : Bool) (x4 : Nat) (x5 : Dword) (s : State) :
    (ioArchive x0 x1 x2 x3 x4 x5 s).anchor = s.anchor := by
  unfold ioArchive
  repeat' (first | (simp; done) | split | (refine (foldl_anchor _ ?_ _ _).trans ?_ <;> intros) | simp)

@[simp ↓] theorem cancelZone_anchor (x0 : Zone) (s : State) : (cancelZone x0 s).anchor = s.anchor := by
  unfold cancelZone
  repeat' (first | (simp; done) | split | (refine (foldl_anchor _ ?_ _ _).trans ?_ <;> intros) | simp)

@[simp ↓] theorem ioCancel_anchor (x0 : Src) (x1 : Nat) (x2 : Nat) (x3 : Bool) (x4 : Dword) (s : State) :
    (ioCancel x0 x1 x2 x3 x4 s).anchor = s.anchor := by
  unfold ioCancel
  repeat' (first | (simp; done) | split | (refine (foldl_anchor _ ?_ _ _).trans ?_ <;> intros) | simp)

@[simp ↓] theorem refuseRecall_anchor (x0 : Src) (x1 : Nat) (s : State) : (refuseRecall x0 x1 s).anchor = s.anchor := by
  unfold refuseRecall
  repeat' (first | (simp; done) | split | (refine (foldl_anchor _ ?_ _ _).trans ?_ <;> intros) | simp)

@[simp ↓] theorem acceptRecall_anchor (x0 : Zone) (x1 : Obj) (s : State) : (acceptRecall x0 x1 s).anchor = s.anchor := by
  unfold acceptRecall
  repeat' (first | (simp; done) | split | (refine (foldl_anchor _ ?_ _ _).trans ?_ <;> intros) | simp)

@[simp ↓] theorem ioRecall_anchor (x0 : Src) (x1 : Nat) (x2 : Nat) (x3 : Nat) (x4 : Dword) (s : State) :
    (ioRecall x0 x1 x2 x3 x4 s).anchor = s.anchor := by
  unfold ioRecall
  dsimp only
  repeat' (first | (simp; done) | split)
  simp only [complete_anchor, acceptRecall_anchor]
  exact (bindZone_anchor _ _ _ _ (by assumption)).trans (takeSlots_anchor _ _ _ _ _ (by assumption))

@[simp ↓] theorem ioQuery_anchor (x0 : Src) (x1 : Nat) (x2 : Nat) (x3 : Bool) (x4 : Nat) (x5 : Nat) (x6 : Dword) (s : State) :
    (ioQuery x0 x1 x2 x3 x4 x5 x6 s).anchor = s.anchor := by
  unfold ioQuery
  repeat' (first | (simp; done) | split | (refine (foldl_anchor _ ?_ _ _).trans ?_ <;> intros) | simp)

@[simp ↓] theorem disarm_anchor (s : State) : (disarm s).anchor = s.anchor := by
  unfold disarm
  repeat' (first | (simp; done) | split | (refine (foldl_anchor _ ?_ _ _).trans ?_ <;> intros) | simp)

@[simp ↓] theorem startOperation_anchor (x0 : Door) (x1 : Nat) (x2 : Nat) (x3 : Dword) (x4 : Nat) (s : State) :
    (startOperation x0 x1 x2 x3 x4 s).anchor = s.anchor := by
  unfold startOperation
  repeat' (first | (simp; done) | split | (refine (foldl_anchor _ ?_ _ _).trans ?_ <;> intros) | simp)

@[simp ↓] theorem endOperation_anchor (x0 : Nat) (x1 : Bool) (s : State) : (endOperation x0 x1 s).anchor = s.anchor := by
  unfold endOperation
  repeat' (first | (simp; done) | split | (refine (foldl_anchor _ ?_ _ _).trans ?_ <;> intros) | simp)

theorem arm_anchor (x0 : Door) (x1 : Nat) (s : State) (t : State) (h : arm x0 x1 s = .ok t) : t.anchor = s.anchor := by
  unfold arm at h
  try dsimp only at h
  repeat' (split at h)
  all_goals first | (cases h; done) | (cases h; rfl) | (cases h; simp; done) | (have h := Except.ok.inj h; subst h; simp; done) | (have h := Option.some.inj h; subst h; simp; done)

@[simp ↓] theorem emptyNs_anchor (s : State) (x1 : Nat) : (emptyNs s x1).anchor = s.anchor := by
  unfold emptyNs
  repeat' (first | (simp; done) | split | (refine (foldl_anchor _ ?_ _ _).trans ?_ <;> intros) | simp)

@[simp ↓] theorem runDelete_anchor (x0 : Door) (x1 : Nat) (x2 : Dword) (s : State) :
    (runDelete x0 x1 x2 s).anchor = s.anchor := by
  unfold runDelete
  repeat' (first | (simp; done) | split | (refine (foldl_anchor _ ?_ _ _).trans ?_ <;> intros) | simp)

@[simp ↓] theorem runFormat_anchor (x0 : Door) (x1 : Nat) (x2 : Dword) (s : State) :
    (runFormat x0 x1 x2 s).anchor = s.anchor := by
  unfold runFormat
  repeat' (first | (simp; done) | split | (refine (foldl_anchor _ ?_ _ _).trans ?_ <;> intros) | simp)

@[simp ↓] theorem cutIo_anchor (s : State) : (cutIo s).anchor = s.anchor := by
  unfold cutIo
  repeat' (first | (simp; done) | split | (refine (foldl_anchor _ ?_ _ _).trans ?_ <;> intros) | simp)

@[simp ↓] theorem cutRecalls_anchor (s : State) : (cutRecalls s).anchor = s.anchor := by
  unfold cutRecalls
  repeat' (first | (simp; done) | split | (refine (foldl_anchor _ ?_ _ _).trans ?_ <;> intros) | simp)

@[simp ↓] theorem freeObjects_anchor (s : State) : (freeObjects s).anchor = s.anchor := by
  unfold freeObjects
  repeat' (first | (simp; done) | split | (refine (foldl_anchor _ ?_ _ _).trans ?_ <;> intros) | simp)

@[simp ↓] theorem discardAll_anchor (s : State) : (discardAll s).anchor = s.anchor := by
  unfold discardAll
  repeat' (first | (simp; done) | split | (refine (foldl_anchor _ ?_ _ _).trans ?_ <;> intros) | simp)

@[simp ↓] theorem runSanitize_anchor (x0 : Door) (x1 : Dword) (s : State) : (runSanitize x0 x1 s).anchor = s.anchor := by
  unfold runSanitize
  repeat' (first | (simp; done) | split | (refine (foldl_anchor _ ?_ _ _).trans ?_ <;> intros) | simp)

@[simp ↓] theorem endErase_anchor (s : State) : (endErase s).anchor = s.anchor := by
  unfold endErase
  repeat' (first | (simp; done) | split | (refine (foldl_anchor _ ?_ _ _).trans ?_ <;> intros) | simp)

@[simp ↓] theorem completeFormats_anchor (s : State) : (completeFormats s).anchor = s.anchor := by
  unfold completeFormats
  repeat' (first | (simp; done) | split | (refine (foldl_anchor _ ?_ _ _).trans ?_ <;> intros) | simp)

@[simp ↓] theorem markSlot_anchor (x0 : Nat) (s : State) : (markSlot x0 s).anchor = s.anchor := by
  unfold markSlot
  repeat' (first | (simp; done) | split | (refine (foldl_anchor _ ?_ _ _).trans ?_ <;> intros) | simp)

@[simp ↓] theorem admDownload_anchor (x0 : Src) (x1 : Nat) (x2 : List Byte) (s : State) :
    (admDownload x0 x1 x2 s).anchor = s.anchor := by
  unfold admDownload
  repeat' (first | (simp; done) | split | (refine (foldl_anchor _ ?_ _ _).trans ?_ <;> intros) | simp)

@[simp ↓] theorem admCreateCq_anchor (x0 : Src) (x1 : Nat) (x2 : Nat) (x3 : Nat) (s : State) :
    (admCreateCq x0 x1 x2 x3 s).anchor = s.anchor := by
  unfold admCreateCq
  repeat' (first | (simp; done) | split | (refine (foldl_anchor _ ?_ _ _).trans ?_ <;> intros) | simp)

@[simp ↓] theorem admCreateSq_anchor (x0 : Src) (x1 : Nat) (x2 : Nat) (x3 : Nat) (x4 : Nat) (s : State) :
    (admCreateSq x0 x1 x2 x3 x4 s).anchor = s.anchor := by
  unfold admCreateSq
  repeat' (first | (simp; done) | split | (refine (foldl_anchor _ ?_ _ _).trans ?_ <;> intros) | simp)

@[simp ↓] theorem dropSq_anchor (x0 : PortId) (x1 : Nat) (s : State) : (dropSq x0 x1 s).anchor = s.anchor := by
  unfold dropSq
  repeat' (first | (simp; done) | split | (refine (foldl_anchor _ ?_ _ _).trans ?_ <;> intros) | simp)

@[simp ↓] theorem admDeleteSq_anchor (x0 : Src) (x1 : Nat) (s : State) : (admDeleteSq x0 x1 s).anchor = s.anchor := by
  unfold admDeleteSq
  repeat' (first | (simp; done) | split | (refine (foldl_anchor _ ?_ _ _).trans ?_ <;> intros) | simp)

@[simp ↓] theorem admDeleteCq_anchor (x0 : Src) (x1 : Nat) (s : State) : (admDeleteCq x0 x1 s).anchor = s.anchor := by
  unfold admDeleteCq
  repeat' (first | (simp; done) | split | (refine (foldl_anchor _ ?_ _ _).trans ?_ <;> intros) | simp)

@[simp ↓] theorem admAbort_anchor (x0 : Src) (s : State) : (admAbort x0 s).anchor = s.anchor := by
  unfold admAbort
  repeat' (first | (simp; done) | split | (refine (foldl_anchor _ ?_ _ _).trans ?_ <;> intros) | simp)

@[simp ↓] theorem modFeat_anchor (x0 : PortId) (x1 : Feat → Feat) (s : State) : (modFeat x0 x1 s).anchor = s.anchor := by
  unfold modFeat
  repeat' (first | (simp; done) | split | (refine (foldl_anchor _ ?_ _ _).trans ?_ <;> intros) | simp)

@[simp ↓] theorem admSetVwc_anchor (x0 : Src) (x1 : Bool) (x2 : Bool) (s : State) :
    (admSetVwc x0 x1 x2 s).anchor = s.anchor := by
  unfold admSetVwc
  repeat' (first | (simp; done) | split | (refine (foldl_anchor _ ?_ _ _).trans ?_ <;> intros) | simp)

@[simp ↓] theorem admSetQueues_anchor (x0 : Src) (s : State) : (admSetQueues x0 s).anchor = s.anchor := by
  unfold admSetQueues
  repeat' (first | (simp; done) | split | (refine (foldl_anchor _ ?_ _ _).trans ?_ <;> intros) | simp)

@[simp ↓] theorem admSetArbitration_anchor (x0 : Src) (x1 : Dword) (s : State) :
    (admSetArbitration x0 x1 s).anchor = s.anchor := by
  unfold admSetArbitration
  repeat' (first | (simp; done) | split | (refine (foldl_anchor _ ?_ _ _).trans ?_ <;> intros) | simp)

@[simp ↓] theorem admSetTemp_anchor (x0 : Src) (x1 : Dword) (s : State) : (admSetTemp x0 x1 s).anchor = s.anchor := by
  unfold admSetTemp
  repeat' (first | (simp; done) | split | (refine (foldl_anchor _ ?_ _ _).trans ?_ <;> intros) | simp)

@[simp ↓] theorem admSetCoalescing_anchor (x0 : Src) (x1 : Dword) (s : State) :
    (admSetCoalescing x0 x1 s).anchor = s.anchor := by
  unfold admSetCoalescing
  repeat' (first | (simp; done) | split | (refine (foldl_anchor _ ?_ _ _).trans ?_ <;> intros) | simp)

@[simp ↓] theorem admSetVector_anchor (x0 : Src) (x1 : Dword) (s : State) : (admSetVector x0 x1 s).anchor = s.anchor := by
  unfold admSetVector
  repeat' (first | (simp; done) | split | (refine (foldl_anchor _ ?_ _ _).trans ?_ <;> intros) | simp)

@[simp ↓] theorem admSetAsync_anchor (x0 : Src) (x1 : Dword) (s : State) : (admSetAsync x0 x1 s).anchor = s.anchor := by
  unfold admSetAsync
  repeat' (first | (simp; done) | split | (refine (foldl_anchor _ ?_ _ _).trans ?_ <;> intros) | simp)

@[simp ↓] theorem admSetTimestamp_anchor (x0 : Src) (x1 : Nat) (s : State) :
    (admSetTimestamp x0 x1 s).anchor = s.anchor := by
  unfold admSetTimestamp
  repeat' (first | (simp; done) | split | (refine (foldl_anchor _ ?_ _ _).trans ?_ <;> intros) | simp)

@[simp ↓] theorem admSetFdp_anchor (x0 : Src) (x1 : Nat) (x2 : Nat) (x3 : Dword) (x4 : Bool) (x5 : List Nat) (s : State) :
    (admSetFdp x0 x1 x2 x3 x4 x5 s).anchor = s.anchor := by
  unfold admSetFdp
  repeat' (first | (simp; done) | split | (refine (foldl_anchor _ ?_ _ _).trans ?_ <;> intros) | simp)

@[simp ↓] theorem admGetFeatures_anchor (x0 : Src) (x1 : Nat) (x2 : Nat) (x3 : Nat) (s : State) :
    (admGetFeatures x0 x1 x2 x3 s).anchor = s.anchor := by
  unfold admGetFeatures
  repeat' (first | (simp; done) | split | (refine (foldl_anchor _ ?_ _ _).trans ?_ <;> intros) | simp)

@[simp ↓] theorem reportPending_anchor (x0 : PortId) (s : State) : (reportPending x0 s).anchor = s.anchor := by
  unfold reportPending
  repeat' (first | (simp; done) | split | (refine (foldl_anchor _ ?_ _ _).trans ?_ <;> intros) | simp)

@[simp ↓] theorem admAsync_anchor (x0 : Src) (s : State) : (admAsync x0 s).anchor = s.anchor := by
  unfold admAsync
  repeat' (first | (simp; done) | split | (refine (foldl_anchor _ ?_ _ _).trans ?_ <;> intros) | simp)

@[simp ↓] theorem admNsCreate_anchor (x0 : Src) (x1 : NsSpec) (s : State) : (admNsCreate x0 x1 s).anchor = s.anchor := by
  unfold admNsCreate
  repeat' (first | (simp; done) | split | (refine (foldl_anchor _ ?_ _ _).trans ?_ <;> intros) | simp)

@[simp ↓] theorem admNsDelete_anchor (x0 : Src) (x1 : Nat) (s : State) : (admNsDelete x0 x1 s).anchor = s.anchor := by
  unfold admNsDelete
  repeat' (first | (simp; done) | split | (refine (foldl_anchor _ ?_ _ _).trans ?_ <;> intros) | simp)

@[simp ↓] theorem admNsAttach_anchor (x0 : Src) (x1 : Nat) (x2 : List PortId) (x3 : Bool) (s : State) :
    (admNsAttach x0 x1 x2 x3 s).anchor = s.anchor := by
  unfold admNsAttach
  repeat' (first | (simp; done) | split | (refine (foldl_anchor _ ?_ _ _).trans ?_ <;> intros) | simp)

@[simp ↓] theorem admFormat_anchor (x0 : Src) (x1 : Nat) (x2 : Nat) (x3 : Nat) (x4 : Nat) (x5 : Bool) (s : State) :
    (admFormat x0 x1 x2 x3 x4 x5 s).anchor = s.anchor := by
  unfold admFormat
  repeat' (first | (simp; done) | split | (refine (foldl_anchor _ ?_ _ _).trans ?_ <;> intros) | simp)

@[simp ↓] theorem admSanitize_anchor (x0 : Src) (x1 : Nat) (s : State) : (admSanitize x0 x1 s).anchor = s.anchor := by
  unfold admSanitize
  repeat' (first | (simp; done) | split | (refine (foldl_anchor _ ?_ _ _).trans ?_ <;> intros) | simp)

@[simp ↓] theorem logRead_anchor (x0 : PortId) (x1 : Nat) (s : State) : (logRead x0 x1 s).anchor = s.anchor := by
  unfold logRead
  repeat' (first | (simp; done) | split | (refine (foldl_anchor _ ?_ _ _).trans ?_ <;> intros) | simp)

@[simp ↓] theorem admGetLog_anchor (x0 : Src) (x1 : Nat) (x2 : Nat) (x3 : Nat) (x4 : Nat) (x5 : Bool) (s : State) :
    (admGetLog x0 x1 x2 x3 x4 x5 s).anchor = s.anchor := by
  unfold admGetLog
  repeat' (first | (simp; done) | split | (refine (foldl_anchor _ ?_ _ _).trans ?_ <;> intros) | simp)

@[simp ↓] theorem admIdentify_anchor (x0 : Src) (x1 : Nat) (x2 : Nat) (x3 : Nat) (x4 : Nat) (s : State) :
    (admIdentify x0 x1 x2 x3 x4 s).anchor = s.anchor := by
  unfold admIdentify
  repeat' (first | (simp; done) | split | (refine (foldl_anchor _ ?_ _ _).trans ?_ <;> intros) | simp)

@[simp ↓] theorem putReserv_anchor (x0 : Src) (x1 : Nat) (x2 : Reserv) (s : State) :
    (putReserv x0 x1 x2 s).anchor = s.anchor := by
  unfold putReserv
  repeat' (first | (simp; done) | split | (refine (foldl_anchor _ ?_ _ _).trans ?_ <;> intros) | simp)

@[simp ↓] theorem ioResvRegister_anchor (x0 : Src) (x1 : Nat) (x2 : Nat) (x3 : Nat) (x4 : Bool) (x5 : BitVec 64)
    (x6 : BitVec 64) (s : State) :
    (ioResvRegister x0 x1 x2 x3 x4 x5 x6 s).anchor = s.anchor := by
  unfold ioResvRegister
  repeat' (first | (simp; done) | split | (refine (foldl_anchor _ ?_ _ _).trans ?_ <;> intros) | simp)

@[simp ↓] theorem ioResvAcquire_anchor (x0 : Src) (x1 : Nat) (x2 : Nat) (x3 : Nat) (x4 : Bool) (x5 : BitVec 64)
    (x6 : BitVec 64) (s : State) :
    (ioResvAcquire x0 x1 x2 x3 x4 x5 x6 s).anchor = s.anchor := by
  unfold ioResvAcquire
  repeat' (first | (simp; done) | split | (refine (foldl_anchor _ ?_ _ _).trans ?_ <;> intros) | simp)

@[simp ↓] theorem ioResvRelease_anchor (x0 : Src) (x1 : Nat) (x2 : Nat) (x3 : Nat) (x4 : Bool) (x5 : BitVec 64) (s : State) :
    (ioResvRelease x0 x1 x2 x3 x4 x5 s).anchor = s.anchor := by
  unfold ioResvRelease
  repeat' (first | (simp; done) | split | (refine (foldl_anchor _ ?_ _ _).trans ?_ <;> intros) | simp)

@[simp ↓] theorem ioResvReport_anchor (x0 : Src) (x1 : Nat) (s : State) : (ioResvReport x0 x1 s).anchor = s.anchor := by
  unfold ioResvReport
  repeat' (first | (simp; done) | split | (refine (foldl_anchor _ ?_ _ _).trans ?_ <;> intros) | simp)

@[simp ↓] theorem Meas.fit_anchor (x0 : Meas) (s : State) : ((Meas.fit x0 s).2).anchor = s.anchor := by
  unfold Meas.fit
  repeat' (first | (simp; done) | split | (refine (foldl_anchor _ ?_ _ _).trans ?_ <;> intros) | simp)

@[simp ↓] theorem Meas.volts_anchor (x0 : Meas) (s : State) : ((Meas.volts x0 s).2).anchor = s.anchor := by
  unfold Meas.volts
  repeat' (first | (simp; done) | split | (refine (foldl_anchor _ ?_ _ _).trans ?_ <;> intros) | simp)

@[simp ↓] theorem countLocked_anchor (x0 : Door) (x1 : Nat) (x2 : Nat) (s : State) :
    (countLocked x0 x1 x2 s).anchor = s.anchor := by
  unfold countLocked
  repeat' (first | (simp; done) | split | (refine (foldl_anchor _ ?_ _ _).trans ?_ <;> intros) | simp)

@[simp ↓] theorem keepValue_anchor (x0 : Nat) (s : State) (x2 : Nat × List Byte) :
    (keepValue x0 s x2).anchor = s.anchor := by
  unfold keepValue
  repeat' (first | (simp; done) | split | (refine (foldl_anchor _ ?_ _ _).trans ?_ <;> intros) | simp)

theorem adminRequest_anchor (x0 : Door) (x1 : List Byte) (s : State) (t : State) (h : adminRequest x0 x1 s = .ok t) :
    t.anchor = s.anchor := by
  unfold adminRequest at h
  try dsimp only at h
  repeat' (split at h)
  all_goals first | (cases h; done) | (cases h; rfl) | (cases h; simp; done) | (have h := Except.ok.inj h; subst h; simp; done) | (have h := Option.some.inj h; subst h; simp; done)

@[simp ↓] theorem loseEncrypted_anchor (s : State) (x1 : Ns) : (loseEncrypted s x1).anchor = s.anchor := by
  unfold loseEncrypted
  repeat' (first | (simp; done) | split | (refine (foldl_anchor _ ?_ _ _).trans ?_ <;> intros) | simp)

@[simp ↓] theorem resyncSets_anchor (s : State) : (resyncSets s).anchor = s.anchor := by
  unfold resyncSets
  repeat' (first | (simp; done) | split | (refine (foldl_anchor _ ?_ _ _).trans ?_ <;> intros) | simp)

theorem adoptTier_anchor (x0 : Door) (s : State) (t : State) (h : adoptTier x0 s = .ok t) : t.anchor = s.anchor := by
  unfold adoptTier at h
  repeat' (split at h)
  all_goals first | (simp at h; done) | (simp at h; subst h; simp; done) | (simp at h; obtain ⟨rfl, rfl⟩ := h; simp; done)

@[simp ↓] theorem changePolicy_anchor (x0 : Door) (x1 : Nat) (s : State) : (changePolicy x0 x1 s).anchor = s.anchor := by
  unfold changePolicy
  repeat' (first | (simp; done) | split | (refine (foldl_anchor _ ?_ _ _).trans ?_ <;> intros) | simp)

theorem writeSplit_anchor (x0 : Nat) (x1 : Nat) (s : State) (t : State) (h : writeSplit x0 x1 s = .ok t) :
    t.anchor = s.anchor := by
  unfold writeSplit at h
  try dsimp only at h
  repeat' (split at h)
  all_goals first | (cases h; done) | (cases h; rfl) | (cases h; simp; done) | (have h := Except.ok.inj h; subst h; simp; done) | (have h := Option.some.inj h; subst h; simp; done)

@[simp ↓] theorem writePending_anchor (x0 : Nat) (x1 : List Byte) (s : State) :
    (writePending x0 x1 s).anchor = s.anchor := by
  unfold writePending
  repeat' (first | (simp; done) | split | (refine (foldl_anchor _ ?_ _ _).trans ?_ <;> intros) | simp)

@[simp ↓] theorem installPending_anchor (s : State) : (installPending s).anchor = s.anchor := by
  unfold installPending
  repeat' (first | (simp; done) | split | (refine (foldl_anchor _ ?_ _ _).trans ?_ <;> intros) | simp)

theorem commitCoefficients_anchor (s : State) (t : State) (h : commitCoefficients s = .ok t) : t.anchor = s.anchor := by
  unfold commitCoefficients at h
  dsimp only at h
  split at h
  · cases h
  split at h
  · cases h
  have h := Except.ok.inj h
  rw [← h]
  refine (foldl_anchor _ ?_ _ _).trans (by simp)
  intro t a
  split <;> simp

theorem cacheOperation_anchor (x0 : Nat) (s : State) (t : State) (h : cacheOperation x0 s = .ok t) :
    t.anchor = s.anchor := by
  unfold cacheOperation at h
  dsimp only at h
  repeat' (split at h)
  all_goals cases h
  all_goals simp

@[simp ↓] theorem clampBucket_anchor (x0 : Nat) (s : State) : (clampBucket x0 s).anchor = s.anchor := by
  unfold clampBucket
  repeat' (first | (simp; done) | split | (refine (foldl_anchor _ ?_ _ _).trans ?_ <;> intros) | simp)

theorem requestSelfTest_anchor (x0 : Meas) (s : State) (t : State) (h : requestSelfTest x0 s = .ok t) :
    t.anchor = s.anchor := by
  unfold requestSelfTest at h
  repeat' (split at h)
  all_goals first | (simp at h; done) | (simp at h; subst h; simp; done) | (simp at h; obtain ⟨rfl, rfl⟩ := h; simp; done)

theorem requestRestore_anchor (s : State) (t : State) (h : requestRestore s = .ok t) : t.anchor = s.anchor := by
  unfold requestRestore at h
  repeat' (split at h)
  all_goals first | (simp at h; done) | (simp at h; subst h; simp; done) | (simp at h; obtain ⟨rfl, rfl⟩ := h; simp; done)

theorem writeCellMode_anchor (x0 : Nat) (s : State) (t : State) (h : writeCellMode x0 s = .ok t) : t.anchor = s.anchor := by
  unfold writeCellMode at h
  repeat' (split at h)
  all_goals first | (simp at h; done) | (simp at h; subst h; simp; done) | (simp at h; obtain ⟨rfl, rfl⟩ := h; simp; done)

theorem requestAdopt_anchor (x0 : Door) (x1 : Nat) (s : State) (t : State) (h : requestAdopt x0 x1 s = .ok t) :
    t.anchor = s.anchor := by
  unfold requestAdopt at h
  split at h
  · cases h
  · cases h
    simp
    exact adoptVolume_anchor _ _ _ (by assumption)

theorem requestRetire_anchor (x0 : Door) (x1 : Nat) (s : State) (t : State) (h : requestRetire x0 x1 s = .ok t) :
    t.anchor = s.anchor := by
  unfold requestRetire at h
  split at h
  · cases h
  · cases h
    have := retireVolume_anchor _ _ _ (by assumption)
    split <;> simpa using this

theorem runDevice_anchor (x0 : Door) (x1 : Meas) (x2 : Nat) (x3 : Nat) (x4 : Nat) (x5 : List Byte) (s : State)
    (t : State) (h : runDevice x0 x1 x2 x3 x4 x5 s = .ok t) :
    t.anchor = s.anchor := by
  unfold runDevice at h
  repeat' (split at h)
  all_goals first | (cases h; done) | (cases h; rfl) | (cases h; simp; done) | exact requestRestore_anchor _ _ h | exact requestSelfTest_anchor _ _ _ h | exact changePolicy_anchor _ _ _ _ h | exact arm_anchor _ _ _ _ h | exact adminRequest_anchor _ _ _ _ h | exact adoptTier_anchor _ _ _ h | exact writeSplit_anchor _ _ _ _ h | exact writeCellMode_anchor _ _ _ h | exact requestAdopt_anchor _ _ _ _ h | exact requestRetire_anchor _ _ _ _ h | exact cacheOperation_anchor _ _ _ h | exact requestRecon_anchor _ _ _ h | exact commitCoefficients_anchor _ _ h

theorem spindleCommand_anchor (x0 : BayId) (x1 : Nat) (s : State) (t : State) (h : spindleCommand x0 x1 s = .ok t) :
    t.anchor = s.anchor := by
  unfold spindleCommand at h
  try dsimp only at h
  repeat' (split at h)
  all_goals first | (cases h; done) | (cases h; rfl) | (cases h; simp; done) | (have h := Except.ok.inj h; subst h; simp; done) | (have h := Option.some.inj h; subst h; simp; done)

theorem requestSled_anchor (x0 : BayId) (x1 : Nat) (s : State) (t : State) (h : requestSled x0 x1 s = .ok t) :
    t.anchor = s.anchor := by
  unfold requestSled at h
  repeat' (split at h)
  all_goals first | (simp at h; done) | (simp at h; subst h; simp; done) | (simp at h; obtain ⟨rfl, rfl⟩ := h; simp; done)

theorem requestTarget_anchor (x0 : BayId) (x1 : Int) (s : State) (t : State) (h : requestTarget x0 x1 s = .ok t) :
    t.anchor = s.anchor := by
  unfold requestTarget at h
  repeat' (split at h)
  all_goals first | (simp at h; done) | (simp at h; subst h; simp; done) | (simp at h; obtain ⟨rfl, rfl⟩ := h; simp; done)

theorem requestLoader_anchor (x0 : BayId) (x1 : Nat) (s : State) (t : State) (h : requestLoader x0 x1 s = .ok t) :
    t.anchor = s.anchor := by
  unfold requestLoader at h
  repeat' (split at h)
  all_goals first | (simp at h; done) | (simp at h; subst h; simp; done) | (simp at h; obtain ⟨rfl, rfl⟩ := h; simp; done)

theorem requestColl_anchor (x0 : BayId) (x1 : Nat) (s : State) (t : State) (h : requestColl x0 x1 s = .ok t) :
    t.anchor = s.anchor := by
  unfold requestColl at h
  repeat' (split at h)
  all_goals first | (simp at h; done) | (simp at h; subst h; simp; done) | (simp at h; obtain ⟨rfl, rfl⟩ := h; simp; done)

theorem bayCommand_anchor (x0 : Meas) (x1 : BayId) (x2 : Nat) (s : State) (t : State) (h : bayCommand x0 x1 x2 s = .ok t) :
    t.anchor = s.anchor := by
  unfold bayCommand at h
  repeat' (split at h)
  all_goals first | (simp at h; done) | (simp at h; subst h; simp; done) | (simp at h; obtain ⟨rfl, rfl⟩ := h; simp; done)

theorem writeEnable_anchor (x0 : Meas) (x1 : Nat) (x2 : BayId) (x3 : Nat) (s : State) (t : State)
    (h : writeEnable x0 x1 x2 x3 s = .ok t) :
    t.anchor = s.anchor := by
  unfold writeEnable at h
  dsimp only at h
  split at h
  · exact nomatch h
  split at h
  · rw [← Except.ok.inj h]
  split at h
  · rw [← Except.ok.inj h, disableBay_anchor, putNum_anchor]
  split at h
  · rw [← Except.ok.inj h, putNum_anchor]
  · rw [← Except.ok.inj h, startBay_anchor, putNum_anchor, Meas.fit_anchor]

theorem runBay_anchor (x0 : Meas) (x1 : Nat) (x2 : BayId) (x3 : Nat) (x4 : Nat) (x5 : Nat) (x6 : List Byte)
    (s : State) (t : State) (h : runBay x0 x1 x2 x3 x4 x5 x6 s = .ok t) :
    t.anchor = s.anchor := by
  unfold runBay at h
  repeat' (split at h)
  all_goals first | (cases h; done) | (cases h; rfl) | (cases h; simp; done) | exact writeEnable_anchor _ _ _ _ _ _ h | exact bayCommand_anchor _ _ _ _ _ h | exact spindleCommand_anchor _ _ _ _ h | exact requestSled_anchor _ _ _ _ h | exact requestTarget_anchor _ _ _ _ h | exact requestLoader_anchor _ _ _ _ h | exact requestColl_anchor _ _ _ _ h

theorem runWrite_anchor (x0 : Door) (x1 : Meas) (x2 : Nat) (x3 : Nat × List Byte) (s : State) (t : State)
    (h : runWrite x0 x1 x2 x3 s = .ok t) :
    t.anchor = s.anchor := by
  unfold runWrite at h
  repeat' (split at h)
  · exact runDevice_anchor _ _ _ _ _ _ _ _ h
  · exact runBay_anchor _ _ _ _ _ _ _ _ _ h
  · cases h; rfl

theorem runWrites_anchor (x0 : Door) (x1 : Meas) (x2 : Nat) (x3 : List (Nat × List Byte)) (s : State) (t : State)
    (h : runWrites x0 x1 x2 x3 s = .ok t) :
    t.anchor = s.anchor := by
  induction x3 generalizing s with
  | nil => cases h; rfl
  | cons w ws ih =>
    unfold runWrites at h
    split at h
    · exact (ih _ h).trans (runWrite_anchor _ _ _ _ _ _ (by assumption))
    · cases h

@[simp ↓] theorem stageValues_anchor (x0 : Nat) (x1 : List (Nat × List Byte)) (s : State) :
    (stageValues x0 x1 s).anchor = s.anchor := by
  unfold stageValues
  repeat' (first | (simp; done) | split | (refine (foldl_anchor _ ?_ _ _).trans ?_ <;> intros) | simp)

@[simp ↓] theorem refusedOperation_anchor (x0 : Nat) (x1 : List (Nat × List Byte)) (s : State) :
    (refusedOperation x0 x1 s).anchor = s.anchor := by
  unfold refusedOperation
  repeat' (first | (simp; done) | split | (refine (foldl_anchor _ ?_ _ _).trans ?_ <;> intros) | simp)

theorem applyValues_anchor (x0 : Door) (x1 : Meas) (x2 : Nat) (x3 : List (Nat × List Byte)) (s : State) (t : State)
    (h : applyValues x0 x1 x2 x3 s = .ok t) :
    t.anchor = s.anchor := by
  unfold applyValues at h
  dsimp only at h
  split at h
  · cases h
  split at h
  · cases h
  split at h
  · have h2 := runWrites_anchor _ _ _ _ _ _ (by assumption)
    rw [tideRecord_anchor] at h2
    cases h
    rw [stageValues_anchor, h2]
    exact foldl_anchor _ (fun t a => by simp) _ _
  · cases h

@[simp ↓] theorem afterRefusal_anchor (x0 : Door) (x1 : Nat) (x2 : Nat) (x3 : Abort) (s : State) :
    (afterRefusal x0 x1 x2 x3 s).anchor = s.anchor := by
  unfold afterRefusal
  repeat' (first | (simp; done) | split | (refine (foldl_anchor _ ?_ _ _).trans ?_ <;> intros) | simp)

@[simp ↓] theorem writeDict_anchor (x0 : Door) (x1 : Meas) (x2 : Nat) (x3 : Nat) (x4 : Bool) (x5 : List Byte) (s : State) :
    ((writeDict x0 x1 x2 x3 x4 x5 s).1).anchor = s.anchor := by
  unfold writeDict
  dsimp only
  repeat' (first | (simp; done) | split)
  all_goals exact applyValues_anchor _ _ _ _ _ _ (by assumption)

@[simp ↓] theorem putBench_anchor (x0 : Nat) (x1 : Nat) (x2 : List Byte) (s : State) :
    (putBench x0 x1 x2 s).anchor = s.anchor := by
  unfold putBench
  repeat' (first | (simp; done) | split | (refine (foldl_anchor _ ?_ _ _).trans ?_ <;> intros) | simp)

@[simp ↓] theorem answerDoor_anchor (x0 : Door) (x1 : Nat) (x2 : Nat) (x3 : Option Abort) (x4 : List Byte) (s : State) :
    (answerDoor x0 x1 x2 x3 x4 s).anchor = s.anchor := by
  unfold answerDoor
  repeat' (first | (simp; done) | split | (refine (foldl_anchor _ ?_ _ _).trans ?_ <;> intros) | simp)

@[simp ↓] theorem doorWrite_anchor (x0 : Door) (x1 : Meas) (x2 : Nat) (x3 : Nat) (x4 : Bool) (x5 : List Byte) (s : State) :
    (doorWrite x0 x1 x2 x3 x4 x5 s).anchor = s.anchor := by
  unfold doorWrite
  repeat' (first | (simp; done) | split | (refine (foldl_anchor _ ?_ _ _).trans ?_ <;> intros) | simp)

@[simp ↓] theorem writeNum_anchor (x0 : Door) (x1 : Meas) (x2 : Nat) (x3 : Nat) (x4 : Nat) (s : State) :
    (writeNum x0 x1 x2 x3 x4 s).anchor = s.anchor := by
  unfold writeNum
  repeat' (first | (simp; done) | split | (refine (foldl_anchor _ ?_ _ _).trans ?_ <;> intros) | simp)

@[simp ↓] theorem writeBay_anchor (x0 : Door) (x1 : Meas) (x2 : BayId) (x3 : Nat) (x4 : Nat) (x5 : Nat) (s : State) :
    (writeBay x0 x1 x2 x3 x4 x5 s).anchor = s.anchor := by
  unfold writeBay
  repeat' (first | (simp; done) | split | (refine (foldl_anchor _ ?_ _ _).trans ?_ <;> intros) | simp)

@[simp ↓] theorem admDictRead_anchor (x0 : Src) (x1 : Nat) (x2 : Nat) (x3 : Nat) (x4 : Bool) (x5 : Nat) (x6 : Dword)
    (s : State) :
    (admDictRead x0 x1 x2 x3 x4 x5 x6 s).anchor = s.anchor := by
  unfold admDictRead
  repeat' (first | (simp; done) | split | (refine (foldl_anchor _ ?_ _ _).trans ?_ <;> intros) | simp)

@[simp ↓] theorem admDictWrite_anchor (x0 : Src) (x1 : Nat) (x2 : Nat) (x3 : Nat) (x4 : Bool) (x5 : List Byte)
    (x6 : Dword) (s : State) :
    (admDictWrite x0 x1 x2 x3 x4 x5 x6 s).anchor = s.anchor := by
  unfold admDictWrite
  repeat' (first | (simp; done) | split | (refine (foldl_anchor _ ?_ _ _).trans ?_ <;> intros) | simp)

@[simp ↓] theorem putSdo_anchor (x0 : Nat) (x1 : Nat) (x2 : Option Abort) (x3 : List Byte) (s : State) :
    (putSdo x0 x1 x2 x3 s).anchor = s.anchor := by
  unfold putSdo
  repeat' (first | (simp; done) | split | (refine (foldl_anchor _ ?_ _ _).trans ?_ <;> intros) | simp)

@[simp ↓] theorem benchAbort_anchor (x0 : Abort) (s : State) : (benchAbort x0 s).anchor = s.anchor := by
  unfold benchAbort
  repeat' (first | (simp; done) | split | (refine (foldl_anchor _ ?_ _ _).trans ?_ <;> intros) | simp)

@[simp ↓] theorem benchRead_anchor (x0 : List Byte) (s : State) : (benchRead x0 s).anchor = s.anchor := by
  unfold benchRead
  repeat' (first | (simp; done) | split | (refine (foldl_anchor _ ?_ _ _).trans ?_ <;> intros) | simp)

@[simp ↓] theorem benchWrite_anchor (x0 : List Byte) (s : State) : (benchWrite x0 s).anchor = s.anchor := by
  unfold benchWrite
  repeat' (first | (simp; done) | split | (refine (foldl_anchor _ ?_ _ _).trans ?_ <;> intros) | simp)

@[simp ↓] theorem benchHarbour_anchor (x0 : List Byte) (s : State) : (benchHarbour x0 s).anchor = s.anchor := by
  unfold benchHarbour
  repeat' (first | (simp; done) | split | (refine (foldl_anchor _ ?_ _ _).trans ?_ <;> intros) | simp)

@[simp ↓] theorem benchReset_anchor (x0 : List Byte) (s : State) : (benchReset x0 s).anchor = s.anchor := by
  unfold benchReset
  repeat' (first | (simp; done) | split | (refine (foldl_anchor _ ?_ _ _).trans ?_ <;> intros) | simp)

@[simp ↓] theorem benchNorRead_anchor (x0 : List Byte) (s : State) : (benchNorRead x0 s).anchor = s.anchor := by
  unfold benchNorRead
  repeat' (first | (simp; done) | split | (refine (foldl_anchor _ ?_ _ _).trans ?_ <;> intros) | simp)

@[simp ↓] theorem benchServe_anchor (x0 : List Byte) (s : State) : (benchServe x0 s).anchor = s.anchor := by
  unfold benchServe
  repeat' (first | (simp; done) | split | (refine (foldl_anchor _ ?_ _ _).trans ?_ <;> intros) | simp)

@[simp ↓] theorem leaveSleep_anchor (x0 : Boot) (s : State) : (leaveSleep x0 s).anchor = s.anchor := by
  unfold leaveSleep
  repeat' (first | (simp; done) | split | (refine (foldl_anchor _ ?_ _ _).trans ?_ <;> intros) | simp)

@[simp ↓] theorem runIo_anchor (x0 : Src) (x1 : NvmeCmd) (x2 : Env) (s : State) : (runIo x0 x1 x2 s).anchor = s.anchor := by
  unfold runIo
  repeat' (first | (simp; done) | split | (refine (foldl_anchor _ ?_ _ _).trans ?_ <;> intros) | simp)

theorem unlessFault_anchor (src : Src) (fault : Option Status) (run : State → State) (s : State)
    (h : ∀ t, (run t).anchor = t.anchor) : (unlessFault src fault run s).anchor = s.anchor := by
  unfold unlessFault
  split
  · exact h s
  · split <;> simp [h]

@[simp ↓] theorem metErrors_anchor (x0 : Env) (s : State) : (metErrors x0 s).anchor = s.anchor := by
  unfold metErrors
  repeat' (first | (simp; done) | split | (refine (foldl_anchor _ ?_ _ _).trans ?_ <;> intros) | simp)

@[simp ↓] theorem ioCommand_anchor (x0 : Src) (x1 : NvmeCmd) (x2 : Env) (s : State) :
    (ioCommand x0 x1 x2 s).anchor = s.anchor := by
  unfold ioCommand
  simp [unlessFault_anchor _ _ _ _ (runIo_anchor x0 x1 x2)]

@[simp ↓] theorem dropInflight_anchor (x0 : Inflight) (s : State) : (dropInflight x0 s).anchor = s.anchor := by
  unfold dropInflight
  repeat' (first | (simp; done) | split | (refine (foldl_anchor _ ?_ _ _).trans ?_ <;> intros) | simp)

@[simp ↓] theorem startRow_anchor (x0 : Zone) (s : State) : (startRow x0 s).anchor = s.anchor := by
  unfold startRow
  repeat' (first | (simp; done) | split | (refine (foldl_anchor _ ?_ _ _).trans ?_ <;> intros) | simp)

@[simp ↓] theorem chargeStaging_anchor (x0 : List ((Nat × Nat) × Bool)) (x1 : Nat) (u : State) (s : State) :
    (chargeStaging x0 x1 u s).anchor = s.anchor := by
  unfold chargeStaging
  repeat' (first | (simp; done) | split | (refine (foldl_anchor _ ?_ _ _).trans ?_ <;> intros) | simp)

@[simp ↓] theorem stageZone_anchor (x0 : Zone) (s : State) : (stageZone x0 s).anchor = s.anchor := by
  unfold stageZone
  dsimp only
  split
  · rfl
  split
  · simp
  · rfl

@[simp ↓] theorem endOp_anchor (x0 : Nat) (x1 : Nat) (s : State) : (endOp x0 x1 s).anchor = s.anchor := by
  unfold endOp
  repeat' (first | (simp; done) | split | (refine (foldl_anchor _ ?_ _ _).trans ?_ <;> intros) | simp)

@[simp ↓] theorem rowPassed_anchor (x0 : Nat) (x1 : Nat) (x2 : FlashOp) (s : State) :
    (rowPassed x0 x1 x2 s).anchor = s.anchor := by
  unfold rowPassed
  repeat' (first | (simp; done) | split | (refine (foldl_anchor _ ?_ _ _).trans ?_ <;> intros) | simp)

@[simp ↓] theorem rowFailed_anchor (x0 : Nat) (x1 : Nat) (x2 : FlashOp) (s : State) :
    (rowFailed x0 x1 x2 s).anchor = s.anchor := by
  unfold rowFailed
  repeat' (first | (simp; done) | split | (refine (foldl_anchor _ ?_ _ _).trans ?_ <;> intros) | simp)

@[simp ↓] theorem readPassed_anchor (x0 : Nat) (x1 : Nat) (x2 : Nat) (x3 : Nat) (x4 : Nat) (x5 : List Nat)
    (x6 : List Nat) (x7 : FlashOp) (s : State) :
    (readPassed x0 x1 x2 x3 x4 x5 x6 x7 s).anchor = s.anchor := by
  unfold readPassed
  repeat' (first | (simp; done) | split | (refine (foldl_anchor _ ?_ _ _).trans ?_ <;> intros) | simp)

@[simp ↓] theorem reclaimRead_anchor (x0 : Nat) (x1 : Nat) (x2 : Nat) (x3 : FlashOp) (s : State) :
    (reclaimRead x0 x1 x2 x3 s).anchor = s.anchor := by
  unfold reclaimRead
  dsimp only
  repeat' (first | rfl | split)
  simpa using placeFdp_anchor _ _ _ _ _ _ _ (by assumption)

@[simp ↓] theorem reclaimErase_anchor (x0 : Nat) (x1 : Nat) (x2 : Nat) (x3 : FlashOp) (s : State) :
    (reclaimErase x0 x1 x2 x3 s).anchor = s.anchor := by
  unfold reclaimErase
  repeat' (first | (simp; done) | split | (refine (foldl_anchor _ ?_ _ _).trans ?_ <;> intros) | simp)

@[simp ↓] theorem speculate_anchor (x0 : Nat) (x1 : Nat) (x2 : Nat) (x3 : Nat) (x4 : FlashOp) (s : State) :
    (speculate x0 x1 x2 x3 x4 s).anchor = s.anchor := by
  unfold speculate
  repeat' (first | (simp; done) | split | (refine (foldl_anchor _ ?_ _ _).trans ?_ <;> intros) | simp)

@[simp ↓] theorem readEnded_anchor (x0 : Nat) (x1 : Nat) (x2 : Nat) (x3 : Nat) (x4 : Nat) (x5 : Nat) (x6 : List Nat)
    (x7 : List Nat) (x8 : FlashOp) (s : State) :
    (readEnded x0 x1 x2 x3 x4 x5 x6 x7 x8 s).anchor = s.anchor := by
  unfold readEnded
  repeat' (first | (simp; done) | split | (refine (foldl_anchor _ ?_ _ _).trans ?_ <;> intros) | simp)

@[simp ↓] theorem pollResult_anchor (x0 : Nat) (x1 : Nat) (x2 : FlashOp) (x3 : Poll) (s : State) :
    (pollResult x0 x1 x2 x3 s).anchor = s.anchor := by
  unfold pollResult
  repeat' (first | (simp; done) | split | (refine (foldl_anchor _ ?_ _ _).trans ?_ <;> intros) | simp)

@[simp ↓] theorem rebuildDone_anchor (s : State) : (rebuildDone s).anchor = s.anchor := by
  unfold rebuildDone
  repeat' (first | (simp; done) | split | (refine (foldl_anchor _ ?_ _ _).trans ?_ <;> intros) | simp)

@[simp ↓] theorem rebuildMember_anchor (x0 : Zone) (x1 : Nat) (x2 : Nat) (x3 : Nat) (x4 : Nat) (s : State) :
    (rebuildMember x0 x1 x2 x3 x4 s).anchor = s.anchor := by
  unfold rebuildMember
  repeat' (first | (simp; done) | split | (refine (foldl_anchor _ ?_ _ _).trans ?_ <;> intros) | simp)

@[simp ↓] theorem countPass_anchor (x0 : Bool) (s : State) : (countPass x0 s).anchor = s.anchor := by
  unfold countPass
  repeat' (first | (simp; done) | split | (refine (foldl_anchor _ ?_ _ _).trans ?_ <;> intros) | simp)

@[simp ↓] theorem spdmAnswer_anchor (x0 : PortId) (x1 : Nat) (x2 : List (List Byte)) (s : State) :
    (spdmAnswer x0 x1 x2 s).anchor = s.anchor := by
  unfold spdmAnswer
  repeat' (first | (simp; done) | split | (refine (foldl_anchor _ ?_ _ _).trans ?_ <;> intros) | simp)

@[simp ↓] theorem spdmMeasure_anchor (x0 : PortId) (x1 : Nat) (s : State) : (spdmMeasure x0 x1 s).anchor = s.anchor := by
  unfold spdmMeasure
  repeat' (first | (simp; done) | split | (refine (foldl_anchor _ ?_ _ _).trans ?_ <;> intros) | simp)

@[simp ↓] theorem idle_anchor (s : State) : (idle s).anchor = s.anchor := by
  unfold idle
  repeat' (first | (simp; done) | split | (refine (foldl_anchor _ ?_ _ _).trans ?_ <;> intros) | simp)

end Sys2Proof.Machine
end

