-- ==== Sys2Proof/Laws/State.lean ====
section
/-! SUPPORT. What each update of State leaves as it was, all of it true by unfolding: for each update one lemma for the queue,
clocks and phase, one for what start-up set, one for the host side and the flash, one for the drives and supplies. -/

namespace Sys2Proof.Machine

open Sys2Proof

@[simp] theorem putNum_clock (x0 : Nat) (x1 : Nat) (x2 : Nat) (s : State) :
    (putNum x0 x1 x2 s).pending = s.pending ∧ (putNum x0 x1 x2 s).clock = s.clock ∧
    (putNum x0 x1 x2 s).epochNs = s.epochNs ∧ (putNum x0 x1 x2 s).free = s.free ∧
    (putNum x0 x1 x2 s).phase = s.phase ∧ (putNum x0 x1 x2 s).ports = s.ports := by
  and_intros <;> rfl

@[simp] theorem putNum_start (x0 : Nat) (x1 : Nat) (x2 : Nat) (s : State) :
    (putNum x0 x1 x2 s).lockPassed = s.lockPassed ∧ (putNum x0 x1 x2 s).harbourCause = s.harbourCause ∧
    (putNum x0 x1 x2 s).tierState = s.tierState ∧ (putNum x0 x1 x2 s).servoPhase = s.servoPhase ∧
    (putNum x0 x1 x2 s).part = s.part ∧ (putNum x0 x1 x2 s).fw = s.fw := by
  and_intros <;> rfl

@[simp] theorem putNum_host (x0 : Nat) (x1 : Nat) (x2 : Nat) (s : State) :
    (putNum x0 x1 x2 s).evt = s.evt ∧ (putNum x0 x1 x2 s).ctrls = s.ctrls ∧ (putNum x0 x1 x2 s).hs = s.hs ∧
    (putNum x0 x1 x2 s).flash = s.flash ∧ (putNum x0 x1 x2 s).tide = s.tide ∧ (putNum x0 x1 x2 s).bw = s.bw ∧
    (putNum x0 x1 x2 s).mem = s.mem := by
  and_intros <;> rfl

@[simp] theorem putNum_drive (x0 : Nat) (x1 : Nat) (x2 : Nat) (s : State) :
    (putNum x0 x1 x2 s).ebb = s.ebb ∧ (putNum x0 x1 x2 s).bays = s.bays ∧ (putNum x0 x1 x2 s).adm = s.adm ∧
    (putNum x0 x1 x2 s).pwr = s.pwr ∧ (putNum x0 x1 x2 s).sup = s.sup := by
  and_intros <;> rfl

@[simp] theorem putDom_clock (x0 : Nat) (x1 : Nat) (x2 : List Byte) (s : State) :
    (putDom x0 x1 x2 s).pending = s.pending ∧ (putDom x0 x1 x2 s).clock = s.clock ∧
    (putDom x0 x1 x2 s).epochNs = s.epochNs ∧ (putDom x0 x1 x2 s).free = s.free ∧
    (putDom x0 x1 x2 s).phase = s.phase ∧ (putDom x0 x1 x2 s).ports = s.ports := by
  and_intros <;> rfl

@[simp] theorem putDom_start (x0 : Nat) (x1 : Nat) (x2 : List Byte) (s : State) :
    (putDom x0 x1 x2 s).lockPassed = s.lockPassed ∧ (putDom x0 x1 x2 s).harbourCause = s.harbourCause ∧
    (putDom x0 x1 x2 s).tierState = s.tierState ∧ (putDom x0 x1 x2 s).servoPhase = s.servoPhase ∧
    (putDom x0 x1 x2 s).part = s.part ∧ (putDom x0 x1 x2 s).fw = s.fw := by
  and_intros <;> rfl

@[simp] theorem putDom_host (x0 : Nat) (x1 : Nat) (x2 : List Byte) (s : State) :
    (putDom x0 x1 x2 s).evt = s.evt ∧ (putDom x0 x1 x2 s).ctrls = s.ctrls ∧ (putDom x0 x1 x2 s).hs = s.hs ∧
    (putDom x0 x1 x2 s).flash = s.flash ∧ (putDom x0 x1 x2 s).tide = s.tide ∧ (putDom x0 x1 x2 s).bw = s.bw ∧
    (putDom x0 x1 x2 s).mem = s.mem := by
  and_intros <;> rfl

@[simp] theorem putDom_drive (x0 : Nat) (x1 : Nat) (x2 : List Byte) (s : State) :
    (putDom x0 x1 x2 s).ebb = s.ebb ∧ (putDom x0 x1 x2 s).bays = s.bays ∧ (putDom x0 x1 x2 s).adm = s.adm ∧
    (putDom x0 x1 x2 s).pwr = s.pwr ∧ (putDom x0 x1 x2 s).sup = s.sup := by
  and_intros <;> rfl

@[simp] theorem spend_clock (s : State) :
    (spend s).pending = s.pending ∧ (spend s).clock = s.clock ∧ (spend s).epochNs = s.epochNs ∧
    (spend s).phase = s.phase ∧ (spend s).ports = s.ports := by
  and_intros <;> rfl

@[simp] theorem spend_start (s : State) :
    (spend s).lockPassed = s.lockPassed ∧ (spend s).harbourCause = s.harbourCause ∧
    (spend s).tierState = s.tierState ∧ (spend s).servoPhase = s.servoPhase ∧ (spend s).part = s.part ∧
    (spend s).fw = s.fw := by
  and_intros <;> rfl

@[simp] theorem spend_host (s : State) :
    (spend s).evt = s.evt ∧ (spend s).ctrls = s.ctrls ∧ (spend s).hs = s.hs ∧ (spend s).flash = s.flash ∧
    (spend s).tide = s.tide ∧ (spend s).bw = s.bw ∧ (spend s).mem = s.mem := by
  and_intros <;> rfl

@[simp] theorem spend_drive (s : State) :
    (spend s).ebb = s.ebb ∧ (spend s).bays = s.bays ∧ (spend s).doors = s.doors ∧ (spend s).adm = s.adm ∧
    (spend s).pwr = s.pwr ∧ (spend s).sup = s.sup := by
  and_intros <;> rfl

@[simp] theorem modBay_clock (x0 : BayId) (x1 : Bay → Bay) (s : State) :
    (modBay x0 x1 s).pending = s.pending ∧ (modBay x0 x1 s).clock = s.clock ∧ (modBay x0 x1 s).epochNs = s.epochNs ∧
    (modBay x0 x1 s).free = s.free ∧ (modBay x0 x1 s).phase = s.phase ∧ (modBay x0 x1 s).ports = s.ports := by
  and_intros <;> rfl

@[simp] theorem modBay_start (x0 : BayId) (x1 : Bay → Bay) (s : State) :
    (modBay x0 x1 s).lockPassed = s.lockPassed ∧ (modBay x0 x1 s).harbourCause = s.harbourCause ∧
    (modBay x0 x1 s).tierState = s.tierState ∧ (modBay x0 x1 s).servoPhase = s.servoPhase ∧
    (modBay x0 x1 s).part = s.part ∧ (modBay x0 x1 s).fw = s.fw := by
  and_intros <;> rfl

@[simp] theorem modBay_host (x0 : BayId) (x1 : Bay → Bay) (s : State) :
    (modBay x0 x1 s).evt = s.evt ∧ (modBay x0 x1 s).ctrls = s.ctrls ∧ (modBay x0 x1 s).hs = s.hs ∧
    (modBay x0 x1 s).flash = s.flash ∧ (modBay x0 x1 s).tide = s.tide ∧ (modBay x0 x1 s).bw = s.bw ∧
    (modBay x0 x1 s).mem = s.mem := by
  and_intros <;> rfl

@[simp] theorem modBay_drive (x0 : BayId) (x1 : Bay → Bay) (s : State) :
    (modBay x0 x1 s).ebb = s.ebb ∧ (modBay x0 x1 s).doors = s.doors ∧ (modBay x0 x1 s).adm = s.adm ∧
    (modBay x0 x1 s).pwr = s.pwr ∧ (modBay x0 x1 s).sup = s.sup := by
  and_intros <;> rfl

@[simp] theorem modCtrl_clock (x0 : PortId) (x1 : Ctrl → Ctrl) (s : State) :
    (modCtrl x0 x1 s).pending = s.pending ∧ (modCtrl x0 x1 s).clock = s.clock ∧
    (modCtrl x0 x1 s).epochNs = s.epochNs ∧ (modCtrl x0 x1 s).free = s.free ∧ (modCtrl x0 x1 s).phase = s.phase ∧
    (modCtrl x0 x1 s).ports = s.ports := by
  and_intros <;> rfl

@[simp] theorem modCtrl_start (x0 : PortId) (x1 : Ctrl → Ctrl) (s : State) :
    (modCtrl x0 x1 s).lockPassed = s.lockPassed ∧ (modCtrl x0 x1 s).harbourCause = s.harbourCause ∧
    (modCtrl x0 x1 s).tierState = s.tierState ∧ (modCtrl x0 x1 s).servoPhase = s.servoPhase ∧
    (modCtrl x0 x1 s).part = s.part ∧ (modCtrl x0 x1 s).fw = s.fw := by
  and_intros <;> rfl

@[simp] theorem modCtrl_host (x0 : PortId) (x1 : Ctrl → Ctrl) (s : State) :
    (modCtrl x0 x1 s).evt = s.evt ∧ (modCtrl x0 x1 s).hs = s.hs ∧ (modCtrl x0 x1 s).flash = s.flash ∧
    (modCtrl x0 x1 s).tide = s.tide ∧ (modCtrl x0 x1 s).bw = s.bw ∧ (modCtrl x0 x1 s).mem = s.mem := by
  and_intros <;> rfl

@[simp] theorem modCtrl_drive (x0 : PortId) (x1 : Ctrl → Ctrl) (s : State) :
    (modCtrl x0 x1 s).ebb = s.ebb ∧ (modCtrl x0 x1 s).bays = s.bays ∧ (modCtrl x0 x1 s).doors = s.doors ∧
    (modCtrl x0 x1 s).adm = s.adm ∧ (modCtrl x0 x1 s).pwr = s.pwr ∧ (modCtrl x0 x1 s).sup = s.sup := by
  and_intros <;> rfl

@[simp] theorem tideRecord_clock (s : State) :
    (tideRecord s).pending = s.pending ∧ (tideRecord s).clock = s.clock ∧ (tideRecord s).epochNs = s.epochNs ∧
    (tideRecord s).free = s.free ∧ (tideRecord s).phase = s.phase ∧ (tideRecord s).ports = s.ports := by
  and_intros <;> rfl

@[simp] theorem tideRecord_start (s : State) :
    (tideRecord s).lockPassed = s.lockPassed ∧ (tideRecord s).harbourCause = s.harbourCause ∧
    (tideRecord s).tierState = s.tierState ∧ (tideRecord s).servoPhase = s.servoPhase ∧
    (tideRecord s).part = s.part ∧ (tideRecord s).fw = s.fw := by
  and_intros <;> rfl

@[simp] theorem tideRecord_host (s : State) :
    (tideRecord s).evt = s.evt ∧ (tideRecord s).ctrls = s.ctrls ∧ (tideRecord s).hs = s.hs ∧
    (tideRecord s).flash = s.flash ∧ (tideRecord s).bw = s.bw ∧ (tideRecord s).mem = s.mem := by
  and_intros <;> rfl

@[simp] theorem tideRecord_drive (s : State) :
    (tideRecord s).ebb = s.ebb ∧ (tideRecord s).bays = s.bays ∧ (tideRecord s).doors = s.doors ∧
    (tideRecord s).adm = s.adm ∧ (tideRecord s).pwr = s.pwr ∧ (tideRecord s).sup = s.sup := by
  and_intros <;> rfl

@[simp] theorem passLock_clock (s : State) :
    (passLock s).pending = s.pending ∧ (passLock s).clock = s.clock ∧ (passLock s).epochNs = s.epochNs ∧
    (passLock s).free = s.free ∧ (passLock s).phase = s.phase ∧ (passLock s).ports = s.ports := by
  and_intros <;> rfl

@[simp] theorem passLock_start (s : State) :
    (passLock s).harbourCause = s.harbourCause ∧ (passLock s).tierState = s.tierState ∧
    (passLock s).servoPhase = s.servoPhase ∧ (passLock s).part = s.part ∧ (passLock s).fw = s.fw := by
  and_intros <;> rfl

@[simp] theorem passLock_host (s : State) :
    (passLock s).evt = s.evt ∧ (passLock s).ctrls = s.ctrls ∧ (passLock s).hs = s.hs ∧ (passLock s).flash = s.flash ∧
    (passLock s).tide = s.tide ∧ (passLock s).bw = s.bw ∧ (passLock s).mem = s.mem := by
  and_intros <;> rfl

@[simp] theorem passLock_drive (s : State) :
    (passLock s).ebb = s.ebb ∧ (passLock s).bays = s.bays ∧ (passLock s).doors = s.doors ∧ (passLock s).adm = s.adm ∧
    (passLock s).pwr = s.pwr ∧ (passLock s).sup = s.sup := by
  and_intros <;> rfl

@[simp] theorem modSq_clock (x0 : PortId) (x1 : Nat) (x2 : Sq → Sq) (s : State) :
    (modSq x0 x1 x2 s).pending = s.pending ∧ (modSq x0 x1 x2 s).clock = s.clock ∧
    (modSq x0 x1 x2 s).epochNs = s.epochNs ∧ (modSq x0 x1 x2 s).free = s.free ∧ (modSq x0 x1 x2 s).phase = s.phase ∧
    (modSq x0 x1 x2 s).ports = s.ports := by
  and_intros <;> rfl

@[simp] theorem modSq_start (x0 : PortId) (x1 : Nat) (x2 : Sq → Sq) (s : State) :
    (modSq x0 x1 x2 s).lockPassed = s.lockPassed ∧ (modSq x0 x1 x2 s).harbourCause = s.harbourCause ∧
    (modSq x0 x1 x2 s).tierState = s.tierState ∧ (modSq x0 x1 x2 s).servoPhase = s.servoPhase ∧
    (modSq x0 x1 x2 s).part = s.part ∧ (modSq x0 x1 x2 s).fw = s.fw := by
  and_intros <;> rfl

@[simp] theorem modSq_host (x0 : PortId) (x1 : Nat) (x2 : Sq → Sq) (s : State) :
    (modSq x0 x1 x2 s).evt = s.evt ∧ (modSq x0 x1 x2 s).hs = s.hs ∧ (modSq x0 x1 x2 s).flash = s.flash ∧
    (modSq x0 x1 x2 s).tide = s.tide ∧ (modSq x0 x1 x2 s).bw = s.bw ∧ (modSq x0 x1 x2 s).mem = s.mem := by
  and_intros <;> rfl

@[simp] theorem modSq_drive (x0 : PortId) (x1 : Nat) (x2 : Sq → Sq) (s : State) :
    (modSq x0 x1 x2 s).ebb = s.ebb ∧ (modSq x0 x1 x2 s).bays = s.bays ∧ (modSq x0 x1 x2 s).doors = s.doors ∧
    (modSq x0 x1 x2 s).adm = s.adm ∧ (modSq x0 x1 x2 s).pwr = s.pwr ∧ (modSq x0 x1 x2 s).sup = s.sup := by
  and_intros <;> rfl

@[simp] theorem modCq_clock (x0 : PortId) (x1 : Nat) (x2 : Cq → Cq) (s : State) :
    (modCq x0 x1 x2 s).pending = s.pending ∧ (modCq x0 x1 x2 s).clock = s.clock ∧
    (modCq x0 x1 x2 s).epochNs = s.epochNs ∧ (modCq x0 x1 x2 s).free = s.free ∧ (modCq x0 x1 x2 s).phase = s.phase ∧
    (modCq x0 x1 x2 s).ports = s.ports := by
  and_intros <;> rfl

@[simp] theorem modCq_start (x0 : PortId) (x1 : Nat) (x2 : Cq → Cq) (s : State) :
    (modCq x0 x1 x2 s).lockPassed = s.lockPassed ∧ (modCq x0 x1 x2 s).harbourCause = s.harbourCause ∧
    (modCq x0 x1 x2 s).tierState = s.tierState ∧ (modCq x0 x1 x2 s).servoPhase = s.servoPhase ∧
    (modCq x0 x1 x2 s).part = s.part ∧ (modCq x0 x1 x2 s).fw = s.fw := by
  and_intros <;> rfl

@[simp] theorem modCq_host (x0 : PortId) (x1 : Nat) (x2 : Cq → Cq) (s : State) :
    (modCq x0 x1 x2 s).evt = s.evt ∧ (modCq x0 x1 x2 s).hs = s.hs ∧ (modCq x0 x1 x2 s).flash = s.flash ∧
    (modCq x0 x1 x2 s).tide = s.tide ∧ (modCq x0 x1 x2 s).bw = s.bw ∧ (modCq x0 x1 x2 s).mem = s.mem := by
  and_intros <;> rfl

@[simp] theorem modCq_drive (x0 : PortId) (x1 : Nat) (x2 : Cq → Cq) (s : State) :
    (modCq x0 x1 x2 s).ebb = s.ebb ∧ (modCq x0 x1 x2 s).bays = s.bays ∧ (modCq x0 x1 x2 s).doors = s.doors ∧
    (modCq x0 x1 x2 s).adm = s.adm ∧ (modCq x0 x1 x2 s).pwr = s.pwr ∧ (modCq x0 x1 x2 s).sup = s.sup := by
  and_intros <;> rfl

@[simp] theorem logError_clock (x0 : Src) (x1 : Completion) (s : State) :
    (logError x0 x1 s).pending = s.pending ∧ (logError x0 x1 s).clock = s.clock ∧
    (logError x0 x1 s).epochNs = s.epochNs ∧ (logError x0 x1 s).free = s.free ∧ (logError x0 x1 s).phase = s.phase ∧
    (logError x0 x1 s).ports = s.ports := by
  and_intros <;> rfl

@[simp] theorem logError_start (x0 : Src) (x1 : Completion) (s : State) :
    (logError x0 x1 s).lockPassed = s.lockPassed ∧ (logError x0 x1 s).harbourCause = s.harbourCause ∧
    (logError x0 x1 s).tierState = s.tierState ∧ (logError x0 x1 s).servoPhase = s.servoPhase ∧
    (logError x0 x1 s).part = s.part ∧ (logError x0 x1 s).fw = s.fw := by
  and_intros <;> rfl

@[simp] theorem logError_host (x0 : Src) (x1 : Completion) (s : State) :
    (logError x0 x1 s).evt = s.evt ∧ (logError x0 x1 s).ctrls = s.ctrls ∧ (logError x0 x1 s).flash = s.flash ∧
    (logError x0 x1 s).tide = s.tide ∧ (logError x0 x1 s).bw = s.bw ∧ (logError x0 x1 s).mem = s.mem := by
  and_intros <;> rfl

@[simp] theorem logError_drive (x0 : Src) (x1 : Completion) (s : State) :
    (logError x0 x1 s).ebb = s.ebb ∧ (logError x0 x1 s).bays = s.bays ∧ (logError x0 x1 s).doors = s.doors ∧
    (logError x0 x1 s).adm = s.adm ∧ (logError x0 x1 s).pwr = s.pwr ∧ (logError x0 x1 s).sup = s.sup := by
  and_intros <;> rfl

@[simp] theorem putLog_clock (x0 : Nat) (x1 : List EventRec) (s : State) :
    (putLog x0 x1 s).pending = s.pending ∧ (putLog x0 x1 s).clock = s.clock ∧ (putLog x0 x1 s).epochNs = s.epochNs ∧
    (putLog x0 x1 s).free = s.free ∧ (putLog x0 x1 s).phase = s.phase ∧ (putLog x0 x1 s).ports = s.ports := by
  and_intros <;> rfl

@[simp] theorem putLog_start (x0 : Nat) (x1 : List EventRec) (s : State) :
    (putLog x0 x1 s).lockPassed = s.lockPassed ∧ (putLog x0 x1 s).harbourCause = s.harbourCause ∧
    (putLog x0 x1 s).tierState = s.tierState ∧ (putLog x0 x1 s).servoPhase = s.servoPhase ∧
    (putLog x0 x1 s).part = s.part ∧ (putLog x0 x1 s).fw = s.fw := by
  and_intros <;> rfl

@[simp] theorem putLog_host (x0 : Nat) (x1 : List EventRec) (s : State) :
    (putLog x0 x1 s).ctrls = s.ctrls ∧ (putLog x0 x1 s).hs = s.hs ∧ (putLog x0 x1 s).flash = s.flash ∧
    (putLog x0 x1 s).tide = s.tide ∧ (putLog x0 x1 s).bw = s.bw ∧ (putLog x0 x1 s).mem = s.mem := by
  and_intros <;> rfl

@[simp] theorem putLog_drive (x0 : Nat) (x1 : List EventRec) (s : State) :
    (putLog x0 x1 s).ebb = s.ebb ∧ (putLog x0 x1 s).bays = s.bays ∧ (putLog x0 x1 s).doors = s.doors ∧
    (putLog x0 x1 s).adm = s.adm ∧ (putLog x0 x1 s).pwr = s.pwr ∧ (putLog x0 x1 s).sup = s.sup := by
  and_intros <;> rfl

@[simp] theorem pushRecord_clock (x0 : EventRec) (s : State) :
    (pushRecord x0 s).pending = s.pending ∧ (pushRecord x0 s).clock = s.clock ∧
    (pushRecord x0 s).epochNs = s.epochNs ∧ (pushRecord x0 s).free = s.free ∧ (pushRecord x0 s).phase = s.phase ∧
    (pushRecord x0 s).ports = s.ports := by
  and_intros <;> rfl

@[simp] theorem pushRecord_start (x0 : EventRec) (s : State) :
    (pushRecord x0 s).lockPassed = s.lockPassed ∧ (pushRecord x0 s).harbourCause = s.harbourCause ∧
    (pushRecord x0 s).tierState = s.tierState ∧ (pushRecord x0 s).servoPhase = s.servoPhase ∧
    (pushRecord x0 s).part = s.part ∧ (pushRecord x0 s).fw = s.fw := by
  and_intros <;> rfl

@[simp] theorem pushRecord_host (x0 : EventRec) (s : State) :
    (pushRecord x0 s).ctrls = s.ctrls ∧ (pushRecord x0 s).hs = s.hs ∧ (pushRecord x0 s).flash = s.flash ∧
    (pushRecord x0 s).tide = s.tide ∧ (pushRecord x0 s).bw = s.bw ∧ (pushRecord x0 s).mem = s.mem := by
  and_intros <;> rfl

@[simp] theorem pushRecord_drive (x0 : EventRec) (s : State) :
    (pushRecord x0 s).ebb = s.ebb ∧ (pushRecord x0 s).bays = s.bays ∧ (pushRecord x0 s).doors = s.doors ∧
    (pushRecord x0 s).adm = s.adm ∧ (pushRecord x0 s).pwr = s.pwr ∧ (pushRecord x0 s).sup = s.sup := by
  and_intros <;> rfl

@[simp] theorem modDisc_clock (x0 : Nat) (x1 : Nat) (x2 : SetDisc → SetDisc) (s : State) :
    (modDisc x0 x1 x2 s).pending = s.pending ∧ (modDisc x0 x1 x2 s).clock = s.clock ∧
    (modDisc x0 x1 x2 s).epochNs = s.epochNs ∧ (modDisc x0 x1 x2 s).free = s.free ∧
    (modDisc x0 x1 x2 s).phase = s.phase ∧ (modDisc x0 x1 x2 s).ports = s.ports := by
  and_intros <;> rfl

@[simp] theorem modDisc_start (x0 : Nat) (x1 : Nat) (x2 : SetDisc → SetDisc) (s : State) :
    (modDisc x0 x1 x2 s).lockPassed = s.lockPassed ∧ (modDisc x0 x1 x2 s).harbourCause = s.harbourCause ∧
    (modDisc x0 x1 x2 s).tierState = s.tierState ∧ (modDisc x0 x1 x2 s).servoPhase = s.servoPhase ∧
    (modDisc x0 x1 x2 s).part = s.part ∧ (modDisc x0 x1 x2 s).fw = s.fw := by
  and_intros <;> rfl

@[simp] theorem modDisc_host (x0 : Nat) (x1 : Nat) (x2 : SetDisc → SetDisc) (s : State) :
    (modDisc x0 x1 x2 s).evt = s.evt ∧ (modDisc x0 x1 x2 s).ctrls = s.ctrls ∧ (modDisc x0 x1 x2 s).hs = s.hs ∧
    (modDisc x0 x1 x2 s).flash = s.flash ∧ (modDisc x0 x1 x2 s).tide = s.tide ∧ (modDisc x0 x1 x2 s).bw = s.bw ∧
    (modDisc x0 x1 x2 s).mem = s.mem := by
  and_intros <;> rfl

@[simp] theorem modDisc_drive (x0 : Nat) (x1 : Nat) (x2 : SetDisc → SetDisc) (s : State) :
    (modDisc x0 x1 x2 s).bays = s.bays ∧ (modDisc x0 x1 x2 s).doors = s.doors ∧ (modDisc x0 x1 x2 s).adm = s.adm ∧
    (modDisc x0 x1 x2 s).pwr = s.pwr ∧ (modDisc x0 x1 x2 s).sup = s.sup := by
  and_intros <;> rfl

@[simp] theorem setMode_clock (x0 : BayId) (x1 : Nat) (x2 : Nat) (s : State) :
    (setMode x0 x1 x2 s).pending = s.pending ∧ (setMode x0 x1 x2 s).clock = s.clock ∧
    (setMode x0 x1 x2 s).epochNs = s.epochNs ∧ (setMode x0 x1 x2 s).free = s.free ∧
    (setMode x0 x1 x2 s).phase = s.phase ∧ (setMode x0 x1 x2 s).ports = s.ports := by
  and_intros <;> rfl

@[simp] theorem setMode_start (x0 : BayId) (x1 : Nat) (x2 : Nat) (s : State) :
    (setMode x0 x1 x2 s).lockPassed = s.lockPassed ∧ (setMode x0 x1 x2 s).harbourCause = s.harbourCause ∧
    (setMode x0 x1 x2 s).tierState = s.tierState ∧ (setMode x0 x1 x2 s).servoPhase = s.servoPhase ∧
    (setMode x0 x1 x2 s).part = s.part ∧ (setMode x0 x1 x2 s).fw = s.fw := by
  and_intros <;> rfl

@[simp] theorem setMode_host (x0 : BayId) (x1 : Nat) (x2 : Nat) (s : State) :
    (setMode x0 x1 x2 s).evt = s.evt ∧ (setMode x0 x1 x2 s).ctrls = s.ctrls ∧ (setMode x0 x1 x2 s).hs = s.hs ∧
    (setMode x0 x1 x2 s).flash = s.flash ∧ (setMode x0 x1 x2 s).tide = s.tide ∧ (setMode x0 x1 x2 s).bw = s.bw ∧
    (setMode x0 x1 x2 s).mem = s.mem := by
  and_intros <;> rfl

@[simp] theorem setMode_drive (x0 : BayId) (x1 : Nat) (x2 : Nat) (s : State) :
    (setMode x0 x1 x2 s).ebb = s.ebb ∧ (setMode x0 x1 x2 s).doors = s.doors ∧ (setMode x0 x1 x2 s).adm = s.adm ∧
    (setMode x0 x1 x2 s).pwr = s.pwr ∧ (setMode x0 x1 x2 s).sup = s.sup := by
  and_intros <;> rfl

@[simp] theorem modBucket_clock (x0 : Nat) (x1 : Bucket → Bucket) (s : State) :
    (modBucket x0 x1 s).pending = s.pending ∧ (modBucket x0 x1 s).clock = s.clock ∧
    (modBucket x0 x1 s).epochNs = s.epochNs ∧ (modBucket x0 x1 s).free = s.free ∧
    (modBucket x0 x1 s).phase = s.phase ∧ (modBucket x0 x1 s).ports = s.ports := by
  and_intros <;> rfl

@[simp] theorem modBucket_start (x0 : Nat) (x1 : Bucket → Bucket) (s : State) :
    (modBucket x0 x1 s).lockPassed = s.lockPassed ∧ (modBucket x0 x1 s).harbourCause = s.harbourCause ∧
    (modBucket x0 x1 s).tierState = s.tierState ∧ (modBucket x0 x1 s).servoPhase = s.servoPhase ∧
    (modBucket x0 x1 s).part = s.part ∧ (modBucket x0 x1 s).fw = s.fw := by
  and_intros <;> rfl

@[simp] theorem modBucket_host (x0 : Nat) (x1 : Bucket → Bucket) (s : State) :
    (modBucket x0 x1 s).evt = s.evt ∧ (modBucket x0 x1 s).ctrls = s.ctrls ∧ (modBucket x0 x1 s).hs = s.hs ∧
    (modBucket x0 x1 s).flash = s.flash ∧ (modBucket x0 x1 s).tide = s.tide ∧ (modBucket x0 x1 s).bw = s.bw := by
  and_intros <;> rfl

@[simp] theorem modBucket_drive (x0 : Nat) (x1 : Bucket → Bucket) (s : State) :
    (modBucket x0 x1 s).ebb = s.ebb ∧ (modBucket x0 x1 s).bays = s.bays ∧ (modBucket x0 x1 s).doors = s.doors ∧
    (modBucket x0 x1 s).adm = s.adm ∧ (modBucket x0 x1 s).pwr = s.pwr ∧ (modBucket x0 x1 s).sup = s.sup := by
  and_intros <;> rfl

@[simp] theorem settleCount_clock (x0 : BayId) (x1 : Int) (s : State) :
    (settleCount x0 x1 s).pending = s.pending ∧ (settleCount x0 x1 s).clock = s.clock ∧
    (settleCount x0 x1 s).epochNs = s.epochNs ∧ (settleCount x0 x1 s).free = s.free ∧
    (settleCount x0 x1 s).phase = s.phase ∧ (settleCount x0 x1 s).ports = s.ports := by
  and_intros <;> rfl

@[simp] theorem settleCount_start (x0 : BayId) (x1 : Int) (s : State) :
    (settleCount x0 x1 s).lockPassed = s.lockPassed ∧ (settleCount x0 x1 s).harbourCause = s.harbourCause ∧
    (settleCount x0 x1 s).tierState = s.tierState ∧ (settleCount x0 x1 s).servoPhase = s.servoPhase ∧
    (settleCount x0 x1 s).part = s.part ∧ (settleCount x0 x1 s).fw = s.fw := by
  and_intros <;> rfl

@[simp] theorem settleCount_host (x0 : BayId) (x1 : Int) (s : State) :
    (settleCount x0 x1 s).evt = s.evt ∧ (settleCount x0 x1 s).ctrls = s.ctrls ∧ (settleCount x0 x1 s).hs = s.hs ∧
    (settleCount x0 x1 s).flash = s.flash ∧ (settleCount x0 x1 s).tide = s.tide ∧ (settleCount x0 x1 s).bw = s.bw ∧
    (settleCount x0 x1 s).mem = s.mem := by
  and_intros <;> rfl

@[simp] theorem settleCount_drive (x0 : BayId) (x1 : Int) (s : State) :
    (settleCount x0 x1 s).ebb = s.ebb ∧ (settleCount x0 x1 s).doors = s.doors ∧ (settleCount x0 x1 s).adm = s.adm ∧
    (settleCount x0 x1 s).pwr = s.pwr ∧ (settleCount x0 x1 s).sup = s.sup := by
  and_intros <;> rfl

@[simp] theorem spendN_clock (x0 : Nat) (s : State) :
    (spendN x0 s).pending = s.pending ∧ (spendN x0 s).clock = s.clock ∧ (spendN x0 s).epochNs = s.epochNs ∧
    (spendN x0 s).phase = s.phase ∧ (spendN x0 s).ports = s.ports := by
  and_intros <;> rfl

@[simp] theorem spendN_start (x0 : Nat) (s : State) :
    (spendN x0 s).lockPassed = s.lockPassed ∧ (spendN x0 s).harbourCause = s.harbourCause ∧
    (spendN x0 s).tierState = s.tierState ∧ (spendN x0 s).servoPhase = s.servoPhase ∧ (spendN x0 s).part = s.part ∧
    (spendN x0 s).fw = s.fw := by
  and_intros <;> rfl

@[simp] theorem spendN_host (x0 : Nat) (s : State) :
    (spendN x0 s).evt = s.evt ∧ (spendN x0 s).ctrls = s.ctrls ∧ (spendN x0 s).hs = s.hs ∧
    (spendN x0 s).flash = s.flash ∧ (spendN x0 s).tide = s.tide ∧ (spendN x0 s).bw = s.bw ∧
    (spendN x0 s).mem = s.mem := by
  and_intros <;> rfl

@[simp] theorem spendN_drive (x0 : Nat) (s : State) :
    (spendN x0 s).ebb = s.ebb ∧ (spendN x0 s).bays = s.bays ∧ (spendN x0 s).doors = s.doors ∧
    (spendN x0 s).adm = s.adm ∧ (spendN x0 s).pwr = s.pwr ∧ (spendN x0 s).sup = s.sup := by
  and_intros <;> rfl

@[simp] theorem modNs_clock (x0 : Nat) (x1 : Ns → Ns) (s : State) :
    (modNs x0 x1 s).pending = s.pending ∧ (modNs x0 x1 s).clock = s.clock ∧ (modNs x0 x1 s).epochNs = s.epochNs ∧
    (modNs x0 x1 s).free = s.free ∧ (modNs x0 x1 s).phase = s.phase ∧ (modNs x0 x1 s).ports = s.ports := by
  and_intros <;> rfl

@[simp] theorem modNs_start (x0 : Nat) (x1 : Ns → Ns) (s : State) :
    (modNs x0 x1 s).lockPassed = s.lockPassed ∧ (modNs x0 x1 s).harbourCause = s.harbourCause ∧
    (modNs x0 x1 s).tierState = s.tierState ∧ (modNs x0 x1 s).servoPhase = s.servoPhase ∧
    (modNs x0 x1 s).part = s.part ∧ (modNs x0 x1 s).fw = s.fw := by
  and_intros <;> rfl

@[simp] theorem modNs_host (x0 : Nat) (x1 : Ns → Ns) (s : State) :
    (modNs x0 x1 s).evt = s.evt ∧ (modNs x0 x1 s).ctrls = s.ctrls ∧ (modNs x0 x1 s).flash = s.flash ∧
    (modNs x0 x1 s).tide = s.tide ∧ (modNs x0 x1 s).bw = s.bw ∧ (modNs x0 x1 s).mem = s.mem := by
  and_intros <;> rfl

@[simp] theorem modNs_drive (x0 : Nat) (x1 : Ns → Ns) (s : State) :
    (modNs x0 x1 s).ebb = s.ebb ∧ (modNs x0 x1 s).bays = s.bays ∧ (modNs x0 x1 s).doors = s.doors ∧
    (modNs x0 x1 s).adm = s.adm ∧ (modNs x0 x1 s).pwr = s.pwr ∧ (modNs x0 x1 s).sup = s.sup := by
  and_intros <;> rfl

@[simp] theorem setZone_clock (x0 : Zone) (s : State) :
    (setZone x0 s).pending = s.pending ∧ (setZone x0 s).clock = s.clock ∧ (setZone x0 s).epochNs = s.epochNs ∧
    (setZone x0 s).free = s.free ∧ (setZone x0 s).phase = s.phase ∧ (setZone x0 s).ports = s.ports := by
  and_intros <;> rfl

@[simp] theorem setZone_start (x0 : Zone) (s : State) :
    (setZone x0 s).lockPassed = s.lockPassed ∧ (setZone x0 s).harbourCause = s.harbourCause ∧
    (setZone x0 s).tierState = s.tierState ∧ (setZone x0 s).servoPhase = s.servoPhase ∧
    (setZone x0 s).part = s.part ∧ (setZone x0 s).fw = s.fw := by
  and_intros <;> rfl

@[simp] theorem setZone_host (x0 : Zone) (s : State) :
    (setZone x0 s).evt = s.evt ∧ (setZone x0 s).ctrls = s.ctrls ∧ (setZone x0 s).flash = s.flash ∧
    (setZone x0 s).bw = s.bw ∧ (setZone x0 s).mem = s.mem := by
  and_intros <;> rfl

@[simp] theorem setZone_drive (x0 : Zone) (s : State) :
    (setZone x0 s).ebb = s.ebb ∧ (setZone x0 s).bays = s.bays ∧ (setZone x0 s).doors = s.doors ∧
    (setZone x0 s).adm = s.adm ∧ (setZone x0 s).pwr = s.pwr ∧ (setZone x0 s).sup = s.sup := by
  and_intros <;> rfl

@[simp] theorem modVol_clock (x0 : Nat) (x1 : Vol → Vol) (s : State) :
    (modVol x0 x1 s).pending = s.pending ∧ (modVol x0 x1 s).clock = s.clock ∧ (modVol x0 x1 s).epochNs = s.epochNs ∧
    (modVol x0 x1 s).free = s.free ∧ (modVol x0 x1 s).phase = s.phase ∧ (modVol x0 x1 s).ports = s.ports := by
  and_intros <;> rfl

@[simp] theorem modVol_start (x0 : Nat) (x1 : Vol → Vol) (s : State) :
    (modVol x0 x1 s).lockPassed = s.lockPassed ∧ (modVol x0 x1 s).harbourCause = s.harbourCause ∧
    (modVol x0 x1 s).tierState = s.tierState ∧ (modVol x0 x1 s).servoPhase = s.servoPhase ∧
    (modVol x0 x1 s).part = s.part ∧ (modVol x0 x1 s).fw = s.fw := by
  and_intros <;> rfl

@[simp] theorem modVol_host (x0 : Nat) (x1 : Vol → Vol) (s : State) :
    (modVol x0 x1 s).evt = s.evt ∧ (modVol x0 x1 s).ctrls = s.ctrls ∧ (modVol x0 x1 s).hs = s.hs ∧
    (modVol x0 x1 s).tide = s.tide ∧ (modVol x0 x1 s).bw = s.bw ∧ (modVol x0 x1 s).mem = s.mem := by
  and_intros <;> rfl

@[simp] theorem modVol_drive (x0 : Nat) (x1 : Vol → Vol) (s : State) :
    (modVol x0 x1 s).ebb = s.ebb ∧ (modVol x0 x1 s).bays = s.bays ∧ (modVol x0 x1 s).doors = s.doors ∧
    (modVol x0 x1 s).adm = s.adm ∧ (modVol x0 x1 s).pwr = s.pwr ∧ (modVol x0 x1 s).sup = s.sup := by
  and_intros <;> rfl

@[simp] theorem modDie_clock (x0 : Nat) (x1 : Nat) (x2 : Die → Die) (s : State) :
    (modDie x0 x1 x2 s).pending = s.pending ∧ (modDie x0 x1 x2 s).clock = s.clock ∧
    (modDie x0 x1 x2 s).epochNs = s.epochNs ∧ (modDie x0 x1 x2 s).free = s.free ∧
    (modDie x0 x1 x2 s).phase = s.phase ∧ (modDie x0 x1 x2 s).ports = s.ports := by
  and_intros <;> rfl

@[simp] theorem modDie_start (x0 : Nat) (x1 : Nat) (x2 : Die → Die) (s : State) :
    (modDie x0 x1 x2 s).lockPassed = s.lockPassed ∧ (modDie x0 x1 x2 s).harbourCause = s.harbourCause ∧
    (modDie x0 x1 x2 s).tierState = s.tierState ∧ (modDie x0 x1 x2 s).servoPhase = s.servoPhase ∧
    (modDie x0 x1 x2 s).part = s.part ∧ (modDie x0 x1 x2 s).fw = s.fw := by
  and_intros <;> rfl

@[simp] theorem modDie_host (x0 : Nat) (x1 : Nat) (x2 : Die → Die) (s : State) :
    (modDie x0 x1 x2 s).evt = s.evt ∧ (modDie x0 x1 x2 s).ctrls = s.ctrls ∧ (modDie x0 x1 x2 s).hs = s.hs ∧
    (modDie x0 x1 x2 s).tide = s.tide ∧ (modDie x0 x1 x2 s).bw = s.bw ∧ (modDie x0 x1 x2 s).mem = s.mem := by
  and_intros <;> rfl

@[simp] theorem modDie_drive (x0 : Nat) (x1 : Nat) (x2 : Die → Die) (s : State) :
    (modDie x0 x1 x2 s).ebb = s.ebb ∧ (modDie x0 x1 x2 s).bays = s.bays ∧ (modDie x0 x1 x2 s).doors = s.doors ∧
    (modDie x0 x1 x2 s).adm = s.adm ∧ (modDie x0 x1 x2 s).pwr = s.pwr ∧ (modDie x0 x1 x2 s).sup = s.sup := by
  and_intros <;> rfl

@[simp] theorem modObj_clock (x0 : Nat) (x1 : Obj → Obj) (s : State) :
    (modObj x0 x1 s).pending = s.pending ∧ (modObj x0 x1 s).clock = s.clock ∧ (modObj x0 x1 s).epochNs = s.epochNs ∧
    (modObj x0 x1 s).free = s.free ∧ (modObj x0 x1 s).phase = s.phase ∧ (modObj x0 x1 s).ports = s.ports := by
  and_intros <;> rfl

@[simp] theorem modObj_start (x0 : Nat) (x1 : Obj → Obj) (s : State) :
    (modObj x0 x1 s).lockPassed = s.lockPassed ∧ (modObj x0 x1 s).harbourCause = s.harbourCause ∧
    (modObj x0 x1 s).tierState = s.tierState ∧ (modObj x0 x1 s).servoPhase = s.servoPhase ∧
    (modObj x0 x1 s).part = s.part ∧ (modObj x0 x1 s).fw = s.fw := by
  and_intros <;> rfl

@[simp] theorem modObj_host (x0 : Nat) (x1 : Obj → Obj) (s : State) :
    (modObj x0 x1 s).evt = s.evt ∧ (modObj x0 x1 s).ctrls = s.ctrls ∧ (modObj x0 x1 s).hs = s.hs ∧
    (modObj x0 x1 s).flash = s.flash ∧ (modObj x0 x1 s).bw = s.bw ∧ (modObj x0 x1 s).mem = s.mem := by
  and_intros <;> rfl

@[simp] theorem modObj_drive (x0 : Nat) (x1 : Obj → Obj) (s : State) :
    (modObj x0 x1 s).bays = s.bays ∧ (modObj x0 x1 s).doors = s.doors ∧ (modObj x0 x1 s).adm = s.adm ∧
    (modObj x0 x1 s).pwr = s.pwr ∧ (modObj x0 x1 s).sup = s.sup := by
  and_intros <;> rfl

@[simp] theorem fillZone_clock (x0 : Zone) (s : State) :
    (fillZone x0 s).pending = s.pending ∧ (fillZone x0 s).clock = s.clock ∧ (fillZone x0 s).epochNs = s.epochNs ∧
    (fillZone x0 s).free = s.free ∧ (fillZone x0 s).phase = s.phase ∧ (fillZone x0 s).ports = s.ports := by
  and_intros <;> rfl

@[simp] theorem fillZone_start (x0 : Zone) (s : State) :
    (fillZone x0 s).lockPassed = s.lockPassed ∧ (fillZone x0 s).harbourCause = s.harbourCause ∧
    (fillZone x0 s).tierState = s.tierState ∧ (fillZone x0 s).servoPhase = s.servoPhase ∧
    (fillZone x0 s).part = s.part ∧ (fillZone x0 s).fw = s.fw := by
  and_intros <;> rfl

@[simp] theorem fillZone_host (x0 : Zone) (s : State) :
    (fillZone x0 s).evt = s.evt ∧ (fillZone x0 s).ctrls = s.ctrls ∧ (fillZone x0 s).flash = s.flash ∧
    (fillZone x0 s).bw = s.bw ∧ (fillZone x0 s).mem = s.mem := by
  and_intros <;> rfl

@[simp] theorem fillZone_drive (x0 : Zone) (s : State) :
    (fillZone x0 s).ebb = s.ebb ∧ (fillZone x0 s).bays = s.bays ∧ (fillZone x0 s).doors = s.doors ∧
    (fillZone x0 s).adm = s.adm ∧ (fillZone x0 s).pwr = s.pwr ∧ (fillZone x0 s).sup = s.sup := by
  and_intros <;> rfl

@[simp] theorem modDies_clock (x0 : Die → Die) (s : State) :
    (modDies x0 s).pending = s.pending ∧ (modDies x0 s).clock = s.clock ∧ (modDies x0 s).epochNs = s.epochNs ∧
    (modDies x0 s).free = s.free ∧ (modDies x0 s).phase = s.phase ∧ (modDies x0 s).ports = s.ports := by
  and_intros <;> rfl

@[simp] theorem modDies_start (x0 : Die → Die) (s : State) :
    (modDies x0 s).lockPassed = s.lockPassed ∧ (modDies x0 s).harbourCause = s.harbourCause ∧
    (modDies x0 s).tierState = s.tierState ∧ (modDies x0 s).servoPhase = s.servoPhase ∧
    (modDies x0 s).part = s.part ∧ (modDies x0 s).fw = s.fw := by
  and_intros <;> rfl

@[simp] theorem modDies_host (x0 : Die → Die) (s : State) :
    (modDies x0 s).evt = s.evt ∧ (modDies x0 s).ctrls = s.ctrls ∧ (modDies x0 s).hs = s.hs ∧
    (modDies x0 s).tide = s.tide ∧ (modDies x0 s).bw = s.bw ∧ (modDies x0 s).mem = s.mem := by
  and_intros <;> rfl

@[simp] theorem modDies_drive (x0 : Die → Die) (s : State) :
    (modDies x0 s).ebb = s.ebb ∧ (modDies x0 s).bays = s.bays ∧ (modDies x0 s).doors = s.doors ∧
    (modDies x0 s).adm = s.adm ∧ (modDies x0 s).pwr = s.pwr ∧ (modDies x0 s).sup = s.sup := by
  and_intros <;> rfl

@[simp] theorem countWrite_clock (x0 : Nat) (s : State) :
    (countWrite x0 s).pending = s.pending ∧ (countWrite x0 s).clock = s.clock ∧
    (countWrite x0 s).epochNs = s.epochNs ∧ (countWrite x0 s).free = s.free ∧ (countWrite x0 s).phase = s.phase ∧
    (countWrite x0 s).ports = s.ports := by
  and_intros <;> rfl

@[simp] theorem countWrite_start (x0 : Nat) (s : State) :
    (countWrite x0 s).lockPassed = s.lockPassed ∧ (countWrite x0 s).harbourCause = s.harbourCause ∧
    (countWrite x0 s).tierState = s.tierState ∧ (countWrite x0 s).servoPhase = s.servoPhase ∧
    (countWrite x0 s).part = s.part ∧ (countWrite x0 s).fw = s.fw := by
  and_intros <;> rfl

@[simp] theorem countWrite_host (x0 : Nat) (s : State) :
    (countWrite x0 s).evt = s.evt ∧ (countWrite x0 s).ctrls = s.ctrls ∧ (countWrite x0 s).flash = s.flash ∧
    (countWrite x0 s).tide = s.tide ∧ (countWrite x0 s).bw = s.bw ∧ (countWrite x0 s).mem = s.mem := by
  and_intros <;> rfl

@[simp] theorem countWrite_drive (x0 : Nat) (s : State) :
    (countWrite x0 s).ebb = s.ebb ∧ (countWrite x0 s).bays = s.bays ∧ (countWrite x0 s).doors = s.doors ∧
    (countWrite x0 s).adm = s.adm ∧ (countWrite x0 s).pwr = s.pwr ∧ (countWrite x0 s).sup = s.sup := by
  and_intros <;> rfl

@[simp] theorem countHostRead_clock (x0 : Nat) (s : State) :
    (countHostRead x0 s).pending = s.pending ∧ (countHostRead x0 s).clock = s.clock ∧
    (countHostRead x0 s).epochNs = s.epochNs ∧ (countHostRead x0 s).free = s.free ∧
    (countHostRead x0 s).phase = s.phase ∧ (countHostRead x0 s).ports = s.ports := by
  and_intros <;> rfl

@[simp] theorem countHostRead_start (x0 : Nat) (s : State) :
    (countHostRead x0 s).lockPassed = s.lockPassed ∧ (countHostRead x0 s).harbourCause = s.harbourCause ∧
    (countHostRead x0 s).tierState = s.tierState ∧ (countHostRead x0 s).servoPhase = s.servoPhase ∧
    (countHostRead x0 s).part = s.part ∧ (countHostRead x0 s).fw = s.fw := by
  and_intros <;> rfl

@[simp] theorem countHostRead_host (x0 : Nat) (s : State) :
    (countHostRead x0 s).evt = s.evt ∧ (countHostRead x0 s).ctrls = s.ctrls ∧ (countHostRead x0 s).flash = s.flash ∧
    (countHostRead x0 s).tide = s.tide ∧ (countHostRead x0 s).bw = s.bw ∧ (countHostRead x0 s).mem = s.mem := by
  and_intros <;> rfl

@[simp] theorem countHostRead_drive (x0 : Nat) (s : State) :
    (countHostRead x0 s).ebb = s.ebb ∧ (countHostRead x0 s).bays = s.bays ∧ (countHostRead x0 s).doors = s.doors ∧
    (countHostRead x0 s).adm = s.adm ∧ (countHostRead x0 s).pwr = s.pwr ∧ (countHostRead x0 s).sup = s.sup := by
  and_intros <;> rfl

@[simp] theorem modPlan_clock (x0 : Nat) (x1 : Plan → Plan) (s : State) :
    (modPlan x0 x1 s).pending = s.pending ∧ (modPlan x0 x1 s).clock = s.clock ∧
    (modPlan x0 x1 s).epochNs = s.epochNs ∧ (modPlan x0 x1 s).free = s.free ∧ (modPlan x0 x1 s).phase = s.phase ∧
    (modPlan x0 x1 s).ports = s.ports := by
  and_intros <;> rfl

@[simp] theorem modPlan_start (x0 : Nat) (x1 : Plan → Plan) (s : State) :
    (modPlan x0 x1 s).lockPassed = s.lockPassed ∧ (modPlan x0 x1 s).harbourCause = s.harbourCause ∧
    (modPlan x0 x1 s).tierState = s.tierState ∧ (modPlan x0 x1 s).servoPhase = s.servoPhase ∧
    (modPlan x0 x1 s).part = s.part ∧ (modPlan x0 x1 s).fw = s.fw := by
  and_intros <;> rfl

@[simp] theorem modPlan_host (x0 : Nat) (x1 : Plan → Plan) (s : State) :
    (modPlan x0 x1 s).evt = s.evt ∧ (modPlan x0 x1 s).ctrls = s.ctrls ∧ (modPlan x0 x1 s).hs = s.hs ∧
    (modPlan x0 x1 s).flash = s.flash ∧ (modPlan x0 x1 s).tide = s.tide ∧ (modPlan x0 x1 s).bw = s.bw ∧
    (modPlan x0 x1 s).mem = s.mem := by
  and_intros <;> rfl

@[simp] theorem modPlan_drive (x0 : Nat) (x1 : Plan → Plan) (s : State) :
    (modPlan x0 x1 s).bays = s.bays ∧ (modPlan x0 x1 s).doors = s.doors ∧ (modPlan x0 x1 s).adm = s.adm ∧
    (modPlan x0 x1 s).pwr = s.pwr ∧ (modPlan x0 x1 s).sup = s.sup := by
  and_intros <;> rfl

@[simp] theorem setWork_clock (x0 : BayId) (x1 : Nat) (x2 : Nat) (s : State) :
    (setWork x0 x1 x2 s).pending = s.pending ∧ (setWork x0 x1 x2 s).clock = s.clock ∧
    (setWork x0 x1 x2 s).epochNs = s.epochNs ∧ (setWork x0 x1 x2 s).free = s.free ∧
    (setWork x0 x1 x2 s).phase = s.phase ∧ (setWork x0 x1 x2 s).ports = s.ports := by
  and_intros <;> rfl

@[simp] theorem setWork_start (x0 : BayId) (x1 : Nat) (x2 : Nat) (s : State) :
    (setWork x0 x1 x2 s).lockPassed = s.lockPassed ∧ (setWork x0 x1 x2 s).harbourCause = s.harbourCause ∧
    (setWork x0 x1 x2 s).tierState = s.tierState ∧ (setWork x0 x1 x2 s).servoPhase = s.servoPhase ∧
    (setWork x0 x1 x2 s).part = s.part ∧ (setWork x0 x1 x2 s).fw = s.fw := by
  and_intros <;> rfl

@[simp] theorem setWork_host (x0 : BayId) (x1 : Nat) (x2 : Nat) (s : State) :
    (setWork x0 x1 x2 s).evt = s.evt ∧ (setWork x0 x1 x2 s).ctrls = s.ctrls ∧ (setWork x0 x1 x2 s).hs = s.hs ∧
    (setWork x0 x1 x2 s).flash = s.flash ∧ (setWork x0 x1 x2 s).tide = s.tide ∧ (setWork x0 x1 x2 s).bw = s.bw ∧
    (setWork x0 x1 x2 s).mem = s.mem := by
  and_intros <;> rfl

@[simp] theorem setWork_drive (x0 : BayId) (x1 : Nat) (x2 : Nat) (s : State) :
    (setWork x0 x1 x2 s).ebb = s.ebb ∧ (setWork x0 x1 x2 s).doors = s.doors ∧ (setWork x0 x1 x2 s).adm = s.adm ∧
    (setWork x0 x1 x2 s).pwr = s.pwr ∧ (setWork x0 x1 x2 s).sup = s.sup := by
  and_intros <;> rfl

@[simp] theorem modRecall_clock (x0 : Nat) (x1 : Recall → Recall) (s : State) :
    (modRecall x0 x1 s).pending = s.pending ∧ (modRecall x0 x1 s).clock = s.clock ∧
    (modRecall x0 x1 s).epochNs = s.epochNs ∧ (modRecall x0 x1 s).free = s.free ∧
    (modRecall x0 x1 s).phase = s.phase ∧ (modRecall x0 x1 s).ports = s.ports := by
  and_intros <;> rfl

@[simp] theorem modRecall_start (x0 : Nat) (x1 : Recall → Recall) (s : State) :
    (modRecall x0 x1 s).lockPassed = s.lockPassed ∧ (modRecall x0 x1 s).harbourCause = s.harbourCause ∧
    (modRecall x0 x1 s).tierState = s.tierState ∧ (modRecall x0 x1 s).servoPhase = s.servoPhase ∧
    (modRecall x0 x1 s).part = s.part ∧ (modRecall x0 x1 s).fw = s.fw := by
  and_intros <;> rfl

@[simp] theorem modRecall_host (x0 : Nat) (x1 : Recall → Recall) (s : State) :
    (modRecall x0 x1 s).evt = s.evt ∧ (modRecall x0 x1 s).ctrls = s.ctrls ∧ (modRecall x0 x1 s).hs = s.hs ∧
    (modRecall x0 x1 s).flash = s.flash ∧ (modRecall x0 x1 s).tide = s.tide ∧ (modRecall x0 x1 s).bw = s.bw ∧
    (modRecall x0 x1 s).mem = s.mem := by
  and_intros <;> rfl

@[simp] theorem modRecall_drive (x0 : Nat) (x1 : Recall → Recall) (s : State) :
    (modRecall x0 x1 s).bays = s.bays ∧ (modRecall x0 x1 s).doors = s.doors ∧ (modRecall x0 x1 s).adm = s.adm ∧
    (modRecall x0 x1 s).pwr = s.pwr ∧ (modRecall x0 x1 s).sup = s.sup := by
  and_intros <;> rfl

@[simp] theorem countRecalled_clock (x0 : BayId) (x1 : List DiscTry) (s : State) :
    (countRecalled x0 x1 s).pending = s.pending ∧ (countRecalled x0 x1 s).clock = s.clock ∧
    (countRecalled x0 x1 s).epochNs = s.epochNs ∧ (countRecalled x0 x1 s).free = s.free ∧
    (countRecalled x0 x1 s).phase = s.phase ∧ (countRecalled x0 x1 s).ports = s.ports := by
  and_intros <;> rfl

@[simp] theorem countRecalled_start (x0 : BayId) (x1 : List DiscTry) (s : State) :
    (countRecalled x0 x1 s).lockPassed = s.lockPassed ∧ (countRecalled x0 x1 s).harbourCause = s.harbourCause ∧
    (countRecalled x0 x1 s).tierState = s.tierState ∧ (countRecalled x0 x1 s).servoPhase = s.servoPhase ∧
    (countRecalled x0 x1 s).part = s.part ∧ (countRecalled x0 x1 s).fw = s.fw := by
  and_intros <;> rfl

@[simp] theorem countRecalled_host (x0 : BayId) (x1 : List DiscTry) (s : State) :
    (countRecalled x0 x1 s).evt = s.evt ∧ (countRecalled x0 x1 s).ctrls = s.ctrls ∧
    (countRecalled x0 x1 s).hs = s.hs ∧ (countRecalled x0 x1 s).flash = s.flash ∧
    (countRecalled x0 x1 s).tide = s.tide ∧ (countRecalled x0 x1 s).bw = s.bw ∧
    (countRecalled x0 x1 s).mem = s.mem := by
  and_intros <;> rfl

@[simp] theorem countRecalled_drive (x0 : BayId) (x1 : List DiscTry) (s : State) :
    (countRecalled x0 x1 s).ebb = s.ebb ∧ (countRecalled x0 x1 s).doors = s.doors ∧
    (countRecalled x0 x1 s).adm = s.adm ∧ (countRecalled x0 x1 s).pwr = s.pwr ∧
    (countRecalled x0 x1 s).sup = s.sup := by
  and_intros <;> rfl

@[simp] theorem putAnswer_clock (x0 : BayId) (x1 : Nat) (x2 : Nat) (s : State) :
    (putAnswer x0 x1 x2 s).pending = s.pending ∧ (putAnswer x0 x1 x2 s).clock = s.clock ∧
    (putAnswer x0 x1 x2 s).epochNs = s.epochNs ∧ (putAnswer x0 x1 x2 s).free = s.free ∧
    (putAnswer x0 x1 x2 s).phase = s.phase ∧ (putAnswer x0 x1 x2 s).ports = s.ports := by
  and_intros <;> rfl

@[simp] theorem putAnswer_start (x0 : BayId) (x1 : Nat) (x2 : Nat) (s : State) :
    (putAnswer x0 x1 x2 s).lockPassed = s.lockPassed ∧ (putAnswer x0 x1 x2 s).harbourCause = s.harbourCause ∧
    (putAnswer x0 x1 x2 s).tierState = s.tierState ∧ (putAnswer x0 x1 x2 s).servoPhase = s.servoPhase ∧
    (putAnswer x0 x1 x2 s).part = s.part ∧ (putAnswer x0 x1 x2 s).fw = s.fw := by
  and_intros <;> rfl

@[simp] theorem putAnswer_host (x0 : BayId) (x1 : Nat) (x2 : Nat) (s : State) :
    (putAnswer x0 x1 x2 s).evt = s.evt ∧ (putAnswer x0 x1 x2 s).ctrls = s.ctrls ∧ (putAnswer x0 x1 x2 s).hs = s.hs ∧
    (putAnswer x0 x1 x2 s).flash = s.flash ∧ (putAnswer x0 x1 x2 s).tide = s.tide ∧
    (putAnswer x0 x1 x2 s).bw = s.bw ∧ (putAnswer x0 x1 x2 s).mem = s.mem := by
  and_intros <;> rfl

@[simp] theorem putAnswer_drive (x0 : BayId) (x1 : Nat) (x2 : Nat) (s : State) :
    (putAnswer x0 x1 x2 s).ebb = s.ebb ∧ (putAnswer x0 x1 x2 s).doors = s.doors ∧
    (putAnswer x0 x1 x2 s).adm = s.adm ∧ (putAnswer x0 x1 x2 s).pwr = s.pwr ∧ (putAnswer x0 x1 x2 s).sup = s.sup := by
  and_intros <;> rfl

@[simp] theorem blowCell_clock (x0 : Nat) (s : State) :
    (blowCell x0 s).pending = s.pending ∧ (blowCell x0 s).clock = s.clock ∧ (blowCell x0 s).epochNs = s.epochNs ∧
    (blowCell x0 s).free = s.free ∧ (blowCell x0 s).phase = s.phase ∧ (blowCell x0 s).ports = s.ports := by
  and_intros <;> rfl

@[simp] theorem blowCell_start (x0 : Nat) (s : State) :
    (blowCell x0 s).lockPassed = s.lockPassed ∧ (blowCell x0 s).harbourCause = s.harbourCause ∧
    (blowCell x0 s).tierState = s.tierState ∧ (blowCell x0 s).servoPhase = s.servoPhase ∧
    (blowCell x0 s).fw = s.fw := by
  and_intros <;> rfl

@[simp] theorem blowCell_host (x0 : Nat) (s : State) :
    (blowCell x0 s).evt = s.evt ∧ (blowCell x0 s).ctrls = s.ctrls ∧ (blowCell x0 s).hs = s.hs ∧
    (blowCell x0 s).flash = s.flash ∧ (blowCell x0 s).tide = s.tide ∧ (blowCell x0 s).bw = s.bw ∧
    (blowCell x0 s).mem = s.mem := by
  and_intros <;> rfl

@[simp] theorem blowCell_drive (x0 : Nat) (s : State) :
    (blowCell x0 s).ebb = s.ebb ∧ (blowCell x0 s).bays = s.bays ∧ (blowCell x0 s).doors = s.doors ∧
    (blowCell x0 s).adm = s.adm ∧ (blowCell x0 s).pwr = s.pwr ∧ (blowCell x0 s).sup = s.sup := by
  and_intros <;> rfl

@[simp] theorem archiveZone_clock (x0 : Ns) (x1 : Zone) (x2 : Nat) (s : State) :
    (archiveZone x0 x1 x2 s).pending = s.pending ∧ (archiveZone x0 x1 x2 s).clock = s.clock ∧
    (archiveZone x0 x1 x2 s).epochNs = s.epochNs ∧ (archiveZone x0 x1 x2 s).free = s.free ∧
    (archiveZone x0 x1 x2 s).phase = s.phase ∧ (archiveZone x0 x1 x2 s).ports = s.ports := by
  and_intros <;> rfl

@[simp] theorem archiveZone_start (x0 : Ns) (x1 : Zone) (x2 : Nat) (s : State) :
    (archiveZone x0 x1 x2 s).lockPassed = s.lockPassed ∧ (archiveZone x0 x1 x2 s).harbourCause = s.harbourCause ∧
    (archiveZone x0 x1 x2 s).tierState = s.tierState ∧ (archiveZone x0 x1 x2 s).servoPhase = s.servoPhase ∧
    (archiveZone x0 x1 x2 s).part = s.part ∧ (archiveZone x0 x1 x2 s).fw = s.fw := by
  and_intros <;> rfl

@[simp] theorem archiveZone_host (x0 : Ns) (x1 : Zone) (x2 : Nat) (s : State) :
    (archiveZone x0 x1 x2 s).evt = s.evt ∧ (archiveZone x0 x1 x2 s).ctrls = s.ctrls ∧
    (archiveZone x0 x1 x2 s).flash = s.flash ∧ (archiveZone x0 x1 x2 s).bw = s.bw ∧
    (archiveZone x0 x1 x2 s).mem = s.mem := by
  and_intros <;> rfl

@[simp] theorem archiveZone_drive (x0 : Ns) (x1 : Zone) (x2 : Nat) (s : State) :
    (archiveZone x0 x1 x2 s).bays = s.bays ∧ (archiveZone x0 x1 x2 s).doors = s.doors ∧
    (archiveZone x0 x1 x2 s).adm = s.adm ∧ (archiveZone x0 x1 x2 s).pwr = s.pwr ∧
    (archiveZone x0 x1 x2 s).sup = s.sup := by
  and_intros <;> rfl

@[simp] theorem cancelZone_clock (x0 : Zone) (s : State) :
    (cancelZone x0 s).pending = s.pending ∧ (cancelZone x0 s).clock = s.clock ∧
    (cancelZone x0 s).epochNs = s.epochNs ∧ (cancelZone x0 s).free = s.free ∧ (cancelZone x0 s).phase = s.phase ∧
    (cancelZone x0 s).ports = s.ports := by
  and_intros <;> rfl

@[simp] theorem cancelZone_start (x0 : Zone) (s : State) :
    (cancelZone x0 s).lockPassed = s.lockPassed ∧ (cancelZone x0 s).harbourCause = s.harbourCause ∧
    (cancelZone x0 s).tierState = s.tierState ∧ (cancelZone x0 s).servoPhase = s.servoPhase ∧
    (cancelZone x0 s).part = s.part ∧ (cancelZone x0 s).fw = s.fw := by
  and_intros <;> rfl

@[simp] theorem cancelZone_host (x0 : Zone) (s : State) :
    (cancelZone x0 s).evt = s.evt ∧ (cancelZone x0 s).ctrls = s.ctrls ∧ (cancelZone x0 s).flash = s.flash ∧
    (cancelZone x0 s).bw = s.bw ∧ (cancelZone x0 s).mem = s.mem := by
  and_intros <;> rfl

@[simp] theorem cancelZone_drive (x0 : Zone) (s : State) :
    (cancelZone x0 s).bays = s.bays ∧ (cancelZone x0 s).doors = s.doors ∧ (cancelZone x0 s).adm = s.adm ∧
    (cancelZone x0 s).pwr = s.pwr ∧ (cancelZone x0 s).sup = s.sup := by
  and_intros <;> rfl

@[simp] theorem dropSq_clock (x0 : PortId) (x1 : Nat) (s : State) :
    (dropSq x0 x1 s).pending = s.pending ∧ (dropSq x0 x1 s).clock = s.clock ∧ (dropSq x0 x1 s).epochNs = s.epochNs ∧
    (dropSq x0 x1 s).free = s.free ∧ (dropSq x0 x1 s).phase = s.phase ∧ (dropSq x0 x1 s).ports = s.ports := by
  and_intros <;> rfl

@[simp] theorem dropSq_start (x0 : PortId) (x1 : Nat) (s : State) :
    (dropSq x0 x1 s).lockPassed = s.lockPassed ∧ (dropSq x0 x1 s).harbourCause = s.harbourCause ∧
    (dropSq x0 x1 s).tierState = s.tierState ∧ (dropSq x0 x1 s).servoPhase = s.servoPhase ∧
    (dropSq x0 x1 s).part = s.part ∧ (dropSq x0 x1 s).fw = s.fw := by
  and_intros <;> rfl

@[simp] theorem dropSq_host (x0 : PortId) (x1 : Nat) (s : State) :
    (dropSq x0 x1 s).evt = s.evt ∧ (dropSq x0 x1 s).hs = s.hs ∧ (dropSq x0 x1 s).tide = s.tide ∧
    (dropSq x0 x1 s).mem = s.mem := by
  and_intros <;> rfl

@[simp] theorem dropSq_drive (x0 : PortId) (x1 : Nat) (s : State) :
    (dropSq x0 x1 s).ebb = s.ebb ∧ (dropSq x0 x1 s).bays = s.bays ∧ (dropSq x0 x1 s).doors = s.doors ∧
    (dropSq x0 x1 s).adm = s.adm ∧ (dropSq x0 x1 s).pwr = s.pwr ∧ (dropSq x0 x1 s).sup = s.sup := by
  and_intros <;> rfl

@[simp] theorem modFeat_clock (x0 : PortId) (x1 : Feat → Feat) (s : State) :
    (modFeat x0 x1 s).pending = s.pending ∧ (modFeat x0 x1 s).clock = s.clock ∧
    (modFeat x0 x1 s).epochNs = s.epochNs ∧ (modFeat x0 x1 s).free = s.free ∧ (modFeat x0 x1 s).phase = s.phase ∧
    (modFeat x0 x1 s).ports = s.ports := by
  and_intros <;> rfl

@[simp] theorem modFeat_start (x0 : PortId) (x1 : Feat → Feat) (s : State) :
    (modFeat x0 x1 s).lockPassed = s.lockPassed ∧ (modFeat x0 x1 s).harbourCause = s.harbourCause ∧
    (modFeat x0 x1 s).tierState = s.tierState ∧ (modFeat x0 x1 s).servoPhase = s.servoPhase ∧
    (modFeat x0 x1 s).part = s.part ∧ (modFeat x0 x1 s).fw = s.fw := by
  and_intros <;> rfl

@[simp] theorem modFeat_host (x0 : PortId) (x1 : Feat → Feat) (s : State) :
    (modFeat x0 x1 s).evt = s.evt ∧ (modFeat x0 x1 s).hs = s.hs ∧ (modFeat x0 x1 s).flash = s.flash ∧
    (modFeat x0 x1 s).tide = s.tide ∧ (modFeat x0 x1 s).bw = s.bw ∧ (modFeat x0 x1 s).mem = s.mem := by
  and_intros <;> rfl

@[simp] theorem modFeat_drive (x0 : PortId) (x1 : Feat → Feat) (s : State) :
    (modFeat x0 x1 s).ebb = s.ebb ∧ (modFeat x0 x1 s).bays = s.bays ∧ (modFeat x0 x1 s).doors = s.doors ∧
    (modFeat x0 x1 s).adm = s.adm ∧ (modFeat x0 x1 s).pwr = s.pwr ∧ (modFeat x0 x1 s).sup = s.sup := by
  and_intros <;> rfl

@[simp] theorem putBench_clock (x0 : Nat) (x1 : Nat) (x2 : List Byte) (s : State) :
    (putBench x0 x1 x2 s).pending = s.pending ∧ (putBench x0 x1 x2 s).clock = s.clock ∧
    (putBench x0 x1 x2 s).epochNs = s.epochNs ∧ (putBench x0 x1 x2 s).free = s.free ∧
    (putBench x0 x1 x2 s).phase = s.phase ∧ (putBench x0 x1 x2 s).ports = s.ports := by
  and_intros <;> rfl

@[simp] theorem putBench_start (x0 : Nat) (x1 : Nat) (x2 : List Byte) (s : State) :
    (putBench x0 x1 x2 s).lockPassed = s.lockPassed ∧ (putBench x0 x1 x2 s).harbourCause = s.harbourCause ∧
    (putBench x0 x1 x2 s).tierState = s.tierState ∧ (putBench x0 x1 x2 s).servoPhase = s.servoPhase ∧
    (putBench x0 x1 x2 s).part = s.part ∧ (putBench x0 x1 x2 s).fw = s.fw := by
  and_intros <;> rfl

@[simp] theorem putBench_host (x0 : Nat) (x1 : Nat) (x2 : List Byte) (s : State) :
    (putBench x0 x1 x2 s).evt = s.evt ∧ (putBench x0 x1 x2 s).ctrls = s.ctrls ∧ (putBench x0 x1 x2 s).hs = s.hs ∧
    (putBench x0 x1 x2 s).flash = s.flash ∧ (putBench x0 x1 x2 s).tide = s.tide ∧ (putBench x0 x1 x2 s).bw = s.bw ∧
    (putBench x0 x1 x2 s).mem = s.mem := by
  and_intros <;> rfl

@[simp] theorem putBench_drive (x0 : Nat) (x1 : Nat) (x2 : List Byte) (s : State) :
    (putBench x0 x1 x2 s).ebb = s.ebb ∧ (putBench x0 x1 x2 s).bays = s.bays ∧ (putBench x0 x1 x2 s).adm = s.adm ∧
    (putBench x0 x1 x2 s).pwr = s.pwr ∧ (putBench x0 x1 x2 s).sup = s.sup := by
  and_intros <;> rfl

@[simp] theorem putSdo_clock (x0 : Nat) (x1 : Nat) (x2 : Option Abort) (x3 : List Byte) (s : State) :
    (putSdo x0 x1 x2 x3 s).pending = s.pending ∧ (putSdo x0 x1 x2 x3 s).clock = s.clock ∧
    (putSdo x0 x1 x2 x3 s).epochNs = s.epochNs ∧ (putSdo x0 x1 x2 x3 s).free = s.free ∧
    (putSdo x0 x1 x2 x3 s).phase = s.phase ∧ (putSdo x0 x1 x2 x3 s).ports = s.ports := by
  and_intros <;> rfl

@[simp] theorem putSdo_start (x0 : Nat) (x1 : Nat) (x2 : Option Abort) (x3 : List Byte) (s : State) :
    (putSdo x0 x1 x2 x3 s).lockPassed = s.lockPassed ∧ (putSdo x0 x1 x2 x3 s).harbourCause = s.harbourCause ∧
    (putSdo x0 x1 x2 x3 s).tierState = s.tierState ∧ (putSdo x0 x1 x2 x3 s).servoPhase = s.servoPhase ∧
    (putSdo x0 x1 x2 x3 s).part = s.part ∧ (putSdo x0 x1 x2 x3 s).fw = s.fw := by
  and_intros <;> rfl

@[simp] theorem putSdo_host (x0 : Nat) (x1 : Nat) (x2 : Option Abort) (x3 : List Byte) (s : State) :
    (putSdo x0 x1 x2 x3 s).evt = s.evt ∧ (putSdo x0 x1 x2 x3 s).ctrls = s.ctrls ∧ (putSdo x0 x1 x2 x3 s).hs = s.hs ∧
    (putSdo x0 x1 x2 x3 s).flash = s.flash ∧ (putSdo x0 x1 x2 x3 s).tide = s.tide ∧
    (putSdo x0 x1 x2 x3 s).bw = s.bw ∧ (putSdo x0 x1 x2 x3 s).mem = s.mem := by
  and_intros <;> rfl

@[simp] theorem putSdo_drive (x0 : Nat) (x1 : Nat) (x2 : Option Abort) (x3 : List Byte) (s : State) :
    (putSdo x0 x1 x2 x3 s).ebb = s.ebb ∧ (putSdo x0 x1 x2 x3 s).bays = s.bays ∧ (putSdo x0 x1 x2 x3 s).adm = s.adm ∧
    (putSdo x0 x1 x2 x3 s).pwr = s.pwr ∧ (putSdo x0 x1 x2 x3 s).sup = s.sup := by
  and_intros <;> rfl

@[simp] theorem dropInflight_clock (x0 : Inflight) (s : State) :
    (dropInflight x0 s).pending = s.pending ∧ (dropInflight x0 s).clock = s.clock ∧
    (dropInflight x0 s).epochNs = s.epochNs ∧ (dropInflight x0 s).free = s.free ∧
    (dropInflight x0 s).phase = s.phase ∧ (dropInflight x0 s).ports = s.ports := by
  and_intros <;> rfl

@[simp] theorem dropInflight_start (x0 : Inflight) (s : State) :
    (dropInflight x0 s).lockPassed = s.lockPassed ∧ (dropInflight x0 s).harbourCause = s.harbourCause ∧
    (dropInflight x0 s).tierState = s.tierState ∧ (dropInflight x0 s).servoPhase = s.servoPhase ∧
    (dropInflight x0 s).part = s.part ∧ (dropInflight x0 s).fw = s.fw := by
  and_intros <;> rfl

@[simp] theorem dropInflight_host (x0 : Inflight) (s : State) :
    (dropInflight x0 s).evt = s.evt ∧ (dropInflight x0 s).ctrls = s.ctrls ∧ (dropInflight x0 s).flash = s.flash ∧
    (dropInflight x0 s).tide = s.tide ∧ (dropInflight x0 s).bw = s.bw ∧ (dropInflight x0 s).mem = s.mem := by
  and_intros <;> rfl

@[simp] theorem dropInflight_drive (x0 : Inflight) (s : State) :
    (dropInflight x0 s).ebb = s.ebb ∧ (dropInflight x0 s).bays = s.bays ∧ (dropInflight x0 s).doors = s.doors ∧
    (dropInflight x0 s).adm = s.adm ∧ (dropInflight x0 s).pwr = s.pwr ∧ (dropInflight x0 s).sup = s.sup := by
  and_intros <;> rfl

end Sys2Proof.Machine
end

