-- ==== Sys2Proof/Laws/Lists.lean ====
section
/-! SUPPORT. Reading back what an update wrote: keyed lists, lists changed in place, the dictionary's values, bays,
controllers, queues, zones, namespaces, objects and volumes. -/

namespace Sys2Proof.Machine

open Sys2Proof

/-! ### Keyed lists -/

/-- The value put under a key is read. -/
@[simp] theorem getKey_putKey_same {β : Type} (k : Nat) (v : β) (l : List (Nat × β)) : getKey k (putKey k v l) = some v := by
  induction l with
  | nil => simp [putKey, getKey]
  | cons c cs ih =>
    obtain ⟨k', v'⟩ := c
    unfold putKey
    split
    · simp [getKey]
    · split
      · simp [getKey]
      · next hne =>
        have hb : (k' == k) = false := by simpa using Ne.symm hne
        simpa [getKey, List.find?, hb] using ih

/-- Every other key's value is read as before a put. -/
theorem getKey_putKey_other {β : Type} {j k : Nat} (v : β) (l : List (Nat × β)) (h : j ≠ k) :
    getKey j (putKey k v l) = getKey j l := by
  have hkj : (k == j) = false := by simpa using Ne.symm h
  induction l with
  | nil => simp [putKey, getKey, List.find?, hkj]
  | cons c cs ih =>
    obtain ⟨k', v'⟩ := c
    unfold putKey
    split
    · simp [getKey, List.find?, hkj]
    · split
      · next heq =>
        subst heq
        simp [getKey, List.find?, hkj]
      · unfold getKey at ih ⊢
        rw [List.find?, List.find?]
        split
        · rfl
        · exact ih

/-- A key that is removed has no value. -/
@[simp] theorem getKey_dropKey_same {β : Type} (k : Nat) (l : List (Nat × β)) : getKey k (dropKey k l) = none := by
  simp [getKey, dropKey]

/-- Every other key's value is read as before a removal. -/
theorem getKey_dropKey_other {β : Type} {j k : Nat} (l : List (Nat × β)) (h : j ≠ k) : getKey j (dropKey k l) = getKey j l := by
  unfold getKey dropKey
  rw [List.find?_filter]
  congr 1
  congr 1
  funext p
  by_cases hp : p.1 = j
  · simp [hp, h]
  · simp [hp]

/-- Keys below every key of a put. -/
theorem lt_putKey {β : Type} {j k : Nat} (v : β) (l : List (Nat × β)) (hk : j < k) (h : ∀ c ∈ l, j < c.1) :
    ∀ c ∈ putKey k v l, j < c.1 := by
  induction l with
  | nil => simpa [putKey] using hk
  | cons d ds ih =>
    obtain ⟨k', v'⟩ := d
    have hd : j < k' := h (k', v') (List.mem_cons_self ..)
    have ht : ∀ c ∈ ds, j < c.1 := fun c hc => h c (List.mem_cons_of_mem _ hc)
    intro c hc
    unfold putKey at hc
    split at hc
    · rcases List.mem_cons.1 hc with rfl | hc
      · exact hk
      · exact h c hc
    · split at hc
      · rcases List.mem_cons.1 hc with rfl | hc
        · exact hk
        · exact ht c hc
      · rcases List.mem_cons.1 hc with rfl | hc
        · exact hd
        · exact ih ht c hc

/-- A put keeps the keys strictly ascending. -/
theorem putKey_ascending {β : Type} (k : Nat) (v : β) (l : List (Nat × β)) (h : l.Pairwise fun a b => a.1 < b.1) :
    (putKey k v l).Pairwise fun a b => a.1 < b.1 := by
  induction l with
  | nil => simp [putKey]
  | cons d ds ih =>
    obtain ⟨k', v'⟩ := d
    obtain ⟨h1, h2⟩ := List.pairwise_cons.1 h
    unfold putKey
    split
    · next hlt =>
      refine List.pairwise_cons.2 ⟨fun c hc => ?_, h⟩
      rcases List.mem_cons.1 hc with rfl | hc
      · exact hlt
      · exact Nat.lt_trans hlt (h1 c hc)
    · split
      · next heq =>
        subst heq
        exact List.pairwise_cons.2 ⟨h1, h2⟩
      · refine List.pairwise_cons.2 ⟨?_, ih h2⟩
        exact lt_putKey v ds (by dsimp only; omega) h1

/-- A removal keeps the keys strictly ascending. -/
theorem dropKey_ascending {β : Type} (k : Nat) (l : List (Nat × β)) (h : l.Pairwise fun a b => a.1 < b.1) :
    (dropKey k l).Pairwise fun a b => a.1 < b.1 :=
  h.filter _

/-! ### Values of the dictionary (R457) -/

/-- Different objects or subindices have different keys. -/
theorem objKey_inj {i j a b : Nat} (ha : a < 256) (hb : b < 256) (h : objKey i a = objKey j b) : (i, a) = (j, b) := by
  unfold objKey at h
  have h1 : i = j := by omega
  have h2 : a = b := by omega
  rw [h1, h2]

/-- A numeric value that is put is read. -/
@[simp] theorem num_putNum_same (index sub v : Nat) (s : State) : num (putNum index sub v s) index sub = v := by
  unfold num putNum
  dsimp only
  split
  · next h => simp [h]
  · simp

/-- Every other numeric value is read as before. -/
theorem num_putNum_other {index sub i k : Nat} (v : Nat) (s : State) (h : objKey i k ≠ objKey index sub) :
    num (putNum index sub v s) i k = num s i k := by
  unfold num putNum
  dsimp only
  split
  · rw [getKey_dropKey_other _ h]
  · rw [getKey_putKey_other _ _ h]

/-- A numeric put leaves the other values. -/
@[simp] theorem putNum_doms (index sub v : Nat) (s : State) : (putNum index sub v s).doors.doms = s.doors.doms := rfl

/-- A DOMAIN or string value that is put is read. -/
@[simp] theorem dom_putDom_same (index sub : Nat) (v : List Byte) (s : State) : dom (putDom index sub v s) index sub = v := by
  unfold dom putDom
  dsimp only
  split
  · next h => simp [h]
  · simp

/-- Every other DOMAIN or string value is read as before. -/
theorem dom_putDom_other {index sub i k : Nat} (v : List Byte) (s : State) (h : objKey i k ≠ objKey index sub) :
    dom (putDom index sub v s) i k = dom s i k := by
  unfold dom putDom
  dsimp only
  split
  · rw [getKey_dropKey_other _ h]
  · rw [getKey_putKey_other _ _ h]

/-- A DOMAIN or string put leaves the numeric values. -/
@[simp] theorem putDom_nums (index sub : Nat) (v : List Byte) (s : State) : (putDom index sub v s).doors.nums = s.doors.nums :=
  rfl

/-! ### Lists changed in place -/

/-- A change that keeps whether p selects a member changes the first member p selects. -/
theorem find_modWhere {α : Type} (p : α → Bool) (f : α → α) (l : List α) (h : ∀ a, p a = true → p (f a) = true) :
    (modWhere p f l).find? p = (l.find? p).map f := by
  induction l with
  | nil => rfl
  | cons a as ih =>
    unfold modWhere at ih ⊢
    by_cases hp : p a = true
    · simp [hp, h a hp]
    · simp [hp, ih]

/-- A change of the members p selects leaves the first member a disjoint q selects. -/
theorem find_modWhere_other {α : Type} (p q : α → Bool) (f : α → α) (l : List α) (h : ∀ a, p a = true → q a = q (f a))
    (hd : ∀ a, p a = true → q a = false) : (modWhere p f l).find? q = l.find? q := by
  induction l with
  | nil => rfl
  | cons a as ih =>
    unfold modWhere at ih ⊢
    by_cases hp : p a = true
    · have hq := hd a hp
      have hqf : q (f a) = false := by rw [← h a hp, hq]
      simp [hp, hq, hqf, ih]
    · simp only [List.map_cons, hp, Bool.false_eq_true, if_false]
      rw [List.find?, List.find?, ih]

/-- Entry n of a list changed at n. -/
@[simp] theorem modNth_same {α : Type} (l : List α) (n : Nat) (f : α → α) : (modNth l n f)[n]? = l[n]?.map f := by
  simp [modNth]

/-- The other entries of a list changed at n. -/
theorem modNth_other {α : Type} (l : List α) {n i : Nat} (f : α → α) (h : i ≠ n) : (modNth l n f)[i]? = l[i]? := by
  simp [modNth, h]

/-- A change in place keeps the length. -/
@[simp] theorem modNth_length {α : Type} (l : List α) (n : Nat) (f : α → α) : (modNth l n f).length = l.length := by
  simp [modNth]

/-! ### Bays and controllers -/

/-- The entry of a vector that is set. -/
theorem vector_set_same {α : Type} {n : Nat} (v : Vector α n) (i : Fin n) (x : α) : (v.set i x).get i = x :=
  Vector.getElem_set_self i.isLt

/-- The other entries of a vector. -/
theorem vector_set_other {α : Type} {n : Nat} (v : Vector α n) {i j : Fin n} (x : α) (h : j ≠ i) : (v.set i x).get j = v.get j :=
  Vector.getElem_set_ne i.isLt j.isLt fun e => h (Fin.ext e.symm)

/-- An entry of a vector given by a function. -/
theorem vector_ofFn {α : Type} {n : Nat} (f : Fin n → α) (i : Fin n) : (Vector.ofFn f).get i = f i :=
  Vector.getElem_ofFn i.isLt

/-- The bay that is changed. -/
@[simp] theorem bayAt_modBay_same (b : BayId) (f : Bay → Bay) (s : State) : bayAt (modBay b f s) b = f (bayAt s b) := by
  exact vector_set_same s.bays b _

/-- The other bays. -/
theorem bayAt_modBay_other {b c : BayId} (f : Bay → Bay) (s : State) (h : c ≠ b) : bayAt (modBay b f s) c = bayAt s c := by
  exact vector_set_other s.bays _ h

/-- Every bay changed. -/
@[simp] theorem bayAt_modBays (b : BayId) (f : BayId → Bay → Bay) (s : State) : bayAt (modBays f s) b = f b (bayAt s b) := by
  exact vector_ofFn _ b

/-- The controller that is changed. -/
@[simp] theorem ctrl_modCtrl_same (p : PortId) (f : Ctrl → Ctrl) (s : State) :
    (modCtrl p f s).ctrls.get p = f (s.ctrls.get p) := by
  exact vector_set_same s.ctrls p _

/-- The other controllers. -/
theorem ctrl_modCtrl_other {p q : PortId} (f : Ctrl → Ctrl) (s : State) (h : q ≠ p) :
    (modCtrl p f s).ctrls.get q = s.ctrls.get q := by
  exact vector_set_other s.ctrls _ h

/-- The completion queue that is changed, where the change keeps its identifier. -/
theorem cq_modCq_same (p : PortId) (qid : Nat) (f : Cq → Cq) (s : State) (h : ∀ k : Cq, (f k).qid = k.qid) :
    ((modCq p qid f s).ctrls.get p).cq? qid = ((s.ctrls.get p).cq? qid).map f := by
  unfold modCq Ctrl.cq?
  rw [ctrl_modCtrl_same]
  exact find_modWhere _ _ _ fun a ha => by simpa [h a] using ha

/-- A change of a completion queue leaves the submission queues. -/
@[simp] theorem sqs_modCq (p q : PortId) (qid : Nat) (f : Cq → Cq) (s : State) :
    ((modCq p qid f s).ctrls.get q).sqs = (s.ctrls.get q).sqs := by
  unfold modCq
  by_cases h : q = p
  · subst h
    simp
  · rw [ctrl_modCtrl_other _ _ h]

/-! ### Zones, namespaces, objects and volumes -/

/-- A zone inserted is the zone found under its namespace and index. -/
theorem find_insertZone_same (z : Zone) (l : List Zone) :
    (insertZone z l).find? (fun y => y.nsid == z.nsid && y.idx == z.idx) = some z := by
  induction l with
  | nil => simp [insertZone]
  | cons y ys ih =>
    unfold insertZone
    split
    · simp
    · split
      · simp
      · next hne =>
        rw [List.find?_cons_of_neg]
        · exact ih
        · simp only [Bool.and_eq_true, beq_iff_eq]
          exact fun e => hne ⟨e.1.symm, e.2.symm⟩

/-- A zone inserted leaves every other zone. -/
theorem find_insertZone_other (z : Zone) (l : List Zone) {a b : Nat} (h : (a, b) ≠ (z.nsid, z.idx)) :
    (insertZone z l).find? (fun y => y.nsid == a && y.idx == b) = l.find? (fun y => y.nsid == a && y.idx == b) := by
  have hz : (z.nsid == a && z.idx == b) = false := by
    rw [Bool.eq_false_iff]
    intro e
    simp only [Bool.and_eq_true, beq_iff_eq] at e
    exact h (by rw [e.1, e.2])
  induction l with
  | nil => simp [insertZone, hz]
  | cons y ys ih =>
    unfold insertZone
    split
    · simp [List.find?_cons, hz]
    · split
      · next heq =>
        have hy : (y.nsid == a && y.idx == b) = false := by rw [← heq.1, ← heq.2]; exact hz
        simp [hz, hy]
      · simp only [List.find?_cons, ih]

/-- The times that are kept for Empty zones stay (R100). -/
theorem emptySince_setZone (z : Zone) (s : State) (a b : Nat) : emptySince (setZone z s) a b = emptySince s a b := rfl

/-- The zone that is set; an Empty zone reads as the default, with the time that is kept for it (R84, R100). -/
theorem zoneOf_setZone_same (z : Zone) (s : State) :
    zoneOf (setZone z s) z.nsid z.idx =
      if z.st = .empty then { nsid := z.nsid, idx := z.idx, changed := emptySince s z.nsid z.idx } else z := by
  unfold zoneOf
  rw [emptySince_setZone]
  unfold setZone tideRecord
  dsimp only
  by_cases hz : z.st = .empty
  · rw [if_pos hz, if_pos hz]
    have hf : (s.hs.zones.filter fun y => !(y.nsid == z.nsid && y.idx == z.idx)).find?
        (fun y => y.nsid == z.nsid && y.idx == z.idx) = none := by
      rw [List.find?_eq_none]
      intro y hy
      have hn := (List.mem_filter.1 hy).2
      intro e
      rw [e] at hn
      exact absurd hn (by decide)
    rw [hf]
    rfl
  · rw [if_neg hz, if_neg hz, find_insertZone_same]
    rfl

/-- The other zones. -/
theorem zoneOf_setZone_other (z : Zone) (s : State) {a b : Nat} (h : (a, b) ≠ (z.nsid, z.idx)) :
    zoneOf (setZone z s) a b = zoneOf s a b := by
  unfold zoneOf
  rw [emptySince_setZone]
  unfold setZone tideRecord
  dsimp only
  split
  · rw [List.find?_filter]
    congr 2
    funext y
    by_cases hy : y.nsid = a ∧ y.idx = b
    · have hn : ¬(y.nsid = z.nsid ∧ y.idx = z.idx) := fun e => h (by rw [← hy.1, ← hy.2, e.1, e.2])
      rw [hy.1, hy.2] at hn
      have hb : (a == z.nsid && b == z.idx) = false := by
        rw [Bool.eq_false_iff]
        simpa using hn
      simp only [hy.1, hy.2, hb, beq_self_eq_true, Bool.not_false, Bool.and_self, and_self, decide_true]
    · have hf : (y.nsid == a && y.idx == b) = false := by
        rw [Bool.eq_false_iff]
        simpa using hy
      simp [hf]
  · rw [find_insertZone_other _ _ h]

/-- The namespace that is changed, where the change keeps its identifier. -/
theorem nsOf_modNs_same (nsid : Nat) (f : Ns → Ns) (s : State) (h : ∀ n : Ns, (f n).nsid = n.nsid) :
    nsOf (modNs nsid f s) nsid = (nsOf s nsid).map f :=
  find_modWhere _ _ _ fun a ha => by simpa [h a] using ha

/-- The object that is changed, where the change keeps its identifier. -/
theorem objOf_modObj_same (id : Nat) (f : Obj → Obj) (s : State) (h : ∀ o : Obj, (f o).oid = o.oid) :
    objOf (modObj id f s) id = (objOf s id).map f :=
  find_modWhere _ _ _ fun a ha => by simpa [h a] using ha

/-- The volume that is changed, where the change keeps its port. -/
theorem volOf_modVol_same (port : Nat) (f : Vol → Vol) (s : State) (h : ∀ v : Vol, (f v).port = v.port) :
    volOf (modVol port f s) port = (volOf s port).map f :=
  find_modWhere _ _ _ fun a ha => by simpa [h a] using ha

end Sys2Proof.Machine
end

