-- ==== Sys2Proof/Laws/Events.lean ====
section
/-! SUPPORT. Posting a completion and raising an event: what each may change, which entry a completion queue ends with, and
what the event log holds after a raise. -/

namespace Sys2Proof.Machine

open Sys2Proof

/-- What every member's step keeps, the fold keeps. -/
theorem foldl_keep {α β : Type} (view : State → β) (g : State → α → State) (h : ∀ t a, view (g t a) = view t) (l : List α)
    (s : State) : view (l.foldl g s) = view s := by
  induction l generalizing s with
  | nil => rfl
  | cons a l ih => exact (ih (g s a)).trans (h s a)

/-- A controller without what a completion or an event report may change: its completion queues, its asynchronous event
requests, its messages sent and pending. -/
def Ctrl.still (c : Ctrl) : Ctrl :=
  { c with cqs := [], aers := [], withheld := false, pendingGroup := none, smartHeld := false, smartPending := [],
           errorHeld := false, errorPending := [], msgs := [], pba := [] }

/-- Every controller is as it was, but for its completion queues, asynchronous event requests and messages. -/
def CtrlsStill (s t : State) : Prop :=
  ∀ p : PortId, (t.ctrls.get p).still = (s.ctrls.get p).still

/-- Nothing changed. -/
theorem CtrlsStill.refl (s : State) : CtrlsStill s s := fun _ => rfl

/-- One after the other. -/
theorem CtrlsStill.trans {s t u : State} (h : CtrlsStill s t) (h' : CtrlsStill t u) : CtrlsStill s u :=
  fun p => (h' p).trans (h p)

/-- The controllers are the same. -/
theorem CtrlsStill.of_eq {s t : State} (h : t.ctrls = s.ctrls) : CtrlsStill s t := fun p => by rw [h]

/-- A fold of steps that keep the controllers still. -/
theorem CtrlsStill.foldl {α : Type} (g : State → α → State) (h : ∀ t a, CtrlsStill t (g t a)) (l : List α) (s : State) :
    CtrlsStill s (l.foldl g s) := by
  induction l generalizing s with
  | nil => exact .refl s
  | cons a l ih => exact (h s a).trans (ih (g s a))

/-- A change of one controller that keeps what is still. -/
theorem CtrlsStill.modCtrl (p : PortId) (f : Ctrl → Ctrl) (s : State) (h : ∀ c : Ctrl, (f c).still = c.still) :
    CtrlsStill s (modCtrl p f s) := by
  intro q
  by_cases hq : q = p
  · subst hq
    rw [ctrl_modCtrl_same, h]
  · rw [ctrl_modCtrl_other f s hq]

/-! ### Completions (R40) -/

/-- A post leaves its queue, clocks and phase. -/
@[simp] theorem post_clock (x0 : PortId) (x1 : Completion) (s : State) :
    (post x0 x1 s).pending = s.pending ∧ (post x0 x1 s).clock = s.clock ∧ (post x0 x1 s).epochNs = s.epochNs ∧
    (post x0 x1 s).free = s.free ∧ (post x0 x1 s).phase = s.phase ∧ (post x0 x1 s).ports = s.ports := by
  unfold post
  repeat' (first | (simp; done) | split)

/-- A post leaves what start-up set. -/
@[simp] theorem post_start (x0 : PortId) (x1 : Completion) (s : State) :
    (post x0 x1 s).lockPassed = s.lockPassed ∧ (post x0 x1 s).harbourCause = s.harbourCause ∧
    (post x0 x1 s).tierState = s.tierState ∧ (post x0 x1 s).servoPhase = s.servoPhase ∧
    (post x0 x1 s).part = s.part ∧ (post x0 x1 s).fw = s.fw := by
  unfold post
  repeat' (first | (simp; done) | split)

/-- A post leaves its host side and flash. -/
@[simp] theorem post_host (x0 : PortId) (x1 : Completion) (s : State) :
    (post x0 x1 s).evt = s.evt ∧ (post x0 x1 s).hs = s.hs ∧ (post x0 x1 s).flash = s.flash ∧
    (post x0 x1 s).tide = s.tide ∧ (post x0 x1 s).bw = s.bw ∧ (post x0 x1 s).mem = s.mem := by
  unfold post
  repeat' (first | (simp; done) | split)

/-- A post leaves its drives and supplies. -/
@[simp] theorem post_drive (x0 : PortId) (x1 : Completion) (s : State) :
    (post x0 x1 s).ebb = s.ebb ∧ (post x0 x1 s).bays = s.bays ∧ (post x0 x1 s).doors = s.doors ∧
    (post x0 x1 s).adm = s.adm ∧ (post x0 x1 s).pwr = s.pwr ∧ (post x0 x1 s).sup = s.sup := by
  unfold post
  repeat' (first | (simp; done) | split)

/-- A message keeps a controller still. -/
theorem signal_still (v : Nat) (c : Ctrl) : (c.signal v).still = c.still := by
  unfold Ctrl.signal
  split <;> rfl

/-- A post keeps every controller still. -/
theorem post_still (p : PortId) (c : Completion) (s : State) : CtrlsStill s (post p c s) := by
  unfold post
  split
  · split
    · refine CtrlsStill.trans ?_ (CtrlsStill.modCtrl _ _ _ fun k => ?_)
      · exact CtrlsStill.modCtrl _ _ _ fun _ => rfl
      · split
        · exact signal_still _ _
        · rfl
    · exact .refl s
  · exact .refl s

/-- A message leaves the queues of a controller. -/
theorem signal_queues (v : Nat) (c : Ctrl) : (c.signal v).sqs = c.sqs ∧ (c.signal v).cqs = c.cqs := by
  unfold Ctrl.signal
  split <;> exact ⟨rfl, rfl⟩

/-- An entry pushed is the queue's newest, posted or waiting. -/
theorem newest_push (c : Completion) (q : Cq) :
    ((Cq.push c q).posted ++ (Cq.push c q).waiting).getLast? = some c := by
  unfold Cq.push
  split
  · next h => simp [h.2]
  · simp [← List.append_assoc]

/-- A push keeps the queue's identifier. -/
theorem push_qid (c : Completion) (q : Cq) : (Cq.push c q).qid = q.qid := by
  unfold Cq.push
  split <;> rfl

/-- After a post to a queue whose completion queue exists, the newest entry is the one posted, with the submission queue's
head. -/
theorem newest_post {src : Src} {c : Completion} {s : State} {q : Sq} {k : Cq} (hc : c.sq = src.sq)
    (hq : (s.ctrls.get src.port).sq? src.sq = some q) (hk : (s.ctrls.get src.port).cq? q.cqid = some k) :
    newest src (post src.port c s) = some { c with sqhd := q.head } := by
  have hs : ((modCq src.port q.cqid (Cq.push { c with sqhd := q.head }) s).ctrls.get src.port).sq? src.sq = some q := by
    rw [← hq]
    unfold Ctrl.sq?
    rw [sqs_modCq]
  have hm : ((modCq src.port q.cqid (Cq.push { c with sqhd := q.head }) s).ctrls.get src.port).cq? q.cqid =
      some (Cq.push { c with sqhd := q.head } k) := by
    rw [cq_modCq_same _ _ _ _ (push_qid _), hk]
    rfl
  have hf : ∀ (b : Bool) (x : Ctrl), (if b = true then x.signal k.iv else x).sqs = x.sqs ∧
      (if b = true then x.signal k.iv else x).cqs = x.cqs := by
    intro b x
    split
    · exact signal_queues _ _
    · exact ⟨rfl, rfl⟩
  have hq' : (s.ctrls.get src.port).sq? c.sq = some q := by rw [hc, hq]
  unfold post
  rw [hq']
  dsimp only
  rw [hk]
  unfold newest
  dsimp only
  rw [ctrl_modCtrl_same]
  unfold Ctrl.sq? Ctrl.cq? at *
  rw [(hf _ _).1, (hf _ _).2, hs, Option.bind_some, hm]
  exact newest_push _ _

/-- A command that is kept leaves its queue, clocks and phase. -/
@[simp] theorem hold_clock (x0 : Src) (x1 : Wait) (s : State) (x3 : optParam Completion { }) :
    (hold x0 x1 s x3).pending = s.pending ∧ (hold x0 x1 s x3).clock = s.clock ∧
    (hold x0 x1 s x3).epochNs = s.epochNs ∧ (hold x0 x1 s x3).free = s.free ∧ (hold x0 x1 s x3).phase = s.phase ∧
    (hold x0 x1 s x3).ports = s.ports := by
  unfold hold
  simp

/-- A command that is kept leaves what start-up set. -/
@[simp] theorem hold_start (x0 : Src) (x1 : Wait) (s : State) (x3 : optParam Completion { }) :
    (hold x0 x1 s x3).lockPassed = s.lockPassed ∧ (hold x0 x1 s x3).harbourCause = s.harbourCause ∧
    (hold x0 x1 s x3).tierState = s.tierState ∧ (hold x0 x1 s x3).servoPhase = s.servoPhase ∧
    (hold x0 x1 s x3).part = s.part ∧ (hold x0 x1 s x3).fw = s.fw := by
  unfold hold
  simp

/-- A command that is kept leaves its host side and flash. -/
@[simp] theorem hold_host (x0 : Src) (x1 : Wait) (s : State) (x3 : optParam Completion { }) :
    (hold x0 x1 s x3).evt = s.evt ∧ (hold x0 x1 s x3).ctrls = s.ctrls ∧ (hold x0 x1 s x3).flash = s.flash ∧
    (hold x0 x1 s x3).tide = s.tide ∧ (hold x0 x1 s x3).bw = s.bw ∧ (hold x0 x1 s x3).mem = s.mem := by
  unfold hold
  simp

/-- A command that is kept leaves its drives and supplies. -/
@[simp] theorem hold_drive (x0 : Src) (x1 : Wait) (s : State) (x3 : optParam Completion { }) :
    (hold x0 x1 s x3).ebb = s.ebb ∧ (hold x0 x1 s x3).bays = s.bays ∧ (hold x0 x1 s x3).doors = s.doors ∧
    (hold x0 x1 s x3).adm = s.adm ∧ (hold x0 x1 s x3).pwr = s.pwr ∧ (hold x0 x1 s x3).sup = s.sup := by
  unfold hold
  simp

/-- An answer leaves its queue, clocks and phase. -/
@[simp] theorem finish_clock (x0 : Src) (x1 : Completion) (s : State) :
    (finish x0 x1 s).pending = s.pending ∧ (finish x0 x1 s).clock = s.clock ∧ (finish x0 x1 s).epochNs = s.epochNs ∧
    (finish x0 x1 s).free = s.free ∧ (finish x0 x1 s).phase = s.phase ∧ (finish x0 x1 s).ports = s.ports := by
  unfold finish
  split <;> simp

/-- An answer leaves what start-up set. -/
@[simp] theorem finish_start (x0 : Src) (x1 : Completion) (s : State) :
    (finish x0 x1 s).lockPassed = s.lockPassed ∧ (finish x0 x1 s).harbourCause = s.harbourCause ∧
    (finish x0 x1 s).tierState = s.tierState ∧ (finish x0 x1 s).servoPhase = s.servoPhase ∧
    (finish x0 x1 s).part = s.part ∧ (finish x0 x1 s).fw = s.fw := by
  unfold finish
  split <;> simp

/-- An answer leaves its host side and flash. -/
@[simp] theorem finish_host (x0 : Src) (x1 : Completion) (s : State) :
    (finish x0 x1 s).evt = s.evt ∧ (finish x0 x1 s).flash = s.flash ∧ (finish x0 x1 s).tide = s.tide ∧
    (finish x0 x1 s).bw = s.bw ∧ (finish x0 x1 s).mem = s.mem := by
  unfold finish
  split <;> simp

/-- An answer leaves its drives and supplies. -/
@[simp] theorem finish_drive (x0 : Src) (x1 : Completion) (s : State) :
    (finish x0 x1 s).ebb = s.ebb ∧ (finish x0 x1 s).bays = s.bays ∧ (finish x0 x1 s).doors = s.doors ∧
    (finish x0 x1 s).adm = s.adm ∧ (finish x0 x1 s).pwr = s.pwr ∧ (finish x0 x1 s).sup = s.sup := by
  unfold finish
  split <;> simp

/-- An answer keeps every controller still. -/
theorem finish_still (src : Src) (c : Completion) (s : State) : CtrlsStill s (finish src c s) := by
  unfold finish
  split
  · exact post_still _ _ _
  · refine CtrlsStill.trans ?_ (post_still _ _ _)
    exact .of_eq (by simp)

/-- An answer changes nothing on the host side but the Error Information log. -/
theorem finish_hs (src : Src) (c : Completion) (s : State) :
    (finish src c s).hs =
      { s.hs with errorCount := (finish src c s).hs.errorCount, errors := (finish src c s).hs.errors } := by
  unfold finish
  split <;> simp [logError]

/-- The newest entry after an answer is the command's. -/
theorem newest_finish {src : Src} {s : State} {q : Sq} {k : Cq} {c : Completion} (hc : c.sq = src.sq)
    (hq : (s.ctrls.get src.port).sq? src.sq = some q) (hk : (s.ctrls.get src.port).cq? q.cqid = some k) :
    newest src (finish src c s) = some { c with sqhd := q.head } := by
  unfold finish
  refine newest_post (q := q) (k := k) hc ?_ ?_
  · split
    · exact hq
    · simpa using hq
  · split
    · exact hk
    · simpa using hk

/-- A completion leaves its queue, clocks and phase. -/
@[simp] theorem complete_clock (src : Src) (st : Status) (dw0 dw1 : Dword) (data : List Byte) (blocks : List Blk) (s : State) :
    (complete src st dw0 dw1 data blocks s).pending = s.pending ∧
    (complete src st dw0 dw1 data blocks s).clock = s.clock ∧
    (complete src st dw0 dw1 data blocks s).epochNs = s.epochNs ∧
    (complete src st dw0 dw1 data blocks s).free = s.free ∧ (complete src st dw0 dw1 data blocks s).phase = s.phase ∧
    (complete src st dw0 dw1 data blocks s).ports = s.ports := by
  unfold complete answer
  split <;> simp

/-- A completion leaves what start-up set. -/
@[simp] theorem complete_start (src : Src) (st : Status) (dw0 dw1 : Dword) (data : List Byte) (blocks : List Blk) (s : State) :
    (complete src st dw0 dw1 data blocks s).lockPassed = s.lockPassed ∧
    (complete src st dw0 dw1 data blocks s).harbourCause = s.harbourCause ∧
    (complete src st dw0 dw1 data blocks s).tierState = s.tierState ∧
    (complete src st dw0 dw1 data blocks s).servoPhase = s.servoPhase ∧
    (complete src st dw0 dw1 data blocks s).part = s.part ∧ (complete src st dw0 dw1 data blocks s).fw = s.fw := by
  unfold complete answer
  split <;> simp

/-- A completion leaves its host side and flash. -/
@[simp] theorem complete_host (src : Src) (st : Status) (dw0 dw1 : Dword) (data : List Byte) (blocks : List Blk) (s : State) :
    (complete src st dw0 dw1 data blocks s).evt = s.evt ∧ (complete src st dw0 dw1 data blocks s).flash = s.flash ∧
    (complete src st dw0 dw1 data blocks s).tide = s.tide ∧ (complete src st dw0 dw1 data blocks s).bw = s.bw ∧
    (complete src st dw0 dw1 data blocks s).mem = s.mem := by
  unfold complete answer
  split <;> simp

/-- A completion leaves its drives and supplies. -/
@[simp] theorem complete_drive (src : Src) (st : Status) (dw0 dw1 : Dword) (data : List Byte) (blocks : List Blk) (s : State) :
    (complete src st dw0 dw1 data blocks s).ebb = s.ebb ∧ (complete src st dw0 dw1 data blocks s).bays = s.bays ∧
    (complete src st dw0 dw1 data blocks s).doors = s.doors ∧ (complete src st dw0 dw1 data blocks s).adm = s.adm ∧
    (complete src st dw0 dw1 data blocks s).pwr = s.pwr ∧ (complete src st dw0 dw1 data blocks s).sup = s.sup := by
  unfold complete answer
  split <;> simp

/-- With no map region to wait for, a completion is an answer (R122). -/
theorem complete_now {s : State} (src : Src) (st : Status) (dw0 dw1 : Dword) (data : List Byte) (blocks : List Blk)
    (h : s.hs.waitR = []) :
    complete src st dw0 dw1 data blocks s = finish src (completionOf src st dw0 dw1 data blocks) s := by
  unfold complete answer
  rw [if_pos h]

/-- A completion changes nothing on the host side but the Error Information log and the commands kept. -/
theorem complete_hs (src : Src) (st : Status) (dw0 dw1 : Dword) (data : List Byte) (blocks : List Blk) (s : State) :
    (complete src st dw0 dw1 data blocks s).hs =
      { s.hs with
        inflight := (complete src st dw0 dw1 data blocks s).hs.inflight
        errorCount := (complete src st dw0 dw1 data blocks s).hs.errorCount
        errors := (complete src st dw0 dw1 data blocks s).hs.errors } := by
  unfold complete answer
  split
  · have h := finish_hs src (completionOf src st dw0 dw1 data blocks) s
    rw [h]
  · simp [hold]

/-- A success is not logged. -/
theorem complete_success_hs {s : State} (src : Src) (dw0 dw1 : Dword) (data : List Byte) (blocks : List Blk)
    (h : s.hs.waitR = []) : (complete src .success dw0 dw1 data blocks s).hs = s.hs := by
  rw [complete_now _ _ _ _ _ _ h]
  simp [finish, completionOf, Status.code]

/-- A completion keeps every controller still. -/
theorem complete_still (src : Src) (st : Status) (dw0 dw1 : Dword) (data : List Byte) (blocks : List Blk) (s : State) :
    CtrlsStill s (complete src st dw0 dw1 data blocks s) := by
  unfold complete answer
  split
  · exact finish_still _ _ _
  · exact .of_eq rfl

/-- The newest entry after a completion is the command's. -/
theorem newest_complete {src : Src} {s : State} {q : Sq} {k : Cq} (st : Status) (dw0 dw1 : Dword) (data : List Byte)
    (blocks : List Blk) (hq : (s.ctrls.get src.port).sq? src.sq = some q) (hk : (s.ctrls.get src.port).cq? q.cqid = some k)
    (hw : s.hs.waitR = []) :
    newest src (complete src st dw0 dw1 data blocks s) = some { completionOf src st dw0 dw1 data blocks with sqhd := q.head } := by
  rw [complete_now _ _ _ _ _ _ hw]
  exact newest_finish (k := k) rfl hq hk

/-- A completion answers its command with its status. -/
theorem answered_complete {src : Src} {s : State} {q : Sq} {k : Cq} (st : Status) (dw0 dw1 : Dword) (data : List Byte)
    (blocks : List Blk) (hq : (s.ctrls.get src.port).sq? src.sq = some q) (hk : (s.ctrls.get src.port).cq? q.cqid = some k)
    (hw : s.hs.waitR = []) : Answered src st (complete src st dw0 dw1 data blocks s) := by
  unfold Answered
  rw [newest_complete st dw0 dw1 data blocks hq hk hw]
  rfl

/-! ### Events (R504 to R511) -/

/-- An asynchronous event report leaves its queue, clocks and phase. -/
@[simp] theorem reportAer_clock (x0 : Nat) (x1 : PortId) (s : State) :
    (reportAer x0 x1 s).pending = s.pending ∧ (reportAer x0 x1 s).clock = s.clock ∧
    (reportAer x0 x1 s).epochNs = s.epochNs ∧ (reportAer x0 x1 s).free = s.free ∧
    (reportAer x0 x1 s).phase = s.phase ∧ (reportAer x0 x1 s).ports = s.ports := by
  unfold reportAer
  dsimp only
  split
  · simp
  · split <;> simp

/-- An asynchronous event report leaves what start-up set. -/
@[simp] theorem reportAer_start (x0 : Nat) (x1 : PortId) (s : State) :
    (reportAer x0 x1 s).lockPassed = s.lockPassed ∧ (reportAer x0 x1 s).harbourCause = s.harbourCause ∧
    (reportAer x0 x1 s).tierState = s.tierState ∧ (reportAer x0 x1 s).servoPhase = s.servoPhase ∧
    (reportAer x0 x1 s).part = s.part ∧ (reportAer x0 x1 s).fw = s.fw := by
  unfold reportAer
  dsimp only
  split
  · simp
  · split <;> simp

/-- An asynchronous event report leaves its host side and flash. -/
@[simp] theorem reportAer_host (x0 : Nat) (x1 : PortId) (s : State) :
    (reportAer x0 x1 s).evt = s.evt ∧ (reportAer x0 x1 s).hs = s.hs ∧ (reportAer x0 x1 s).flash = s.flash ∧
    (reportAer x0 x1 s).tide = s.tide ∧ (reportAer x0 x1 s).bw = s.bw ∧ (reportAer x0 x1 s).mem = s.mem := by
  unfold reportAer
  dsimp only
  split
  · simp
  · split <;> simp

/-- An asynchronous event report leaves its drives and supplies. -/
@[simp] theorem reportAer_drive (x0 : Nat) (x1 : PortId) (s : State) :
    (reportAer x0 x1 s).ebb = s.ebb ∧ (reportAer x0 x1 s).bays = s.bays ∧ (reportAer x0 x1 s).doors = s.doors ∧
    (reportAer x0 x1 s).adm = s.adm ∧ (reportAer x0 x1 s).pwr = s.pwr ∧ (reportAer x0 x1 s).sup = s.sup := by
  unfold reportAer
  dsimp only
  split
  · simp
  · split <;> simp

/-- An asynchronous event report keeps every controller still. -/
theorem reportAer_still (group : Nat) (p : PortId) (s : State) : CtrlsStill s (reportAer group p s) := by
  unfold reportAer
  dsimp only
  split
  · exact .refl s
  · split
    · exact CtrlsStill.modCtrl _ _ _ fun _ => rfl
    · refine CtrlsStill.trans ?_ (post_still _ _ _)
      exact CtrlsStill.modCtrl _ _ _ fun _ => rfl

/-- A message leaves its queue, clocks and phase. -/
@[simp] theorem sendMsix_clock (x0 : List PortId) (s : State) :
    (sendMsix x0 s).pending = s.pending ∧ (sendMsix x0 s).clock = s.clock ∧ (sendMsix x0 s).epochNs = s.epochNs ∧
    (sendMsix x0 s).free = s.free ∧ (sendMsix x0 s).phase = s.phase ∧ (sendMsix x0 s).ports = s.ports := by
  unfold sendMsix
  split <;> simp

/-- A message leaves what start-up set. -/
@[simp] theorem sendMsix_start (x0 : List PortId) (s : State) :
    (sendMsix x0 s).lockPassed = s.lockPassed ∧ (sendMsix x0 s).harbourCause = s.harbourCause ∧
    (sendMsix x0 s).tierState = s.tierState ∧ (sendMsix x0 s).servoPhase = s.servoPhase ∧
    (sendMsix x0 s).part = s.part ∧ (sendMsix x0 s).fw = s.fw := by
  unfold sendMsix
  split <;> simp

/-- A message leaves its host side and flash. -/
@[simp] theorem sendMsix_host (x0 : List PortId) (s : State) :
    (sendMsix x0 s).ctrls = s.ctrls ∧ (sendMsix x0 s).hs = s.hs ∧ (sendMsix x0 s).flash = s.flash ∧
    (sendMsix x0 s).tide = s.tide ∧ (sendMsix x0 s).bw = s.bw ∧ (sendMsix x0 s).mem = s.mem := by
  unfold sendMsix
  split <;> simp

/-- A message leaves its drives and supplies. -/
@[simp] theorem sendMsix_drive (x0 : List PortId) (s : State) :
    (sendMsix x0 s).ebb = s.ebb ∧ (sendMsix x0 s).bays = s.bays ∧ (sendMsix x0 s).doors = s.doors ∧
    (sendMsix x0 s).adm = s.adm ∧ (sendMsix x0 s).pwr = s.pwr ∧ (sendMsix x0 s).sup = s.sup := by
  unfold sendMsix
  split <;> simp

/-- A message report leaves its queue, clocks and phase. -/
@[simp] theorem reportMsix_clock (s : State) :
    (reportMsix s).pending = s.pending ∧ (reportMsix s).clock = s.clock ∧ (reportMsix s).epochNs = s.epochNs ∧
    (reportMsix s).free = s.free ∧ (reportMsix s).phase = s.phase ∧ (reportMsix s).ports = s.ports := by
  unfold reportMsix
  split
  · split <;> simp
  · simp

/-- A message report leaves what start-up set. -/
@[simp] theorem reportMsix_start (s : State) :
    (reportMsix s).lockPassed = s.lockPassed ∧ (reportMsix s).harbourCause = s.harbourCause ∧
    (reportMsix s).tierState = s.tierState ∧ (reportMsix s).servoPhase = s.servoPhase ∧
    (reportMsix s).part = s.part ∧ (reportMsix s).fw = s.fw := by
  unfold reportMsix
  split
  · split <;> simp
  · simp

/-- A message report leaves its host side and flash. -/
@[simp] theorem reportMsix_host (s : State) :
    (reportMsix s).ctrls = s.ctrls ∧ (reportMsix s).hs = s.hs ∧ (reportMsix s).flash = s.flash ∧
    (reportMsix s).tide = s.tide ∧ (reportMsix s).bw = s.bw ∧ (reportMsix s).mem = s.mem := by
  unfold reportMsix
  split
  · split <;> simp
  · simp

/-- A message report leaves its drives and supplies. -/
@[simp] theorem reportMsix_drive (s : State) :
    (reportMsix s).ebb = s.ebb ∧ (reportMsix s).bays = s.bays ∧ (reportMsix s).doors = s.doors ∧
    (reportMsix s).adm = s.adm ∧ (reportMsix s).pwr = s.pwr ∧ (reportMsix s).sup = s.sup := by
  unfold reportMsix
  split
  · split <;> simp
  · simp

/-- An emergency report leaves its queue, clocks and phase. -/
@[simp] theorem reportEmcy_clock (x0 : EventRec) (s : State) :
    (reportEmcy x0 s).pending = s.pending ∧ (reportEmcy x0 s).clock = s.clock ∧
    (reportEmcy x0 s).epochNs = s.epochNs ∧ (reportEmcy x0 s).free = s.free ∧ (reportEmcy x0 s).phase = s.phase ∧
    (reportEmcy x0 s).ports = s.ports := by
  unfold reportEmcy
  split
  · simp
  · split <;> simp

/-- An emergency report leaves what start-up set. -/
@[simp] theorem reportEmcy_start (x0 : EventRec) (s : State) :
    (reportEmcy x0 s).lockPassed = s.lockPassed ∧ (reportEmcy x0 s).harbourCause = s.harbourCause ∧
    (reportEmcy x0 s).tierState = s.tierState ∧ (reportEmcy x0 s).servoPhase = s.servoPhase ∧
    (reportEmcy x0 s).part = s.part ∧ (reportEmcy x0 s).fw = s.fw := by
  unfold reportEmcy
  split
  · simp
  · split <;> simp

/-- An emergency report leaves its host side and flash. -/
@[simp] theorem reportEmcy_host (x0 : EventRec) (s : State) :
    (reportEmcy x0 s).ctrls = s.ctrls ∧ (reportEmcy x0 s).hs = s.hs ∧ (reportEmcy x0 s).flash = s.flash ∧
    (reportEmcy x0 s).tide = s.tide ∧ (reportEmcy x0 s).bw = s.bw ∧ (reportEmcy x0 s).mem = s.mem := by
  unfold reportEmcy
  split
  · simp
  · split <;> simp

/-- An emergency report leaves its drives and supplies. -/
@[simp] theorem reportEmcy_drive (x0 : EventRec) (s : State) :
    (reportEmcy x0 s).ebb = s.ebb ∧ (reportEmcy x0 s).bays = s.bays ∧ (reportEmcy x0 s).doors = s.doors ∧
    (reportEmcy x0 s).adm = s.adm ∧ (reportEmcy x0 s).pwr = s.pwr ∧ (reportEmcy x0 s).sup = s.sup := by
  unfold reportEmcy
  split
  · simp
  · split <;> simp

/-- A message report leaves the log, the sequence number and what waits for a power state. -/
@[simp] theorem reportMsix_log (s : State) :
    (reportMsix s).evt.log = s.evt.log ∧ (reportMsix s).evt.seq = s.evt.seq ∧ (reportMsix s).evt.deferred = s.evt.deferred := by
  unfold reportMsix sendMsix
  split
  · split
    · simp
    · split <;> simp
  · split <;> simp

/-- An emergency report leaves the log, the sequence number and what waits for a power state. -/
@[simp] theorem reportEmcy_log (r : EventRec) (s : State) :
    (reportEmcy r s).evt.log = s.evt.log ∧ (reportEmcy r s).evt.seq = s.evt.seq ∧
      (reportEmcy r s).evt.deferred = s.evt.deferred := by
  unfold reportEmcy
  split
  · simp
  · split <;> simp


/-- A report to every controller leaves its queue, clocks and phase. -/
theorem reportAers_clock (group : Nat) (ps : List PortId) (s : State) :
    (ps.foldl (fun t p => reportAer group p t) s).pending = s.pending ∧
    (ps.foldl (fun t p => reportAer group p t) s).clock = s.clock ∧
    (ps.foldl (fun t p => reportAer group p t) s).epochNs = s.epochNs ∧
    (ps.foldl (fun t p => reportAer group p t) s).free = s.free ∧
    (ps.foldl (fun t p => reportAer group p t) s).phase = s.phase ∧
    (ps.foldl (fun t p => reportAer group p t) s).ports = s.ports := by
  have h := foldl_keep (fun t => (t.pending, t.clock, t.epochNs, t.free, t.phase, t.ports))
    (fun t p => reportAer group p t) (fun t a => by simp) ps s
  simpa using h

/-- A report to every controller leaves what start-up set. -/
theorem reportAers_start (group : Nat) (ps : List PortId) (s : State) :
    (ps.foldl (fun t p => reportAer group p t) s).lockPassed = s.lockPassed ∧
    (ps.foldl (fun t p => reportAer group p t) s).harbourCause = s.harbourCause ∧
    (ps.foldl (fun t p => reportAer group p t) s).tierState = s.tierState ∧
    (ps.foldl (fun t p => reportAer group p t) s).servoPhase = s.servoPhase ∧
    (ps.foldl (fun t p => reportAer group p t) s).part = s.part ∧
    (ps.foldl (fun t p => reportAer group p t) s).fw = s.fw := by
  have h := foldl_keep (fun t => (t.lockPassed, t.harbourCause, t.tierState, t.servoPhase, t.part, t.fw))
    (fun t p => reportAer group p t) (fun t a => by simp) ps s
  simpa using h

/-- A report to every controller leaves its host side and flash. -/
theorem reportAers_host (group : Nat) (ps : List PortId) (s : State) :
    (ps.foldl (fun t p => reportAer group p t) s).evt = s.evt ∧
    (ps.foldl (fun t p => reportAer group p t) s).hs = s.hs ∧
    (ps.foldl (fun t p => reportAer group p t) s).flash = s.flash ∧
    (ps.foldl (fun t p => reportAer group p t) s).tide = s.tide ∧
    (ps.foldl (fun t p => reportAer group p t) s).bw = s.bw ∧
    (ps.foldl (fun t p => reportAer group p t) s).mem = s.mem := by
  have h := foldl_keep (fun t => (t.evt, t.hs, t.flash, t.tide, t.bw, t.mem))
    (fun t p => reportAer group p t) (fun t a => by simp) ps s
  simpa using h

/-- A report to every controller leaves its drives and supplies. -/
theorem reportAers_drive (group : Nat) (ps : List PortId) (s : State) :
    (ps.foldl (fun t p => reportAer group p t) s).ebb = s.ebb ∧
    (ps.foldl (fun t p => reportAer group p t) s).bays = s.bays ∧
    (ps.foldl (fun t p => reportAer group p t) s).doors = s.doors ∧
    (ps.foldl (fun t p => reportAer group p t) s).adm = s.adm ∧
    (ps.foldl (fun t p => reportAer group p t) s).pwr = s.pwr ∧
    (ps.foldl (fun t p => reportAer group p t) s).sup = s.sup := by
  have h := foldl_keep (fun t => (t.ebb, t.bays, t.doors, t.adm, t.pwr, t.sup))
    (fun t p => reportAer group p t) (fun t a => by simp) ps s
  simpa using h

/-- A report to every controller keeps every controller still. -/
theorem reportAers_still (group : Nat) (ps : List PortId) (s : State) :
    CtrlsStill s (ps.foldl (fun t p => reportAer group p t) s) :=
  CtrlsStill.foldl _ (fun t p => reportAer_still group p t) ps s

/-- Delivery leaves its queue, clocks and phase. -/
@[simp] theorem deliver_clock (x0 : EventRec) (s : State) :
    (deliver x0 s).pending = s.pending ∧ (deliver x0 s).clock = s.clock ∧ (deliver x0 s).epochNs = s.epochNs ∧
    (deliver x0 s).free = s.free ∧ (deliver x0 s).phase = s.phase ∧ (deliver x0 s).ports = s.ports := by
  unfold deliver
  dsimp only
  split <;> split <;> split <;> simp [reportAers_clock]

/-- Delivery leaves what start-up set. -/
@[simp] theorem deliver_start (x0 : EventRec) (s : State) :
    (deliver x0 s).lockPassed = s.lockPassed ∧ (deliver x0 s).harbourCause = s.harbourCause ∧
    (deliver x0 s).tierState = s.tierState ∧ (deliver x0 s).servoPhase = s.servoPhase ∧
    (deliver x0 s).part = s.part ∧ (deliver x0 s).fw = s.fw := by
  unfold deliver
  dsimp only
  split <;> split <;> split <;> simp [reportAers_start]

/-- Delivery leaves its host side and flash. -/
@[simp] theorem deliver_host (x0 : EventRec) (s : State) :
    (deliver x0 s).hs = s.hs ∧ (deliver x0 s).flash = s.flash ∧ (deliver x0 s).tide = s.tide ∧
    (deliver x0 s).bw = s.bw ∧ (deliver x0 s).mem = s.mem := by
  unfold deliver
  dsimp only
  split <;> split <;> split <;> simp [reportAers_host]

/-- Delivery leaves its drives and supplies. -/
@[simp] theorem deliver_drive (x0 : EventRec) (s : State) :
    (deliver x0 s).ebb = s.ebb ∧ (deliver x0 s).bays = s.bays ∧ (deliver x0 s).doors = s.doors ∧
    (deliver x0 s).adm = s.adm ∧ (deliver x0 s).pwr = s.pwr ∧ (deliver x0 s).sup = s.sup := by
  unfold deliver
  dsimp only
  split <;> split <;> split <;> simp [reportAers_drive]

/-- Delivery leaves the log, the sequence number and what waits for a power state. -/
@[simp] theorem deliver_log (r : EventRec) (s : State) :
    (deliver r s).evt.log = s.evt.log ∧ (deliver r s).evt.seq = s.evt.seq ∧ (deliver r s).evt.deferred = s.evt.deferred := by
  unfold deliver
  dsimp only
  split <;> split <;> split <;> simp [reportAers_host]

/-- Delivery keeps every controller still. -/
theorem deliver_still (r : EventRec) (s : State) : CtrlsStill s (deliver r s) := by
  have h : CtrlsStill s (if masked s 1 r.ev then s else allPorts.foldl (fun t p => reportAer (eventGroup r.ev) p t) s) := by
    split
    · exact .refl s
    · exact reportAers_still _ _ s
  unfold deliver
  dsimp only
  refine h.trans (.of_eq ?_)
  split <;> split <;> simp

/-- Recording an event leaves its queue, clocks and phase. -/
@[simp] theorem raiseNow_clock (x0 : Nat) (x1 : Nat) (x2 : List Nat) (s : State) :
    (raiseNow x0 x1 x2 s).pending = s.pending ∧ (raiseNow x0 x1 x2 s).clock = s.clock ∧
    (raiseNow x0 x1 x2 s).epochNs = s.epochNs ∧ (raiseNow x0 x1 x2 s).free = s.free ∧
    (raiseNow x0 x1 x2 s).phase = s.phase ∧ (raiseNow x0 x1 x2 s).ports = s.ports := by
  unfold raiseNow
  dsimp only
  split <;> simp

/-- Recording an event leaves what start-up set. -/
@[simp] theorem raiseNow_start (x0 : Nat) (x1 : Nat) (x2 : List Nat) (s : State) :
    (raiseNow x0 x1 x2 s).lockPassed = s.lockPassed ∧ (raiseNow x0 x1 x2 s).harbourCause = s.harbourCause ∧
    (raiseNow x0 x1 x2 s).tierState = s.tierState ∧ (raiseNow x0 x1 x2 s).servoPhase = s.servoPhase ∧
    (raiseNow x0 x1 x2 s).part = s.part ∧ (raiseNow x0 x1 x2 s).fw = s.fw := by
  unfold raiseNow
  dsimp only
  split <;> simp

/-- Recording an event leaves its host side and flash. -/
@[simp] theorem raiseNow_host (x0 : Nat) (x1 : Nat) (x2 : List Nat) (s : State) :
    (raiseNow x0 x1 x2 s).hs = s.hs ∧ (raiseNow x0 x1 x2 s).flash = s.flash ∧ (raiseNow x0 x1 x2 s).bw = s.bw ∧
    (raiseNow x0 x1 x2 s).mem = s.mem := by
  unfold raiseNow
  dsimp only
  split <;> simp

/-- Recording an event leaves its drives and supplies. -/
@[simp] theorem raiseNow_drive (x0 : Nat) (x1 : Nat) (x2 : List Nat) (s : State) :
    (raiseNow x0 x1 x2 s).ebb = s.ebb ∧ (raiseNow x0 x1 x2 s).bays = s.bays ∧ (raiseNow x0 x1 x2 s).doors = s.doors ∧
    (raiseNow x0 x1 x2 s).adm = s.adm ∧ (raiseNow x0 x1 x2 s).pwr = s.pwr ∧ (raiseNow x0 x1 x2 s).sup = s.sup := by
  unfold raiseNow
  dsimp only
  split <;> simp

/-- Recording an event keeps every controller still. -/
theorem raiseNow_still (ev cause : Nat) (data : List Nat) (s : State) : CtrlsStill s (raiseNow ev cause data s) := by
  unfold raiseNow
  dsimp only
  split
  · exact .of_eq rfl
  · refine CtrlsStill.trans ?_ (deliver_still _ _)
    exact .of_eq (by simp)

/-- A merge leaves the event's newest record with its cause and the new data. -/
theorem find_mergeRecord (ev : Nat) (data : List Nat) (t : Nat) (l : List EventRec) :
    ((mergeRecord ev data t l).find? fun r => r.ev == ev).map (fun r => (r.cause, r.data)) =
      (l.find? fun r => r.ev == ev).map fun r => (r.cause, data) := by
  induction l with
  | nil => rfl
  | cons r rs ih =>
    unfold mergeRecord
    by_cases h : r.ev = ev
    · simp [h]
    · have hb : (r.ev == ev) = false := by simpa using h
      rw [if_neg h, List.find?_cons, List.find?_cons, hb]
      exact ih

/-- The first record of an event in a log that took one of that event is the one taken, but for its sequence (R505). -/
theorem find_placeRecord (r : EventRec) (n : Nat) (l : List EventRec) :
    ((placeRecord r n l).find? fun x => x.ev == r.ev).map (fun x => (x.cause, x.data)) = some (r.cause, r.data) := by
  induction l generalizing n with
  | nil => simp [placeRecord]
  | cons x xs ih =>
    unfold placeRecord
    split
    · next h =>
      have hx : (x.ev == r.ev) = false := by simp; omega
      simpa [List.find?_cons, hx] using ih (n - 1)
    · simp

/-- A record placed makes a log one longer (R505). -/
@[simp] theorem length_placeRecord (r : EventRec) (n : Nat) (l : List EventRec) : (placeRecord r n l).length = l.length + 1 := by
  induction l generalizing n with
  | nil => rfl
  | cons x xs ih =>
    unfold placeRecord
    split <;> simp [ih]

/-- After a recording, the event's newest record has the cause and the data of the raise (R504, R506). -/
theorem raiseNow_hasEvent (ev cause : Nat) (data : List Nat) (s : State) : HasEvent ev cause data (raiseNow ev cause data s) := by
  unfold HasEvent raiseNow
  dsimp only
  split
  · next h =>
    refine (find_mergeRecord ev data (nowNs s) s.evt.log).trans ?_
    unfold mergeable at h
    split at h
    · next r hr =>
      rw [hr]
      simp only [Bool.and_eq_true, beq_iff_eq] at h
      simp [h.1]
    · exact absurd h (by decide)
  · rw [(deliver_log _ _).1]
    unfold pushRecord putLog
    dsimp only
    rw [List.take_of_length_le (by simp <;> omega)]
    exact find_placeRecord (newRecord ev cause data s) _ _

/-- A raise leaves its queue, clocks and phase. -/
@[simp] theorem raise_clock (x0 : Nat) (x1 : Nat) (x2 : List Nat) (s : State) :
    (raise x0 x1 x2 s).pending = s.pending ∧ (raise x0 x1 x2 s).clock = s.clock ∧
    (raise x0 x1 x2 s).epochNs = s.epochNs ∧ (raise x0 x1 x2 s).free = s.free ∧ (raise x0 x1 x2 s).phase = s.phase ∧
    (raise x0 x1 x2 s).ports = s.ports := by
  unfold raise
  split
  · simp
  · split <;> simp

/-- A raise leaves what start-up set. -/
@[simp] theorem raise_start (x0 : Nat) (x1 : Nat) (x2 : List Nat) (s : State) :
    (raise x0 x1 x2 s).lockPassed = s.lockPassed ∧ (raise x0 x1 x2 s).harbourCause = s.harbourCause ∧
    (raise x0 x1 x2 s).tierState = s.tierState ∧ (raise x0 x1 x2 s).servoPhase = s.servoPhase ∧
    (raise x0 x1 x2 s).part = s.part ∧ (raise x0 x1 x2 s).fw = s.fw := by
  unfold raise
  split
  · simp
  · split <;> simp

/-- A raise leaves its host side and flash. -/
@[simp] theorem raise_host (x0 : Nat) (x1 : Nat) (x2 : List Nat) (s : State) :
    (raise x0 x1 x2 s).hs = s.hs ∧ (raise x0 x1 x2 s).flash = s.flash ∧ (raise x0 x1 x2 s).bw = s.bw ∧
    (raise x0 x1 x2 s).mem = s.mem := by
  unfold raise
  split
  · simp
  · split <;> simp

/-- A raise leaves its drives and supplies. -/
@[simp] theorem raise_drive (x0 : Nat) (x1 : Nat) (x2 : List Nat) (s : State) :
    (raise x0 x1 x2 s).ebb = s.ebb ∧ (raise x0 x1 x2 s).bays = s.bays ∧ (raise x0 x1 x2 s).doors = s.doors ∧
    (raise x0 x1 x2 s).adm = s.adm ∧ (raise x0 x1 x2 s).pwr = s.pwr ∧ (raise x0 x1 x2 s).sup = s.sup := by
  unfold raise
  split
  · simp
  · split <;> simp

/-- A raise keeps every controller still. -/
theorem raise_still (ev cause : Nat) (data : List Nat) (s : State) : CtrlsStill s (raise ev cause data s) := by
  unfold raise
  split
  · exact .refl s
  · split
    · exact .of_eq rfl
    · exact raiseNow_still _ _ _ _

/-- A raise touches nothing of Tidemark but the clean flag. -/
theorem raise_tide (ev cause : Nat) (data : List Nat) (s : State) :
    (raise ev cause data s).tide = s.tide ∨ (raise ev cause data s).tide = { s.tide with clean := false } := by
  unfold raise
  split
  · exact .inl rfl
  · split
    · exact .inl rfl
    · unfold raiseNow
      dsimp only
      split
      · exact .inr rfl
      · exact .inr (by simp [tideRecord])

/-- A raise that is allowed, outside PS4, leaves the event's newest record with its cause and data (R504 to R506). -/
theorem raise_hasEvent {ev : Nat} {s : State} (cause : Nat) (data : List Nat) (ha : eventAllowed s ev = true)
    (hp : s.pwr.ps ≠ 4) : HasEvent ev cause data (raise ev cause data s) := by
  unfold raise
  rw [if_neg (by simp [ha]), if_neg (by simp [hp])]
  exact raiseNow_hasEvent _ _ _ _

/-- An event that is not allowed is not raised (R5, R475). -/
theorem raise_notAllowed {ev : Nat} {s : State} (cause : Nat) (data : List Nat) (ha : eventAllowed s ev = false) :
    raise ev cause data s = s := by
  unfold raise
  rw [if_pos ha]

/-- The device's own events are always allowed. -/
theorem eventAllowed_device {ev : Nat} (s : State) (h : ev < 128) : eventAllowed s ev = true := by
  unfold eventAllowed
  rw [dif_neg (by omega)]
  simp
  omega

end Sys2Proof.Machine
end

