-- ==== Sys2Proof/Laws/Frames.lean ====
section
/-! SUPPORT. System frames (R265, R266): a frame that is laid out checks, and its fields read back. -/

namespace Sys2Proof.Machine

open Sys2Proof

@[simp] theorem length_leBytes (n v : Nat) : (leBytes n v).length = n := by
  induction n generalizing v with
  | zero => rfl
  | succ n ih => simp [leBytes, ih]

theorem ofBytes_leBytes (n v : Nat) : ofBytes (leBytes n v) = v % 256 ^ n := by
  induction n generalizing v with
  | zero => simp [leBytes, ofBytes, Nat.mod_one]
  | succ n ih =>
    have e : 256 ^ (n + 1) = 256 * 256 ^ n := by rw [Nat.pow_succ, Nat.mul_comm]
    simp only [leBytes, ofBytes, ih, BitVec.toNat_ofNat, e]
    rw [Nat.mod_mul]

@[simp] theorem length_takePad (n : Nat) (l : List Byte) : (takePad n l).length = n := by
  simp [takePad]; omega

theorem crc32_lt (l : List Byte) : crc32 l < 2 ^ 32 := BitVec.isLt _

/-- The bytes of a system frame that its CRC covers. -/
theorem length_systemHead (obj index sid role : Nat) (body : List Byte) :
    (frameHeader obj index sid role ++ takePad 4096 body).length = 4112 := by
  simp [frameHeader]

@[simp] theorem length_systemFrame (type seq sid role : Nat) (body : List Byte) :
    (systemFrame type seq sid role body).length = 4128 := by
  simp [systemFrame, frameHeader]

/-- A field of the header, whatever follows it. -/
theorem cellField_append_left {l m : List Byte} {lo n : Nat} (h : lo + n ≤ l.length) :
    cellField (l ++ m) lo n = cellField l lo n := by
  simp only [cellField]
  rw [List.drop_append_of_le_length (by omega), List.take_append_of_le_length (by simp; omega)]

theorem cellField_append_right {l m : List Byte} {lo n : Nat} (h : l.length ≤ lo) :
    cellField (l ++ m) lo n = cellField m (lo - l.length) n := by
  simp only [cellField]
  rw [List.drop_append, List.drop_eq_nil_of_le h, List.nil_append]

theorem cellField_leBytes (n v : Nat) : cellField (leBytes n v) 0 n = v % 256 ^ n := by
  rw [cellField, List.drop_zero, List.take_of_length_le (by simp), ofBytes_leBytes]

/-- A laid-out system frame passes its check. -/
theorem systemOk_systemFrame {type seq sid role : Nat} {body : List Byte} (h : type * 16777216 + seq < 2 ^ 32) :
    systemOk type seq (systemFrame type seq sid role body) = true := by
  have e : (systemFrame type seq sid role body).take 4112 =
      frameHeader systemObject (type * 16777216 + seq) sid role ++ takePad 4096 body := by
    simp only [systemFrame, List.append_assoc]
    rw [← List.append_assoc, List.take_append_of_le_length (by simp [frameHeader])]
    exact List.take_of_length_le (by simp [frameHeader])
  have c : cellField (systemFrame type seq sid role body) 4112 4 =
      crc32 (frameHeader systemObject (type * 16777216 + seq) sid role ++ takePad 4096 body) := by
    simp only [systemFrame]
    rw [List.append_assoc, cellField_append_right (by simp [frameHeader]), length_systemHead,
      cellField_append_left (by simp), Nat.sub_self, cellField_leBytes]
    exact Nat.mod_eq_of_lt (crc32_lt _)
  have o : cellField (systemFrame type seq sid role body) 0 8 = systemObject := by
    simp only [systemFrame, frameHeader, List.append_assoc]
    rw [cellField_append_left (by simp), cellField_leBytes]
    rfl
  have i : cellField (systemFrame type seq sid role body) 8 4 = type * 16777216 + seq := by
    simp only [systemFrame, frameHeader, List.append_assoc]
    rw [cellField_append_right (by simp), cellField_append_left (by simp)]
    simp only [length_leBytes, Nat.sub_self]
    rw [cellField_leBytes]
    exact Nat.mod_eq_of_lt h
  simp only [systemOk, e, c, o, i, length_systemFrame, beq_self_eq_true, Bool.and_self]

/-- A slice of a frame's body. -/
theorem systemFrame_slice {type seq sid role lo n : Nat} {body : List Byte} (h : lo + n ≤ 4096) :
    ((systemFrame type seq sid role body).drop (16 + lo)).take n = ((takePad 4096 body).drop lo).take n := by
  have e : (frameHeader systemObject (type * 16777216 + seq) sid role).length = 16 := by simp [frameHeader]
  simp only [systemFrame, List.append_assoc]
  rw [List.drop_append, List.drop_eq_nil_of_le (by omega), List.nil_append, e, Nat.add_sub_cancel_left,
    List.drop_append_of_le_length (by simp; omega), List.take_append_of_le_length (by simp; omega)]

/-- The media information record of a lead-in that is laid out reads. -/
theorem LeadIn.readable_systemFrame {body : List Byte} {m : Bool} {ts : List TailPair} {seq : Nat} (hs : seq < 16777216)
    (h : ((takePad 4096 body).drop 0).take 4 = ascii "GX24") :
    LeadIn.readable { record := systemFrame 1 seq 0 255 body, marked := m, tails := ts } = true := by
  have f : ∀ (x k : Nat), x + k ≤ 16 → cellField (systemFrame 1 seq 0 255 body) x k =
      cellField (frameHeader systemObject (1 * 16777216 + seq) 0 255) x k := by
    intro x k hx
    simp only [systemFrame, List.append_assoc]
    exact cellField_append_left (by simp [frameHeader]; omega)
  have i : cellField (systemFrame 1 seq 0 255 body) 8 3 = seq := by
    rw [f 8 3 (by omega)]
    simp only [frameHeader, List.append_assoc]
    rw [cellField_append_right (by simp)]
    simp only [length_leBytes, Nat.sub_self]
    rw [cellField_append_left (by simp)]
    simp only [cellField, List.drop_zero, leBytes, List.take_succ_cons, List.take_zero, ofBytes, BitVec.toNat_ofNat]
    omega
  have z : cellField (systemFrame 1 seq 0 255 body) 12 3 = 0 := by
    rw [f 12 3 (by omega)]
    simp only [frameHeader]
    rw [List.append_assoc, cellField_append_right (by simp), cellField_append_left (by simp)]
    rfl
  have r : cellByte (systemFrame 1 seq 0 255 body) 15 = 255 := by
    simp only [cellByte, systemFrame, frameHeader, leBytes, List.cons_append, List.nil_append, List.getD_cons_succ,
      List.getD_cons_zero]
    rfl
  simp only [LeadIn.readable, i, systemOk_systemFrame (show 1 * 16777216 + seq < 2 ^ 32 by omega), z, r,
    systemFrame_slice (lo := 0) (n := 4) (body := body) (by omega), h, beq_self_eq_true, Bool.and_self]

end Sys2Proof.Machine
end

