-- ==== Sys2Proof/Laws/Nor.lean ====
section
/-! SUPPORT. The boot NOR as a memory (R467, log 6): what a byte reads as after a put, an erase or a program, and that each
operation keeps the canonical form. -/

namespace Sys2Proof.Machine

open Sys2Proof

/-- The canonical form of a list from lo on, one cell at a time. -/
theorem norWfFrom_cons (lo : Nat) (c : Host.Cell) (cs : List Host.Cell) :
    norWfFrom lo (c :: cs) = true ↔ lo ≤ c.1 ∧ c.2 ≠ norErased ∧ norWfFrom (c.1 + 1) cs = true := by
  simp [norWfFrom, and_assoc]

/-- A list canonical from hi on is canonical from any lower address on. -/
theorem norWfFrom_mono {lo hi : Nat} {m : List Host.Cell} (hle : lo ≤ hi) (h : norWfFrom hi m = true) :
    norWfFrom lo m = true := by
  cases m with
  | nil => rfl
  | cons c cs =>
    rw [norWfFrom_cons] at h ⊢
    exact ⟨by omega, h.2⟩

/-- An address below the first listed one reads as erased. -/
theorem norByte_below {lo a : Nat} {m : List Host.Cell} (ha : a < lo) (h : norWfFrom lo m = true) : norByte m a = norErased := by
  induction m generalizing lo with
  | nil => rfl
  | cons c cs ih =>
    rw [norWfFrom_cons] at h
    have hne : c.1 ≠ a := by omega
    simp only [norByte, if_neg hne]
    exact ih (lo := c.1 + 1) (by omega) h.2.2

/-- A put keeps the canonical form. -/
theorem norPut_wfFrom {lo a : Nat} (v : Byte) {m : List Host.Cell} (ha : lo ≤ a) (h : norWfFrom lo m = true) :
    norWfFrom lo (norPut a v m) = true := by
  induction m generalizing lo with
  | nil =>
    by_cases hv : v = norErased <;> simp [norPut, norWfFrom, hv, ha]
  | cons c cs ih =>
    rw [norWfFrom_cons] at h
    obtain ⟨h1, h2, h3⟩ := h
    unfold norPut
    split
    · split
      · exact (norWfFrom_cons ..).2 ⟨h1, h2, h3⟩
      · exact (norWfFrom_cons ..).2 ⟨ha, ‹_›, (norWfFrom_cons ..).2 ⟨by dsimp only; omega, h2, h3⟩⟩
    · split
      · split
        · exact norWfFrom_mono (by omega) h3
        · exact (norWfFrom_cons ..).2 ⟨ha, ‹_›, by subst a; exact h3⟩
      · exact (norWfFrom_cons ..).2 ⟨h1, h2, ih (by omega) h3⟩

/-- A put keeps the canonical form of the whole. -/
theorem norPut_wf (a : Nat) (v : Byte) {m : List Host.Cell} (h : norWf m = true) : norWf (norPut a v m) = true :=
  norPut_wfFrom v (Nat.zero_le a) h

/-- The byte that is put is read. -/
theorem norByte_put_same {lo : Nat} (a : Nat) (v : Byte) {m : List Host.Cell} (h : norWfFrom lo m = true) :
    norByte (norPut a v m) a = v := by
  induction m generalizing lo with
  | nil =>
    by_cases hv : v = norErased
    · simp [norPut, norByte, hv]
    · simp [norPut, norByte, hv]
  | cons c cs ih =>
    rw [norWfFrom_cons] at h
    unfold norPut
    split
    · split
      · next hlt hv =>
        subst hv
        exact norByte_below (lo := c.1) hlt ((norWfFrom_cons ..).2 ⟨Nat.le_refl _, h.2⟩)
      · simp [norByte]
    · split
      · split
        · next heq hv =>
          subst hv
          exact norByte_below (lo := c.1 + 1) (by omega) h.2.2
        · simp [norByte]
      · next hne =>
        simp only [norByte, if_neg (Ne.symm hne)]
        exact ih h.2.2

/-- Every other byte reads as before. -/
theorem norByte_put_other {lo a b : Nat} (v : Byte) {m : List Host.Cell} (hab : b ≠ a) (h : norWfFrom lo m = true) :
    norByte (norPut a v m) b = norByte m b := by
  induction m generalizing lo with
  | nil =>
    by_cases hv : v = norErased
    · simp [norPut, norByte, hv]
    · simp [norPut, norByte, hv, Ne.symm hab]
  | cons c cs ih =>
    rw [norWfFrom_cons] at h
    unfold norPut
    split
    · split
      · rfl
      · simp [norByte, Ne.symm hab]
    · split
      · next heq =>
        subst heq
        split
        · simp only [norByte, if_neg (Ne.symm hab)]
        · simp only [norByte, if_neg (Ne.symm hab)]
      · simp only [norByte, ih h.2.2]

/-- An erase keeps the canonical form. -/
theorem norErase_wfFrom {b : Nat} (lo hi : Nat) {m : List Host.Cell} (h : norWfFrom b m = true) :
    norWfFrom b (norErase lo hi m) = true := by
  induction m generalizing b with
  | nil => rfl
  | cons c cs ih =>
    rw [norWfFrom_cons] at h
    unfold norErase
    rw [List.filter_cons]
    split
    · exact (norWfFrom_cons ..).2 ⟨h.1, h.2.1, ih h.2.2⟩
    · exact norWfFrom_mono (by omega) (ih (b := c.1 + 1) h.2.2)

/-- An erase keeps the canonical form of the whole. -/
theorem norErase_wf (lo hi : Nat) {m : List Host.Cell} (h : norWf m = true) : norWf (norErase lo hi m) = true :=
  norErase_wfFrom lo hi h

/-- After an erase the addresses of its range read as erased, the others as before. -/
theorem norByte_erase (lo hi a : Nat) (m : List Host.Cell) :
    norByte (norErase lo hi m) a = if lo ≤ a ∧ a < hi then norErased else norByte m a := by
  induction m with
  | nil => simp [norErase, norByte]
  | cons c cs ih =>
    unfold norErase at ih ⊢
    rw [List.filter_cons]
    by_cases hc : c.1 < lo ∨ hi ≤ c.1
    · have hk : (decide (c.1 < lo) || decide (hi ≤ c.1)) = true := by simpa using hc
      rw [if_pos hk]
      by_cases ha : c.1 = a
      · subst ha
        have hr : ¬(lo ≤ c.1 ∧ c.1 < hi) := by omega
        simp [norByte, hr]
      · simp only [norByte, if_neg ha, ih]
    · have hk : ¬(decide (c.1 < lo) || decide (hi ≤ c.1)) = true := by simpa using hc
      rw [if_neg hk, ih]
      by_cases ha : c.1 = a
      · have hr : lo ≤ a ∧ a < hi := by omega
        simp [hr]
      · simp only [norByte, if_neg ha]

/-- A program keeps the canonical form. -/
theorem norProgram_wf (free a : Nat) (vs : List Byte) {m : List Host.Cell} (h : norWf m = true) :
    norWf (norProgram free a vs m) = true := by
  induction vs generalizing free a m with
  | nil => exact h
  | cons v vs ih => exact ih _ _ (norPut_wf _ _ h)

/-- A program leaves every byte outside its range as it was. -/
theorem norByte_program_other (free a b : Nat) (vs : List Byte) {m : List Host.Cell} (h : norWf m = true)
    (hb : b < a ∨ a + vs.length ≤ b) : norByte (norProgram free a vs m) b = norByte m b := by
  induction vs generalizing free a m with
  | nil => rfl
  | cons v vs ih =>
    simp only [List.length_cons] at hb
    unfold norProgram
    refine (ih _ _ (norPut_wf _ _ h) (by omega)).trans (norByte_put_other _ (by omega) h)

/-- A program writes an erased byte of its range. -/
theorem norByte_program (free a k : Nat) (vs : List Byte) {m : List Host.Cell} (h : norWf m = true) (hk : k < vs.length)
    (he : norByte m (a + k) = norErased) : norByte (norProgram free a vs m) (a + k) = vs[k] := by
  induction vs generalizing free a k m with
  | nil => exact absurd hk (Nat.not_lt_zero k)
  | cons v vs ih =>
    unfold norProgram
    cases k with
    | zero =>
      have he' : norByte m a = norErased := he
      simp only [he', if_pos, Nat.add_zero, List.getElem_cons_zero]
      exact (norByte_program_other _ _ _ _ (norPut_wf _ _ h) (by omega)).trans (norByte_put_same a v h)
    | succ k =>
      have hk' : k < vs.length := by simpa using hk
      have hadd : a + (k + 1) = a + 1 + k := by omega
      rw [hadd, List.getElem_cons_succ]
      exact ih _ _ _ (norPut_wf _ _ h) hk' (by rw [norByte_put_other _ (by omega) h, ← hadd]; exact he)

/-- Puts in sequence keep the canonical form. -/
theorem norPuts_wf (base : Nat) (cells : List Host.Cell) {m : List Host.Cell} (h : norWf m = true) :
    norWf (cells.foldl (fun m c => norPut (base + c.1) c.2 m) m) = true := by
  induction cells generalizing m with
  | nil => exact h
  | cons c cs ih => exact ih (norPut_wf _ _ h)

/-- Canonical lists that read the same are the same list. -/
theorem nor_ext {lo : Nat} {m n : List Host.Cell} (hm : norWfFrom lo m = true) (hn : norWfFrom lo n = true)
    (h : ∀ a : Nat, norByte m a = norByte n a) : m = n := by
  induction m generalizing lo n with
  | nil =>
    cases n with
    | nil => rfl
    | cons c cs =>
      rw [norWfFrom_cons] at hn
      have hc := h c.1
      simp only [norByte, if_pos] at hc
      exact absurd hc.symm hn.2.1
  | cons c cs ih =>
    have hm' := (norWfFrom_cons ..).1 hm
    cases n with
    | nil =>
      have hc := h c.1
      simp only [norByte, if_pos] at hc
      exact absurd hc hm'.2.1
    | cons d ds =>
      have hn' := (norWfFrom_cons ..).1 hn
      have key : c.1 = d.1 := by
        rcases Nat.lt_trichotomy c.1 d.1 with hlt | heq | hgt
        · have hc := h c.1
          rw [norByte_below (m := d :: ds) hlt ((norWfFrom_cons ..).2 ⟨Nat.le_refl _, hn'.2⟩)] at hc
          simp only [norByte, if_pos] at hc
          exact absurd hc hm'.2.1
        · exact heq
        · have hc := h d.1
          rw [norByte_below (m := c :: cs) hgt ((norWfFrom_cons ..).2 ⟨Nat.le_refl _, hm'.2⟩)] at hc
          simp only [norByte, if_pos] at hc
          exact absurd hc.symm hn'.2.1
      have hv : c.2 = d.2 := by
        have hc := h c.1
        simpa [norByte, key] using hc
      have hcd : c = d := Prod.ext key hv
      subst hcd
      refine congrArg (c :: ·) (ih hm'.2.2 hn'.2.2 fun a => ?_)
      by_cases ha : c.1 = a
      · rw [norByte_below (lo := c.1 + 1) (by omega) hm'.2.2, norByte_below (lo := c.1 + 1) (by omega) hn'.2.2]
      · have hx := h a
        simpa only [norByte, if_neg ha] using hx

/-- The NOR at reset is canonical: nothing is listed. -/
theorem reset_norWf : norWf State.reset.fw.nor = true := rfl

end Sys2Proof.Machine
end

