-- ==== Sys2Proof/Laws/Kept.lean ====
section
/-! SUPPORT. The operations that write the boot NOR or blow anti-rollback cells, and those that call them: the queue and the
part's identity stay, a blown cell stays blown, and the NOR keeps its canonical form (R467, R520, R522). -/

namespace Sys2Proof.Machine

open Sys2Proof

/-- From s to t the queue and the part's identity stay, blown cells stay blown, and the NOR stays canonical. -/
def Kept (s t : State) : Prop :=
  t.pending = s.pending ∧ t.part.code = s.part.code ∧ t.part.serial = s.part.serial ∧
    (∀ i : Nat, s.part.arCells[i]? = some .blown → t.part.arCells[i]? = some .blown) ∧
    (norWf s.fw.nor = true → norWf t.fw.nor = true)

/-- Nothing changed. -/
theorem Kept.refl (s : State) : Kept s s := ⟨rfl, rfl, rfl, fun _ h => h, id⟩

/-- One after the other. -/
theorem Kept.trans {s t u : State} (h : Kept s t) (h' : Kept t u) : Kept s u :=
  ⟨h'.1.trans h.1, h'.2.1.trans h.2.1, h'.2.2.1.trans h.2.2.1, fun i hi => h'.2.2.2.1 i (h.2.2.2.1 i hi),
    fun hw => h'.2.2.2.2 (h.2.2.2.2 hw)⟩

/-- What keeps the anchor keeps all of it. -/
theorem Kept.of_anchor {s t : State} (h : t.anchor = s.anchor) : Kept s t := by
  simp only [State.anchor, Prod.mk.injEq] at h
  obtain ⟨h1, h2, h3, h4, h5⟩ := h
  exact ⟨h1, h2, h3, fun i hi => by rw [h4]; exact hi, fun hw => by rw [h5]; exact hw⟩

/-- Then an operation that keeps the anchor. -/
theorem Kept.then_anchor {s t u : State} (h : Kept s t) (h' : u.anchor = t.anchor) : Kept s u := h.trans (.of_anchor h')

/-- Then a completion. -/
theorem Kept.complete {s t : State} (src : Src) (st : Status) (dw0 dw1 : Dword) (data : List Byte) (blocks : List Blk)
    (h : Kept s t) : Kept s (complete src st dw0 dw1 data blocks t) := h.then_anchor (by simp)

/-- Then an answer of the bench port. -/
theorem Kept.putBench {s t : State} (st a : Nat) (data : List Byte) (h : Kept s t) : Kept s (putBench st a data t) :=
  h.then_anchor (by simp)

/-- A fold of steps that keep. -/
theorem Kept.foldl {α : Type} (g : State → α → State) (h : ∀ t a, Kept t (g t a)) (l : List α) (s : State) :
    Kept s (l.foldl g s) := by
  induction l generalizing s with
  | nil => exact .refl s
  | cons a l ih => exact (h s a).trans (ih (g s a))

/-! ### Anti-rollback cells (R522) -/

/-- Blowing a cell. -/
theorem blowCell_kept (i : Nat) (s : State) : Kept s (blowCell i s) := by
  refine ⟨rfl, rfl, rfl, fun j hj => ?_, id⟩
  unfold blowCell modNth
  rw [List.getElem?_mapIdx, hj]
  by_cases h : j = i <;> simp [h]

/-- Blowing torn cells. -/
theorem repairCells_kept (s : State) : Kept s (repairCells s) :=
  Kept.foldl _ (fun t i => (blowCell_kept i t).then_anchor (raise_anchor _ _ _ _)) _ _

/-- Blowing up to a security version. -/
theorem blowTo_kept (n : Nat) (s : State) : Kept s (blowTo n s) :=
  Kept.foldl _ (fun t i => blowCell_kept i t) _ _

/-! ### Writing the NOR (R467, R520) -/

/-- New NOR contents in canonical form. -/
theorem putNor_kept {m : List Host.Cell} (n : Nat) (s : State) (h : norWf s.fw.nor = true → norWf m = true) :
    Kept s (putNor m n s) := by
  unfold putNor modSlot
  split
  · exact ⟨rfl, rfl, rfl, fun _ hi => hi, h⟩
  · exact ⟨rfl, rfl, rfl, fun _ hi => hi, h⟩

/-- Storing the downloaded image. -/
theorem storeImage_kept (n : Nat) (image : FwImage) (marked : Bool) (s : State) : Kept s (storeImage n image marked s) := by
  unfold storeImage modSlot
  dsimp only
  split
  · exact ⟨rfl, rfl, rfl, fun _ hi => hi, fun h => norPuts_wf _ _ (norErase_wf _ _ h)⟩
  · exact ⟨rfl, rfl, rfl, fun _ hi => hi, fun h => norPuts_wf _ _ (norErase_wf _ _ h)⟩

/-- Firmware Commit. -/
theorem admCommit_kept (src : Src) (action slot : Nat) (image : FwImage) (s : State) :
    Kept s (admCommit src action slot image s) := by
  unfold admCommit
  dsimp only
  repeat' split
  all_goals
    first
    | (refine .of_anchor ?_; simp; done)
    | exact .complete _ _ _ _ _ _ (storeImage_kept _ _ _ _)
    | exact .complete _ _ _ _ _ _ (.then_anchor (storeImage_kept _ _ _ _) (markSlot_anchor _ _))

/-- The bench port's NOR erase. -/
theorem benchNorErase_kept (f : List Byte) (s : State) : Kept s (benchNorErase f s) := by
  unfold benchNorErase
  dsimp only
  repeat' split
  all_goals
    first
    | (refine .of_anchor ?_; simp; done)
    | exact .putBench _ _ _ (putNor_kept _ _ (norErase_wf _ _))

/-- The bench port's NOR program. -/
theorem benchNorProgram_kept (f : List Byte) (s : State) : Kept s (benchNorProgram f s) := by
  unfold benchNorProgram
  dsimp only
  repeat' split
  all_goals
    first
    | (refine .of_anchor ?_; simp; done)
    | exact .putBench _ _ _ (Kept.then_anchor (putNor_kept _ _ (norProgram_wf _ _ _)) rfl)

/-! ### Start-up (R466, R467) -/

/-- Becoming ready. -/
theorem becomeReady_kept (b : Boot) (slot : Nat) (img : FwImage) (clean : Bool) (s : State) :
    Kept s (becomeReady b slot img clean s) := by
  unfold becomeReady
  dsimp only
  have h : ∀ t : State, Kept t (if t.sup.holdupOk = true then startSelfTest b.v0 t else t) := fun t =>
    .of_anchor (by split <;> simp)
  refine Kept.trans (Kept.trans ?_ (blowTo_kept img.security _)) (h _)
  refine .of_anchor ?_
  split <;> simp

/-- Running an image. -/
theorem runImage_kept (b : Boot) (slot : Nat) (img : FwImage) (s : State) : Kept s (runImage b slot img s) := by
  unfold runImage
  dsimp only
  repeat' split
  all_goals
    first
    | (refine .of_anchor ?_; simp; done)
    | exact Kept.trans (.of_anchor (by simp)) (becomeReady_kept _ _ _ _ _)

/-- Starting up. -/
theorem startUp_kept (b : Boot) (skip : List Nat) (s : State) : Kept s (startUp b skip s) := by
  have ends : ∀ (l : List Nat) (t : State) (x : Phase) (y : Tide), Kept s t →
      Kept s { (chooseSlot l t).1 with phase := x, tide := y } :=
    fun l t _ _ h => (h.then_anchor (chooseSlot_anchor l t)).then_anchor rfl
  have runs : ∀ (l : List Nat) (t : State) (y : Tide), Kept s t → Kept s { (chooseSlot l t).1 with tide := y } :=
    fun l t _ h => (h.then_anchor (chooseSlot_anchor l t)).then_anchor rfl
  have slots : ∀ (t : State) (x y : FwSlot), Kept s t → Kept s { t with fw := { t.fw with slot1 := x, slot2 := y } } :=
    fun _ _ _ h => h.then_anchor rfl
  have begins : ∀ (x : Phase) (p e : Nat) (cs : Vector Ctrl 4) (u : Sup),
      Kept s (repairCells { s with phase := x, ports := p, epochNs := e, ctrls := cs, sup := u }) :=
    fun _ _ _ _ _ => .trans (.of_anchor rfl) (repairCells_kept _)
  unfold startUp
  dsimp only
  split
  · refine ends _ _ _ _ ?_
    refine slots _ _ _ ?_
    exact begins _ _ _ _ _
  · refine Kept.trans ?_ (runImage_kept _ _ _ _)
    refine runs _ _ _ ?_
    refine slots _ _ _ ?_
    exact begins _ _ _ _ _

/-! ### The bench port in boot recovery (R467) -/

/-- Reboot. -/
theorem benchReboot_kept (f : List Byte) (b : Option Boot) (s : State) : Kept s (benchReboot f b s) := by
  unfold benchReboot
  split
  · exact .of_anchor (by simp)
  · split
    · exact Kept.trans (.of_anchor (by simp)) (startUp_kept _ _ _)
    · exact .of_anchor (by simp)

/-- A frame in boot recovery. -/
theorem benchRecovery_kept (f : List Byte) (b : Option Boot) (s : State) : Kept s (benchRecovery f b s) := by
  unfold benchRecovery
  split
  all_goals
    first
    | (refine .of_anchor ?_; simp; done)
    | exact benchNorErase_kept _ _
    | exact benchNorProgram_kept _ _
    | exact benchReboot_kept _ _ _

/-- Any frame. -/
theorem benchFrame_kept (f : List Byte) (b : Option Boot) (s : State) : Kept s (benchFrame f b s) := by
  unfold benchFrame
  repeat' split
  all_goals
    first
    | exact .refl s
    | exact benchRecovery_kept _ _ _
    | (refine .of_anchor ?_; simp; done)

/-! ### NVMe commands -/

/-- An admin command: Firmware Commit alone touches what the anchor holds. -/
theorem runAdmin_kept (src : Src) (c : NvmeCmd) (s : State) : Kept s (runAdmin src c s) := by
  cases c
  case fwCommit => exact admCommit_kept _ _ _ _ _
  all_goals exact .of_anchor (by dsimp only [runAdmin]; simp)

/-- Unless a fault of its pointers or metadata ends it. -/
theorem unlessFault_kept (src : Src) (fault : Option Status) (run : State → State) (s : State) (h : ∀ t, Kept t (run t)) :
    Kept s (unlessFault src fault run s) := by
  unfold unlessFault
  split
  · exact h s
  · split
    · exact h s
    · exact .of_anchor (by simp)

/-- An admin command with its pointers. -/
theorem admCommand_kept (src : Src) (c : NvmeCmd) (s : State) : Kept s (admCommand src c s) := by
  unfold admCommand
  split
  · exact .of_anchor (by simp)
  · exact .trans (.of_anchor (by simp)) (unlessFault_kept _ _ _ _ (runAdmin_kept src c))

/-- An NVMe command. -/
theorem runNvme_kept (src : Src) (c : NvmeCmd) (e : Env) (s : State) : Kept s (runNvme src c e s) := by
  unfold runNvme
  repeat' split
  all_goals
    first
    | exact admCommand_kept _ _ _
    | (refine .of_anchor ?_; simp; done)

/-- The end of a wait. -/
theorem endWait_anchor (i : Inflight) (s : State) : (endWait i s).anchor = s.anchor := by
  unfold endWait
  dsimp only
  repeat' (first | (simp; done) | split)

/-- What a command's end lets end. -/
theorem settle_kept (s : State) : Kept s (settle s) := by
  unfold settle
  dsimp only
  refine Kept.then_anchor (Kept.foldl _ (fun t i => ?_) _ _) (foldl_anchor _ (fun t p => settleShutdown_anchor p t) _ _)
  split
  · exact .of_anchor ((endWait_anchor _ _).trans (dropInflight_anchor _ _))
  · exact .refl t

/-- A command taken at once. -/
theorem runNow_kept (src : Src) (c : NvmeCmd) (e : Env) (s : State) : Kept s (runNow src c e s) := by
  unfold runNow
  dsimp only
  split
  · split
    · exact .of_anchor (by simp)
    · exact ((runNvme_kept src c e s).trans (settle_kept _)).then_anchor (markWaiting_anchor _)
  · exact .refl s

end Sys2Proof.Machine
end

