-- ==== Sys2Proof/WellFormed.lean ====
section
/-! DEFINITION. Which commands are well formed: every operand lies in the range that its field, number or list has. The
meanings do not rest on it; a sender's command comes so. -/

namespace Sys2Proof

/-- A queue and a command identifier have 16 bits. -/
def okSrc (x : Src) : Bool :=
  decide (x.sq < 65536) && decide (x.cid < 65536)

/-- A 16-bit number: a queue, a command identifier, a doorbell value, an index. -/
def okId (n : Nat) : Bool :=
  decide (n < 65536)

/-- An 8-bit number: a subindex, a sequence, a log page or feature identifier. -/
def okByte (n : Nat) : Bool :=
  decide (n < 256)

/-- A value of at most 32 bits. -/
def ok32 (n : Nat) : Bool :=
  decide (n < 4294967296)

/-- An INTEGER32. -/
def okInt32 (n : Int) : Bool :=
  decide (-2147483648 ≤ n) && decide (n < 2147483648)

/-- A 64-bit number: an LBA, an object identifier, a time. -/
def ok64 (n : Nat) : Bool :=
  decide (n < 18446744073709551616)

/-- The blocks of a write: the count field has 16 bits and is 0-based. -/
def okBlks (l : List Blk) : Bool :=
  decide (0 < l.length) && decide (l.length ≤ 65536)

/-- Disturbed bytes of an HBM line, at most the 8 that its code detects (R175), or bits of a code word. -/
def okHits (l : List MemHit) : Bool :=
  l.all fun h => if h.part == .hbm then decide (h.errs.length ≤ 8) && h.errs.all (fun i => decide (i < 136))
    else h.errs.all fun i => decide (i < 72)

/-- The memory errors of a command, and the disturbed bits of a tag entry. -/
def okEnv (e : Env) : Bool :=
  okHits e.mem && (e.tag.toList.all fun t => t.flips.all fun i => decide (i < 18))

/-- A count of LBAs. -/
def okCount (n : Nat) : Bool :=
  decide (n ≤ 65536)

/-- A Causeway cell has 64 bytes (R312). -/
def okCell (l : List Byte) : Bool :=
  l.length == 64

/-- A bench port frame holds at least its operation and at most one request (R465). -/
def okFrame (l : List Byte) : Bool :=
  decide (0 < l.length) && decide (l.length ≤ 4352)

/-- Reads of the identity block over the sideband, of 128 bytes each (Table 9.11), or what was read of it. -/
def okReads (l : List (List Byte)) : Bool :=
  l.all fun r => decide (r.length ≤ 128)

/-- A volume port (R127). -/
def okVolume (n : Nat) : Bool :=
  decide (n < 1024)

/-- A die of a volume (R127). -/
def okDie (n : Nat) : Bool :=
  decide (n < 4)

/-- A channel position of a zone (R137). -/
def okPos (n : Nat) : Bool :=
  decide (n < 16)

/-- An age bin (R155). -/
def okBin (n : Nat) : Bool :=
  decide (n < 8)

/-- Read, program or erase. -/
def okOp (n : Nat) : Bool :=
  decide (n < 3)

/-- An activity class of Table 3.9. -/
def okClass (n : Nat) : Bool :=
  decide (n < 7)

/-- A stepper of a bay. -/
def okWhich (n : Nat) : Bool :=
  decide (n < 3)

/-- A coil of a bay. -/
def okCoil (n : Nat) : Bool :=
  decide (n < 3)

/-- A bridge of a bay. -/
def okBridge (n : Nat) : Bool :=
  decide (n < 4)

/-- A servo calibration of Table 11.9. -/
def okCal (n : Nat) : Bool :=
  decide (1 ≤ n) && decide (n ≤ 5)

/-- A sensor of Table 16.8. -/
def okSensor (n : Nat) : Bool :=
  decide (1 ≤ n) && decide (n ≤ 8)

/-- A layer of a disc. -/
def okLayer (n : Nat) : Bool :=
  decide (n < 24)

/-- A supply value in millivolts. -/
def okMv (n : Nat) : Bool :=
  decide (n < 65536)

/-- A crossing of one of the three phases (R402). -/
def okCrossing (c : Crossing) : Bool :=
  decide (c.phase < 3)

/-- Crossings of the three phases (R404). -/
def okWatch (w : EmfWatch) : Bool :=
  w.crossings.all okCrossing

/-- The 4,128 bytes of a frame, or none (R251). -/
def okContent (l : List Byte) : Bool :=
  l == [] || l.length == 4128

/-- Frames of the lead-in and of the tail maps (R265, R270). -/
def okLead (l : LeadIn) : Bool :=
  okContent l.record && l.tails.all fun p => okContent p.primary && okContent p.copy && decide (p.layer < 24)

/-- What the ladder gives for frames (R302). -/
def okDiscFrames (l : List DiscFrame) : Bool :=
  l.all fun f => f.tries.all fun t => okContent t.content

/-- The eight temperatures, or none. -/
def okTemps (l : List Int) : Bool :=
  l == [] || l.length == 8

/-- An SDO Information request (R463). -/
def okKind (n : Nat) : Bool :=
  n == 1 || n == 3 || n == 5

/-- The power state field has 5 bits. -/
def okPower (n : Nat) : Bool :=
  decide (n < 32)

/-- A bucket of Table 5.5. -/
def okBucket (n : Nat) : Bool :=
  decide (1 ≤ n) && decide (n ≤ 8)

/-- An AL state code. -/
def okEcat (n : Nat) : Bool :=
  n == 1 || n == 2 || n == 4 || n == 8

/-- A level of Table 13.1. -/
def okSupplyLevel (n : Nat) : Bool :=
  decide (1 ≤ n) && decide (n ≤ 7)

/-- Every operand of a command lies in its range. -/
def Instr.wellFormed : Instr → Bool
  | .powerOnReset _ => true
  | .bootWatchdogExpiry _ => true
  | .bayStart _ _ _ => true
  | .resetNAssert => true
  | .supplyDipStart _ mv => okMv mv
  | .dipRidden => true
  | .dipTimeLimit => true
  | .supplyResetLevel _ mv => okMv mv
  | .fixedSupervisorTrip => true
  | .harbourFlushEnd => true
  | .managementWatchdogExpiry => true
  | .junctionOverTemperature sensor _ => okSensor sensor
  | .thermalHarbourRecovery => true
  | .cctempReached sensor _ => okSensor sensor
  | .thermalThrottleRelease sensor _ => okSensor sensor
  | .holdupOkFall => true
  | .holdupOkRise _ => true
  | .startSelfTest _ value _ => ok32 value
  | .holdupSelfTestEnd _ => true
  | .holdupSelfTestInterval _ => true
  | .holdupChargeWaitExpiry => true
  | .perstNAssert _ => true
  | .perstNRelease _ => true
  | .controllerEnable _ _ _ _ _ => true
  | .ccEnClear _ => true
  | .functionLevelReset _ => true
  | .hotReset _ => true
  | .linkDown _ => true
  | .shutdownNotification _ => true
  | .sqTailDoorbell _ qid tail => okId qid && okId tail
  | .cqHeadDoorbell _ qid head => okId qid && okId head
  | .commandFetch _ sq cid _ _ => okId sq && okId cid
  | .fetchError _ sq => okId sq
  | .commandDispatch e => okEnv e
  | .registerWrite _ => true
  | .createIoSq src qid _ cqid _ => okSrc src && okId qid && okId cqid
  | .createIoCq src qid _ iv => okSrc src && okId qid && okId iv
  | .deleteIoSq src qid => okSrc src && okId qid
  | .deleteIoCq src qid => okSrc src && okId qid
  | .getLogPage src lid nsid _ _ _ => okSrc src && okByte lid && ok32 nsid
  | .identify src cns nsid cntid csi => okSrc src && okByte cns && ok32 nsid && okId cntid && okByte csi
  | .abort src sq cid => okSrc src && okId sq && okId cid
  | .setFeaturesPowerManagement src ps => okSrc src && okPower ps
  | .setFeaturesVolatileWriteCache src _ _ => okSrc src
  | .setFeaturesNumberOfQueues src _ _ => okSrc src
  | .setFeaturesArbitration src _ => okSrc src
  | .setFeaturesTemperatureThreshold src _ => okSrc src
  | .setFeaturesInterruptCoalescing src _ => okSrc src
  | .setFeaturesInterruptVectorConfig src _ => okSrc src
  | .setFeaturesAsyncEventConfig src _ => okSrc src
  | .setFeaturesTimestamp src ms => okSrc src && ok64 ms
  | .setFeaturesFdp src nsid fid _ _ _ => okSrc src && ok32 nsid && okByte fid
  | .getFeatures src fid nsid _ => okSrc src && okByte fid && ok32 nsid
  | .asyncEventRequest src => okSrc src
  | .namespaceCreate src _ => okSrc src
  | .namespaceDelete src nsid => okSrc src && ok32 nsid
  | .namespaceAttach src nsid _ => okSrc src && ok32 nsid
  | .namespaceDetach src nsid _ => okSrc src && ok32 nsid
  | .firmwareImageDownload src _ _ => okSrc src
  | .firmwareCommitStore src _ _ _ => okSrc src
  | .firmwareCommitActivate src _ _ => okSrc src
  | .formatNvm src nsid _ _ _ _ => okSrc src && ok32 nsid
  | .formatComplete => true
  | .sanitizeBlockErase src => okSrc src
  | .sanitizeCryptoErase src => okSrc src
  | .sanitizeExitFailureMode src => okSrc src
  | .sanitizeComplete => true
  | .dictionaryRead src nsid index sub _ _ _ => okSrc src && ok32 nsid && okId index && okByte sub
  | .dictionaryWrite src nsid index sub _ _ _ => okSrc src && ok32 nsid && okId index && okByte sub
  | .flush src nsid => okSrc src && ok32 nsid
  | .write src e nsid slba blks _ _ _ => okSrc src && okEnv e && ok32 nsid && ok64 slba && okBlks blks
  | .read src e nsid slba n _ _ => okSrc src && okEnv e && ok32 nsid && ok64 slba && okCount n
  | .writeZeroes src e nsid slba n _ _ => okSrc src && okEnv e && ok32 nsid && ok64 slba && okCount n
  | .datasetManagement src nsid _ _ => okSrc src && ok32 nsid
  | .reservationRegister src nsid _ _ _ _ _ => okSrc src && ok32 nsid
  | .reservationAcquire src nsid _ _ _ _ _ => okSrc src && ok32 nsid
  | .reservationReport src nsid => okSrc src && ok32 nsid
  | .reservationRelease src nsid _ _ _ _ => okSrc src && ok32 nsid
  | .zoneOpen src nsid slba _ => okSrc src && ok32 nsid && ok64 slba
  | .zoneClose src nsid slba _ => okSrc src && ok32 nsid && ok64 slba
  | .zoneFinish src nsid slba _ => okSrc src && ok32 nsid && ok64 slba
  | .zoneReset src nsid slba _ => okSrc src && ok32 nsid && ok64 slba
  | .zoneOffline src nsid slba _ => okSrc src && ok32 nsid && ok64 slba
  | .setZoneDescriptorExtension src nsid slba => okSrc src && ok32 nsid && ok64 slba
  | .zoneManagementReceive src nsid slba _ _ _ => okSrc src && ok32 nsid && ok64 slba
  | .zoneAppend src e nsid zslba blks _ _ => okSrc src && okEnv e && ok32 nsid && ok64 zslba && okBlks blks
  | .zoneArchive src nsid zslba _ tag _ => okSrc src && ok32 nsid && ok64 zslba && okId tag
  | .archiveCancel src nsid zslba _ _ => okSrc src && ok32 nsid && ok64 zslba
  | .zoneRecall src nsid zslba obj _ => okSrc src && ok32 nsid && ok64 zslba && ok64 obj
  | .archiveQuery src nsid key _ _ numd _ => okSrc src && ok32 nsid && ok64 key && ok32 numd
  | .queuePoolSplitWrite _ sub value => okByte sub && ok32 value
  | .tenantTableWrite _ sub _ => okByte sub
  | .budgetWrite _ sub value => okByte sub && ok32 value
  | .profileSelect _ value => ok32 value
  | .budgetPeriodBoundary => true
  | .flashOperationStart port die op cls _ _ _ _ => okVolume port && okDie die && okOp op && okClass cls
  | .programRowDispatch nsid _ mem => ok32 nsid && okHits mem
  | .flashStatusPoll port die _ => okVolume port && okDie die
  | .flashOperationTimeout port die => okVolume port && okDie die
  | .programSuspend port die => okVolume port && okDie die
  | .programResume port die => okVolume port && okDie die
  | .stagedDataMigrate nsid _ => ok32 nsid
  | .refreshRelocation nsid _ pos _ _ => ok32 nsid && okPos pos
  | .wearMove port die _ => okVolume port && okDie die
  | .readCountCheckpoint => true
  | .memberRebuild nsid _ pos => ok32 nsid && okPos pos
  | .coldStartReads port die bin _ _ => okVolume port && okDie die && okBin bin
  | .cellModeWrite _ value => ok32 value
  | .tierFormatComplete _ => true
  | .volumeAdopt _ port => okVolume port
  | .adoptionComplete port _ => okVolume port
  | .volumeRetire _ port => okVolume port
  | .retirementComplete port => okVolume port
  | .mapRegionRebuildComplete _ => true
  | .bucketLeak m => okBucket m
  | .bucketClear _ value => ok32 value
  | .bucketSettingsWrite _ sub value => okByte sub && ok32 value
  | .soundingPatrol _ _ hits => okHits hits
  | .flashPatrol nsid _ pos bin _ _ _ _ => ok32 nsid && okPos pos && okBin bin
  | .scratchpadCarveOut _ value => ok32 value
  | .cacheClean _ _ => true
  | .cacheInvalidate _ _ => true
  | .cacheCleanAndInvalidate _ _ => true
  | .startSetNow _ value => ok32 value
  | .planBuildStart mem => okHits mem
  | .planSeal => true
  | .planRebuild sid => ok32 sid
  | .planDigestCheck sid _ => ok32 sid
  | .setBoundary => true
  | .rowStage _ _ mem => okHits mem
  | .rowStart _ => true
  | .frameDecision _ _ _ => true
  | .writeResume _ => true
  | .replacementStart => true
  | .replacementPacingWindow => true
  | .reconstructRequest _ value => ok32 value
  | .reconstructionComplete _ => true
  | .reallocation _ _ _ _ => true
  | .resynchronisation _ lead _ _ _ _ => okLead lead
  | .recallDiscIdentify _ lead => okLead lead
  | .recallRead obj frames => ok64 obj && okDiscFrames frames
  | .opc _ layer _ => okLayer layer
  | .strategyTableWrite _ index sub _ => okId index && okByte sub
  | .discFrameDecode _ _ _ _ => true
  | .ladderStep2Revolution _ _ => true
  | .pqReconstruct _ _ _ _ _ => true
  | .channelStatisticsClear _ _ value => ok32 value
  | .spotSampleCell _ cell => okCell cell
  | .servoCell _ cell => okCell cell
  | .statusCell _ cell => okCell cell
  | .linkTraining _ reads _ _ _ => okReads reads
  | .trainingTimeout _ => true
  | .linkRetrain _ reads _ _ _ => okReads reads
  | .registerAckTimeout _ => true
  | .cwFltNLow _ _ => true
  | .causewayClear _ _ value => ok32 value
  | .windowClose _ _ => true
  | .wedgeCommit _ _ => true
  | .acquireLock _ _ => true
  | .eventFire _ => true
  | .encoderCount _ _ _ _ => true
  | .timebaseClear _ _ value => ok32 value
  | .engineCycleBoundary _ _ => true
  | .loopOverrun _ _ => true
  | .coefficientCommit _ value => ok32 value
  | .scheduleWrite _ _ => true
  | .focusCapture _ layer => okLayer layer
  | .captureSettleTimeout _ => true
  | .layerJump _ layer => okLayer layer
  | .seek _ row => okInt32 row
  | .writeModeEntry _ => true
  | .servoCalibration _ cal layer _ => okCal cal && okLayer layer
  | .servoCountsClear _ _ value => ok32 value
  | .spindleStart7200 _ _ => true
  | .spindleStart9600 _ _ => true
  | .spindleBrake _ _ => true
  | .spindleCoast _ _ => true
  | .spindleStartAtSpeed _ _ => true
  | .spindleWatchEnd _ seen => okWatch seen
  | .forcedCommutation _ _ _ _ => true
  | .startTimeout _ => true
  | .brakeCheck _ seen => okWatch seen
  | .brakeEnd _ => true
  | .zeroCrossing _ c => okCrossing c
  | .commutation _ => true
  | .missedWindow _ => true
  | .spindleRetry _ => true
  | .spindleRunning _ => true
  | .speedLimited _ => true
  | .coastObservationTimeout _ => true
  | .spindleCountsClear _ _ value => ok32 value
  | .stepTimer _ which => okWhich which
  | .chopperOffsetUpdate _ which _ _ => okWhich which
  | .sledHome _ _ => true
  | .sledPark _ _ => true
  | .sledStop _ _ => true
  | .sledDeEnergise _ _ => true
  | .sledTargetPosition _ _ value => okInt32 value
  | .loaderOpen _ _ => true
  | .loaderClamp _ _ => true
  | .loaderStop _ _ => true
  | .collimatorHome _ _ => true
  | .collimatorStop _ _ => true
  | .barrierLoss => true
  | .barrierRetrain _ _ => true
  | .driveSupplyCrossing level mv => okSupplyLevel level && okMv mv
  | .driveSupplyRecovery level mv => okSupplyLevel level && okMv mv
  | .coilCurrentLimit _ coil => okCoil coil
  | .coilRetry _ coil => okCoil coil
  | .coilRetryEpisodeEnd _ coil => okCoil coil
  | .coilRmsThreshold _ coil => okCoil coil
  | .aggregateCoilLimit => true
  | .aggregateCoilRepeat => true
  | .drvEnLow _ => true
  | .drvEnHigh _ => true
  | .driveSideFault _ _ bridge => okBridge bridge
  | .faultClear _ _ value => ok32 value
  | .bayRestart _ _ _ _ => true
  | .enterBayHarbour _ _ => true
  | .calibrationRequest _ _ value _ => ok32 value
  | .bayEnableWrite _ _ value _ => ok32 value
  | .sdoDownload index sub _ _ _ _ => okId index && okByte sub
  | .sdoUpload index sub _ => okId index && okByte sub
  | .sdoInformation kind index sub => okKind kind && okId index && okByte sub
  | .segmentedTransferTimeout => true
  | .benchRead frame => okFrame frame
  | .benchWrite frame => okFrame frame
  | .benchAnswer => true
  | .benchHarbour frame => okFrame frame
  | .benchReset frame => okFrame frame
  | .benchNorRead frame => okFrame frame
  | .benchNorErase frame => okFrame frame
  | .benchNorProgram frame => okFrame frame
  | .benchReboot frame _ => okFrame frame
  | .restoreDefaults _ value => ok32 value
  | .lockNow _ value => ok32 value
  | .lockPoint => true
  | .libraryOpenLoader _ seq => okByte seq
  | .libraryClamp _ seq => okByte seq
  | .libraryStopLoader _ seq => okByte seq
  | .libraryAnswerLoaded _ seq lead => okByte seq && okLead lead
  | .libraryAnswerUnloaded _ seq => okByte seq
  | .libraryAnswerUnavailable _ seq => okByte seq
  | .libraryRequestTimeout _ => true
  | .blankRequestRetry _ => true
  | .unloadRepost _ => true
  | .discInserted _ lead => okLead lead
  | .ethercatStateChange st _ => okEcat st
  | .pdoWatchdogExpiry => true
  | .adminArm _ value => ok32 value
  | .armWindowExpiry => true
  | .adminRequestFormat _ nsid _ _ => ok32 nsid
  | .adminRequestSanitize _ nsid _ _ => ok32 nsid
  | .adminRequestNamespaceDelete _ nsid _ _ => ok32 nsid
  | .adminPolicyChange _ value => ok32 value
  | .adoptTier _ value => ok32 value
  | .powerHandshakeDelay => true
  | .powerWake _ => true
  | .policyIdleTimer => true
  | .shoalWatchCycle mv12 mvField temps _ _ _ => okMv mv12 && okMv mvField && okTemps temps
  | .msixCoalesceTimer => true
  | .emergencyMessageSent => true
  | .pcieLinkUp _ _ _ _ _ => true
  | .ethercatPortLinkChange _ _ => true
  | .discRemoved _ => true
  | .temperatureThresholdCrossing sensor _ => okSensor sensor
  | .spdmRequest _ _ => true
  | .retentionAgeReached nsid _ pos => ok32 nsid && okPos pos
  | .laserFaultClear _ => true

end Sys2Proof
end

