-- ==== Sys2Proof/Tests/Slice0.lean ====
section
/-! SUPPORT. Tests: what each statement asks for is met by a small state, and the command has its effect there. -/

namespace Sys2Proof.Tests

set_option Elab.async false
set_option maxRecDepth 8192

open Sys2Proof Sys2Proof.Machine

/-- The state after a command. -/
def after (c : Instr) (s : State) : State :=
  match exec c s with
  | .next t => t
  | _ => s

/-! ### PowerOnRuns -/

def imgA : FwImage := { signatureOk := true, product := 0x1664, version := 3 }
def wBoot : Boot := { straps := 1 }
def wSlot : FwSlot := { image := some imgA, everReady := true }
def wSlots : State := { fw := { slot1 := wSlot, slot2 := wSlot, active := 1, booted := 1, watchdog := true } }

theorem test_powerOn :
    imageFault wSlots imgA = 0 ∧
    tornCells wSlots.part.arCells = [] ∧
    (after (.powerOnReset wBoot) wSlots).phase = .running ∧
    (after (.powerOnReset wBoot) wSlots).ports = 2 := by
  decide +kernel

theorem test_powerOn_recovery :
    (after (.powerOnReset wBoot) State.reset).phase = .bootRecovery := by
  decide +kernel

theorem test_bootWatchdog :
    (after (.bootWatchdogExpiry wBoot) wSlots).phase = .running ∧
    (after (.bootWatchdogExpiry wBoot) wSlots).fw.booted = 2 := by
  decide +kernel

/-! ### HarbourCauses -/

def wRun : State := { phase := .running }
def wDip : State := { phase := .running, sup := { dip := true } }
def wHarbour : State := { phase := .harbour, harbourCause := 5, sup := { flushing := true, resetN := true } }

theorem test_harbour_causes :
    (after .dipTimeLimit wDip).harbourCause = 3 ∧
    (after (.supplyResetLevel .core 660) wRun).harbourCause = 2 ∧
    (after .fixedSupervisorTrip wRun).harbourCause = 4 ∧
    (after .managementWatchdogExpiry wRun).harbourCause = 8 ∧
    (after (.junctionOverTemperature 1 1250) wRun).harbourCause = 5 ∧
    (after .resetNAssert wRun).harbourCause = 7 := by
  decide +kernel

theorem test_harbour_again :
    (after .fixedSupervisorTrip wHarbour).harbourCause = 5 ∧
    ((harbourCommit 8 wRun).evt.log.map fun r => (r.ev, r.cause)) = [(2, 8)] := by
  decide +kernel

/-! ### HarbourEnds -/

theorem test_harbour_ends :
    resetCause 5 = false ∧
    wHarbour.sup.resetN = true ∧
    (after .harbourFlushEnd wHarbour).phase = .harbour ∧
    (after .harbourFlushEnd wHarbour).sup.flushing = false := by
  decide +kernel

theorem test_harbour_resets :
    (after .harbourFlushEnd { wHarbour with harbourCause := 1 }).phase = .held ∧
    (after .thermalHarbourRecovery { wHarbour with sup := { flushing := false } }).phase = .held ∧
    (after .resetNAssert { phase := .starting }).phase = .held := by
  decide +kernel

/-! ### HoldupCommands -/

def wUp : State := { phase := .running, sup := { holdupOk := true } }
def wVol : Vol := { port := 0, st := .inService, dies := [{ inService := true, blocks := 60, planes := 4, pages := 1536, zoneBlocks := 40, spare := 3, spareInit := 3 }] }
def wTest : State :=
  { phase := .running, sup := { holdupOk := true, testing := true, v0 := 1400000 }, flash := { vols := [wVol] } }
def wDoor : State := { wUp with doors := { ecat := .op } }

theorem test_holdup_fall :
    (after .holdupOkFall wUp).sup.holdupOk = false ∧
    (after (.holdupOkRise 9) wRun).sup.testing = true := by
  decide +kernel

theorem test_holdup_test :
    num wUp 0x2040 8 ≠ 0 ∧
    (after (.holdupSelfTestInterval 9) wUp).sup.v0 = 9 ∧
    (after (.startSelfTest .ethercat 1 9) wDoor).sup.result = 1 ∧
    (after (.holdupSelfTestEnd 1399000) wTest).sup.testing = false := by
  decide +kernel

theorem test_holdup_wait :
    ((after .holdupChargeWaitExpiry wRun).evt.log.map fun r => (r.ev, r.data)) = [(5, [0, 0, 0, 0])] := by
  decide +kernel

/-! ### SupplyDips -/

theorem test_dip_start :
    (after (.supplyDipStart .core 699) wRun).sup.dip = true ∧
    (after .dipRidden wDip).sup.dip = false := by
  decide +kernel

theorem test_cctemp :
    (after (.cctempReached 1 1050) wRun).pwr.thermalCap = true ∧
    (after (.thermalThrottleRelease 1 900) { wRun with pwr := { thermalCap := true } }).pwr.thermalCap = false := by
  decide +kernel

theorem test_over_temperature :
    kelvin (compositeTemp wRun) < wRun.hs.tempOver ∧
    ((after (.temperatureThresholdCrossing 1 1500) wRun).evt.log.map (·.ev)) = [8] := by
  decide +kernel

/-! ### ControllerResets -/

def wQueues : List Sq × List Cq := ([{ size := 8 }, { qid := 1, size := 8, cqid := 1 }], [{ size := 8 }, { qid := 1, size := 8 }])
def wCtrl : Ctrl :=
  { present := true, perst := false, linkUp := true, accessible := true, en := true, rdy := true, sqs := wQueues.1, cqs := wQueues.2 }
def wHost : State := { phase := .running, ctrls := Vector.replicate 4 wCtrl }

theorem test_resets :
    (wHost.ctrls.get 0).en = true ∧
    ((after (.ccEnClear 0) wHost).ctrls.get 0).sqs = [] ∧
    ((after (.functionLevelReset 0) wHost).ctrls.get 0).rdy = false ∧
    ((after (.hotReset 0) wHost).evt.log.map fun r => (r.ev, r.cause)) = [(40, 3)] := by
  decide +kernel

theorem test_link_down :
    ((after (.perstNAssert 1) wHost).evt.log.map fun r => (r.ev, r.cause)) = [(41, 5), (33, 1)] ∧
    ((after (.linkDown 1) wHost).ctrls.get 1).linkUp = false := by
  decide +kernel

/-! ### ControllerComesUp -/

def wDown : State := { phase := .running, ctrls := Vector.replicate 4 { present := true, perst := false, accessible := true } }

theorem test_port_up :
    ((after (.perstNRelease 0) { phase := .running, ctrls := Vector.replicate 4 { present := true } }).ctrls.get 0).accessible = true ∧
    ((after (.pcieLinkUp 0 32 16 false []) wDown).evt.log.map fun r => (r.ev, r.cause, r.data)) = [(32, 3, [32, 16])] := by
  decide +kernel

theorem test_enable :
    ((after (.controllerEnable 0 32 64 0 0) wDown).ctrls.get 0).rdy = true ∧
    ((after (.shutdownNotification 0) wHost).ctrls.get 0).shst = 2 := by
  decide +kernel

/-! ### DoorbellsAndFetch -/

def wPosted : State :=
  let c : Ctrl := { wCtrl with sqs := [{ size := 8, tail := 2 }], cqs := [{ size := 8, tail := 1, posted := [{}] }] }
  { phase := .running, ctrls := Vector.replicate 4 c }

theorem test_doorbells :
    ((after (.sqTailDoorbell 0 1 5) wHost).ctrls.get 0).sq? 1 = some { qid := 1, size := 8, cqid := 1, tail := 5 } ∧
    (((after (.sqTailDoorbell 0 1 8) wHost).ctrls.get 0).sq? 1).map (·.stopped) = some true ∧
    Cq.consumed { size := 8, tail := 1, posted := [{}] } 1 = some 1 := by
  decide +kernel

theorem test_cq_doorbell :
    (((after (.cqHeadDoorbell 0 0 1) wPosted).ctrls.get 0).cq? 0).map (·.posted) = some [] := by
  decide +kernel

theorem test_fetch :
    mayFetch wPosted 0 { size := 8, tail := 2 } = true ∧
    (((after (.commandFetch 0 0 4 .asyncEvent {}) wPosted).ctrls.get 0).sq? 0).map (·.head) = some 1 ∧
    ((after (.fetchError 0 0) wPosted).ctrls.get 0).cfs = true := by
  decide +kernel

theorem test_bar :
    ((after (.registerWrite (.bar 0 0x28 7)) wDown).ctrls.get 0).asq = 7 := by
  decide +kernel

/-! ### QueueCommands -/

def aSrc : Src := { port := 0, sq := 0, cid := 5 }
def wAdmin : State := { wHost with hs := { alloc := [64, 64, 64, 64] } }
/-- Status of the newest entry of a completion queue. -/
def lastStatus (t : State) (p : PortId) (qid : Nat) : Option (Nat × Nat × Nat) :=
  ((t.ctrls.get p).cq? qid).bind fun k => ((k.posted ++ k.waiting).getLast?).map fun c => (c.cid, c.sct, c.sc)

theorem test_create_queues :
    lastStatus (after (.createIoCq aSrc 2 16 1) wAdmin) 0 0 = some (5, 0, 0) ∧
    (((after (.createIoSq aSrc 2 16 1 0) wAdmin).ctrls.get 0).sq? 2).map (·.size) = some 16 ∧
    (after (.createIoSq aSrc 2 16 1 0) wAdmin).lockPassed = true := by
  decide +kernel

theorem test_delete_queues :
    (((after (.deleteIoSq aSrc 1) wAdmin).ctrls.get 0).sq? 1).isNone = true ∧
    sqIdle wAdmin 0 1 = true ∧
    (((after (.deleteIoCq aSrc 1) (after (.deleteIoSq aSrc 1) wAdmin)).ctrls.get 0).cq? 1).isNone = true := by
  decide +kernel

/-! ### FeatureCommands -/

theorem test_features :
    dirtyTargets wAdmin none = [] ∧
    (after (.setFeaturesVolatileWriteCache aSrc true false) wAdmin).hs.wce = true ∧
    lastStatus (after (.setFeaturesNumberOfQueues aSrc 3 3) wAdmin) 0 0 = some (5, 0, 0) ∧
    ((after (.setFeaturesArbitration aSrc 7) wAdmin).ctrls.get 0).feat.arbitration = 7 ∧
    (after (.setFeaturesTemperatureThreshold aSrc 350) wAdmin).hs.tempOver = 350 := by
  decide +kernel

theorem test_features_more :
    ((after (.setFeaturesInterruptCoalescing aSrc 7) wAdmin).ctrls.get 0).feat.coalescing = 7 ∧
    ((after (.setFeaturesInterruptVectorConfig aSrc 9) wAdmin).ctrls.get 0).feat.vectors = [(9, 9)] ∧
    ((after (.setFeaturesAsyncEventConfig aSrc 3) wAdmin).ctrls.get 0).feat.asyncConfig = 3 ∧
    (after (.setFeaturesTimestamp aSrc 99) wAdmin).hs.timestamp = 99 ∧
    (after (.setFeaturesFdp aSrc 0 0x1D 1 false []) wAdmin).hs.fdpOn = true := by
  decide +kernel

theorem test_get_features :
    (featureValue wAdmin 0 6 0 0).isSome = true ∧
    lastStatus (after (.getFeatures aSrc 6 0 0) wAdmin) 0 0 = some (5, 0, 0) ∧
    lastStatus (after (.abort aSrc 1 2) wAdmin) 0 0 = some (5, 0, 0) ∧
    ((after (.asyncEventRequest aSrc) wAdmin).ctrls.get 0).aers = [5] := by
  decide +kernel

/-! ### ReportCommands -/

theorem test_reports :
    (logPage wAdmin 0 5 0).isSome = true ∧
    lastStatus (after (.getLogPage aSrc 5 0 0 16 true) wAdmin) 0 0 = some (5, 0, 0) ∧
    lastStatus (after (.identify aSrc 0x1C 0 0 0) wAdmin) 0 0 = some (5, 0, 0) ∧
    lastStatus (after (.dictionaryRead aSrc 0 0x2000 2 false 16 0) wAdmin) 0 0 = some (5, 0, 0) := by
  decide +kernel

/-! ### NamespaceCommands -/

def wSpec : NsSpec := { nsze := 2000000, ncap := 2000000 }
def wFlash : Flash := { vols := [], zoneCount := 100 }
def wTier : State :=
  { wAdmin with tierState := 1, flash := wFlash, tide := { tier := true, planes := 4, pages := 1536, cellMode := 3 } }
def wNs : State := after (.namespaceCreate aSrc wSpec) wTier
def wAtt : State := after (.namespaceAttach aSrc 1 [0]) wNs

theorem test_ns_create :
    createCheck wTier wSpec = none ∧
    freeNsid wTier = some 1 ∧
    lastStatus wNs 0 0 = some (5, 0, 0) ∧
    (nsOf wNs 1).map (·.zones) = some 5 := by
  decide +kernel

theorem test_ns_attach :
    (nsOf wAtt 1).map (·.attached) = some [0] ∧
    (nsOf (after (.namespaceDetach aSrc 1 [0]) wAtt) 1).map (·.attached) = some [] := by
  decide +kernel

theorem test_ns_delete :
    operationStatus wNs 3 1 = none ∧
    deleteCheck wNs 1 = none ∧
    (nsOf (after (.namespaceDelete aSrc 1) wNs) 1).isNone = true := by
  decide +kernel

/-! ### FirmwareCommands -/

def wFirm : State := { wAdmin with fw := wSlots.fw }

theorem test_fw_download :
    (after (.firmwareImageDownload aSrc 4 [1, 2, 3, 4]) wAdmin).fw.download = [(4, 1), (5, 2), (6, 3), (7, 4)] := by
  decide +kernel

theorem test_fw_commit :
    imageFault wAdmin imgA = 0 ∧
    (after (.firmwareCommitStore aSrc 0 2 imgA) wAdmin).fw.slot2.image = some imgA ∧
    lastStatus (after (.firmwareCommitStore aSrc 1 2 imgA) wAdmin) 0 0 = some (5, Status.needsReset.code) ∧
    (after (.firmwareCommitActivate aSrc 2 2) wFirm).fw.slot2.marked = true := by
  decide +kernel

/-! ### FormatAndSanitize -/

theorem test_format :
    operationStatus wNs 1 1 = none ∧
    formatCheck wNs 1 { lbaf := 1, mset := true, pi := 0, ses := 0 } = none ∧
    (after (.formatNvm aSrc 1 1 0 0 true) wNs).adm.running = [1] ∧
    (nsOf (after (.formatNvm aSrc 1 1 0 0 true) wNs) 1).map (fun m => (m.lbaf, m.mset)) = some (1, true) ∧
    (after .formatComplete (after (.formatNvm aSrc 1 1 0 0 true) wNs)).adm.running = [] := by
  decide +kernel

theorem test_sanitize :
    operationStatus wNs 2 0 = none ∧
    sanitizeCheck wNs 2 = none ∧
    (after (.sanitizeBlockErase aSrc) wNs).adm.running = [2] ∧
    sanitizeCheck wAdmin 4 = none ∧
    (after (.sanitizeCryptoErase aSrc) wAdmin).adm.sanitizeEver = 2 ∧
    (after .sanitizeComplete (after (.sanitizeBlockErase aSrc) wNs)).adm.sanitizeEver = 1 ∧
    lastStatus (after (.sanitizeExitFailureMode aSrc) wAdmin) 0 0 = some (5, 0, 0) := by
  decide +kernel

/-! ### WriteCommands -/

def aIo : Src := { port := 0, sq := 1, cid := 9 }
def wDie : Die := { blocks := 4, zoneBlocks := 4, inService := true, native := 3 }
def wVols : List Vol := (List.range 128).map fun p => { port := p, st := .inService, dies := [wDie] }
/-- A tier of one lane set, a namespace attached to controller 0, the write cache protected and on. -/
def wIo : State :=
  { wAtt with
    flash := { wAtt.flash with vols := wVols, laneSets := 1 }
    sup := { wAtt.sup with holdupOk := true }
    hs := { wAtt.hs with wce := true, holdupTested := true, cacheLimit := 100000 } }
def wZone : Zone := { nsid := 1, idx := 0, st := .implicitOpen, wp := 8, ack := 8 }
def wOpen : State := { wIo with hs := { wIo.hs with zones := [wZone] } }
def nsA : Ns := (nsOf wIo 1).getD {}

theorem test_io_ready :
    (nsGate wOpen 0 1).toOption = some nsA ∧
    nsA.fdp = false ∧
    writeGate wOpen 0 nsA = none ∧
    cacheRoom wOpen 2 = true ∧
    wpGate wZone nsA 8 2 false = none ∧
    (entryBlks nsA {} false 8 8 0 [{}, {}]).toOption = some [{}, {}] ∧
    nsA.zsze ≤ nsA.size := by
  decide +kernel

theorem test_write :
    (zoneOf (after (.write aIo {} 1 8 [{}, {}] false {} none) wOpen) 1 0).wp = 10 ∧
    (zoneOf (after (.writeZeroes aIo {} 1 8 2 false {}) wOpen) 1 0).wp = 10 ∧
    ((newest aIo (after (.zoneAppend aIo {} 1 0 [{}] false {}) wOpen)).map fun c => (c.sc, c.dw0)) = some (0, 8) := by
  decide +kernel

theorem test_write_waits :
    (((after (.write aIo {} 1 8 [{}, {}] true {} none) wOpen).hs.inflight).map fun i => i.cid) = [9] ∧
    fromCache wOpen true = false ∧
    fromCache wOpen false = true := by
  decide +kernel

/-! ### FdpCommands -/

def wFdp : State :=
  { wIo with
    tide := { wIo.tide with planes := 1, pages := 8 }
    hs := { wIo.hs with
      ns := [{ nsid := 1, fdp := true, lbas := 1000, attached := [0], handles := [0] }]
      zones := [{ nsid := 1, idx := 0, st := .implicitOpen }] } }
def nsF : Ns := (nsOf wFdp 1).getD {}

theorem test_fdp :
    (nsGate wFdp 0 1).toOption = some nsF ∧
    nsF.fdp = true ∧
    (nsOf (after (.write aIo {} 1 4 [{}, {}] false {} none) wFdp) 1).map (·.fdpData) = some [(4, {}), (5, {})] ∧
    (nsOf (after (.datasetManagement aIo 1 true [(4, 1)]) (after (.write aIo {} 1 4 [{}, {}] false {} none) wFdp)) 1).map (·.fdpData) = some [(5, {})] := by
  decide +kernel

/-! ### ReadAndFlush -/

theorem test_read :
    (exitBlks nsA {} 8 0 ((List.range 2).map fun i => readBlk nsA wZone (8 + i))).toOption = some [unwrittenBlk nsA, unwrittenBlk nsA] ∧
    (newest aIo (after (.read aIo {} 1 8 2 false {}) wOpen)).map (·.blocks) = some [unwrittenBlk nsA, unwrittenBlk nsA] ∧
    (newest aIo (after (.read aIo {} 1 7 1 false {}) wOpen)).map (·.blocks) = some [{}] := by
  decide +kernel

theorem test_flush :
    dirtyTargets wIo (some 1) = [] ∧
    lastStatus (after (.flush aIo 1) wIo) 0 1 = some (9, 0, 0) ∧
    dirtyTargets wOpen (some 1) = [(1, 0, 8)] ∧
    (dirtyTargets wOpen (some 1)).all (targetMet wOpen) = false ∧
    ((after (.flush aIo 1) wOpen).hs.inflight.map fun i => i.cid) = [9] := by
  decide +kernel

/-! ### ZoneCommands -/

/-- State of zone 0 after a command. -/
def zst (c : Instr) (s : State) : ZState := (zoneOf (after c s) 1 0).st
def wRo : State := { wIo with hs := { wIo.hs with zones := [{ wZone with st := .readOnly }] } }

theorem test_zones :
    zst (.zoneOpen aIo 1 0 false) wOpen = .explicitOpen ∧
    zst (.zoneClose aIo 1 0 false) wOpen = .closed ∧
    zst (.zoneFinish aIo 1 0 false) wOpen = .full ∧
    zst (.zoneReset aIo 1 0 false) wOpen = .empty ∧
    zst (.zoneOffline aIo 1 0 false) wRo = .offline ∧
    zst (.zoneOpen aIo 1 0 false) wIo = .explicitOpen := by
  decide +kernel

theorem test_zone_report :
    (newest aIo (after (.zoneManagementReceive aIo 1 0 false 0 64) wOpen)).map (fun c => (c.sc, c.data.take 1)) = some (0, [5]) ∧
    lastStatus (after (.setZoneDescriptorExtension aIo 1 0) wOpen) 0 1 = some (9, 0, 2) := by
  decide +kernel

/-! ### ArchiveCommands -/

def wFull : State := { wIo with hs := { wIo.hs with zones := [{ wZone with st := .full, arch := .resident }] } }
def wQueued : State := after (.zoneArchive aIo 1 0 false 0 0) wFull
def wReleased : State :=
  { wIo with
    doors := { wIo.doors with ecat := .op }
    bays := Vector.replicate 16 { fitted := true }
    ebb := { wIo.ebb with objs := [{ oid := 7, arch := .released, lbas := 16 }] } }

theorem test_archive :
    (table33 (zoneOf wFull 1 0) .archive).toOption = some .toQueued ∧
    (zoneOf wQueued 1 0).arch = .queued ∧
    wQueued.ebb.queue = [1] ∧
    (newest aIo wQueued).map (·.dw0) = some 1 := by
  decide +kernel

theorem test_cancel :
    (zoneOf (after (.archiveCancel aIo 1 0 false 0) wQueued) 1 0).arch = .resident ∧
    (after (.archiveCancel aIo 1 0 false 0) wQueued).ebb.queue = [] := by
  decide +kernel

theorem test_recall :
    (objOf wReleased 7).map (recallReason wReleased) = some 0 ∧
    (zoneOf (after (.zoneRecall aIo 1 0 7 0) wReleased) 1 0).st = .recallTarget := by
  decide +kernel

theorem test_query :
    (newest aIo (after (.archiveQuery aIo 1 7 false 0 15 0) wReleased)).map (fun c => (c.sc, c.data.length)) = some (0, 64) := by
  decide +kernel

/-! ### ReservationCommands -/

def wKey : State := after (.reservationRegister aIo 1 0 0 false 0 5) wIo
def wHeld : State := after (.reservationAcquire aIo 1 0 1 false 5 0) wKey

theorem test_reservations :
    (nsOf wKey 1).map (·.resv.keys) = some [(0, 5)] ∧
    (nsOf wHeld 1).map (·.resv.holder) = some (some 0) ∧
    (nsOf (after (.reservationRelease aIo 1 0 1 false 5) wHeld) 1).map (·.resv.holder) = some none ∧
    ((newest aIo (after (.reservationReport aIo 1) wHeld)).map fun c => c.data.length) = some 48 := by
  decide +kernel

/-! ### DispatchAndRebuild -/

def wFetched : State :=
  { wIo with ctrls := wIo.ctrls.set 0 { wCtrl with sqs := [{ size := 8 }, { qid := 1, size := 8, cqid := 1, fetched := [{ cid := 9, cmd := .flush 1 }] }] } }
def wRebuild : State := { phase := .running, hs := { rebuilding := [(3, false)] } }

theorem test_dispatch :
    (chooseNext wFetched).map (fun x => (x.1, x.2.1)) = some (0, 1) ∧
    lastStatus (after (.commandDispatch {}) wFetched) 0 1 = some (9, 0, 0) ∧
    (chooseNext wIo).isNone = true := by
  decide +kernel

theorem test_region :
    ((after (.mapRegionRebuildComplete 3) wRebuild).evt.log.map fun r => r.ev) = [46] ∧
    (after (.mapRegionRebuildComplete 3) wRebuild).hs.rebuilding = [] := by
  decide +kernel

theorem test_dict_power :
    (writeDict .nvme {} 0x2020 1 false [1] wAdmin).2 = none ∧
    lastStatus (after (.dictionaryWrite aSrc 0 0x2020 1 false [1] 0) wAdmin) 0 0 = some (5, 0, 0) ∧
    (after (.setFeaturesPowerManagement aSrc 1) wAdmin).pwr.ps = 1 ∧
    ((after (.setFeaturesPowerManagement aSrc 1) wAdmin).evt.log.map fun r => r.data) = [[0, 1]] := by
  decide +kernel

/-! ### DictionaryKeeps -/

def wBus : State := { phase := .running, doors := { ecat := .op } }
/-- A write by the mailbox passes every check. -/
def takes (s : State) (index sub : Nat) (data : List Byte) : Bool :=
  objectExists s index && subExists s index sub && (accessAbort s index sub).isNone && (valueAbort s index (sub, data)).isNone &&
    !policyRefuses .ethercat s index [(sub, data)] && (ownAbort s (keepValue index s (sub, data)) index [(sub, data)]).isNone
def takesNum (s : State) (index sub v : Nat) : Bool := takes s index sub (valueBytes s index sub v)
/-- No bay is fitted. -/
def wBare : State := { wBus with bays := Vector.replicate 16 { fitted := false } }
/-- A tenant table of one entry and no maps but the one of namespaces. -/
def wTenant : State :=
  { wBus with
    doors := { wBus.doors with
      doms := [(objKey 0x2210 1, (takePad 16 tenantDefault)), (objKey 0x2210 2, []), (objKey 0x2210 3, []),
               (objKey 0x2210 4, []), (objKey 0x2210 5, [])] } }
def entryBytes : List Byte := leBytes 8 (64 * 2 ^ 30 + 2 ^ 21)

theorem test_budget :
    takesNum wBus 0x2220 2 10 = true ∧
    num (after (.budgetWrite .ethercat 2 10) wBus) 0x2220 2 = 10 ∧
    takesNum wBus 0x2220 0x0A 0 = true ∧
    num (after (.profileSelect .ethercat 0) wBus) 0x2220 0x0A = 0 := by
  decide +kernel

theorem test_buckets :
    wBus.mem.buckets.length = 8 ∧
    takesNum wBus 0x2600 3 20 = true ∧
    num (after (.bucketSettingsWrite .ethercat 3 20) wBus) 0x2600 3 = 20 ∧
    takesNum wBus 0x2610 1 2 = true ∧
    (after (.scratchpadCarveOut .ethercat 2) wBus).mem.scratchWays = 2 := by
  decide +kernel

theorem test_tables :
    takes wBare 0x4C00 1 entryBytes = true ∧
    dom (after (.scheduleWrite .ethercat entryBytes) wBare) 0x4C00 1 = entryBytes ∧
    takes wBus 0x4400 1 [1] = true ∧
    takes wBus 0x4400 2 (List.replicate 64 7) = true ∧
    dom (after (.strategyTableWrite .ethercat 0x4400 2 (List.replicate 64 7)) wBus) 0x4400 2 = List.replicate 64 7 := by
  decide +kernel

theorem test_tenants :
    takes wTenant 0x2210 6 (List.replicate 256 0) = true ∧
    (after (.tenantTableWrite .ethercat 6 (List.replicate 256 0)) wTenant).doors.sdo.abort = 0 := by
  decide +kernel

/-! ### TierWrites -/

def wQuar : State :=
  { wBus with
    doors := { wBus.doors with nums := [(objKey 0x2050 1, 1)] }
    flash := { vols := [{ port := 3, st := .quarantined, dies := [{ wDie with reason := 1 }] }, { port := 4, st := .inService, dies := [{ wDie with reason := 1 }] },
                        { port := 5, st := .inService, dies := [{ wDie with reason := 1 }] }] } }

theorem test_pool :
    takesNum { wBus with ports := 4 } 0x2110 2 16 = true ∧
    (after (.queuePoolSplitWrite .ethercat 2 16) { wBus with ports := 4, hs := { alloc := [0, 0, 0, 0] } }).hs.alloc = [0, 16, 0, 0] := by
  decide +kernel

theorem test_cell_mode :
    takesNum wBus 0x2400 4 3 = true ∧
    (after (.cellModeWrite .ethercat 3) wBus).flash.formatting = true := by
  decide +kernel

theorem test_volumes :
    takesNum wQuar 0x2410 9 3 = true ∧
    (after (.volumeAdopt .ethercat 3) wQuar).adm.running = [5] ∧
    takesNum wQuar 0x2410 0x0A 4 = true ∧
    (volOf (after (.volumeRetire .ethercat 4) wQuar) 4).map (·.retiring) = some true := by
  decide +kernel

/-! ### CommandWrites -/

def wCache : State := { wBus with mem := { wBus.mem with lines := [{ cset := 0, way := 1, tag := 0, dirty := true }] } }
def wArchived : State :=
  { wBus with
    bays := Vector.replicate 16 { fitted := true }
    doors := { wBus.doors with nums := [(objKey 0x2820 4, 6)] }
    ebb := { objs := [{ oid := 1, arch := .released, setId := 6, role := 0, lbas := 4 }]
             archived := [(6, [{ role := 0 }, { role := 0x80 }, { role := 0x81 }])] } }

theorem test_cache :
    takesNum wCache 0x2610 8 0x82 = true ∧
    wCache.mem.opStatus ≠ 1 ∧
    takesNum wCache 0x2610 8 1 = true ∧
    (after (.cacheInvalidate .ethercat false) wCache).mem.opStatus = 1 ∧
    (after (.cacheClean .ethercat false) wCache).mem.opStatus = 1 ∧
    (after (.cacheCleanAndInvalidate .ethercat false) wCache).mem.opStatus = 1 := by
  decide +kernel

theorem test_set_now :
    takesNum wBus 0x2800 3 1 = true ∧
    (after (.startSetNow .ethercat 1) wBus).ebb.startNow = true ∧
    takesNum wBus 0x5010 9 255 = true := by
  decide +kernel

theorem test_recon :
    takesNum wArchived 0x2820 5 0 = true ∧
    widthOf wArchived 6 + 1 ≤ countedBays wArchived ∧
    (after (.reconstructRequest .ethercat 0) wArchived).ebb.recon.status = 1 := by
  decide +kernel

theorem test_commit :
    takesNum wBus 0x4000 0x13 1 = true ∧
    anyWriting wBus = false ∧
    (after (.coefficientCommit .ethercat 1) wBus).doors.sdo.abort = 0 := by
  decide +kernel

/-! ### ClearWrites -/

/-- Bays that are fitted and stand, with everything homed. -/
def yB : Bay := { fitted := true, loaderState := 3, sled := { lost := false }, loader := { lost := false }, coll := { lost := false } }
def wBays : State := { wBus with bays := Vector.replicate 16 yB }
def bayTakes (s : State) (b : BayId) (off sub v : Nat) : Bool := takesNum s (bayIndex b off) sub v

theorem test_clears :
    bayTakes wBays 2 0x50 0x0E 1 = true ∧
    bayTakes wBays 2 0x70 0x0D 1 = true ∧
    bayTakes wBays 2 0x80 0x12 1 = true ∧
    bayTakes wBays 2 0x12 6 1 = true ∧
    bayTakes wBays 2 0x20 0x11 1 = true := by
  decide +kernel

theorem test_clear_effect :
    (bayAt (after (.causewayClear .ethercat 2 1) { wBus with bays := Vector.replicate 16 { yB with cway := { upErrors := 4 } } }) 2).cway.upErrors = 0 ∧
    (bayAt (after (.spindleCountsClear .ethercat 2 1) wBays) 2).spin.counts = List.replicate 6 0 := by
  decide +kernel

/-! ### SpindleCommands -/

def wTurn : State := { wBus with bays := Vector.replicate 16 { yB with spin := { state := 4, speed := 7200, sensorless := true } } }
/-- Four spindles start. -/
def wFour : State :=
  { wBus with bays := Vector.ofFn fun b => if b.val < 4 then { yB with spin := { state := 1 } } else yB }

theorem test_spindle_start :
    bayTakes wBays 2 0x20 3 1 = true ∧
    spindleBusy wBays 2 = false ∧
    startRefused wBays 2 = false ∧
    bayEnabled wBays 2 = true ∧
    startingCount wBays = 0 ∧
    (bayAt (after (.spindleStart7200 .ethercat 2) wBays) 2).spin.state = 1 ∧
    (bayAt (after (.spindleStart9600 .ethercat 2) wBays) 2).spin.target = 9600 ∧
    (bayAt (after (.spindleStartAtSpeed .ethercat 2) wBays) 2).spin.target = bnum wBays 2 0x20 0x12 := by
  decide +kernel

theorem test_spindle_waits :
    startingCount wFour = 4 ∧
    (bayAt (after (.spindleStart7200 .ethercat 6) wFour) 6).spin.waitStart = some 7200 := by
  decide +kernel

theorem test_spindle_stop :
    (bayAt (after (.spindleBrake .ethercat 2) wTurn) 2).spin.state = 6 ∧
    (bayAt (after (.spindleCoast .ethercat 2) wTurn) 2).spin.state = 7 ∧
    bayTakes wTurn 2 0x20 3 3 = true := by
  decide +kernel

/-! ### StepperCommands -/

/-- Every stepper moves. -/
def wMove : State :=
  let m : Stepper := { moving := true, lost := false, energised := true, pos := 512, goal := 5120, dir := 1, interval := 100, h := 1000000 }
  { wBus with bays := Vector.replicate 16 { yB with sled := m, loader := m, coll := m, loaderState := 2 } }

theorem test_sled :
    (bayAt (after (.sledHome .ethercat 2) wBays) 2).sled.homing = true ∧
    bayTakes wBays 2 0x30 0x0F 2 = true ∧
    (bayAt (after (.sledPark .ethercat 2) wBays) 2).sled.goal = bint wBays 4 2 0x30 0x0D ∧
    takes wBays (bayIndex 2 0x30) 0x10 (leInt 4 1000) = true ∧
    (bayAt (after (.sledTargetPosition .ethercat 2 1000) wBays) 2).sled.goal = 1000 := by
  decide +kernel

theorem test_sled_stop :
    (bayAt (after (.sledStop .ethercat 2) wMove) 2).sledState = 4 ∧
    ((after (.sledStop .ethercat 2) wMove).evt.log.map fun r => (r.ev, r.cause)) = [(153, 2)] ∧
    (bayAt (after (.sledDeEnergise .ethercat 2) wMove) 2).sledState = 6 := by
  decide +kernel

theorem test_loader :
    loaderRefused yB = 0 ∧
    (bayAt (after (.loaderOpen .ethercat 2) wMove) 2).loader.goal = 0 ∧
    (bayAt (after (.loaderClamp .ethercat 2) wBays) 2).loader.goal = bint wBays 4 2 0x40 4 + 256 ∧
    (bayAt (after (.loaderStop .ethercat 2) wMove) 2).loaderState = 4 := by
  decide +kernel

theorem test_collimator :
    (bayAt (after (.collimatorStop .ethercat 2) wMove) 2).collState = 4 ∧
    bayTakes wMove 2 0x40 0x17 1 = true ∧
    servoIdle wMove 2 = true := by
  decide +kernel

/-! ### StepsAndLibraryLoader -/

theorem test_steps :
    ((bayAt wMove 2).loader.tick (loaderLim wMove 2)).moving = true ∧
    (bayAt (after (.stepTimer 2 1) wMove) 2).loader.pos = 513 ∧
    (bayAt (after (.stepTimer 2 2) wMove) 2).coll.pos = 513 ∧
    (bayAt (after (.stepTimer 2 0) wMove) 2).sled.pos = 513 := by
  decide +kernel

theorem test_chopper :
    (bayAt (after (.chopperOffsetUpdate 2 1 [16] [0]) { wBus with bays := Vector.replicate 16 { yB with loader := { energised := true, current := 400 } } }) 2).loader.offA = 32 := by
  decide +kernel

theorem test_library_loader :
    libraryOpen wBays = true ∧
    (bayAt (after (.libraryOpenLoader 2 7) wBays) 2).ackSeq = 7 ∧
    (bayAt (after (.libraryClamp 2 7) wBays) 2).running = some 7 ∧
    (bayAt (after (.libraryStopLoader 2 7) wMove) 2).loaderState = 4 := by
  decide +kernel

/-! ### BayCommands -/

def wHarb : State :=
  { wBus with
    bays := Vector.replicate 16 { yB with harbour := true, cause := 0x13, cald := { faults := 0x82, drvEn := true } }
    sup := { wBus.sup with barrier := 2, drive := 0 } }
def wHarb0 : State := { wHarb with bays := Vector.replicate 16 { yB with harbour := true, cald := { drvEn := true } } }
def wOff : State := { wHarb with bays := Vector.replicate 16 yB, doors := { wBus.doors with nums := [(objKey 0x3200 2, 0)] } }
def calOf (l : List Int) : DriveCal := { values := l, offUs := 10000 }

theorem test_fault_clear :
    bayTakes wHarb 2 0x60 2 2 = true ∧
    (bayAt (after (.faultClear .ethercat 2 2) wHarb) 2).cald.faults = 0x80 := by
  decide +kernel

theorem test_bay_harbour :
    bayTakes wBays 2 0 3 2 = true ∧
    (bayAt (after (.enterBayHarbour .ethercat 2) wBays) 2).cause = 0x13 ∧
    (bayAt (after (.enterBayHarbour .ethercat 2) wBays) 2).harbour = true := by
  decide +kernel

theorem test_restart :
    restartRefused wHarb0 2 = false ∧
    (bayAt (after (.bayRestart .ethercat 2 false []) wHarb0) 2).harbour = false ∧
    (bayAt (after (.bayRestart .ethercat 2 false []) wHarb0) 2).fitted = false := by
  decide +kernel

theorem test_calibrate :
    bayTakes wBays 2 0x60 0x0E 1 = true ∧
    (bayAt (after (.calibrationRequest .ethercat 2 1 [calOf [3]]) wBays) 2).cald.offsets.head? = some 3 ∧
    ((bayAt (after (.calibrationRequest .ethercat 2 8 [calOf [], calOf [], calOf [], calOf [1, 2, 3]]) wBays) 2).cald.offsets.drop 7).take 3 = [1, 2, 3] := by
  decide +kernel

theorem test_bay_enable :
    num wOff (bayIndex 2 0) 2 = 0 ∧
    bayTakes wOff 2 0 2 1 = true ∧
    num (after (.bayEnableWrite .ethercat 2 1 false) wOff) (bayIndex 2 0) 2 = 1 ∧
    num (after (.bayEnableWrite .ethercat 2 0 false) wBays) (bayIndex 2 0) 2 = 0 := by
  decide +kernel

/-! ### DriveSide -/

def wLink : State := { wBays with sup := { wBays.sup with barrier := 2, drive := 0 } }

theorem test_bay_start :
    bayMayStart wLink 2 = true ∧
    (bayAt (after (.bayStart 2 true false) wLink) 2).started = true := by
  decide +kernel

theorem test_barrier :
    (after .barrierLoss wLink).sup.barrier = 1 ∧
    (bayAt (after .barrierLoss wLink) 5).harbour = true ∧
    (after (.barrierRetrain false []) (after .barrierLoss wLink)).sup.barrierTries = 1 := by
  decide +kernel

theorem test_drive_supply :
    (after (.driveSupplyCrossing 1 16900) wLink).sup.drive = 1 ∧
    (after (.driveSupplyCrossing 1 16900) wLink).sup.vfldDip = true ∧
    (after (.driveSupplyRecovery 1 24000) (after (.driveSupplyCrossing 1 16900) wLink)).sup.vfldDip = false ∧
    (after (.driveSupplyCrossing 7 0) wLink).sup.barrier = 0 ∧
    (after (.driveSupplyRecovery 7 5000) (after (.driveSupplyCrossing 7 0) wLink)).sup.barrier = 1 := by
  decide +kernel

/-! ### CoilsAndBridges -/

/-- Coil 0 of every bay is off and on its third retry. -/
def wCoil : State :=
  { wLink with bays := Vector.replicate 16 { yB with cald := { coilOff := [true, false, false], retries := [3, 1, 0], drvEn := true, rmsAcc := [0, 0, 25958400000] } } }
def wAmps : State := { wLink with bays := Vector.replicate 16 { yB with cald := { rmsAcc := [15360000000, 15360000000, 8640000000] } } }

theorem test_coils :
    (bayAt (after (.coilCurrentLimit 2 2) wCoil) 2).cald.coilOff = [true, false, true] ∧
    (bayAt (after (.coilCurrentLimit 2 0) wCoil) 2).cause = 5 ∧
    (bayAt (after (.coilRetry 2 0) wCoil) 2).cald.retries = [4, 1, 0] ∧
    (bayAt (after (.coilRetryEpisodeEnd 2 1) wCoil) 2).cald.retries = [3, 0, 0] ∧
    (bayAt (after (.coilRmsThreshold 2 2) wCoil) 2).cald.overload = true := by
  decide +kernel

theorem test_aggregate :
    coilSum wAmps = 8800 ∧
    highestBay wAmps = some 0 ∧
    (bayAt (after .aggregateCoilLimit wAmps) 0).cause = 0x14 ∧
    (bayAt (after .aggregateCoilRepeat { wAmps with sup := { wAmps.sup with aggregate := true } }) 0).harbour = true := by
  decide +kernel

theorem test_interlock :
    (bayAt (after (.drvEnLow 2) wCoil) 2).cause = 7 ∧
    (bayAt (after (.drvEnHigh 2) wCoil) 2).cald.drvEn = true ∧
    (bayAt (after (.driveSideFault 2 1 1) wCoil) 2).cause = 1 := by
  decide +kernel

/-! ### MailboxAccess -/

def wSeg : State := { wBus with doors := { wBus.doors with segment := some (0x2220, 2, [10]) } }
/-- Abort code and data of the mailbox's answer. -/
def sdoOf (t : State) : Nat × List Byte := (t.doors.sdo.abort, t.doors.sdo.data)

theorem test_sdo :
    sdoOf (after (.sdoUpload 0x2220 2 false) wBus) = (0, [0x90, 1]) ∧
    sdoOf (after (.sdoUpload 0x2FFF 0 false) wBus) = (0x06020000, []) ∧
    sdoOf (after (.sdoDownload 0x2220 2 false false true [10, 0]) wBus) = (0, []) ∧
    num (after (.sdoDownload 0x2220 2 false true true [0]) wSeg) 0x2220 2 = 10 := by
  decide +kernel

theorem test_sdo_segments :
    (after (.sdoDownload 0x2220 2 false true false [0]) wSeg).doors.segment = some (0x2220, 2, [10, 0]) ∧
    sdoOf (after .segmentedTransferTimeout wSeg) = (0x05040000, []) ∧
    sdoOf (after (.sdoInformation 3 0x2220 0) wBus) = (0, [0x20, 0x22, 5, 0, 10, 9]) := by
  decide +kernel

/-! ### BenchPort -/

/-- A request frame: operation, index, subindex, flags, length, data and its CRC. -/
def frame (op index sub len : Nat) (data : List Byte) : List Byte :=
  let body := leBytes 1 op ++ leBytes 2 index ++ leBytes 1 sub ++ [0] ++ leBytes 2 len ++ data
  body ++ leBytes 2 (crc16 body)

theorem test_bench :
    frameOk (frame 1 0x2220 2 4 []) = true ∧
    (after (.benchRead (frame 1 0x2220 2 4 [])) wBus).doors.bench = benchAnswer 0 2 [0x90, 1] ∧
    num (after (.benchWrite (frame 2 0x2220 2 2 [10, 0])) wBus) 0x2220 2 = 10 ∧
    (after (.benchHarbour (frame 3 0x4842 0 0 [])) wBus).harbourCause = 9 ∧
    (after (.benchReset (frame 4 0x5253 0 0 [])) wBus).harbourCause = 10 := by
  decide +kernel

theorem test_bench_answer :
    (after .benchAnswer (after (.benchRead (frame 1 0x2220 2 4 [])) wBus)).doors.benchOut = benchAnswer 0 2 [0x90, 1] ∧
    (after .benchAnswer { wBus with doors := { benchBusy := true } }).doors.benchOut = [0xA5] := by
  decide +kernel

/-! ### BootRecovery -/

def wRec : State := { phase := .bootRecovery, fw := { nor := [(65536, 1), (65540, 9)] } }
/-- A boot recovery frame. -/
def norFrame (op addr len : Nat) (data : List Byte) : List Byte :=
  let body := leBytes 1 op ++ leBytes 4 addr ++ leBytes 2 len ++ data
  body ++ leBytes 2 (crc16 body)

theorem test_nor :
    frameOk (norFrame 0x10 65536 2 []) = true ∧
    (after (.benchNorRead (norFrame 0x10 65536 2 [])) wRec).doors.bench = benchAnswer 0 2 [1, 0xFF] ∧
    (after (.benchNorErase (norFrame 0x11 65536 0 [])) wRec).fw.nor = [] ∧
    (after (.benchNorProgram (norFrame 0x12 65537 2 [7, 8])) wRec).fw.nor = [(65536, 1), (65537, 7), (65538, 8), (65540, 9)] := by
  decide +kernel

theorem test_nor_reboot :
    (after (.benchReboot (norFrame 0x13 0 0 []) wBoot) { wSlots with phase := .bootRecovery }).phase = .running := by
  decide +kernel

/-! ### Administration -/

theorem test_admin :
    takesNum wBus 0x1011 1 0x64616F6C = true ∧
    (after (.restoreDefaults .ethercat 0x64616F6C) wBus).tide.restore = true ∧
    (after (.lockNow .ethercat 1) wBus).lockPassed = true ∧
    takesNum wBus 0x2000 6 1 = true := by
  decide +kernel

theorem test_admin_arm :
    takesNum wBus 0x2050 3 0x01000002 = true ∧
    (after (.adminArm .ethercat 0x01000002) wBus).adm.armArg = 2 ∧
    (after .armWindowExpiry (after (.adminArm .ethercat 0x01000002) wBus)).adm.armCode = 0 := by
  decide +kernel

theorem test_admin_policy :
    takesNum wQuar 0x2050 1 2 = true ∧
    num (after (.adminPolicyChange .ethercat 2) wQuar) 0x2050 1 = 2 := by
  decide +kernel

/-! ### AdminRequests -/

/-- The EtherCAT door may start operations; one namespace. -/
def wPol : State := { wNs with doors := { ecat := .op, nums := [(objKey 0x2050 1, 1)] } }
def wForeign : State := { wPol with tierState := 2 }

theorem test_requests :
    takes wPol 0x2050 4 (requestBytes 1 1 0 0) = true ∧
    formatCheck wPol 1 (formatFields 0) = none ∧
    (after (.adminRequestFormat .ethercat 1 0 0) wPol).adm.running = [1] ∧
    (after (.adminRequestSanitize .ethercat 0 2 0) wPol).adm.running = [2] ∧
    (nsOf (after (.adminRequestNamespaceDelete .ethercat 1 0 0) wPol) 1).isNone = true := by
  decide +kernel

theorem test_adopt :
    takesNum wForeign 0x2060 4 1 = true ∧
    (after (.adoptTier .ethercat 1) wForeign).tierState = 1 ∧
    (after (.adminRequestSanitize .ethercat 0 1 0) { wPol with adm := { sanitizeFailed := true } }).adm.sanitizeFailed = false := by
  decide +kernel

/-! ### EventDelivery -/

def wEmcy : State := { wBus with evt := { emcy := [{ ev := 3 }], emcyDropped := 2, msixWaiting := [0] }, ctrls := Vector.replicate 4 { wCtrl with vec2047 := true } }

theorem test_delivery :
    (after .msixCoalesceTimer wEmcy).evt.msixSent = 1 ∧
    ((after .emergencyMessageSent wEmcy).evt.emcy.map fun m => m.ev) = [28] ∧
    ((after (.ethercatPortLinkChange true false) { wBus with doors := { portLink := [true, true] } }).evt.log.map fun r => (r.cause, r.data)) = [(3, [1])] := by
  decide +kernel

theorem test_ethercat :
    (after (.ethercatStateChange 4 []) wBus).doors.ecat = .safeOp ∧
    ((after (.ethercatStateChange 4 []) wBus).evt.log.map fun r => (r.ev, r.cause)) = [(28, 1)] ∧
    (bayAt (after (.ethercatStateChange 8 [1, 2, 3]) { wBus with doors := { ecat := .safeOp } }) 2).ackSeq = 3 ∧
    (after .pdoWatchdogExpiry wBus).doors.watchdog = true := by
  decide +kernel

theorem test_spdm :
    ((after (.spdmRequest 1 [0x12, 0xE4]) wEmcy).ctrls.get 1).spdm = 1 ∧
    ((after (.spdmRequest 1 [0x12, 0x84]) wEmcy).ctrls.get 1).spdmAnswer = 4 ∧
    ((after (.spdmRequest 1 [0x12, 0xEC]) wEmcy).ctrls.get 1).spdmAnswer = 0x7F := by
  decide +kernel

/-! ### PowerStates -/

def wShake : State := { wBus with pwr := { shaking := some (2, 3, 0) } }
def wPol1 : State := { wBus with doors := { ecat := .op, nums := [(objKey 0x2020 1, 1)] } }
def wPs3 : State := { wBus with pwr := { ps := 3, fromPs := 1 } }
def wPs4 : State := { wBus with pwr := { ps := 4, fromPs := 1 } }
def wBootHbm : Boot := { straps := 1, hbm0 := true, hbm1 := true }

theorem test_handshake :
    askBlock 2 3 wShake = .agree ∧
    askBlock 2 4 wShake = .agree ∧
    lastBlock 2 = 4 ∧
    (after .powerHandshakeDelay wShake).pwr.ps = 2 ∧
    archiveIdle wPol1 = true ∧
    num wPol1 0x2020 2 ≠ 0 ∧
    (after .policyIdleTimer wPol1).pwr.ps = 2 := by
  decide +kernel

theorem test_wake :
    (after (.powerWake wBootHbm) wPs3).pwr.ps = 1 ∧
    ((after (.powerWake wBootHbm) wPs3).evt.log.map fun r => r.data) = [[3, 1]] ∧
    (after (.powerWake wBootHbm) wPs4).pwr.ps = 1 ∧
    (after (.powerWake { hbm0 := false }) wPs4).harbourCause = 6 := by
  decide +kernel

theorem test_shoal :
    (shoalCause 12000 24000 [] [] [] wPs4).isNone = true ∧
    shoalCause 9000 24000 [] [] [] wPs4 = some (1, []) ∧
    (after (.shoalWatchCycle 9000 24000 [] [] [] wBootHbm) wPs4).pwr.ps = 1 := by
  decide +kernel

/-! ### SpindleStarts -/

/-- Every bay's spindle is as given. -/
def wSpin (p : Spin) : State := { wBus with bays := Vector.replicate 16 { yB with spin := p } }
/-- The same at the speed class of 10,000 rpm. -/
def wFast (p : Spin) : State :=
  { wBus with bays := Vector.replicate 16 { yB with spin := p, servo := { yB.servo with speedClass := speedClass 0 10000 } } }
/-- Three crossings in forward order, and two in backward order. -/
def wForward : EmfWatch := { crossings := [{ t := 0, phase := 0 }, { t := 2500, phase := 2 }, { t := 5000, phase := 1 }] }
def wBackward : EmfWatch := { crossings := [{ t := 0, phase := 0 }, { t := 250000, phase := 1 }] }
/-- State, gates and commutation state of bay 2's spindle after a command. -/
def spinAfter (c : Instr) (p : Spin) : Nat × Nat × Nat :=
  let q := (bayAt (after c (wSpin p)) 2).spin
  (q.state, q.gates, q.comm)

theorem test_watch :
    spinAfter (.spindleWatchEnd 2 wForward) { state := 1 } = (3, 0, 0) ∧
    spinAfter (.spindleWatchEnd 2 wBackward) { state := 1 } = (6, 2, 0) ∧
    spinAfter (.spindleWatchEnd 2 {}) { state := 1, target := 7200 } = (2, 0, 0) := by
  decide +kernel

theorem test_forced :
    spinAfter (.forcedCommutation 2 [9, 1, 1, 1, 1, 1] [] 100) { state := 2 } = (3, 1, 2) ∧
    spinAfter (.forcedCommutation 2 [] [] 200) { state := 3, gates := 1, comm := 5 } = (3, 1, 0) ∧
    spinAfter (.commutation 2) { state := 3, duePred := 500, comm := 1, speed := 6000 } = (3, 1, 2) := by
  decide +kernel

theorem test_start_fails :
    spinAfter (.startTimeout 2) { state := 3, gates := 1 } = (7, 0, 0) ∧
    spinAfter (.missedWindow 2) { state := 4, gates := 1, sensorless := true, missedRun := 4 } = (7, 0, 1) ∧
    spinAfter (.spindleRetry 2) { state := 7, retryDue := true, target := 7200 } = (1, 0, 0) := by
  decide +kernel

/-! ### SpindleRuns -/

theorem test_crossing :
    ((bayAt (after (.zeroCrossing 2 { t := 5000, phase := 1, rising := true }) (wSpin { state := 4, sensorless := true, comm := 1, tPrev := 1000, lastComm := 4000 })) 2).spin.crossed) = true ∧
    (bayAt (after (.commutation 2) (wFast { state := 4, gates := 1, sensorless := true, comm := 5, duePred := 6500, tPrev := 2500, lastComm := 4000 })) 2).spin.comm = 0 ∧
    (bayAt (after (.missedWindow 2) (wFast { state := 4, gates := 1, sensorless := true, comm := 2, tPrev := 2500, lastComm := 4000 })) 2).spin.comm = 3 := by
  decide +kernel

theorem test_running :
    spinAfter (.spindleRunning 2) { state := 3, gates := 1, sensorless := true, speed := 7190, target := 7200 } = (4, 1, 0) ∧
    spinAfter (.speedLimited 2) { state := 4, gates := 1, sensorless := true, speed := 7000, target := 7200, duty := bnum wBus 2 0x20 0x0F } = (5, 1, 0) := by
  decide +kernel

theorem test_brake :
    spinAfter (.brakeCheck 2 {}) { state := 6, gates := 2, speed := 90 } = (6, 3, 0) ∧
    spinAfter (.brakeCheck 2 {}) { state := 7 } = (0, 0, 0) ∧
    spinAfter (.brakeEnd 2) { state := 6, brakeHold := true, gates := 3 } = (0, 0, 0) ∧
    spinAfter (.brakeEnd 2) { state := 6, brakeHold := true, afterBrake := true, target := 9600 } = (2, 0, 0) ∧
    (bayAt (after (.coastObservationTimeout 2) (wSpin { dipCoast := true })) 2).spin.dipCoast = false := by
  decide +kernel

/-! ### LibraryAnswers -/

def wAsk (code reason : Nat) (present : Bool) : State :=
  { wBus with bays := Vector.replicate 16 { yB with reqCode := code, reqSeq := 5, reqReason := reason, present := present } }
def wDue : State := { wBus with bays := Vector.replicate 16 { yB with blankDue := true, unloadDue := some 7, present := true } }
/-- A set whose role 0 waits in bay 2 for its disc. -/
def wSet1 (d : SetDisc) : ArchSet := { sid := 9, discs := [d] }
def dWaits : SetDisc := { bay := 2, claimed := true }
/-- The same requests with the set started, or with an object's recall in bay 2. -/
def wAskSet (code reason : Nat) (present : Bool) (d : SetDisc) : State :=
  { wAsk code reason present with ebb := { sets := [wSet1 d] } }
def wAskRecall (code reason : Nat) (present : Bool) : State :=
  { wAsk code reason present with
    ebb := { objs := [{ oid := 7, serial := [5] }], recalls := [{ obj := 7, nsid := 1, zone := 0, bay := some 2 }] } }
def wAskNamed (misread : Bool) : State :=
  { wBus with
    bays := Vector.replicate 16 { yB with
      reqCode := 2, reqSeq := 5, reqReason := 3, reqSerial := [5], present := true, misread := misread, loaderState := 3 }
    ebb := { recon := { status := 2, setId := 9, role := 1 } } }
/-- A blank disc's lead-in. -/
def wBlank : LeadIn := { record := systemFrame 1 0 0 255 (ascii "GX24" ++ leBytes 4 1 ++ leBytes 16 7) }
/-- Request code and reason of bay 2 after a command. -/
def reqAfter (c : Instr) (s : State) : Nat × Nat :=
  ((bayAt (after c s) 2).reqCode, (bayAt (after c s) 2).reqReason)
/-- Newest event of a command: number, cause and data. -/
def newestEvent (c : Instr) (s : State) : Option (Nat × Nat × List Nat) :=
  (after c s).evt.log.head?.map fun r => (r.ev, r.cause, r.data)

theorem test_answers :
    libraryOpen (wAsk 1 1 true) = true ∧
    reqAfter (.libraryAnswerLoaded 2 5 {}) (wAsk 1 1 true) = (3, 7) ∧
    reqAfter (.libraryAnswerUnloaded 2 5) (wAsk 3 7 false) = (0, 0) ∧
    (bayAt (after (.libraryAnswerUnavailable 2 5) (wAsk 1 1 false)) 2).blankDue = true := by
  decide +kernel

theorem test_answers_set :
    reqAfter (.libraryAnswerLoaded 2 5 {}) (wAskSet 1 1 true dWaits) = (3, 7) ∧
    reqAfter (.libraryAnswerUnloaded 2 5) (wAskSet 3 7 false dWaits) = (1, 1) ∧
    ((after (.libraryRequestTimeout 2) (wAskSet 1 1 false dWaits)).evt.log.map fun r => (r.ev, r.cause, r.data)) = [(123, 0, [2, 1]), (114, 4, [9, 0, 0, 0, 0])] := by
  decide +kernel

theorem test_answers_recall :
    (bayAt (after (.libraryAnswerLoaded 2 5 {}) (wAskRecall 2 2 true)) 2).spin.target = 9600 ∧
    reqAfter (.libraryAnswerUnloaded 2 5) (wAskRecall 3 7 false) = (2, 2) ∧
    newestEvent (.libraryAnswerUnavailable 2 5) (wAskRecall 2 2 false) = some (121, 3, [7, 0, 0, 0, 0, 0, 0, 0]) ∧
    newestEvent (.libraryAnswerLoaded 2 5 {}) (wAskNamed true) = some (122, 4, [9, 0, 0, 0, 1]) := by
  decide +kernel

theorem test_library_timers :
    ((after (.libraryRequestTimeout 2) (wAsk 3 7 true)).evt.log.map fun r => (r.ev, r.data)) = [(123, [2, 7])] ∧
    (bayAt (after (.blankRequestRetry 2) wDue) 2).blankDue = false ∧
    reqAfter (.unloadRepost 2) wDue = (3, 7) := by
  decide +kernel

theorem test_discs :
    (bayAt (after (.discInserted 2 {}) { wBus with bays := Vector.replicate 16 { yB with loaderState := 1 } }) 2).disc = 1 ∧
    reqAfter (.discInserted 2 {}) { wBus with bays := Vector.replicate 16 { yB with loaderState := 3, started := true } } = (3, 8) ∧
    (bayAt (after (.discRemoved 2) (wAsk 0 0 true)) 2).present = false := by
  decide +kernel

/-! ### CellsArrive -/

/-- A cell with these first bytes and its CRC. -/
def wCell (l : List Byte) : List Byte :=
  takePad 60 l ++ leBytes 4 (crc32 (takePad 60 l))
/-- Every bay's link is active, and as given otherwise. -/
def wCway (c : Cway) : State := { wBus with bays := Vector.replicate 16 { yB with cway := { c with state := 2 } } }
/-- The link of bay 2 after a command. -/
def linkAfter (i : Instr) (c : Cway) : Cway := (bayAt (after i (wCway c)) 2).cway

theorem test_spot_cells :
    cellKnown (wCell [0x14, 8]) = true ∧
    (linkAfter (.spotSampleCell 2 (wCell [0x14, 8])) { seqs := List.replicate 8 (some 7) }).upErrors = 0 ∧
    (linkAfter (.spotSampleCell 2 (wCell [0x14, 9])) { seqs := List.replicate 8 (some 7) }).upErrors = 1 ∧
    (linkAfter (.spotSampleCell 2 [0x14, 9]) {}).upErrors = 1 ∧
    (1 ≤ bnum wBus 2 0x70 0x0C) := by
  decide +kernel

theorem test_servo_cells :
    ((bayAt (after (.servoCell 2 (wCell [0x20, 9, 0, 0, 0, 0, 0, 0, 5, 0, 0xFF, 0xFF])) { wBus with bays := Vector.replicate 16 { yB with cway := { state := 2 }, servo := { cellSeq := some 8 } } }) 2).servo.cells.map fun q => q.take 2) = [[5, -1]] ∧
    ((after (.servoCell 2 (wCell [0x20, 11])) { wBus with bays := Vector.replicate 16 { yB with cway := { state := 2 }, servo := { cellSeq := some 8 } } }).evt.log.map fun r => (r.ev, r.cause)) = [(155, 4)] := by
  decide +kernel

theorem test_status_cells :
    (linkAfter (.statusCell 2 (wCell [0x30, 0, 1, 2, 0, 0, 3, 5])) { regOut := some (0, 1, 1), regSeq := 3 }).regOut = none ∧
    (linkAfter (.statusCell 2 (wCell [0x30, 0, 1, 2, 0, 0, 3, 5])) {}).headEpoch = 5 ∧
    (linkAfter (.statusCell 2 (wCell [0x30, 0, 1, 2, 0, 0, 3, 5])) {}).inhibit = true := by
  decide +kernel

/-! ### LinkTrains -/

/-- An identity block of a head without a serial, with its CRC. -/
def wIdentity : List Byte :=
  let l := takePad 124 (ascii "CWID" ++ [1, 4])
  l ++ leBytes 4 (crc32 l)
/-- The training sets of a bay's four lanes. -/
def wSets (bay : Nat) : List (List Byte) := (List.range 4).map fun n => trainingSet false n bay
/-- Every bay's link is as given. -/
def wHead (c : Cway) : State := { wBus with bays := Vector.replicate 16 { yB with cway := c } }
def headAfter (i : Instr) (c : Cway) : Cway := (bayAt (after i (wHead c)) 2).cway

theorem test_training :
    identityOk wIdentity = true ∧
    identitySerial wIdentity = [] ∧
    (headAfter (.linkTraining 2 [wIdentity] (wSets 2) 90 4) { state := 1 }).state = 2 ∧
    (headAfter (.linkTraining 2 [[], wIdentity] (wSets 2) 90 4) { state := 1, serial := [5] }).newHead = true ∧
    (headAfter (.trainingTimeout 2) { state := 1 }).attempts = 1 ∧
    (headAfter (.linkTraining 2 [wIdentity] (wSets 3) 90 4) { state := 1, attempts := 2 }).state = 3 := by
  decide +kernel

theorem test_retraining :
    (headAfter (.linkRetrain 2 [wIdentity] (wSets 2) 90 4) { state := 2 }).retrains = 1 ∧
    (headAfter (.linkRetrain 2 [wIdentity] (wSets 2) 90 4) { state := 2 }).state = 2 ∧
    (headAfter (.registerAckTimeout 2) { state := 2, regOut := some (0, 1, 3) }).regOut = some (0, 1, 4) := by
  decide +kernel

theorem test_link_faults :
    (headAfter (.cwFltNLow 2 0x0008#16) { state := 2, len := true }).len = false ∧
    (headAfter (.laserFaultClear 2) { state := 2, faults := 2 }).regOut = some (4, 2, 1) ∧
    (headAfter (.laserFaultClear 2) { state := 2, faults := 2 }).regQueue = [(0, 1)] := by
  decide +kernel

/-! ### WindowsAndCommits -/

/-- Every bay's timebase is as given. -/
def wTb (x : Tb) : State := { wBus with bays := Vector.replicate 16 { yB with tb := x, cway := { clockWord := 2000000000000 }, spin := { yB.spin with speed := 7200 }, servo := { yB.servo with layer := 0 } } }
/-- The timebase of bay 2 after a command. -/
def tbAfter (c : Instr) (x : Tb) : Tb := (bayAt (after c (wTb x)) 2).tb
/-- A timebase with a wedge period at 7,200 rpm. -/
def tbAt (state : Nat) : Tb := { state := state, period := 8680556, pred := 100000000, wedge := 10 }
/-- A candidate at a time [ps]: layer 0, wedge 10, track 0. -/
def wCand (t : Nat) : Cand := { sc := t, code := servoCode 0 10 0 }

theorem test_acquire :
    (tbAfter (.acquireLock 2 (wCand 100)) { state := 1 }).lockRun = [(10, 100)] ∧
    (tbAfter (.acquireLock 2 (wCand 18361112)) { state := 1, lockRun := [(9, 9680556), (8, 1000000)] }).pred = 27041668 ∧
    (tbAfter (.acquireLock 2 (wCand 18361112)) { state := 1, lockRun := [(9, 9680556), (8, 1000000)] }).state = 2 := by
  decide +kernel

theorem test_windows :
    (tbAfter (.windowClose 2 [wCand 100100000]) (tbAt 2)).closed = some (some 100100000) ∧
    (tbAfter (.windowClose 2 [wCand 100200000]) (tbAt 2)).closed = some none ∧
    (tbAfter (.windowClose 2 []) (tbAt 2)).state = 3 := by
  decide +kernel

theorem test_commits :
    (after (.wedgeCommit 2 0) { wTb { tbAt 3 with closed := some none, missed := 15 } with bays := Vector.replicate 16 { yB with tb := { tbAt 3 with closed := some none, missed := 15, queue := [(⟨1, 1, 1⟩)] }, servo := { yB.servo with speedClass := 1 } } }).evt.log.length = 1 ∧
    (bayAt (after (.wedgeCommit 2 0) { wBus with bays := Vector.replicate 16 { yB with tb := { tbAt 2 with closed := some (some 100002560) }, servo := { yB.servo with speedClass := 1 } } }) 2).tb.pred = 108680556 + 640 := by
  decide +kernel

/-! ### FiringAndEncoder -/

/-- A bay whose queue holds one entry. -/
def wQueue (kind arg : Nat) : State :=
  { wBus with bays := Vector.replicate 16 { yB with tb := { state := 2, queue := [⟨500, kind, arg⟩], powerInForce := 1 }, cway := { wg := true } } }
/-- The encoder is in use on every bay. -/
def wEnc (x : Tb) : State := { wTb x with doors := { wBus.doors with nums := [(objKey 0x3280 0x0C, 1)] } }

theorem test_firing :
    (bayAt (after (.eventFire 2) (wQueue 1 0)) 2).cway.wg = false ∧
    (bayAt (after (.eventFire 2) (wQueue 2 9)) 2).tb.powerInForce = 9 ∧
    (bayAt (after (.eventFire 2) (wQueue 3 5)) 2).tb.captured.map (fun x => (x.arg, x.stamp)) = some (5, 500) ∧
    (bayAt (after (.eventFire 2) (wQueue 4 1)) 2).tb.updates = 1 ∧
    mayRaiseGate (wQueue 5 0) 2 = false ∧
    (bayAt (after (.eventFire 2) (wQueue 5 0)) 2).tb.angle = 500 := by
  decide +kernel

theorem test_encoder :
    bnum (wEnc {}) 2 0x80 0x0C = 1 ∧
    (bayAt (after (.encoderCount 2 false true 1) (wEnc {})) 2).tb.encoder = 1 ∧
    (bayAt (after (.encoderCount 2 true false 1) (wEnc { encAB := 0 })) 2).tb.encoder = -1 ∧
    (bayAt (after (.encoderCount 2 true true 1) (wEnc {})) 2).tb.skips = 1 ∧
    (bayAt (after (.encoderCount 2 true true 1) (wEnc { encSkipAt := some 0 })) 2).tb.uncertain = true := by
  decide +kernel

/-! ### FocusMoves -/

/-- A loop that is closed. -/
def wClosed : Loop := { isOpen := false }
/-- Every bay's servo is as given, its timebase locked, its spindle on target. -/
def wServo (v : Servo) : State :=
  { wBus with bays := Vector.replicate 16 { yB with
      servo := v, tb := { state := 2, period := 8680556 }, spin := { state := 4, speed := 7200, target := 7200 }
      cway := { state := 2, laser := 1, len := true } } }
def servoAfter (c : Instr) (v : Servo) : Servo := (bayAt (after c (wServo v)) 2).servo
/-- Focus closed, on layer 3. -/
def wFocus : Servo := { state := 3, layer := 3, loops := List.replicate 2 wClosed ++ List.replicate 5 {} }

theorem test_capture :
    captureReady (wServo { speedClass := 1 }) 2 0 = false ∧
    (servoAfter (.focusCapture 2 0) { speedClass := 1 }).rejection.take 3 = [1, 1, 0] ∧
    (servoAfter (.captureSettleTimeout 2) { state := 2, target := 6, loops := List.replicate 7 wClosed }).rejection.take 3 = [1, 4, 6] := by
  decide +kernel

theorem test_capture_harbour :
    (bayAt (after (.captureSettleTimeout 2) (wServo { state := 2, attempts := 20, target := 6, loops := List.replicate 7 wClosed })) 2).cause = 0x11 := by
  decide +kernel

theorem test_jump_and_seek :
    (servoAfter (.layerJump 2 7) wFocus).target = 7 ∧
    (servoAfter (.layerJump 2 7) wFocus).jumps = 1 ∧
    (servoAfter (.seek 2 1) wFocus).track = 4 ∧
    (servoAfter (.seek 2 100) wFocus).rampT.on = false ∧
    (servoAfter (.seek 2 100) wFocus).expectRow = 100 := by
  decide +kernel

theorem test_capture_starts :
    (captureReady { wServo { speedClass := 1 } with bays := Vector.replicate 16 { (bayAt (wServo { speedClass := 1 }) 0) with coll := { lost := false, pos := -28000 } } } 2 0 && (bayAt (after (.focusCapture 2 0) { wServo { speedClass := 1 } with bays := Vector.replicate 16 { (bayAt (wServo { speedClass := 1 }) 0) with coll := { lost := false, pos := -28000 } } }) 2).servo.state == 2) = true := by
  decide +kernel

/-! ### ServoWork -/

/-- Every bay writes a disc, with its focus, tracking and sled closed. -/
def wWriting : State :=
  { wBus with bays := Vector.replicate 16 { (bayAt (wServo { wFocus with settled := 200 }) 0) with work := 3 } }
/-- Focus and tracking closed in follow; and seven trial offsets of which one is best. -/
def wFollow : Servo := { wFocus with loops := List.replicate 3 wClosed ++ List.replicate 4 {} }
def wTrials (best : Int) : CalIn := { trials := [(-600, 9), (best, 3), (-200, 9), (0, 9), (200, 9), (250, 9), (600, 9)] }
/-- A focus loop with a completed shadow set, on every bay. -/
def wShadow : State :=
  { wBus with bays := Vector.replicate 16 { yB with started := true, servo := { state := 1, loops := { shadow := some [7] } :: List.replicate 6 {} } } }

theorem test_write_entry :
    writeReady wWriting 2 = true ∧
    (bayAt (after (.writeModeEntry 2) wWriting) 2).cway.regOut = some (0, 2, 1) ∧
    (bayAt (after (.writeModeEntry 2) wWriting) 2).servo.state = 6 ∧
    (bayAt (after (.writeModeEntry 2) { wWriting with bays := Vector.replicate 16 { yB with work := 3 } }) 2).servo.writeAsked = true := by
  decide +kernel

theorem test_calibrations :
    (servoAfter (.servoCalibration 2 2 3 (wTrials (-50))) wFollow).focusOffsets.getD 3 0 = -50 ∧
    (servoAfter (.servoCalibration 2 2 3 (wTrials 401)) wFollow).rejection.take 4 = [2, 2, 3, 0] ∧
    (servoAfter (.servoCalibration 2 2 3 {}) wFollow).rejection.take 2 = [2, 1] ∧
    (servoAfter (.servoCalibration 2 2 3 (wTrials (-50))) wFollow).fresh = 8 := by
  decide +kernel

theorem test_overruns :
    ((after (.loopOverrun 2 5) wBays).evt.log.map fun r => (r.ev, r.data)) = [(16, [2, 5])] ∧
    (servoAfter (.loopOverrun 2 0) { wFocus with focusRuns := 2 }).focusLost = 1 := by
  decide +kernel

theorem test_engine :
    (after (.engineCycleBoundary [] true) wBus).servoPhase = 1 ∧
    ((bayAt (after (.engineCycleBoundary [] false) wShadow) 2).servo.loops.map Loop.set).head? = some [7] := by
  decide +kernel

/-! ### DiscWriting -/

/-- A disc on bay 2 whose row 5 is staged. -/
def wDisc : SetDisc := { bay := 2, part := 1, row := 5, staged := 1, serial := [65#8], status := .writing }
/-- A set of one disc. -/
def wSet (d : SetDisc) : ArchSet := { sid := 7, k := 4, plan := { setId := 7, k := 4, strategy := [0#8] }, discs := [d] }
/-- Every bay in mode write at row 5 of layer 0, with what is in writing; family 1 has a table. -/
def wRow (c : Chan) : State :=
  { wBus with
    ebb := { sets := [wSet wDisc] }
    doors := { wBus.doors with doms := [(objKey 0x4400 3, (List.replicate 576 0#8)), (objKey 0x4411 1, (List.replicate 176 0#8))] }
    bays := Vector.replicate 16 { yB with
      work := 3, servo := { state := 6, layer := 0, track := 20, fresh := BitVec.allOnes 64 }
      chan := { c with family := 1, rejects := List.replicate 24 4, runFail := [0, 0, 0, 0] } } }
/-- Two frames, of which the first may be judged. -/
def wTwo : List FrameW := [{ pfa := 9, planned := 9 }, { pfa := 10, spot := 1, start := 60000 }]
def chanAfter (i : Instr) (c : Chan) : Chan := (bayAt (after i (wRow c)) 2).chan

theorem test_row_start :
    (writingOn (wRow {}) 2).isSome = true ∧
    (chanAfter (.rowStart 2) {}).rowActive = true ∧
    (chanAfter (.rowStart 2) {}).rowOf = 5 ∧
    ((chanAfter (.rowStart 2) {}).frames.map FrameW.pfa) = (dataRow 0 5).map FrameW.pfa := by
  decide +kernel

theorem test_frame_confirmed :
    ((chanAfter (.frameDecision 2 0 {}) { frames := wTwo, rowActive := true, rowOf := 5 }).frames.map FrameW.st) = [3, 0] ∧
    (chanAfter (.frameDecision 2 0 {}) { frames := wTwo, rowActive := true, rowOf := 5 }).confirmed = 1 := by
  decide +kernel

theorem test_frame_slipped :
    ((chanAfter (.frameDecision 2 0 { samples := false }) { frames := wTwo, rowActive := true, rowOf := 5, slipped := 2 }).slipped) = 3 ∧
    (writingOn (after (.frameDecision 2 0 { hard := some 13 }) (wRow { frames := wTwo ++ wTwo, rowActive := true, rowOf := 5 })) 2).map (fun p => p.2.slips) = some [(9, 0)] := by
  decide +kernel

theorem test_write_resumes :
    ((chanAfter (.writeResume 2) { frames := [{ pfa := 9, st := 3 }, { pfa := 10, spot := 1, start := 60000, st := 5 }], rowOf := 5, resumeFrom := some 1 }).frames.map FrameW.st) = [3, 0] := by
  decide +kernel

/-! ### OpcAndReads -/

/-- A bay of family 1 in follow on layer 0 with its loops closed, spinning at 7,200 rpm. -/
def wOpc : State :=
  { wRow {} with
    bays := Vector.replicate 16 { yB with
      servo := { state := 3, layer := 0, loops := List.replicate 7 { isOpen := false } }
      cway := { state := 2, laser := 1, len := true }, spin := { state := 4, target := 7200, speed := 7200 }
      startPower := [1000], chan := { family := 1 } } }
/-- Twenty steps of rising asymmetry. -/
def wRise : List OpcStep := (List.range 20).map fun (i : Nat) => { asym := 10 * (i : Int) - 100 }
def opcAfter (steps : List OpcStep) : Chan := (bayAt (after (.opc 2 0 steps) wOpc) 2).chan

theorem test_opc_accepts :
    (opcAfter wRise).power.head? = some 987 := by
  decide +kernel

theorem test_opc :
    opcMayRun wOpc 2 0 = true ∧
    opcMayRun wOpc 2 1 = false ∧
    (opcAfter []).rejects.head? = some 1 ∧
    (opcAfter []).testRow.head? = some 1 ∧
    ((after (.opc 2 1 []) wOpc).evt.log.map fun r => (r.ev, r.cause, r.data)) = [(156, 3, [1])] := by
  decide +kernel

theorem test_reads :
    mayRead wOpc 2 = true ∧
    (bayAt (after (.discFrameDecode 2 0 [] 9) wOpc) 2).chan.step2 = 1 ∧
    (bayAt (after (.discFrameDecode 2 0 [] 9) wOpc) 2).chan.read = 1 ∧
    (bayAt (after (.ladderStep2Revolution 2 []) { wOpc with bays := Vector.replicate 16 { (bayAt wOpc 0) with chan := { step2 := 3 } } }) 2).chan.byStep = [0, 0, 0, 0, 0, 1] ∧
    (bayAt (after (.pqReconstruct 2 4 0 0 []) wOpc) 2).chan.byStep = [0, 0, 0, 0, 0, 1] := by
  decide +kernel

/-! ### PlanCommands -/

/-- Six bays fitted, one old object queued in a namespace. -/
def wDrain : State :=
  { wBays with ebb := { objs := [{ oid := 9, nsid := 1, zone := 3, lbas := 100 }], queue := [9], startNow := true } }
def wSealed : State :=
  { wBays with ebb := { plans := [{ setId := 5, k := 4, extents := [⟨9, 0, 0, 100⟩] }, { setId := 6, k := 4 }] } }
/-- The set of wDisc with its plan being rebuilt. -/
def wLostPlan : State := { wRow {} with ebb := { sets := [{ wSet wDisc with plan := { setId := 7, k := 4, inStore := false } }] } }

theorem test_plan_build :
    setWidth wDrain = some 14 ∧
    ((after (.planBuildStart []) wDrain).ebb.building.map fun p => (p.setId, p.k, p.extents)) = some (1, 14, [⟨9, 0, 0, 100⟩]) ∧
    (after (.planBuildStart []) { wDrain with ebb := { wDrain.ebb with startNow := false } }).ebb.building = none := by
  decide +kernel

theorem test_plan_seal :
    ((after .planSeal { wBays with ebb := { building := some { setId := 5, k := 4 } } }).ebb.plans.map Plan.setId) = [5] := by
  decide +kernel

theorem test_plan_rebuild :
    ((after (.planRebuild 5) wSealed).ebb.plans.map Plan.inStore) = [false, true] ∧
    ((after (.planDigestCheck 5 0) (after (.planRebuild 5) wSealed)).ebb.plans.map Plan.inStore) = [true, true] ∧
    ((after (.planDigestCheck 5 1) (after (.planRebuild 5) wSealed)).ebb.plans.map Plan.setId) = [6] := by
  decide +kernel

theorem test_plan_lost :
    (setOf wLostPlan 7).isSome = true ∧
    (rebuiltPlan wLostPlan 7).isSome = true ∧
    ((after (.planDigestCheck 7 1) wLostPlan).evt.log.map fun r => (r.ev, r.cause)) = [(117, 0), (114, 5)] := by
  decide +kernel

/-! ### SetBoundaries -/

/-- Every bay free and empty, with a sealed plan. -/
def wFree (p : List Plan) : State :=
  { wBays with ebb := { plans := p, queue := [9] }, bays := Vector.replicate 16 { yB with started := true } }
/-- A set whose only original disc on bay 2 was failed. -/
def wFailedDisc : State := { wFree [] with ebb := { sets := [wSet { wDisc with status := .failed, claimed := false }] } }

theorem test_set_boundary :
    (freeBays (wFree [])).length = 16 ∧
    setWidth (wFree []) = some 14 ∧
    ((after .setBoundary (wFree [{ setId := 6, k := 14 }])).evt.log.map fun r => (r.ev, r.data)) = [(112, [6, 0, 0, 0, 14])] ∧
    (bayAt (after .setBoundary (wFree [{ setId := 6, k := 14 }])) 6).role = 0 ∧
    (bayAt (after .setBoundary (wFree [{ setId := 6, k := 14 }])) 4).role = 0x80 ∧
    ((after .setBoundary (wFree [])).evt.log.map fun r => r.ev) = [125] := by
  decide +kernel

theorem test_replacement :
    (pendingReplacement wFailedDisc).isSome = true ∧
    (bayAt (after .replacementStart wFailedDisc) 0).reqReason = 4 ∧
    ((after .replacementStart wFailedDisc).ebb.sets.flatMap fun a => a.discs.map fun d => (d.bay, d.replacement)) = [(0, true)] ∧
    (after .replacementPacingWindow { wBays with ebb := { window := 9 } }).ebb.window = 0 := by
  decide +kernel

theorem test_row_stage :
    notAhead (wSet wDisc) wDisc = true ∧
    (writingOn (after (.rowStage 2 [] []) (wRow {})) 2).map (fun p => p.2.staged) = some 2 ∧
    (writingSet (wRow {})).isSome = true := by
  decide +kernel

/-! ### RecallsAndRecon -/

/-- An object of 2 LBAs of a set of two discs. -/
def wArchObj : Obj :=
  { oid := 9, arch := .released, nsid := 1, zone := 1, lbas := 2, setId := 7, serial := leBytes 16 7, recalling := true, role := 0 }
/-- A recall of it that bay 2 serves. -/
def wRecall (q : Recall) (y : Bay) : State :=
  { wOpen with
    ebb := {
      objs := [wArchObj]
      recalls := [{ q with obj := 9, nsid := 1, zone := 1, bay := some 2 }]
      archived := [(7, [{ role := 0, serial := leBytes 16 7 }, { role := 0x80 }, { role := 0x81 }])] }
    hs := { wOpen.hs with zones := [{ nsid := 1, idx := 1, st := .recallTarget }] }
    bays := Vector.replicate 16 { y with fitted := true, loaderState := 3, present := true, work := 4 } }
/-- Frame i of the object as the ladder gives it at a step. -/
def wFrame (i step : Nat) : DiscFrame := { tries := [{ step := step, content := frameHeader 9 i 7 0 ++ List.replicate 4112 0#8 }] }
/-- Bay 2 reads at 9,600 rpm. -/
def yRead : Bay := { yB with spin := { state := 4, target := 9600, speed := 9600, sensorless := true } }
/-- Recalled object's zone: state, write pointer, archive state. -/
def recallAfter (c : Instr) (s : State) : ZState × Nat × Arch :=
  let z := zoneOf (after c s) 1 1
  (z.st, z.wp, z.arch)
def evsAfter (c : Instr) (s : State) : List (Nat × Nat) := (after c s).evt.log.map fun r => (r.ev, r.cause)
/-- A reconstruction of role 0 of set 7 runs, its disc as given. -/
def wRecon (st : DiscStatus) : State :=
  { wBays with ebb := { recon := { setId := 7, status := 2 }, sets := [wSet { wDisc with status := st }] } }

theorem test_recall_identify :
    reqAfter (.recallDiscIdentify 2 {}) (wRecall {} yB) = (3, 7) ∧
    evsAfter (.recallDiscIdentify 2 {}) (wRecall {} { yB with misread := true }) = [(157, 0), (121, 3)] := by
  decide +kernel

theorem test_recall_read :
    recallAfter (.recallRead 9 [wFrame 0 1]) (wRecall { loaded := true } yRead) = (.recallTarget, 1, .resident) ∧
    recallAfter (.recallRead 9 [wFrame 0 1, wFrame 1 2]) (wRecall { loaded := true } yRead) = (.full, 2, .archivedResident) ∧
    evsAfter (.recallRead 9 [wFrame 0 1, wFrame 1 1]) (wRecall { loaded := true } yRead) = [(120, 0)] ∧
    ((after (.recallRead 9 [wFrame 1 1]) (wRecall { loaded := true } yRead)).ebb.recalls.map Recall.step4) = [true] := by
  decide +kernel

theorem test_reallocation :
    evsAfter (.reallocation 2 5 reserveSlots true) (wRecall { loaded := true, full := true, todo := [5] } yRead) = [(118, 0)] ∧
    evsAfter (.reallocation 2 5 0 true) (wRecall { loaded := true, full := true, todo := [5] } { yB with spin := { state := 4, target := 7200, speed := 7200 }, servo := { layer := 0 }, chan := { opcAt := [some 0] } }) = [(119, 0)] := by
  decide +kernel

theorem test_resynchronised :
    evsAfter (.resynchronisation 2 {} 6 [] [] 0) { wRow {} with ebb := { sets := [wSet { wDisc with resync := true, serial := [] }] }, bays := Vector.replicate 16 { yRead with present := true, started := true, spin := { yRead.spin with target := 7200 } } } = [(124, 0)] := by
  decide +kernel

theorem test_recon_ends :
    evsAfter (.reconstructionComplete false) (wRecon .closed) = [(122, 3)] ∧
    evsAfter (.reconstructionComplete false) (wRecon .failed) = [(122, 4)] ∧
    evsAfter (.reconstructionComplete true) (wRecon .rebuilding) = [(122, 4)] := by
  decide +kernel

/-! ### BreakwaterRuns -/

/-- A volume of one live die with credit on port 0. -/
def wOneDie (d : Die) : State :=
  { wRun with flash := { vols := [{ port := 0, st := .inService, dies := [{ d with inService := true, credits := List.replicate 7 50 }] }] } }
/-- A line of HBM with one wrong byte. -/
def wHit : MemHit := { part := .hbm, addr := 128, errs := [1] }
def dieAfter (c : Instr) (d : Die) : Option Die := dieOf (after c (wOneDie d)) 0 0

theorem test_budget_period :
    (after .budgetPeriodBoundary (wOneDie {})).bw.periods = 1 ∧
    ((dieAfter .budgetPeriodBoundary {}).map fun d => d.credits) = some ((budgetsAt wRun).map fun n => (usCycles n : Int)) := by
  decide +kernel

theorem test_operation_start :
    ((dieAfter (.flashOperationStart 0 0 0 0 0 0 5 0) {}).bind fun d => d.op.map fun o => (o.kind, o.block)) = some (.read, 5) ∧
    ((after (.flashOperationStart 0 0 1 1 0 0 5 0) (wOneDie { op := some {} })).bw.waiting.map fun w => (w.port, w.die, w.op.cls, w.op.block)) = [(0, 0, .hostProgram, 5)] := by
  decide +kernel

theorem test_suspend :
    ((dieAfter (.programResume 0 0) { susp := some { kind := .program } }).bind fun d => d.op.map FlashOp.forced) = some false ∧
    (dieOf (after (.programSuspend 0 0) { wOneDie { suspendable := true, op := some { kind := .program } } with clock := 900000, bw := { waiting := [{ port := 0, die := 0, op := {} }] } }) 0 0).map (fun d => d.susp.isSome) = some (tenant wRun 0).suspendRight := by
  decide +kernel

theorem test_leaks :
    (bucketOf (after (.bucketLeak 3) { wRun with mem := { buckets := List.replicate 8 { level := 4 } } }) 3).level = 3 ∧
    (bucketOf (after (.soundingPatrol true 9 [wHit]) wRun) (MemPart.bucket wHit.part wHit.addr)).total = 1 ∧
    (after (.soundingPatrol false 7 []) wRun).mem.sramAt = 7 ∧
    (after (.soundingPatrol true 9 []) wRun).mem.hbmAt = 9 := by
  decide +kernel

/-! ### FlashOperations -/

/-- A zone of one member on the die of wOneDie. -/
def wMember (z : Zone) (d : Die) : State :=
  { wOneDie { d with blocks := 40, zoneBlocks := 20 } with
    tide := { planes := 1, cellMode := 1 }
    hs := { cacheLimit := 0, zones := [{ z with nsid := 1, idx := 3, members := [{ port := 0, die := 0, block := 4, refresh := true }] }] } }
def zoneAfter (c : Instr) (z : Zone) (d : Die) : Zone := zoneOf (after c (wMember z d)) 1 3

theorem test_row_dispatch :
    (zoneAfter (.programRowDispatch 1 3 []) { st := .full, wp := 100 } {}).rowBusy = [0] ∧
    ((dieOf (after (.programRowDispatch 1 3 []) (wMember { st := .full, wp := 100 } {})) 0 0).bind fun d => d.op.map FlashOp.zone) = some (some (1, 3)) ∧
    (zoneAfter (.stagedDataMigrate 1 3) { st := .full, wp := 100, flashed := 100 } {}).rowBusy = [0] := by
  decide +kernel

theorem test_polls :
    (zoneAfter (.flashStatusPoll 0 0 (.passed 0 1 0 [] [] 0)) { st := .full, wp := 100, rowBusy := [0] } { op := some { kind := .program, block := 4, zone := some (1, 3) } }).placed = 60 ∧
    evsAfter (.flashStatusPoll 0 0 .failed) (wMember { st := .full } { op := some { kind := .erase, block := 9 }, spare := 3 }) = [(102, 0)] := by
  decide +kernel

theorem test_flash_timeouts :
    ((dieAfter (.flashOperationTimeout 0 0) { op := some {} }).map fun d => d.timeoutAt) = some (some 0) ∧
    ((dieAfter (.flashOperationTimeout 0 0) { op := some {}, timeoutAt := some 0 }).map fun d => (d.failed, d.reason)) = some (true, 9) := by
  decide +kernel

theorem test_relocation :
    ((zoneAfter (.refreshRelocation 1 3 0 false true) { st := .full } {}).members.map fun m => (m.block, m.refresh)) = [(0, false)] ∧
    (zoneAfter (.refreshRelocation 1 3 0 true true) { st := .full } {}).st = .offline ∧
    ((zoneAfter (.wearMove 0 0 true) { st := .full } { eraseCounts := [(7, 9000)] }).members.map (·.block)) = [7] := by
  decide +kernel

/-! ### FlashUpkeep -/

/-- A volume on port 0 in a state. -/
def wPort (v : Vol) : State := { wRun with tierState := 1, adm := { running := [5, 6] }, flash := { vols := [{ v with port := 0 }] } }
/-- The tier of wMember is this device's. -/
def wOwn (z : Zone) (d : Die) : State := { wMember z d with tierState := 1, sup := { dip := false } }
/-- The bins of a die after cold-start reads. -/
def wCold : State :=
  { wOneDie { bins := List.replicate 8 {} } with
    flash := { (wOneDie { bins := List.replicate 8 {} }).flash with coldReads := [(0, 0, 2)] } }

theorem test_upkeep :
    (((zoneOf (after .readCountCheckpoint (wOwn { st := .full } {})) 1 3).members).map Member.ckpt) = [0] ∧
    (((zoneOf (after (.retentionAgeReached 1 3 0) (wOwn { st := .full } {})) 1 3).members).map Member.refresh) = [true] := by
  decide +kernel

theorem test_flash_patrol :
    (((zoneOf (after (.flashPatrol 1 3 0 0 1 0 [] []) (wOwn { st := .full, placed := 100 } { bins := List.replicate 8 {} })) 1 3).members).map Member.reads) = [2] := by
  decide +kernel

theorem test_cold_start :
    (after (.coldStartReads 0 0 2 [] []) wCold).flash.coldReads = [] := by
  decide +kernel

theorem test_tier_ends :
    (after (.tierFormatComplete []) { wPort {} with flash := { formatting := true } }).flash.progress = 100 ∧
    evsAfter (.retirementComplete 0) (wPort { st := .inService, retiring := true }) = [(97, 0), (25, 6)] := by
  decide +kernel

theorem test_adoption :
    (evsAfter (.adoptionComplete 0 []) (wPort { st := .adopting })).map Prod.fst = [103, 96, 25] := by
  decide +kernel

/-! ### AbortAborts -/

theorem test_abort :
    ((newest aSrc (after (.abort aSrc 1 9) wAdmin)).map fun c => (c.cid, c.sct, c.sc, c.dw0)) = some (5, 0, 0, 1) := by
  decide +kernel

/-! ### DescriptorExtension -/

theorem test_descriptor_extension :
    ((newest aIo (after (.setZoneDescriptorExtension aIo 1 0) wOpen)).map fun c => (c.cid, c.sct, c.sc)) = some (9, 0, 2) := by
  decide +kernel

/-! ### StepRunsCommand -/

theorem test_step :
    (match step { wRun with pending := [.bucketLeak 9, .fixedSupervisorTrip] } with | .next t => t.pending | _ => []) = [.fixedSupervisorTrip] := by
  decide +kernel

/-! ### ResetState -/

theorem test_reset :
    State.reset.norOk = true ∧
    num State.reset 0x2800 1 = 14 := by
  decide +kernel

/-! ### EveryStepKeeps -/

theorem test_keeps :
    wRun.norOk = true ∧
    (after (.powerOnReset {}) wRun).norOk = true := by
  decide +kernel

/-! ### Ciphers, codes, pages, frames and the read channel -/

/-- FIPS 197, appendix C.3: AES-256 of 00112233…EEFF under the key 000102…1E1F. -/
theorem test_aes_256 :
    aesEncrypt (aesSchedule (List.range 32)) ((List.range 16).map fun i => 17 * i) =
      [0x8E, 0xA2, 0xB7, 0xCA, 0x51, 0x67, 0x45, 0xBF, 0xEA, 0xFC, 0x49, 0x90, 0x4B, 0x49, 0x60, 0x89] := by
  decide +kernel

/-- FIPS 197, appendix C.3, the inverse cipher. -/
theorem test_aes_256_inverse :
    aesDecrypt (aesSchedule (List.range 32))
        [0x8E, 0xA2, 0xB7, 0xCA, 0x51, 0x67, 0x45, 0xBF, 0xEA, 0xFC, 0x49, 0x90, 0x4B, 0x49, 0x60, 0x89] =
      (List.range 16).map fun i => 17 * i := by
  decide +kernel

/-- The tweak of R530: LBA 0203h of namespace 5. -/
theorem test_tweak : xtsTweak 5 0x203 = [3, 2, 0, 0, 0, 0, 0, 0, 5, 0, 0, 0, 0, 0, 0, 0] := by
  decide +kernel

/-- R586 by hand: 4 planes, 3 bits a cell, stripe 13: row 1, plane 1, page index 3. -/
theorem test_stripe_place : stripePlace 4 3 13 6 = { stripe := 13, pos := 6, row := 1, plane := 1, index := 3 } := by
  decide +kernel

/-- Table 4.7: the header's CRC-16 covers its other 14 bytes. -/
theorem test_flash_header :
    headerOk (flashHeader 7 5 9) = true ∧ headerOk ((flashHeader 7 5 9).set 4 6) = false ∧ (flashHeader 7 5 9).length = 16 := by
  decide +kernel

/-- R138: a lost page is the exclusive or of the others and the parity page. -/
theorem test_parity_page :
    parityPage [[1, 2], [4, 8], [3, 3]] = [6, 9] ∧ rebuildPage [[1, 2], [6, 9], [4, 8], [3, 3]] 2 = [4, 8] := by
  decide +kernel

/-- R185, R186: one flipped bit is corrected, two are not, an unwritten word says so and is not merged. -/
theorem test_word_codes :
    wordResult true [] = .clean ∧ wordResult true [5] = .corrected ∧ wordResult true [70] = .corrected ∧
    wordResult true [5, 9] = .uncorrectable ∧ wordResult false [] = .unwritten ∧
    narrowWrite (some 0x1122) [3] 0xFF 0x99 = (.corrected, some 0x1199) ∧ narrowWrite none [] 0xFF 0x99 = (.unwritten, none) := by
  decide +kernel

/-- R187: the last word of a DOMAIN value is padded with zero bytes. -/
theorem test_domain_words : domainWords [1, 2, 3, 4, 5, 6, 7, 8, 9] = [0x0807060504030201, 9] := by
  decide +kernel

/-- R179: a tag with one bit inverted is the only candidate whose address fits its line. -/
theorem test_tag_repair :
    tagFails (tagEntry 77 true true) = false ∧ tagFails (invert (tagEntry 77 true true) [4]) = true ∧
    repairTag (invert (tagEntry 77 true true) [4]) 9 (tagAddr 77 9) (List.replicate 16 []) = some (tagEntry 77 true true) := by
  decide +kernel

/-- Table 7.7: the header of a frame of object 0102h, index 3, set 7, role 2. -/
theorem test_frame_header :
    frameHeader 0x102 3 7 2 = [2, 1, 0, 0, 0, 0, 0, 0, 3, 0, 0, 0, 7, 0, 0, 2] ∧ (frameBody 1 {}).length = 4112 ∧
    headerNames (frameHeader 0x102 3 7 2) 0x102 3 = true ∧ headerNames (frameHeader 0x102 3 7 2) 0x102 4 = false := by
  decide +kernel

/-- R299: the ninth ratio of each 17 is added to that of d7 and dropped. -/
theorem test_ninth_bit :
    unconstrain 2322 ((List.range 17).map Int.ofNat) = [0, 1, 2, 3, 4, 5, 6, 15, 9, 10, 11, 12, 13, 14, 15, 16] := by
  decide +kernel

/-- R301: below the threshold or above 150 % of the mean is flagged; flags widen by 32 bits on each side. -/
theorem test_defect_flags :
    (rawFlags 50 [10, 10] [4, 10, 16]).1 = [true, false, true] ∧
    ((widen (List.replicate 40 false ++ [true] ++ List.replicate 40 false)).filter id).length = 65 ∧
    runsOf 0 [true, false, true, true, false] = [1, 2] := by
  decide +kernel

/-- R299: the detector finds the marks that its target made of them. -/
theorem test_detector :
    ((maxLog [1, 2, 2, 1] (List.replicate 8 0) (targetSignal [1, 2, 2, 1] 0 [-1, 1, 1, -1, -1, -1, 1, 1])).1.map fun r => decide (0 < r)) =
      [false, true, true, false, false, false, true, true] := by
  decide +kernel

/-! ### Well-formedness: for each check an ill-formed command that it refuses, beside one it lets pass -/

theorem test_wf_queues :
    (Instr.asyncEventRequest { port := 0, sq := 65536, cid := 1 }).wellFormed = false ∧
    (Instr.asyncEventRequest { port := 0, sq := 1, cid := 65536 }).wellFormed = false ∧
    (Instr.asyncEventRequest { port := 3, sq := 65535, cid := 65535 }).wellFormed = true ∧
    (Instr.fetchError 0 65536).wellFormed = false ∧
    (Instr.fetchError 0 65535).wellFormed = true := by
  decide +kernel

theorem test_wf_numbers :
    (Instr.libraryClamp 2 256).wellFormed = false ∧
    (Instr.libraryClamp 2 255).wellFormed = true ∧
    (Instr.planRebuild 4294967296).wellFormed = false ∧
    (Instr.planRebuild 4294967295).wellFormed = true ∧
    (Instr.seek 2 2147483648).wellFormed = false ∧
    (Instr.seek 2 (-2147483649)).wellFormed = false ∧
    (Instr.seek 2 (-1704)).wellFormed = true ∧
    (Instr.recallRead 18446744073709551616 []).wellFormed = false ∧
    (Instr.recallRead 18446744073709551615 []).wellFormed = true := by
  decide +kernel

theorem test_wf_blocks :
    (Instr.write { sq := 1 } {} 1 0 [] false {} none).wellFormed = false ∧
    (Instr.write { sq := 1 } {} 1 0 [{}] false {} none).wellFormed = true ∧
    (Instr.read { sq := 1 } {} 1 0 65537 false {}).wellFormed = false ∧
    (Instr.read { sq := 1 } {} 1 0 65536 false {}).wellFormed = true := by
  decide +kernel

theorem test_wf_frames :
    (Instr.servoCell 2 []).wellFormed = false ∧
    (Instr.servoCell 2 (List.replicate 64 0)).wellFormed = true ∧
    (Instr.benchRead []).wellFormed = false ∧
    (Instr.benchRead [1]).wellFormed = true ∧
    (Instr.linkRetrain 2 [[], List.replicate 129 0] [] 1 1).wellFormed = false ∧
    (Instr.linkRetrain 2 [[]] [] 1 1).wellFormed = true ∧
    (Instr.discInserted 2 { record := [1] }).wellFormed = false ∧
    (Instr.discInserted 2 {}).wellFormed = true ∧
    (Instr.recallRead 1 [{ tries := [{ content := [1] }] }]).wellFormed = false ∧
    (Instr.recallRead 1 [{ tries := [{}] }]).wellFormed = true := by
  decide +kernel

theorem test_wf_flash :
    (Instr.volumeAdopt .ethercat 1024).wellFormed = false ∧
    (Instr.volumeAdopt .ethercat 1023).wellFormed = true ∧
    (Instr.wearMove 0 4 true).wellFormed = false ∧
    (Instr.wearMove 0 3 true).wellFormed = true ∧
    (Instr.memberRebuild 1 0 16).wellFormed = false ∧
    (Instr.memberRebuild 1 0 15).wellFormed = true ∧
    (Instr.flashPatrol 1 0 0 8 1 0).wellFormed = false ∧
    (Instr.flashPatrol 1 0 0 7 1 0).wellFormed = true ∧
    (Instr.flashOperationStart 0 0 3 0 0 0 0).wellFormed = false ∧
    (Instr.flashOperationStart 0 0 2 7 0 0 0).wellFormed = false ∧
    (Instr.flashOperationStart 0 0 2 6 0 0 0).wellFormed = true := by
  decide +kernel

theorem test_wf_bays :
    (Instr.stepTimer 2 3).wellFormed = false ∧
    (Instr.stepTimer 2 2).wellFormed = true ∧
    (Instr.coilRetry 2 3).wellFormed = false ∧
    (Instr.coilRetry 2 2).wellFormed = true ∧
    (Instr.driveSideFault 2 1 4).wellFormed = false ∧
    (Instr.driveSideFault 2 1 3).wellFormed = true ∧
    (Instr.servoCalibration 2 0 0 {}).wellFormed = false ∧
    (Instr.servoCalibration 2 6 0 {}).wellFormed = false ∧
    (Instr.servoCalibration 2 5 24 {}).wellFormed = false ∧
    (Instr.servoCalibration 2 5 23 {}).wellFormed = true ∧
    (Instr.zeroCrossing 2 { phase := 3 }).wellFormed = false ∧
    (Instr.zeroCrossing 2 { phase := 2 }).wellFormed = true ∧
    (Instr.spindleWatchEnd 2 { crossings := [{ phase := 3 }] }).wellFormed = false ∧
    (Instr.spindleWatchEnd 2 { crossings := [{ phase := 2 }] }).wellFormed = true := by
  decide +kernel

theorem test_wf_supplies :
    (Instr.cctempReached 0 1050).wellFormed = false ∧
    (Instr.cctempReached 9 1050).wellFormed = false ∧
    (Instr.cctempReached 8 1050).wellFormed = true ∧
    (Instr.supplyDipStart .core 65536).wellFormed = false ∧
    (Instr.supplyDipStart .core 700).wellFormed = true ∧
    (Instr.driveSupplyCrossing 0 5000).wellFormed = false ∧
    (Instr.driveSupplyCrossing 8 5000).wellFormed = false ∧
    (Instr.driveSupplyCrossing 7 5000).wellFormed = true ∧
    (Instr.shoalWatchCycle 12000 24000 [25] [] [] {}).wellFormed = false ∧
    (Instr.shoalWatchCycle 12000 24000 [] [] [] {}).wellFormed = true := by
  decide +kernel

theorem test_wf_doors :
    (Instr.sdoInformation 2 0x2000 0).wellFormed = false ∧
    (Instr.sdoInformation 3 0x2000 0).wellFormed = true ∧
    (Instr.setFeaturesPowerManagement {} 32).wellFormed = false ∧
    (Instr.setFeaturesPowerManagement {} 31).wellFormed = true ∧
    (Instr.bucketLeak 0).wellFormed = false ∧
    (Instr.bucketLeak 9).wellFormed = false ∧
    (Instr.bucketLeak 8).wellFormed = true ∧
    (Instr.ethercatStateChange 3 []).wellFormed = false ∧
    (Instr.ethercatStateChange 8 []).wellFormed = true := by
  decide +kernel


theorem test_wf_errors :
    (Instr.planBuildStart [{ errs := [136] }]).wellFormed = false ∧
    (Instr.planBuildStart [{ errs := List.range 9 }]).wellFormed = false ∧
    (Instr.planBuildStart [{ part := .scratch, errs := [72] }]).wellFormed = false ∧
    (Instr.planBuildStart [{ errs := [135] }, { part := .scratch, errs := [71] }]).wellFormed = true ∧
    (Instr.read { sq := 1 } { tag := some { flips := [18] } } 1 0 1 false {}).wellFormed = false ∧
    (Instr.read { sq := 1 } { tag := some { flips := [17] } } 1 0 1 false {}).wellFormed = true := by
  decide +kernel
end Sys2Proof.Tests
end

