-- ==== Sys2Proof/Tests/Meets.lean ====
section
/-! SUPPORT. For every statement with hypotheses, a state and operands that meet all of them. -/

namespace Sys2Proof.Tests

set_option Elab.async false
set_option maxRecDepth 8192

open Sys2Proof Sys2Proof.Machine

theorem ok_of {ε α : Type} {x : Except ε α} {v : α} (h : x.toOption = some v) : x = .ok v := by
  cases x with
  | error e => cases h
  | ok w => exact congrArg Except.ok (Option.some.inj h)

theorem error_of {ε α : Type} {x : Except ε α} {e : ε} (h : (match x with | .error d => some d | .ok _ => none) = some e) :
    x = .error e := by
  cases x with
  | error d => exact congrArg Except.error (Option.some.inj h)
  | ok w => cases h

theorem all_of {P : Nat → Prop} {lo hi : Nat} (n : Nat) (hn : hi < n) (h : ∀ k, k < n → lo ≤ k → k ≤ hi → P k) :
    ∀ k : Nat, lo ≤ k → k ≤ hi → P k :=
  fun k a b => h k (Nat.lt_of_le_of_lt b hn) a b

/-- HostReady as a check. -/
def hostReady (src : Src) (s : State) : Bool :=
  decide (s.phase = .running) && decide (s.pwr.ps < 3) && s.hs.inflight.isEmpty && s.hs.waitR.isEmpty &&
    decide (∀ p : PortId, (s.ctrls.get p).shst ≠ 1) && s.pwr.shaking.isNone && !s.sup.dip && s.hs.regions.isEmpty &&
    s.hs.promoted.isEmpty && s.hs.rebuilding.isEmpty && (s.ctrls.get src.port).rdy &&
    (match (s.ctrls.get src.port).sq? src.sq with
     | some q => ((s.ctrls.get src.port).cq? q.cqid).isSome
     | none => false)

theorem hostReady_of {src : Src} {s : State} (h : hostReady src s = true) : HostReady src s := by
  simp only [hostReady, Bool.and_eq_true, decide_eq_true_eq, List.isEmpty_iff, Option.isNone_iff_eq_none, Bool.not_eq_true'] at h
  obtain ⟨⟨⟨⟨⟨⟨⟨⟨⟨⟨⟨a, b⟩, c⟩, w⟩, d⟩, e⟩, f⟩, g⟩, i⟩, j⟩, k⟩, l⟩ := h
  refine ⟨⟨a, b⟩, ⟨c, w, d⟩, e, f, g, i, j, k, ?_⟩
  split at l
  · next q hq => exact ⟨q, _, hq, (Option.some_get l).symm⟩
  · cases l

theorem adminReady_of {src : Src} {s : State}
    (h : (decide (src.sq = 0) && hostReady src s && s.adm.running.isEmpty) = true) : AdminReady src s := by
  simp only [Bool.and_eq_true, decide_eq_true_eq, List.isEmpty_iff] at h
  exact ⟨h.1.1, hostReady_of h.1.2, h.2⟩

/-- A write gate that may rise, on every bay. -/
def wGate : State :=
  { wBus with bays := Vector.replicate 16 { yB with
      tb := { state := 2, queue := [⟨500, 5, 0⟩] }, cway := { state := 2, len := true, laser := 2 }
      spin := { state := 4, speed := 7200, target := 7200 }, servo := { state := 6, lastE := [0, 0, 0, 0, 0, 0, 0] } } }

/-- One started bay, whose focus loop has a completed shadow set. -/
def wOne : State :=
  { wBus with bays := Vector.ofFn fun x => if x = 2 then
      { yB with started := true, servo := { state := 1, loops := { shadow := some [7] } :: List.replicate 6 {} } } else yB }

def wRebuilt : State := after (.planRebuild 5) wSealed
def wYoung : State := { wDrain with ebb := { wDrain.ebb with startNow := false } }

/-- A zone whose remainder goes to staging. -/
def wStage : State := wMember { st := .readOnly, wp := 100 } { planes := 4, pages := 1536, native := 3 }

/-- A zone with a member to rebuild on the one die of its channel. -/
def wLost : State :=
  let s := wOwn { st := .full, wp := 100 } {}
  { s with hs := { s.hs with zones := [{ nsid := 1, idx := 3, st := .full, wp := 100, members := [{ port := 0, die := 0, block := 4, lost := true }] }] } }

/-- A volume being adopted beside one that serves. -/
def wAdopting : State :=
  { wRun with tierState := 1, adm := { running := [5] }, flash := { vols := [{ port := 0, st := .adopting }, { port := 1, st := .inService, dies := [wDie] }] } }

def wMap : State := touchLine (zoneMapAddr wOpen 1 0) true wOpen

/-- IoReady as a check. -/
def ioReady (src : Src) (s : State) : Bool :=
  decide (src.sq ≠ 0) && hostReady src s && s.adm.running.isEmpty && s.adm.formatNs.isEmpty && (sanitizeGate s).isNone

theorem ioReady_of {src : Src} {s : State} (h : ioReady src s = true) : IoReady src s := by
  simp only [ioReady, Bool.and_eq_true, decide_eq_true_eq, List.isEmpty_iff, Option.isNone_iff_eq_none] at h
  exact ⟨h.1.1.1.1, hostReady_of h.1.1.1.2, h.1.1.2, h.1.2, h.2⟩

theorem zonedReady_of {src : Src} {nsid : Nat} {n : Ns} {s : State}
    (h : (ioReady src s && decide ((nsGate s src.port nsid).toOption = some n) && !n.fdp && (writeGate s src.port n).isNone) = true) :
    ZonedReady src nsid n s := by
  simp only [Bool.and_eq_true, decide_eq_true_eq, Option.isNone_iff_eq_none, Bool.not_eq_true'] at h
  refine ⟨ioReady_of h.1.1.1, ?_, h.1.2, h.2⟩
  have := h.1.1.2
  cases hg : nsGate s src.port nsid with
  | error e => simp [hg, Except.toOption] at this
  | ok m => simp [hg, Except.toOption] at this; simp [this]

theorem takes_of {s : State} {index sub : Nat} {data : List Byte} (h : takes s index sub data = true)
    (hs : (decide (s.phase = .running) && decide (s.pwr.ps < 3) && decide (s.doors.ecat ≠ .init) && decide (sub < 256)) = true) :
    Takes .ethercat s index sub data := by
  simp only [takes, Bool.and_eq_true, Option.isNone_iff_eq_none, Bool.not_eq_true', decide_eq_true_eq] at h hs
  exact ⟨⟨⟨hs.1.1.1, hs.1.1.2⟩, fun _ => hs.1.2⟩, hs.2, h.1.1.1.1.1, h.1.1.1.1.2, h.1.1.1.2, h.1.1.2, h.1.2, h.2⟩

/-- The units that two LBAs of the FDP namespace take. -/
def wPlaced : Targets × State :=
  let s0 := countRequests aIo (nsF.xfer {} false 2) wFdp
  (placeFdp 1 0 (writerOf s0 aIo false) 3 [4, 5] s0).getD ([], {})

/-- Filler frame of a disc. -/
def wFiller : List Byte := List.replicate 4128 0

/-- Four frames in writing on bay 2, of which the first is the one of a planned position. -/
def wSlip (planned fails : Nat) : State :=
  let s := wRow { frames := [{ pfa := 9, planned := planned }, { pfa := 10, spot := 1, start := 60000 }] ++ wTwo, rowActive := true, rowOf := 5 }
  { s with bays := Vector.replicate 16 { (bayAt s 0) with chan := { (bayAt s 0).chan with runFail := [fails, 0, 0, 0] } } }

/-- The set of wDisc with one frame of an unknown object on the next row. -/
def aVoid : ArchSet := { wSet wDisc with plan := { (wSet wDisc).plan with extents := [⟨9, 0, 32256, 1⟩] } }
def wVoid : State := { wRow {} with ebb := { sets := [aVoid] } }

/-- A zone whose die has no free block. -/
def wNoBlock : State :=
  let s := wMember { st := .full } {}
  { s with flash := { vols := [{ port := 0, st := .inService, dies := [{ blocks := 40, inService := true, credits := List.replicate 7 50 }] }] } }

/-- A read that times out on a die whose repeat cannot start. -/
def wTimed : State := wOneDie { op := some {}, susp := some { kind := .program }, loaded := 3 }

/-- How a timed-out read of an idle die starts again. -/
def wLent : Bool :=
  let s := wOneDie { op := some {} }
  let f : Die → Die := fun x => { x.accrue s.clock with op := none, timeoutAt := some s.clock }
  (mayStart (modDie 0 0 f s) 0 0 (f ((dieOf s 0 0).getD {})) { retried := true }).getD false

/-- Blocks that all pass their check as they stand. -/
theorem passes_of {ε α β γ : Type} [DecidableEq β] {f : α → Except ε (β × γ)} {g : α → β} {l : List α}
    (h : (l.all fun x => (f x).toOption.map Prod.fst == some (g x)) = true) : ∀ x ∈ l, ∃ b, f x = .ok (g x, b) := by
  intro x hx
  have hb := eq_of_beq (List.all_eq_true.1 h x hx)
  cases hf : f x with
  | error e => rw [hf] at hb; cases hb
  | ok p =>
    rw [hf] at hb
    have hp : p.1 = g x := Option.some.inj hb
    exact ⟨p.2, by rw [← hp]⟩

theorem wBlank_readable : LeadIn.readable wBlank = true :=
  LeadIn.readable_systemFrame (by decide) (by decide +kernel)

theorem wBlank_version : LeadIn.version wBlank = 1 := by
  decide +kernel

theorem wBlank_serial : LeadIn.serial wBlank = leBytes 16 7 := by
  decide +kernel

theorem wBlank_state : LeadIn.discState wBlank = 2 := by
  unfold LeadIn.discState
  rw [wBlank_readable, wBlank_version]
  decide +kernel

/-- A recall in step 4 whose other discs are in their bays. -/
def rStep4 : Recall := { loaded := true, step4 := true, others := [3, 4] }
def wStep4 : State :=
  let s := wRecall rStep4 { yRead with serial := [] }
  { s with ebb := { s.ebb with archived := [(7, [{ role := 0 }, { role := 0x80 }, { role := 0x81 }])] } }

theorem wBlank_known :
    (if LeadIn.readable wBlank = true ∧ LeadIn.version wBlank = 1 then LeadIn.serial wBlank else []) = leBytes 16 7 := by
  rw [if_pos ⟨wBlank_readable, wBlank_version⟩, wBlank_serial]

def m1 : State := { wHarbour with harbourCause := 1 }
def m2 : State := { wHarbour with sup := { flushing := false } }
def m3 : State := { phase := .starting }
def m4 : State := { wRun with pwr := { thermalCap := true } }
def m5 : State := { phase := .running, ctrls := Vector.replicate 4 { present := true } }
def m6 : Sq := ((wHost.ctrls.get 0).sq? 1).getD {}
def m7 : Cq := ((wPosted.ctrls.get 0).cq? 0).getD {}
def m8 : Sq := ((wPosted.ctrls.get 0).sq? 0).getD {}
def m9 : State := after (.deleteIoSq aSrc 1) wAdmin
def m10 : Ns := (nsOf wNs 1).getD {}
def m11 : Ns := (nsOf wAtt 1).getD {}
def m12 : Env := {}
def m13 : List Blk := [{}, {}]
def m14 : PiCtl := {}
def m15 : State := ((openForWrite wZone true wOpen).toOption.getD (wZone, wOpen)).2
def m16 : List Blk := [{}]
def m17 : State := ((openForWrite wZone false wOpen).toOption.getD (wZone, wOpen)).2
def m18 : State := (moveZone wZone .toExplicit wMap).toOption.getD wMap
def m19 : State := (moveZone wZone .toClosed wMap).toOption.getD wMap
def m20 : State := (moveZone wZone .toFull wMap).toOption.getD wMap
def m21 : State := (moveZone wZone .toEmpty wMap).toOption.getD wMap
def m22 : State := (moveZone { wZone with st := .readOnly } .toOffline (touchLine (zoneMapAddr wRo 1 0) true wRo)).toOption.getD wRo
def m23 : Obj := (objOf wReleased 7).getD {}
def m24 : Ns := (nsOf wKey 1).getD {}
def m25 : Ns := (nsOf wHeld 1).getD {}
def m26 : Sq := ((wFetched.ctrls.get 0).sq? 1).getD {}
def m27 : Fetched := { cid := 9, cmd := .flush 1 }
def m28 : State := { wBus with ports := 4, hs := { alloc := [0, 0, 0, 0] } }
def m29 : State := (adoptVolume 3 (tideRecord wQuar)).toOption.getD wQuar
def m30 : State := (retireVolume 4 (tideRecord wQuar)).toOption.getD wQuar
def m31 : State := { wBus with bays := Vector.replicate 16 { yB with sled := { spring := true } } }
def m32 : State := { wBus with bays := Vector.replicate 16 { yB with loader := { energised := true, current := 400 } } }
def m33 : State := { wLink with sup := { wLink.sup with barrier := 1 } }
def m34 : State := { wLink with sup := { wLink.sup with barrier := 1, barrierTries := 2 } }
def m35 : State := { wLink with sup := { wLink.sup with barrier := 0 } }
def m36 : State := { wLink with bays := Vector.replicate 16 { yB with cald := { rmsAcc := [36902400000, 0, 0] } } }
def m37 : State := { wLink with bays := Vector.replicate 16 { yB with cald := { rmsAcc := [15360000000, 15360000000, 960000000] } } }
def m38 : State := { wAmps with sup := { wAmps.sup with aggregate := true } }
def m39 : State := { wBus with doors := { benchBusy := true } }
def m40 : State := after (.benchRead (frame 1 0x2220 2 4 [])) wBus
def m41 : State := { wSlots with phase := .bootRecovery }
def m42 : State := { wPol with adm := { sanitizeFailed := true } }
def m43 : State := { wBus with evt := { emcy := [{ ev := 3 }] } }
def m44 : EmcyMsg := { ev := 3 }
def m45 : State := { wBus with doors := { portLink := [true, true] } }
def m46 : State := { wEmcy with ctrls := Vector.replicate 4 { wCtrl with spdm := 1 } }
def m47 : State := { wBus with pwr := { shaking := some (3, 5, 0) }, hs := { inflight := [{}] } }
def m48 : State := { wBus with pwr := { ps := 2 }, doors := { ecat := .op, nums := [(objKey 0x2020 1, 1), (objKey 0x2020 3, 5)] } }
def m49 : Boot := { hbm0 := false }
def m50 : State := wSpin { state := 1 }
def m51 : EmfWatch := {}
def m52 : State := wSpin { state := 2 }
def m53 : State := wSpin { state := 3, gates := 1, comm := 5 }
def m54 : State := wSpin { state := 3, duePred := 500, comm := 1, speed := 6000 }
def m55 : State := wSpin { state := 3, gates := 1 }
def m56 : State := wSpin { state := 4, gates := 1, sensorless := true, missedRun := 4 }
def m57 : State := wSpin { state := 7, retryDue := true, target := 7200 }
def m58 : Crossing := { t := 5000, phase := 1, rising := true }
def m59 : State := wSpin { state := 4, sensorless := true, comm := 1, tPrev := 1000, lastComm := 4000 }
def m60 : State := wFast { state := 4, gates := 1, sensorless := true, comm := 5, duePred := 6500, tPrev := 2500, lastComm := 4000 }
def m61 : State := wFast { state := 4, gates := 1, sensorless := true, comm := 2, tPrev := 2500, lastComm := 4000 }
def m62 : State := wSpin { state := 3, gates := 1, sensorless := true, speed := 7190, target := 7200 }
def m63 : State := wSpin { state := 4, gates := 1, sensorless := true, speed := 7000, target := 7200, duty := bnum wBus 2 0x20 0x0F }
def m64 : State := wSpin { state := 6, gates := 2, speed := 90 }
def m65 : State := wSpin { state := 7 }
def m66 : State := wSpin { state := 6, brakeHold := true, gates := 3 }
def m67 : State := wSpin { state := 6, brakeHold := true, afterBrake := true, target := 9600 }
def m68 : State := wSpin { dipCoast := true }
def m69 : State := wAsk 1 1 false
def m70 : State := wAskSet 1 1 true dWaits
def m71 : State := wAsk 1 1 true
def m72 : LeadIn := {}
def m73 : State := wAskRecall 2 2 true
def m74 : State := { wAskNamed false with bays := Vector.replicate 16 { (bayAt (wAskNamed false) 0) with reqSerial := leBytes 16 7 } }
def m75 : State := wAskNamed false
def m76 : State := wAskNamed true
def m77 : State := wAsk 3 7 false
def m78 : State := wAskSet 3 7 false dWaits
def m79 : State := wAskRecall 3 7 false
def m80 : Recall := { obj := 7, nsid := 1, zone := 0, bay := some 2 }
def m81 : State := wAskRecall 2 2 false
def m82 : State := wAskSet 1 1 false dWaits
def m83 : State := { wAskSet 0 0 false dWaits with bays := Vector.replicate 16 { yB with blankDue := true } }
def m84 : State := wAsk 3 7 true
def m85 : State := { wBus with bays := Vector.replicate 16 { yB with loaderState := 1 } }
def m86 : State := { wBus with bays := Vector.replicate 16 { yB with loaderState := 3, started := true } }
def m87 : State := wAsk 0 0 true
def m88 : State := wAskSet 0 0 true { dWaits with serial := [7#8] }
def m89 : SetDisc := { dWaits with serial := [7#8] }
def m90 : ArchSet := wSet1 { dWaits with serial := [7#8] }
def m91 : State := wCway { seqs := List.replicate 8 (some 7) }
def m92 : State := wCway {}
def m93 : State := { wBus with bays := Vector.replicate 16 { yB with cway := { state := 2 }, servo := { cellSeq := some 8 } } }
def m94 : State := wHead { state := 1 }
def m95 : State := wHead { state := 1, serial := [5] }
def m96 : State := wHead { state := 1, attempts := 2 }
def m97 : State := wHead { state := 2 }
def m98 : State := wHead { state := 2, regOut := some (0, 1, 3) }
def m99 : State := wHead { state := 2, len := true }
def m100 : State := wHead { state := 2, faults := 2 }
def m101 : State := wTb { state := 1 }
def m102 : State := wTb { state := 1, lockRun := [(9, 9680556), (8, 1000000)] }
def m103 : State := wTb (tbAt 2)
def m104 : State := { wBus with bays := Vector.replicate 16 { yB with tb := { tbAt 2 with closed := some (some 100002560) }, servo := { yB.servo with speedClass := 1 } } }
def m105 : State := wTb { tbAt 3 with closed := some none }
def m106 : State := { wTb { tbAt 3 with closed := some none, missed := 15 } with bays := Vector.replicate 16 { yB with tb := { tbAt 3 with closed := some none, missed := 15, queue := [(⟨1, 1, 1⟩)] }, servo := { yB.servo with speedClass := 1 } } }
def m107 : State := wQueue 1 0
def m108 : State := wQueue 2 9
def m109 : State := wQueue 3 0
def m110 : State := { wQueue 4 1 with bays := Vector.replicate 16 { (bayAt (wQueue 4 1) 0) with servo := { yB.servo with loops := List.replicate 7 { next := some 7 } } } }
def m111 : Loop := { next := some 7 }
def m112 : State := wQueue 5 0
def m113 : State := wEnc {}
def m114 : State := wEnc {}
def m115 : State := wEnc { encSkipAt := some 0 }
def m116 : State := { wServo { speedClass := 1 } with bays := Vector.replicate 16 { (bayAt (wServo { speedClass := 1 }) 0) with coll := { lost := false, pos := -28000 } } }
def m117 : State := wServo { speedClass := 1 }
def m118 : State := wServo { state := 2, target := 6, loops := List.replicate 7 wClosed }
def m119 : State := wServo { state := 2, attempts := 20, target := 6, loops := List.replicate 7 wClosed }
def m120 : State := wServo wFocus
def m121 : State := { wWriting with bays := Vector.replicate 16 { yB with work := 3 } }
def m122 : State := { wServo wFollow with mem := { coeffWritten := true } }
def m123 : CalIn := { wTrials (-50) with flips := [0, 1] }
def m124 : State := wServo wFollow
def m125 : CalIn := {}
def m126 : Loop := ((bayAt wBays 2).servo.loops[5]?).getD ({} : Loop)
def m127 : State := wServo { wFocus with focusRuns := 2 }
def m128 : Loop := { shadow := some [7] }
def m129 : State := wRow {}
def m130 : FrameRead := {}
def m131 : State := wRow { frames := wTwo, rowActive := true, rowOf := 5 }
def m132 : FrameW := { pfa := 9, planned := 9 }
def m133 : FrameW := { pfa := 10, spot := 1, start := 60000 }
def m134 : FrameRead := { samples := false }
def m135 : State := wSlip 9 0
def m136 : State := wSlip (pfaOf 0 154100 0) 7
def m137 : FrameW := { pfa := 9, planned := pfaOf 0 154100 0 }
def m138 : State := wRow { frames := [{ pfa := 9, st := 3 }, { pfa := 10, spot := 1, start := 60000, st := 5 }], rowOf := 5, resumeFrom := some 1 }
def m139 : Nat := (resumeOffset [{ pfa := 9, st := 3 }, { pfa := 10, spot := 1, start := 60000, st := 5 }]).getD 0
def m140 : State := { wOpc with bays := Vector.replicate 16 { (bayAt wOpc 0) with chan := { step2 := 2 } } }
def m141 : State := { wOpc with bays := Vector.replicate 16 { (bayAt wOpc 0) with chan := { step2 := 3 } } }
def m142 : List SourceRead := [{ role := 0x80, content := [5] }]
def m143 : State := { wBays with ebb := { recon := { setId := 7, status := 2, role := 0, bays := [2] } } }
def m144 : Recall := { rStep4 with obj := 9, nsid := 1, zone := 1, bay := some 2 }
def m145 : State := { wBays with ebb := { building := some { setId := 5, k := 4 } }, doors := { ecat := .op, nums := [(objKey 0x2800 7, 0)] } }
def m146 : Plan := { setId := 5, k := 4 }
def m147 : Plan := (rebuiltPlan wRebuilt 5).getD {}
def m148 : Plan := (rebuiltPlan wLostPlan 7).getD {}
def m149 : ArchSet := (setOf wLostPlan 7).getD {}
def m150 : State := wFree [{ setId := 6, k := 14 }]
def m151 : Plan := { setId := 6, k := 14 }
def m152 : State := wFree []
def m153 : SetDisc := { wDisc with status := .failed, claimed := false }
def m154 : State := { wBays with ebb := { window := 9 } }
def m155 : Recall := { obj := 9, nsid := 1, zone := 1, bay := some 2 }
def m156 : State := wRecall {} yB
def m157 : State := wRecall {} { yB with misread := true }
def m158 : State := wRecall { loaded := true } yRead
def m159 : Recall := { loaded := true, obj := 9, nsid := 1, zone := 1, bay := some 2 }
def m160 : State := { wRecall { loaded := true } yRead with bays := Vector.ofFn fun x => if x = 2 then bayAt (wRecall { loaded := true } yRead) 2 else { fitted := false } }
def m161 : State := wRecall { loaded := true, full := true, todo := [5] } yRead
def m162 : Recall := { loaded := true, full := true, todo := [5], obj := 9, nsid := 1, zone := 1, bay := some 2 }
def m163 : State := wRecall { loaded := true, full := true, todo := [5] } { yB with spin := { state := 4, target := 7200, speed := 7200 }, servo := { layer := 0 }, chan := { opcAt := [some 0] } }
def m164 : State := { wRow {} with ebb := { sets := [wSet { wDisc with resync := true, serial := leBytes 16 7 }] }, bays := Vector.replicate 16 { yRead with present := true, started := true, spin := { yRead.spin with target := 7200 } } }
def m165 : ArchSet := wSet { wDisc with resync := true, serial := leBytes 16 7 }
def m166 : SetDisc := { wDisc with resync := true, serial := leBytes 16 7 }
def m167 : State := { wRow {} with ebb := { sets := [wSet { wDisc with resync := true, serial := [65] }] }, bays := Vector.replicate 16 { yB with present := true, started := true } }
def m168 : ArchSet := wSet { wDisc with resync := true, serial := [65] }
def m169 : SetDisc := { wDisc with resync := true, serial := [65] }
def m170 : State := wRecon .closed
def m171 : ArchSet := wSet { wDisc with status := .closed }
def m172 : SetDisc := { wDisc with status := .closed }
def m173 : State := wRecon .failed
def m174 : ArchSet := wSet { wDisc with status := .failed }
def m175 : SetDisc := { wDisc with status := .failed }
def m176 : State := wOneDie {}
def m177 : Die := (dieOf (wOneDie {}) 0 0).getD {}
def m178 : Bool := (mayStart (wOneDie {}) 0 0 ((dieOf (wOneDie {}) 0 0).getD {}) (askedOp (wOneDie {}) 0 0 0 0 0 0 5 0)).getD false
def m179 : State := wOneDie { op := some {} }
def m180 : Die := (dieOf (wOneDie { op := some {} }) 0 0).getD {}
def m181 : State := { wOneDie { suspendable := true, op := some { kind := .program } } with clock := 900000, bw := { waiting := [{ port := 0, die := 0, op := {} }] } }
def m182 : Die := (dieOf ({ wOneDie { suspendable := true, op := some { kind := .program } } with clock := 900000, bw := { waiting := [{ port := 0, die := 0, op := {} }] } }) 0 0).getD {}
def m183 : FlashOp := { kind := .program }
def m184 : State := wOneDie { susp := some { kind := .program } }
def m185 : Die := (dieOf (wOneDie { susp := some { kind := .program } }) 0 0).getD {}
def m186 : State := { wRun with doors := { nums := [(objKey 0x2620 5, 0)] } }
def m187 : State := wMember { st := .full, wp := 100 } {}
def m188 : State := wMember { st := .full, wp := 100, flashed := 100 } {}
def m189 : State := wMember { st := .full, wp := 100, rowBusy := [0, 1] } { op := some { kind := .program, block := 4, zone := some (1, 3) } }
def m190 : Die := (dieOf (wMember { st := .full, wp := 100, rowBusy := [0, 1] } { op := some { kind := .program, block := 4, zone := some (1, 3) } }) 0 0).getD {}
def m191 : FlashOp := { kind := .program, block := 4, zone := some (1, 3) }
def m192 : State := wMember { st := .full } { op := some { kind := .erase, block := 9 }, spare := 3 }
def m193 : Die := (dieOf (wMember { st := .full } { op := some { kind := .erase, block := 9 }, spare := 3 }) 0 0).getD {}
def m194 : FlashOp := { kind := .erase, block := 9 }
def m195 : FlashOp := {}
def m196 : Die := (dieOf wTimed 0 0).getD {}
def m197 : State := wOneDie { op := some {}, timeoutAt := some 0 }
def m198 : Die := (dieOf (wOneDie { op := some {}, timeoutAt := some 0 }) 0 0).getD {}
def m199 : Member := { port := 0, die := 0, block := 4, refresh := true }
def m200 : State := wMember { st := .full } {}
def m201 : Nat := (bestBlock (wMember { st := .full } {}) 0 0).getD 0
def m202 : State := wMember { st := .full } { eraseCounts := [(7, 9000)] }
def m203 : Die := (dieOf (wMember { st := .full } { eraseCounts := [(7, 9000)] }) 0 0).getD {}
def m204 : State := wOwn { st := .full } {}
def m205 : State := wOwn { st := .full, placed := 100 } { bins := List.replicate 8 {} }
def m206 : Member := { port := 0, die := 0, block := 4, lost := true }
def m207 : Die := (dieOf wCold 0 0).getD {}
def m208 : Bin := {}
def m209 : State := { wPort {} with flash := { formatting := true } }
def m210 : Vol := (volOf wAdopting 0).getD {}
def m211 : State := wPort { st := .inService, retiring := true }
def m212 : Vol := (volOf (wPort { st := .inService, retiring := true }) 0).getD {}

/-- A state and operands that meet what PowerOnRuns asks for. -/
theorem test_meets_power_on_runs :
    wSlots.fw.active = 1 ∧
    wSlots.fw.slot1.image = some imgA ∧
    wSlots.fw.slot1.marked = false ∧
    wSlots.fw.slot2.marked = false ∧
    imageFault wSlots imgA = 0 ∧
    tornCells wSlots.part.arCells = [] ∧
    wSlots.fw.slot1.everReady = true ∧
    wBoot.hbm0 = true ∧
    wBoot.hbm1 = true ∧
    State.reset.fw.slot1.image = none ∧
    State.reset.fw.slot2.image = none ∧
    wSlots.fw.watchdog = true ∧
    wSlots.fw.booted = 1 ∧
    wSlots.fw.slot2.image = some imgA ∧
    wSlots.fw.slot2.everReady = true := by
  repeat'
    first
      | refine And.intro ?_ ?_
      | decide +kernel

/-- A state and operands that meet what HarbourCauses asks for. -/
theorem test_meets_harbour_causes :
    wDip.phase = .running ∧
    wDip.sup.dip = true ∧
    wRun.phase = .running ∧
    660 ≤ resetLevel wRun (.core : Rail) ∧
    resetLevel wRun (.core : Rail) < 661 ∧
    1250 ≤ 1250 ∧
    1249 < 1250 ∧
    wHarbour.phase = .harbour := by
  repeat'
    first
      | refine And.intro ?_ ?_
      | decide +kernel

/-- A state and operands that meet what HarbourEnds asks for. -/
theorem test_meets_harbour_ends :
    m1.sup.flushing = true ∧
    resetCause m1.harbourCause = true ∧
    wHarbour.sup.flushing = true ∧
    resetCause wHarbour.harbourCause = false ∧
    wHarbour.sup.resetN = true ∧
    wHarbour.sup.benchReset = false ∧
    m2.phase = .harbour ∧
    m2.harbourCause = 5 ∧
    m2.sup.flushing = false ∧
    (∀ x ∈ m2.sup.temps, x < 1050) ∧
    m3.phase = .starting := by
  repeat'
    first
      | refine And.intro ?_ ?_
      | decide +kernel

/-- A state and operands that meet what HoldupCommands asks for. -/
theorem test_meets_holdup_commands :
    Active wUp ∧
    wUp.sup.holdupOk = true ∧
    Active wRun ∧
    wRun.sup.holdupOk = false ∧
    wRun.sup.testing = false ∧
    wRun.sup.dip = false ∧
    wRun.sup.testEnd = none ∧
    wUp.sup.testing = false ∧
    wUp.sup.dip = false ∧
    wUp.sup.testEnd = none ∧
    num wUp 0x2040 8 ≠ 0 ∧
    Active wDoor ∧
    Served (.ethercat : Door) wDoor ∧
    wDoor.sup.holdupOk = true ∧
    wDoor.sup.testing = false ∧
    wDoor.sup.dip = false ∧
    wDoor.sup.testEnd = none ∧
    Active wTest ∧
    wTest.sup.testing = true ∧
    wRun.sup.holdupFell = false := by
  repeat'
    first
      | (unfold Served Active; decide +kernel)
      | (unfold Active; decide +kernel)
      | refine And.intro ?_ ?_
      | decide +kernel

/-- A state and operands that meet what SupplyDips asks for. -/
theorem test_meets_supply_dips :
    Active wRun ∧
    1 ≤ 1 ∧
    1 ≤ 8 ∧
    warnLevel wRun (.core : Rail) ≤ 700 ∧
    699 < warnLevel wRun (.core : Rail) ∧
    wRun.sup.dip = false ∧
    Active wDip ∧
    wDip.sup.dip = true ∧
    wRun.pwr.thermalCap = false ∧
    378 ≤ kelvin (compositeTemp (putTemp 1 1500 wRun)) ∧
    Active m4 ∧
    m4.pwr.thermalCap = true ∧
    kelvin (compositeTemp (putTemp 1 900 m4)) ≤ 373 ∧
    kelvin (compositeTemp wRun) < wRun.hs.tempOver ∧
    wRun.hs.tempOver ≤ kelvin (compositeTemp (putTemp 1 1500 wRun)) := by
  repeat'
    first
      | (unfold Active; decide +kernel)
      | refine And.intro ?_ ?_
      | decide +kernel

/-- A state and operands that meet what ControllerResets asks for. -/
theorem test_meets_controller_resets :
    Active wHost ∧
    (wHost.ctrls.get (0 : PortId)).present = true ∧
    (wHost.ctrls.get (0 : PortId)).accessible = true ∧
    (wHost.ctrls.get (0 : PortId)).en = true ∧
    (wHost.ctrls.get (0 : PortId)).perst = false ∧
    (wHost.ctrls.get (0 : PortId)).linkUp = true ∧
    (wHost.ctrls.get (1 : PortId)).present = true ∧
    (wHost.ctrls.get (1 : PortId)).accessible = true ∧
    (wHost.ctrls.get (1 : PortId)).en = true ∧
    (wHost.ctrls.get (1 : PortId)).perst = false ∧
    (wHost.ctrls.get (1 : PortId)).linkUp = true := by
  repeat'
    first
      | (unfold Active; decide +kernel)
      | refine And.intro ?_ ?_
      | decide +kernel

/-- A state and operands that meet what ControllerComesUp asks for. -/
theorem test_meets_controller_comes_up :
    Active m5 ∧
    (m5.ctrls.get (0 : PortId)).present = true ∧
    Active wDown ∧
    (wDown.ctrls.get (0 : PortId)).present = true ∧
    (wDown.ctrls.get (0 : PortId)).perst = false ∧
    linkRate 32 = some 32 ∧
    (wDown.ctrls.get (0 : PortId)).accessible = true ∧
    (wDown.ctrls.get (0 : PortId)).en = false ∧
    2 ≤ 32 ∧
    32 ≤ 4096 ∧
    2 ≤ 64 ∧
    64 ≤ 4096 ∧
    0 ≤ 4 ∧
    0 ≤ 1 ∧
    Active wHost ∧
    (wHost.ctrls.get (0 : PortId)).present = true ∧
    (wHost.ctrls.get (0 : PortId)).accessible = true ∧
    (wHost.ctrls.get (0 : PortId)).shst = 0 ∧
    ownTargets wHost (0 : PortId) = [] := by
  repeat'
    first
      | (unfold Active; decide +kernel)
      | refine And.intro ?_ ?_
      | decide +kernel

/-- A state and operands that meet what DoorbellsAndFetch asks for. -/
theorem test_meets_doorbells_and_fetch :
    Active wHost ∧
    (wHost.ctrls.get (0 : PortId)).rdy = true ∧
    (wHost.ctrls.get (0 : PortId)).sq? 1 = some m6 ∧
    5 < m6.size ∧
    m6.size ≤ 8 ∧
    Active wPosted ∧
    (wPosted.ctrls.get (0 : PortId)).rdy = true ∧
    (wPosted.ctrls.get (0 : PortId)).cq? 0 = some m7 ∧
    m7.waiting = [] ∧
    m7.consumed 1 = some 1 ∧
    (wPosted.ctrls.get (0 : PortId)).sq? 0 = some m8 ∧
    mayFetch wPosted (0 : PortId) m8 = true ∧
    Active wDown ∧
    (wDown.ctrls.get (0 : PortId)).accessible = true ∧
    (wDown.ctrls.get (0 : PortId)).en = false := by
  repeat'
    first
      | (unfold Active; decide +kernel)
      | refine And.intro ?_ ?_
      | decide +kernel

/-- A state and operands that meet what QueueCommands asks for. -/
theorem test_meets_queue_commands :
    AdminReady aSrc wAdmin ∧
    0 < 2 ∧
    2 ≤ allocOf wAdmin aSrc.port ∧
    2 ≤ 16 ∧
    16 ≤ 16384 ∧
    Reaches aSrc (.createCq 2 16 1) wAdmin ∧
    ((wAdmin.ctrls.get aSrc.port).cq? 2).isNone ∧
    1 < 2047 ∧
    Reaches aSrc (.createSq 2 16 1 0) wAdmin ∧
    ((wAdmin.ctrls.get aSrc.port).sq? 2).isNone ∧
    1 ≠ 0 ∧
    ((wAdmin.ctrls.get aSrc.port).cq? 1).isSome ∧
    0 < 1 ∧
    1 ≤ allocOf wAdmin aSrc.port ∧
    2 ≤ 2 ∧
    2 ≤ 16384 ∧
    Reaches aSrc (.deleteSq 1) wAdmin ∧
    ((wAdmin.ctrls.get aSrc.port).sq? 1).map (·.fetched) = some [] ∧
    sqIdle wAdmin aSrc.port 1 = true ∧
    AdminReady aSrc m9 ∧
    1 ≤ allocOf m9 aSrc.port ∧
    Reaches aSrc (.deleteCq 1) m9 ∧
    ((m9.ctrls.get aSrc.port).cq? 1).isSome ∧
    (∀ q ∈ (m9.ctrls.get aSrc.port).sqs, q.cqid ≠ 1) := by
  repeat'
    first
      | exact adminReady_of (by decide +kernel)
      | refine And.intro ?_ ?_
      | decide +kernel

/-- A state and operands that meet what FeatureCommands asks for. -/
theorem test_meets_feature_commands :
    AdminReady aSrc wAdmin ∧
    aSrc.dptr.psdt = 0 ∧
    dirtyTargets wAdmin none = [] ∧
    bitsOf (350 : Dword).toNat 16 21 = 0 ∧
    bitsOf (9 : Dword).toNat 0 15 ≤ 2047 ∧
    99 < 2 ^ 48 ∧
    Reaches aSrc (.setTimestamp 99) wAdmin ∧
    wAdmin.hs.ns = [] ∧
    bitsOf (1 : Dword).toNat 8 15 = 0 ∧
    Reaches aSrc (.setFdp 0 0x1D (1 : Dword) false ([] : List Nat)) wAdmin ∧
    featureValue wAdmin aSrc.port 6 0 0 = some ((featureValue wAdmin 0 6 0 0).getD (0, [])) ∧
    Reaches aSrc (.getFeatures 6 0 0) wAdmin ∧
    (wAdmin.ctrls.get aSrc.port).aers.length < 8 ∧
    (wAdmin.ctrls.get aSrc.port).errorPending = [] ∧
    (wAdmin.ctrls.get aSrc.port).smartPending = [] ∧
    (wAdmin.ctrls.get aSrc.port).pendingGroup = none := by
  repeat'
    first
      | exact adminReady_of (by decide +kernel)
      | refine And.intro ?_ ?_
      | decide +kernel

/-- A state and operands that meet what ReportCommands asks for. -/
theorem test_meets_report_commands :
    AdminReady aSrc wAdmin ∧
    Reaches aSrc (.getLogPage 5 0 0 16 true) wAdmin ∧
    logPage wAdmin aSrc.port 5 0 = some ((logPage wAdmin 0 5 0).getD []) ∧
    0 % 4 = 0 ∧
    0 ≤ ((logPage wAdmin 0 5 0).getD []).length ∧
    Reaches aSrc (.identify 0x1C 0 0 0) wAdmin ∧
    identifyData wAdmin aSrc.port 0x1C 0 0 0 = .ok ((identifyData wAdmin 0 0x1C 0 0 0).toOption.getD []) ∧
    Reaches aSrc (.dictRead 0 0x2000 2 false 16 0) wAdmin ∧
    readDict wAdmin 0x2000 2 false = .ok ((readDict wAdmin 0x2000 2 false).toOption.getD []) ∧
    0 < 16 ∧
    16 ≤ 4096 ∧
    ((readDict wAdmin 0x2000 2 false).toOption.getD []).length ≤ 16 := by
  repeat'
    first
      | exact adminReady_of (by decide +kernel)
      | exact ok_of (by decide +kernel)
      | refine And.intro ?_ ?_
      | decide +kernel

/-- A state and operands that meet what NamespaceCommands asks for. -/
theorem test_meets_namespace_commands :
    AdminReady aSrc wTier ∧
    Reaches aSrc (.nsCreate wSpec) wTier ∧
    createCheck wTier wSpec = none ∧
    freeNsid wTier = some 1 ∧
    AdminReady aSrc wNs ∧
    Reaches aSrc (.nsDelete 1) wNs ∧
    operationStatus wNs 3 (1 % 2 ^ 24) = none ∧
    deleteCheck wNs 1 = none ∧
    1 ≠ 0xFFFFFFFF ∧
    Reaches aSrc (.nsAttach 1 [(0 : PortId)]) wNs ∧
    nsOf wNs 1 = some m10 ∧
    (wNs.ctrls.get (0 : PortId)).present = true ∧
    m10.attached.contains (0 : PortId) = false ∧
    AdminReady aSrc wAtt ∧
    Reaches aSrc (.nsDetach 1 [(0 : PortId)]) wAtt ∧
    nsOf wAtt 1 = some m11 ∧
    (wAtt.ctrls.get (0 : PortId)).present = true ∧
    m11.attached.contains (0 : PortId) = true := by
  repeat'
    first
      | exact adminReady_of (by decide +kernel)
      | refine And.intro ?_ ?_
      | decide +kernel

/-- A state and operands that meet what FirmwareCommands asks for. -/
theorem test_meets_firmware_commands :
    AdminReady aSrc wAdmin ∧
    Reaches aSrc (.fwDownload 4 ([1, 2, 3, 4] : List Byte)) wAdmin ∧
    4 % 4 = 0 ∧
    ([1, 2, 3, 4] : List Byte).length % 4 = 0 ∧
    ([1, 2, 3, 4] : List Byte) ≠ [] ∧
    4 + ([1, 2, 3, 4] : List Byte).length ≤ slotSize ∧
    aSrc.dptr.psdt = 0 ∧
    imageFault wAdmin imgA = 0 ∧
    (2 = 1 ∨ 2 = 2) ∧
    AdminReady aSrc wFirm ∧
    (slotOf wFirm.fw 2).image = some imgA ∧
    imageFault wFirm imgA = 0 := by
  repeat'
    first
      | exact adminReady_of (by decide +kernel)
      | refine And.intro ?_ ?_
      | decide +kernel

/-- A state and operands that meet what FormatAndSanitize asks for. -/
theorem test_meets_format_and_sanitize :
    AdminReady aSrc wNs ∧
    aSrc.dptr.psdt = 0 ∧
    operationStatus wNs 1 (1 % 2 ^ 24) = none ∧
    formatCheck wNs 1 { lbaf := 1, mset := true, pi := 0, ses := 0 } = none ∧
    nsOf wNs 1 = some m10 ∧
    operationStatus wNs 2 0 = none ∧
    sanitizeCheck wNs 2 = none ∧
    AdminReady aSrc wAdmin ∧
    operationStatus wAdmin 2 0 = none ∧
    sanitizeCheck wAdmin 4 = none := by
  repeat'
    first
      | exact adminReady_of (by decide +kernel)
      | refine And.intro ?_ ?_
      | decide +kernel

/-- A state and operands that meet what WriteCommands asks for. -/
theorem test_meets_write_commands :
    ZonedReady aIo 1 nsA wOpen ∧
    table33 (zoneOf wOpen 1 (8 / nsA.zsze)) .write = .ok (.same : ZMove) ∧
    8 / nsA.zsze * nsA.zsze + nsA.zsze ≤ nsA.size ∧
    Sound aIo m12 (nsA.xfer m14 false m13.length) wOpen ∧
    m13 ≠ [] ∧
    m13.length ≤ 1024 ∧
    8 + m13.length ≤ nsA.size ∧
    cacheRoom wOpen m13.length = true ∧
    wpGate (zoneOf wOpen 1 (8 / nsA.zsze)) nsA (8 % nsA.zsze) m13.length false = none ∧
    openForWrite (zoneOf wOpen 1 (8 / nsA.zsze)) true wOpen = .ok ((((openForWrite wZone true wOpen).toOption.getD (wZone, wOpen)).1), m15) ∧
    entryBlks nsA m14 false (8 / nsA.zsze * nsA.zsze + (zoneOf wOpen 1 (8 / nsA.zsze)).wp) (8 / nsA.zsze * nsA.zsze + (zoneOf wOpen 1 (8 / nsA.zsze)).wp) 0 m13 = .ok m13 ∧
    table33 (zoneOf wOpen 1 (0 / nsA.zsze)) .write = .ok (.same : ZMove) ∧
    0 / nsA.zsze * nsA.zsze + nsA.zsze ≤ nsA.size ∧
    Sound aIo m12 (nsA.xfer m14 false m16.length) wOpen ∧
    m16 ≠ [] ∧
    m16.length ≤ 512 ∧
    0 < nsA.zsze ∧
    0 % nsA.zsze = 0 ∧
    cacheRoom wOpen m16.length = true ∧
    wpGate (zoneOf wOpen 1 (0 / nsA.zsze)) nsA 0 m16.length true = none ∧
    openForWrite (zoneOf wOpen 1 (0 / nsA.zsze)) true wOpen = .ok ((((openForWrite wZone true wOpen).toOption.getD (wZone, wOpen)).1), m15) ∧
    entryBlks nsA m14 true 0 (0 / nsA.zsze * nsA.zsze + (zoneOf wOpen 1 (0 / nsA.zsze)).wp) 0 m16 = .ok m16 ∧
    Sound aIo m12 {} wOpen ∧
    0 < 2 ∧
    8 + 2 ≤ nsA.size ∧
    cacheRoom wOpen 2 = true ∧
    wpGate (zoneOf wOpen 1 (8 / nsA.zsze)) nsA (8 % nsA.zsze) 2 false = none ∧
    openForWrite (zoneOf wOpen 1 (8 / nsA.zsze)) false wOpen = .ok ((((openForWrite wZone false wOpen).toOption.getD (wZone, wOpen)).1), m17) := by
  repeat'
    first
      | exact zonedReady_of (by decide +kernel)
      | exact ok_of (by decide +kernel)
      | refine And.intro ?_ ?_
      | decide +kernel

/-- A state and operands that meet what FdpCommands asks for. -/
theorem test_meets_fdp_commands :
    IoReady aIo wFdp ∧
    nsGate wFdp aIo.port 1 = .ok nsF ∧
    nsF.fdp = true ∧
    writeGate wFdp aIo.port nsF = none ∧
    Sound aIo m12 (nsF.xfer m14 false m13.length) wFdp ∧
    m13 ≠ [] ∧
    m13.length ≤ 1024 ∧
    4 + m13.length ≤ nsF.size ∧
    cacheRoom wFdp m13.length = true ∧
    entryBlks nsF m14 false 4 4 0 m13 = .ok m13 ∧
    placeFdp 1 (nsF.handles.getD 0 0) (writerOf (countRequests aIo (nsF.xfer m14 false m13.length) wFdp) aIo false) (m13.length + 1) ((List.range m13.length).map (4 + ·)) (countRequests aIo (nsF.xfer m14 false m13.length) wFdp) = some (wPlaced.1, wPlaced.2) ∧
    Reaches aIo (.dsm 1 true ([(4, 1)] : List (Nat × Nat))) wFdp ∧
    (∀ r ∈ ([(4, 1)] : List (Nat × Nat)), r.1 + r.2 ≤ nsF.size) := by
  repeat'
    first
      | exact ioReady_of (by decide +kernel)
      | exact ok_of (by decide +kernel)
      | refine And.intro ?_ ?_
      | decide +kernel

/-- A state and operands that meet what ReadAndFlush asks for. -/
theorem test_meets_read_and_flush :
    IoReady aIo wOpen ∧
    nsGate wOpen aIo.port 1 = .ok nsA ∧
    nsA.fdp = false ∧
    Sound aIo m12 (nsA.xfer m14 true 2) wOpen ∧
    0 < 2 ∧
    2 ≤ 1024 ∧
    8 + 2 ≤ nsA.size ∧
    reservAllows nsA aIo.port false = true ∧
    (8 % nsA.zsze) + 2 ≤ nsA.zsze ∧
    (zoneOf wOpen 1 (8 / nsA.zsze)).st ≠ .offline ∧
    (zoneOf wOpen 1 (8 / nsA.zsze)).st ≠ .recallTarget ∧
    (false = false ∨ min ((8 % nsA.zsze) + 2) (zoneOf wOpen 1 (8 / nsA.zsze)).wp ≤ (zoneOf wOpen 1 (8 / nsA.zsze)).flashed) ∧
    (∀ page ∈ pagesOf ((List.range 2).map fun i => { i := i, idx := (zoneOf wOpen 1 (8 / nsA.zsze)).idx, off := (8 % nsA.zsze) + i, blk := readBlk nsA (zoneOf wOpen 1 (8 / nsA.zsze)) ((8 % nsA.zsze) + i) : ReadLba }), ∀ x ∈ page, effectiveStep (zoneOf wOpen 1 (8 / nsA.zsze)) (memberOf (zoneOf wOpen 1 (8 / nsA.zsze)) x.off) (mediaOf m12.media page).step < 5) ∧
    (∀ x ∈ ((List.range 2).map fun i => { i := i, idx := (zoneOf wOpen 1 (8 / nsA.zsze)).idx, off := (8 % nsA.zsze) + i, blk := readBlk nsA (zoneOf wOpen 1 (8 / nsA.zsze)) ((8 % nsA.zsze) + i) : ReadLba }), ∃ b, checkLba nsA 8 m12.media x = .ok (x.blk, b)) ∧
    (exitBlks nsA m14 8 0 (((List.range 2).map fun i => { i := i, idx := (zoneOf wOpen 1 (8 / nsA.zsze)).idx, off := (8 % nsA.zsze) + i, blk := readBlk nsA (zoneOf wOpen 1 (8 / nsA.zsze)) ((8 % nsA.zsze) + i) : ReadLba }).map (·.blk)) = .ok ([unwrittenBlk nsA, unwrittenBlk nsA] : List Blk)) ∧
    IoReady aIo wIo ∧
    nsGate wIo aIo.port 1 = .ok nsA ∧
    reservAllows nsA aIo.port true = true ∧
    dirtyTargets wIo (some 1) = [] ∧
    (dirtyTargets wOpen (some 1)).all (targetMet wOpen) = false := by
  repeat'
    first
      | exact passes_of (f := checkLba _ _ _) (g := ReadLba.blk) (by decide +kernel)
      | exact ioReady_of (by decide +kernel)
      | exact ok_of (by decide +kernel)
      | refine And.intro ?_ ?_
      | decide +kernel

/-- A state and operands that meet what ZoneCommands asks for. -/
theorem test_meets_zone_commands :
    ZonedReady aIo 1 nsA wOpen ∧
    0 < nsA.size ∧
    0 < nsA.zsze ∧
    0 % nsA.zsze = 0 ∧
    moveZone (zoneOf wOpen 1 (0 / nsA.zsze)) (.toExplicit : ZMove) (touchLine (zoneMapAddr wOpen 1 (zoneOf wOpen 1 (0 / nsA.zsze)).idx) true wOpen) = .ok m18 ∧
    table33 (zoneOf wOpen 1 (0 / nsA.zsze)) .open = .ok (.toExplicit : ZMove) ∧
    moveZone (zoneOf wOpen 1 (0 / nsA.zsze)) (.toClosed : ZMove) (touchLine (zoneMapAddr wOpen 1 (zoneOf wOpen 1 (0 / nsA.zsze)).idx) true wOpen) = .ok m19 ∧
    table33 (zoneOf wOpen 1 (0 / nsA.zsze)) .close = .ok (.toClosed : ZMove) ∧
    moveZone (zoneOf wOpen 1 (0 / nsA.zsze)) (.toFull : ZMove) (touchLine (zoneMapAddr wOpen 1 (zoneOf wOpen 1 (0 / nsA.zsze)).idx) true wOpen) = .ok m20 ∧
    table33 (zoneOf wOpen 1 (0 / nsA.zsze)) .finish = .ok (.toFull : ZMove) ∧
    moveZone (zoneOf wOpen 1 (0 / nsA.zsze)) (.toEmpty : ZMove) (touchLine (zoneMapAddr wOpen 1 (zoneOf wOpen 1 (0 / nsA.zsze)).idx) true wOpen) = .ok m21 ∧
    table33 (zoneOf wOpen 1 (0 / nsA.zsze)) .reset = .ok (.toEmpty : ZMove) ∧
    ZonedReady aIo 1 nsA wRo ∧
    moveZone (zoneOf wRo 1 (0 / nsA.zsze)) (.toOffline : ZMove) (touchLine (zoneMapAddr wRo 1 (zoneOf wRo 1 (0 / nsA.zsze)).idx) true wRo) = .ok m22 ∧
    table33 (zoneOf wRo 1 (0 / nsA.zsze)) .offline = .ok (.toOffline : ZMove) ∧
    Reaches aIo (.zoneReceive 1 0 false 0 64) wOpen ∧
    0 ≤ 7 ∧
    reservAllows nsA aIo.port false = true := by
  repeat'
    first
      | exact zonedReady_of (by decide +kernel)
      | exact ok_of (by decide +kernel)
      | refine And.intro ?_ ?_
      | decide +kernel

/-- A state and operands that meet what ArchiveCommands asks for. -/
theorem test_meets_archive_commands :
    ZonedReady aIo 1 nsA wFull ∧
    0 < nsA.size ∧
    0 < nsA.zsze ∧
    0 % nsA.zsze = 0 ∧
    table33 (zoneOf wFull 1 (0 / nsA.zsze)) .archive = .ok (.toQueued : ZMove) ∧
    ZonedReady aIo 1 nsA wQueued ∧
    table33 (zoneOf wQueued 1 (0 / nsA.zsze)) .cancel = .ok (.toResident : ZMove) ∧
    ZonedReady aIo 1 nsA wReleased ∧
    table33 (zoneOf wReleased 1 (0 / nsA.zsze)) .recall = .ok (.toRecall : ZMove) ∧
    objOf wReleased 7 = some m23 ∧
    m23.lbaf = nsA.lbaf ∧
    m23.lbas ≤ nsA.zcap ∧
    recallReason wReleased m23 = 0 ∧
    activeFree wReleased 1 = true ∧
    openFree wReleased 1 = true ∧
    (bindZone (zoneOf wReleased 1 (0 / nsA.zsze)) wReleased).isSome ∧
    Reaches aIo (.archiveQuery 1 7 false 0 15 0) wReleased := by
  repeat'
    first
      | exact zonedReady_of (by decide +kernel)
      | exact ok_of (by decide +kernel)
      | refine And.intro ?_ ?_
      | decide +kernel

/-- A state and operands that meet what ReservationCommands asks for. -/
theorem test_meets_reservation_commands :
    IoReady aIo wIo ∧
    nsGate wIo aIo.port 1 = .ok nsA ∧
    Reaches aIo (.resvRegister 1 0 0 false (0 : BitVec 64) (5 : BitVec 64)) wIo ∧
    nsA.resv.key? aIo.port = none ∧
    IoReady aIo wKey ∧
    nsGate wKey aIo.port 1 = .ok m24 ∧
    Reaches aIo (.resvAcquire 1 0 1 false (5 : BitVec 64) (0 : BitVec 64)) wKey ∧
    m24.resv.key? aIo.port = some (5 : BitVec 64) ∧
    m24.resv.holder = none ∧
    0 < 1 ∧
    1 ≤ 6 ∧
    IoReady aIo wHeld ∧
    nsGate wHeld aIo.port 1 = .ok m25 ∧
    Reaches aIo (.resvRelease 1 0 1 false (5 : BitVec 64)) wHeld ∧
    m25.resv.key? aIo.port = some (5 : BitVec 64) ∧
    m25.resv.holder = some aIo.port ∧
    m25.resv.rtype = 1 ∧
    Reaches aIo (.resvReport 1) wHeld := by
  repeat'
    first
      | exact ioReady_of (by decide +kernel)
      | exact ok_of (by decide +kernel)
      | refine And.intro ?_ ?_
      | decide +kernel

/-- A state and operands that meet what DispatchAndRebuild asks for. -/
theorem test_meets_dispatch_and_rebuild :
    (chooseNext wFetched = some ((0 : PortId), 1, (((chooseNext wFetched).map fun x => x.2.2).getD 0))) ∧
    (wFetched.ctrls.get (0 : PortId)).sq? 1 = some m26 ∧
    m26.fetched.head? = some m27 ∧
    chooseNext wIo = none ∧
    Active wRebuild ∧
    Quiet wRebuild ∧
    wRebuild.hs.regions = [] ∧
    wRebuild.hs.promoted = [] ∧
    (∃ x ∈ wRebuild.hs.rebuilding, x.1 = 3) ∧
    AdminReady aSrc wAdmin ∧
    Reaches aSrc (.dictWrite 0 0x2020 1 false ([1] : List Byte) 0) wAdmin ∧
    ([1] : List Byte) ≠ [] ∧
    ([1] : List Byte).length ≤ 4096 ∧
    (writeDict .nvme {} 0x2020 1 false ([1] : List Byte) (countRequests aSrc { data := ([1] : List Byte).length } wAdmin)).2 = none ∧
    (writeDict .nvme {} 0x2020 1 false ([1] : List Byte) (countRequests aSrc { data := ([1] : List Byte).length } wAdmin)).1 = { (countRequests aSrc { data := ([1] : List Byte).length } wAdmin) with doors := (writeDict .nvme {} 0x2020 1 false ([1] : List Byte) (countRequests aSrc { data := ([1] : List Byte).length } wAdmin)).1.doors, tide := (writeDict .nvme {} 0x2020 1 false ([1] : List Byte) (countRequests aSrc { data := ([1] : List Byte).length } wAdmin)).1.tide } ∧
    aSrc.dptr.psdt = 0 ∧
    wAdmin.pwr.waiting = [] ∧
    1 < 2 ∧
    1 ≠ wAdmin.pwr.ps := by
  repeat'
    first
      | exact adminReady_of (by decide +kernel)
      | (unfold Active; decide +kernel)
      | (unfold Quiet; decide +kernel)
      | refine And.intro ?_ ?_
      | decide +kernel

/-- A state and operands that meet what DictionaryKeeps asks for. -/
theorem test_meets_dictionary_keeps :
    1 ≤ 2 ∧
    2 ≤ 9 ∧
    TakesNum (.ethercat : Door) wBus 0x2220 2 10 ∧
    TakesNum (.ethercat : Door) wBus 0x2220 0x0A 0 ∧
    1 ≤ 3 ∧
    3 ≤ 8 ∧
    wBus.mem.buckets.length = 8 ∧
    TakesNum (.ethercat : Door) wBus 0x2600 3 20 ∧
    wBus.ebb.building = none ∧
    TakesNum (.ethercat : Door) wBus 0x2610 1 2 ∧
    1 ≤ 6 ∧
    6 ≤ 6 ∧
    Takes (.ethercat : Door) wTenant 0x2210 6 (List.replicate 256 0) ∧
    0x4400 ≤ 0x4400 ∧
    0x4400 ≤ 0x4417 ∧
    (0x4410 ≤ 0x4400 ∨ 2 ≤ 2) ∧
    Takes (.ethercat : Door) wBus 0x4400 2 (List.replicate 64 7) ∧
    Takes (.ethercat : Door) wBus 0x4400 1 ([1] : List Byte) ∧
    Takes (.ethercat : Door) wBare 0x4C00 1 entryBytes := by
  repeat'
    first
      | exact takes_of (by decide +kernel) (by decide +kernel)
      | refine And.intro ?_ ?_
      | decide +kernel

/-- A state and operands that meet what TierWrites asks for. -/
theorem test_meets_tier_writes :
    1 ≤ 2 ∧
    2 ≤ 4 ∧
    TakesNum (.ethercat : Door) m28 0x2110 2 16 ∧
    (sumOf (modNth m28.hs.alloc (2 - 1) fun _ => 16) ≤ 4096) ∧
    (16 = 0 ∨ 2 ≤ m28.ports) ∧
    TakesNum (.ethercat : Door) wBus 0x2400 4 3 ∧
    wBus.hs.ns = [] ∧
    wBus.flash.formatting = false ∧
    TakesNum (.ethercat : Door) wQuar 0x2410 9 3 ∧
    adoptVolume 3 (tideRecord wQuar) = .ok m29 ∧
    TakesNum (.ethercat : Door) wQuar 0x2410 0x0A 4 ∧
    retireVolume 4 (tideRecord wQuar) = .ok m30 := by
  repeat'
    first
      | exact takes_of (by decide +kernel) (by decide +kernel)
      | exact ok_of (by decide +kernel)
      | refine And.intro ?_ ?_
      | decide +kernel

/-- A state and operands that meet what CommandWrites asks for. -/
theorem test_meets_command_writes :
    TakesNum (.ethercat : Door) wBus 0x5010 9 255 ∧
    wBus.mem.buckets.length = 8 ∧
    TakesNum (.ethercat : Door) wCache 0x2610 8 (if false then 0x81 else 1) ∧
    (wCache.mem.opStatus ≠ 1 ∧ (false = true → num wCache 0x2610 6 < cacheWays wCache)) ∧
    TakesNum (.ethercat : Door) wCache 0x2610 8 (if false then 0x82 else 2) ∧
    TakesNum (.ethercat : Door) wCache 0x2610 8 (if false then 0x83 else 3) ∧
    TakesNum (.ethercat : Door) wBus 0x2800 3 1 ∧
    TakesNum (.ethercat : Door) wArchived 0x2820 5 0 ∧
    (0 ≤ 0x0D ∨ 0 = 0x80 ∨ 0 = 0x81) ∧
    wArchived.ebb.recon.status ≠ 1 ∧
    wArchived.ebb.recon.status ≠ 2 ∧
    (∀ o ∈ wArchived.ebb.objs, o.setId = num wArchived 0x2820 4 → o.arch = .archivedResident ∨ o.arch = .released) ∧
    (∃ d ∈ archivedDiscs wArchived (num wArchived 0x2820 4), d.role = 0) ∧
    widthOf wArchived (num wArchived 0x2820 4) + 1 ≤ countedBays wArchived ∧
    TakesNum (.ethercat : Door) wBus 0x4000 0x13 1 ∧
    anyWriting wBus = false ∧
    (wBus.doors.pending = [] ∨ pendingOk (tideRecord wBus) (installPending (tideRecord wBus)) = true) := by
  repeat'
    first
      | exact takes_of (by decide +kernel) (by decide +kernel)
      | refine And.intro ?_ ?_
      | decide +kernel

/-- A state and operands that meet what ClearWrites asks for. -/
theorem test_meets_clear_writes :
    TakesBay (.ethercat : Door) wBays (2 : BayId) 0x50 0x0E 1 ∧
    TakesBay (.ethercat : Door) wBays (2 : BayId) 0x70 0x0D 1 ∧
    TakesBay (.ethercat : Door) wBays (2 : BayId) 0x80 0x12 1 ∧
    TakesBay (.ethercat : Door) wBays (2 : BayId) 0x12 6 1 ∧
    TakesBay (.ethercat : Door) wBays (2 : BayId) 0x20 0x11 1 := by
  repeat'
    first
      | exact takes_of (by decide +kernel) (by decide +kernel)
      | refine And.intro ?_ ?_
      | decide +kernel

/-- A state and operands that meet what SpindleCommands asks for. -/
theorem test_meets_spindle_commands :
    spindleBusy wBays (2 : BayId) = false ∧
    TakesBay (.ethercat : Door) wBays (2 : BayId) 0x20 3 1 ∧
    startRefused wBays (2 : BayId) = false ∧
    BayOpen wBays (2 : BayId) ∧
    AtRest ((bayAt wBays (2 : BayId)).spin) ∧
    NoneWaits wBays ∧
    startingCount wBays < 4 ∧
    TakesBay (.ethercat : Door) wBays (2 : BayId) 0x20 3 2 ∧
    TakesBay (.ethercat : Door) wBays (2 : BayId) 0x20 3 5 ∧
    1000 ≤ bnum wBays (2 : BayId) 0x20 0x12 ∧
    bnum wBays (2 : BayId) 0x20 0x12 ≤ 9600 ∧
    spindleBusy wTurn (2 : BayId) = false ∧
    TakesBay (.ethercat : Door) wTurn (2 : BayId) 0x20 3 3 ∧
    NoneWaits wTurn ∧
    ((bayAt wTurn (2 : BayId)).spin).state ≠ 0 ∧
    ((bayAt wTurn (2 : BayId)).spin).state ≠ 8 ∧
    (bayAt wTurn (2 : BayId)).spindleFault = false ∧
    TakesBay (.ethercat : Door) wTurn (2 : BayId) 0x20 3 4 ∧
    TakesBay .ethercat wFour 6 0x20 3 1 ∧
    spindleBusy wFour 6 = false ∧
    startRefused wFour 6 = false ∧
    BayOpen wFour 6 ∧
    AtRest (bayAt wFour 6).spin ∧
    4 ≤ startingCount wFour := by
  repeat'
    first
      | exact takes_of (by decide +kernel) (by decide +kernel)
      | (unfold NoneWaits; decide +kernel)
      | (unfold BayOpen; decide +kernel)
      | (unfold AtRest; decide +kernel)
      | refine And.intro ?_ ?_
      | decide +kernel

/-- A state and operands that meet what StepperCommands asks for. -/
theorem test_meets_stepper_commands :
    TakesBay (.ethercat : Door) wBays (2 : BayId) 0x30 0x0F 1 ∧
    BayOpen wBays (2 : BayId) ∧
    (bayAt wBays (2 : BayId)).cald.faults.getLsbD 1 = false ∧
    TakesBay (.ethercat : Door) wBays (2 : BayId) 0x30 0x0F 2 ∧
    (bayAt wBays (2 : BayId)).sled.lost = false ∧
    TakesBay (.ethercat : Door) wMove (2 : BayId) 0x30 0x0F 3 ∧
    bayEnabled wMove (2 : BayId) = true ∧
    (bayAt wMove (2 : BayId)).sled.moving = true ∧
    TakesBay (.ethercat : Door) wMove (2 : BayId) 0x30 0x0F 4 ∧
    Takes (.ethercat : Door) wBays (bayIndex (2 : BayId) 0x30) 0x10 (leInt 4 1000) ∧
    0 ≤ 1000 ∧
    1000 ≤ (bnum wBays (2 : BayId) 0x30 0x0E : Int) ∧
    1000 < 2147483648 ∧
    servoIdle wBays (2 : BayId) = true ∧
    TakesBay (.ethercat : Door) wMove (2 : BayId) 0x40 3 1 ∧
    (loaderRefused (bayAt wMove (2 : BayId)) = 0 ∧ bayEnabled wMove (2 : BayId) = true) ∧
    (bayAt wMove (2 : BayId)).cald.faults.getLsbD 2 = false ∧
    TakesBay (.ethercat : Door) wBays (2 : BayId) 0x40 3 2 ∧
    (loaderRefused (bayAt wBays (2 : BayId)) = 0 ∧ bayEnabled wBays (2 : BayId) = true) ∧
    (bayAt wBays (2 : BayId)).cald.faults.getLsbD 2 = false ∧
    TakesBay (.ethercat : Door) wMove (2 : BayId) 0x40 3 3 ∧
    (bayAt wMove (2 : BayId)).loader.moving = true ∧
    (bayAt wMove (2 : BayId)).running = none ∧
    TakesBay (.ethercat : Door) wMove (2 : BayId) 0x40 0x17 1 ∧
    servoIdle wMove (2 : BayId) = true ∧
    BayOpen wMove (2 : BayId) ∧
    (bayAt wMove (2 : BayId)).cald.faults.getLsbD 3 = false ∧
    TakesBay (.ethercat : Door) wMove (2 : BayId) 0x40 0x17 3 ∧
    (bayAt wMove (2 : BayId)).coll.moving = true := by
  repeat'
    first
      | exact takes_of (by decide +kernel) (by decide +kernel)
      | (unfold BayOpen; decide +kernel)
      | refine And.intro ?_ ?_
      | decide +kernel

/-- A state and operands that meet what StepsAndLibraryLoader asks for. -/
theorem test_meets_steps_and_library_loader :
    wMove.sup.vfldDip = false ∧
    (bayAt wMove (2 : BayId)).sled.moving = true ∧
    ((bayAt wMove (2 : BayId)).sled.tick (if (bayAt wMove (2 : BayId)).sled.homing then homeLim (bnum wMove (2 : BayId) 0x30 7) else sledLim wMove (2 : BayId))).moving = true ∧
    (bayAt wMove (2 : BayId)).loader.moving = true ∧
    ((bayAt wMove (2 : BayId)).loader.tick (if (bayAt wMove (2 : BayId)).loader.homing then homeLim (bnum wMove (2 : BayId) 0x40 8) else loaderLim wMove (2 : BayId))).moving = true ∧
    clamped (bayAt wMove (2 : BayId)) = false ∧
    (bayAt wMove (2 : BayId)).coll.moving = true ∧
    ((bayAt wMove (2 : BayId)).coll.tick (if (bayAt wMove (2 : BayId)).coll.homing then homeLim (bnum wMove (2 : BayId) 0x40 0x0F) else collLim wMove (2 : BayId))).moving = true ∧
    (bayAt m31 (2 : BayId)).sled.spring = true ∧
    (bayAt m32 (2 : BayId)).loader.energised = true ∧
    (bayAt wMove (2 : BayId)).coll.energised = true ∧
    (libraryOpen wBays = true ∧ bayEnabled wBays (2 : BayId) = true ∧ (bayAt wBays (2 : BayId)).ackSeq ≠ 7 ∧ 7 < 256 ∧ (bayAt wBays (2 : BayId)).running = none ∧ (bayAt wBays (2 : BayId)).waiting = none ∧ wBays.pwr.ps < 3) ∧
    loaderRefused (bayAt wBays (2 : BayId)) = 0 ∧
    holdsDisc wBays (2 : BayId) = false ∧
    (bayAt wBays (2 : BayId)).loaderFault = false ∧
    (libraryOpen wMove = true ∧ bayEnabled wMove (2 : BayId) = true ∧ (bayAt wMove (2 : BayId)).ackSeq ≠ 7 ∧ 7 < 256 ∧ (bayAt wMove (2 : BayId)).running = none ∧ (bayAt wMove (2 : BayId)).waiting = none ∧ wMove.pwr.ps < 3) := by
  repeat'
    first
      | refine And.intro ?_ ?_
      | decide +kernel

/-- A state and operands that meet what BayCommands asks for. -/
theorem test_meets_bay_commands :
    TakesBay (.ethercat : Door) wHarb (2 : BayId) 0x60 2 2 ∧
    (bayAt wHarb (2 : BayId)).harbour = true ∧
    (bayAt wHarb (2 : BayId)).spin.speed < 30 ∧
    TakesBay (.ethercat : Door) wBays (2 : BayId) 0 3 2 ∧
    bayEnabled wBays (2 : BayId) = true ∧
    (bayAt wBays (2 : BayId)).harbour = false ∧
    TakesBay (.ethercat : Door) wHarb0 (2 : BayId) 0 3 1 ∧
    wHarb0.phase = .running ∧
    restartRefused wHarb0 (2 : BayId) = false ∧
    bnum wHarb0 (2 : BayId) 0 2 = 1 ∧
    (2 : BayId).val < wHarb0.part.code.bays ∧
    TakesBay (.ethercat : Door) wBays (2 : BayId) 0x60 0x0E 1 ∧
    (bayAt wBays (2 : BayId)).spin.gates = 0 ∧
    (bayAt wBays (2 : BayId)).cald.gates = 0 ∧
    1000 ≤ (calOf [3]).offUs ∧
    (calOf [3]).mv < 200 ∧
    (calOf [3]).noise < 10 ∧
    within (250000 / max 1 (bnum wBays (2 : BayId) 0x60 4) / 20) (calOf [3]).values = true ∧
    TakesBay (.ethercat : Door) wBays (2 : BayId) 0x60 0x0E 8 ∧
    loopsOpen (bayAt wBays (2 : BayId)) = true ∧
    (∀ x ∈ (bayAt wBays (2 : BayId)).cald.coils, x = 0) ∧
    10000 ≤ (calOf [1, 2, 3]).offUs ∧
    within 10 (calOf [1, 2, 3]).values = true ∧
    TakesBay (.ethercat : Door) wOff (2 : BayId) 0 2 1 ∧
    num wOff (bayIndex (2 : BayId) 0) 2 = 0 ∧
    (2 : BayId).val < wOff.part.code.bays ∧
    wOff.sup.barrier = 2 ∧
    wOff.sup.drive = 0 ∧
    (bayAt wOff (2 : BayId)).harbour = false ∧
    (bayAt wOff (2 : BayId)).fitted = true ∧
    (bayAt wOff (2 : BayId)).cald.drvEn = true ∧
    TakesBay (.ethercat : Door) wBays (2 : BayId) 0 2 0 ∧
    num wBays (bayIndex (2 : BayId) 0) 2 = 1 ∧
    holdsDisc wBays (2 : BayId) = false := by
  repeat'
    first
      | exact takes_of (by decide +kernel) (by decide +kernel)
      | refine And.intro ?_ ?_
      | decide +kernel

/-- A state and operands that meet what DriveSide asks for. -/
theorem test_meets_drive_side :
    Active wLink ∧
    (bayAt wLink (2 : BayId)).started = false ∧
    (bayAt wLink (2 : BayId)).harbour = false ∧
    bayMayStart wLink (2 : BayId) = true ∧
    (bayAt wLink (2 : BayId)).cald.drvEn = true ∧
    wLink.sup.barrier = 2 ∧
    Active m33 ∧
    m33.sup.barrier = 1 ∧
    m33.sup.barrierTries < 2 ∧
    Active m34 ∧
    m34.sup.barrier = 1 ∧
    2 ≤ m34.sup.barrierTries ∧
    1 ≤ 1 ∧
    1 ≤ 6 ∧
    beyondLevel 1 16900 = true ∧
    wLink.sup.drive.getLsbD (1 - 1) = false ∧
    levelRecovered 1 24000 = true ∧
    1 ≤ 7 ∧
    beyondLevel 1 24000 = false ∧
    levelRecovered 1 16900 = false ∧
    0 < 2900 ∧
    (wLink.sup.barrier = 1 ∨ wLink.sup.barrier = 2) ∧
    Active m35 ∧
    2900 ≤ 5000 ∧
    m35.sup.barrier = 0 := by
  repeat'
    first
      | (unfold Active; decide +kernel)
      | refine And.intro ?_ ?_
      | decide +kernel

/-- A state and operands that meet what CoilsAndBridges asks for. -/
theorem test_meets_coils_and_bridges :
    Active wCoil ∧
    bayEnabled wCoil (2 : BayId) = true ∧
    2 < 3 ∧
    (bayAt wCoil (2 : BayId)).cald.coilOff.length = 3 ∧
    (bayAt wCoil (2 : BayId)).cald.retries.length = 3 ∧
    (bayAt wCoil (2 : BayId)).cald.faults.getLsbD (4 + 2) = false ∧
    (bayAt wCoil (2 : BayId)).cald.retries.getD 2 0 < 3 ∧
    0 < 3 ∧
    (bayAt wCoil (2 : BayId)).cald.faults.getLsbD (4 + 0) = false ∧
    3 ≤ (bayAt wCoil (2 : BayId)).cald.retries.getD 0 0 ∧
    (bayAt wCoil (2 : BayId)).harbour = false ∧
    (bayAt wCoil (2 : BayId)).cald.coilOff.getD 0 false = true ∧
    1 < 3 ∧
    (bayAt wCoil (2 : BayId)).cald.retries.getD 1 0 ≠ 0 ∧
    (bayAt wCoil (2 : BayId)).cald.coilOff.getD 1 false = false ∧
    (bayAt wCoil (2 : BayId)).cald.coilOver.length = 3 ∧
    (bayAt wCoil (2 : BayId)).cald.coilOver.getD 2 false = false ∧
    250 < (bayAt wCoil (2 : BayId)).cald.rms.getD 2 0 ∧
    (bayAt wCoil (2 : BayId)).cald.rms.getD 2 0 ≤ 300 ∧
    coilRetrying (bayAt wCoil (2 : BayId)) 2 = false ∧
    Active m36 ∧
    bayEnabled m36 (0 : BayId) = true ∧
    (bayAt m36 (0 : BayId)).cald.coilOff.length = 3 ∧
    (bayAt m36 (0 : BayId)).cald.retries.length = 3 ∧
    (bayAt m36 (0 : BayId)).cald.coilOver.length = 3 ∧
    (bayAt m36 (0 : BayId)).cald.coilOver.getD 0 false = false ∧
    300 < (bayAt m36 (0 : BayId)).cald.rms.getD 0 0 ∧
    (bayAt m36 (0 : BayId)).cald.faults.getLsbD (4 + 0) = false ∧
    (bayAt m36 (0 : BayId)).harbour = false ∧
    Active wBays ∧
    bayEnabled wBays (0 : BayId) = true ∧
    (bayAt wBays (0 : BayId)).cald.coilOff.length = 3 ∧
    (bayAt wBays (0 : BayId)).cald.retries.length = 3 ∧
    (bayAt wBays (0 : BayId)).cald.rms.getD 0 0 < 225 ∧
    coilSum wBays ≤ 7000 ∧
    Active m37 ∧
    bayEnabled m37 (0 : BayId) = true ∧
    7000 < coilSum m37 ∧
    coilSum m37 ≤ 8000 ∧
    Active wAmps ∧
    bayEnabled wAmps (0 : BayId) = true ∧
    8000 < coilSum wAmps ∧
    highestBay wAmps = some (0 : BayId) ∧
    Active m38 ∧
    bayEnabled m38 (0 : BayId) = true ∧
    8000 < coilSum m38 ∧
    highestBay m38 = some (0 : BayId) ∧
    m38.sup.aggregate = true ∧
    (bayAt wCoil (2 : BayId)).cald.drvEn = true ∧
    1 ≤ 1 ∧
    1 ≤ 4 ∧
    1 ≤ 3 ∧
    (2 < 1 → 1 = 0) := by
  repeat'
    first
      | (unfold Active; decide +kernel)
      | refine And.intro ?_ ?_
      | decide +kernel

/-- A state and operands that meet what MailboxAccess asks for. -/
theorem test_meets_mailbox_access :
    Served .ethercat wBus ∧
    readDict wBus 0x2220 2 false = .ok ((readDict wBus 0x2220 2 false).toOption.getD []) ∧
    readDict wBus 0x2FFF 2 false = .error (.noObject : Abort) ∧
    ((writeDict .ethercat {} 0x2220 2 false ([10, 0] : List Byte) ({ wBus with doors := { wBus.doors with segment := none } }))).2 = none ∧
    ((writeDict .ethercat {} 0x2FFF 2 false ([10, 0] : List Byte) ({ wBus with doors := { wBus.doors with segment := none } }))).2 = some (.noObject : Abort) ∧
    Served .ethercat wSeg ∧
    ((writeDict .ethercat {} 0x2220 2 false (segmentBytes wSeg 0x2220 2 ++ ([0] : List Byte)) ({ wSeg with doors := { wSeg.doors with segment := none } }))).2 = none ∧
    wSeg.doors.segment = some (0x2220, 2, ([10] : List Byte)) ∧
    informationOf wBus 3 0x2220 0 = .ok ((informationOf wBus 3 0x2220 0).toOption.getD []) := by
  repeat'
    first
      | exact error_of (by decide +kernel)
      | exact ok_of (by decide +kernel)
      | (unfold Served Active; decide +kernel)
      | refine And.intro ?_ ?_
      | decide +kernel

/-- A state and operands that meet what BenchPort asks for. -/
theorem test_meets_bench_port :
    Active wBus ∧
    frameOk (frame 1 0x2220 2 4 []) = true ∧
    cellByte (frame 1 0x2220 2 4 []) 0 = 1 ∧
    frameData (frame 1 0x2220 2 4 []) = [] ∧
    0 < (cellField (frame 1 0x2220 2 4 []) 5 2) ∧
    (cellField (frame 1 0x2220 2 4 []) 5 2) ≤ 4096 ∧
    cellByte (frame 1 0x2220 2 4 []) 4 < 2 ∧
    readDict wBus (cellField (frame 1 0x2220 2 4 []) 1 2) (cellByte (frame 1 0x2220 2 4 []) 3) (bitOf (cellByte (frame 1 0x2220 2 4 []) 4) 0) = .ok ((readDict wBus 0x2220 2 false).toOption.getD []) ∧
    ((readDict wBus 0x2220 2 false).toOption.getD []).length ≤ (cellField (frame 1 0x2220 2 4 []) 5 2) ∧
    frameOk (frame 2 0x2220 2 2 [10, 0]) = true ∧
    cellByte (frame 2 0x2220 2 2 [10, 0]) 0 = 2 ∧
    (frameData (frame 2 0x2220 2 2 [10, 0])).length = (cellField (frame 2 0x2220 2 2 [10, 0]) 5 2) ∧
    0 < (cellField (frame 2 0x2220 2 2 [10, 0]) 5 2) ∧
    (cellField (frame 2 0x2220 2 2 [10, 0]) 5 2) ≤ 4096 ∧
    cellByte (frame 2 0x2220 2 2 [10, 0]) 4 < 2 ∧
    (writeDict .bench {} (cellField (frame 2 0x2220 2 2 [10, 0]) 1 2) (cellByte (frame 2 0x2220 2 2 [10, 0]) 3) (bitOf (cellByte (frame 2 0x2220 2 2 [10, 0]) 4) 0) (frameData (frame 2 0x2220 2 2 [10, 0])) wBus).2 = none ∧
    frameOk (frame 3 0x4842 0 0 []) = true ∧
    cellByte (frame 3 0x4842 0 0 []) 0 = 3 ∧
    deviceFrame (frame 3 0x4842 0 0 []) 0x4842 = true ∧
    frameOk (frame 4 0x5253 0 0 []) = true ∧
    cellByte (frame 4 0x5253 0 0 []) 0 = 4 ∧
    deviceFrame (frame 4 0x5253 0 0 []) 0x5253 = true ∧
    m39.doors.benchBusy = true ∧
    m40.doors.benchBusy = false ∧
    m40.doors.benchReady = true := by
  repeat'
    first
      | exact ok_of (by decide +kernel)
      | (unfold Active; decide +kernel)
      | refine And.intro ?_ ?_
      | decide +kernel

/-- A state and operands that meet what BootRecovery asks for. -/
theorem test_meets_boot_recovery :
    wRec.phase = .bootRecovery ∧
    frameOk (norFrame 0x10 65536 2 []) = true ∧
    cellByte (norFrame 0x10 65536 2 []) 0 = 0x10 ∧
    frameData (norFrame 0x10 65536 2 []) = [] ∧
    0 < (cellField (norFrame 0x10 65536 2 []) 5 2) ∧
    (cellField (norFrame 0x10 65536 2 []) 5 2) ≤ 4096 ∧
    (norAddr (norFrame 0x10 65536 2 [])) + (cellField (norFrame 0x10 65536 2 []) 5 2) ≤ 0x4000000 ∧
    frameOk (norFrame 0x11 65536 0 []) = true ∧
    cellByte (norFrame 0x11 65536 0 []) 0 = 0x11 ∧
    slotAt (norAddr (norFrame 0x11 65536 0 [])) = some ((slotAt 65536).getD 0) ∧
    (norAddr (norFrame 0x11 65536 0 [])) % 0x10000 = 0 ∧
    (cellField (norFrame 0x11 65536 0 []) 5 2) = 0 ∧
    frameData (norFrame 0x11 65536 0 []) = [] ∧
    frameOk (norFrame 0x12 65537 2 [7, 8]) = true ∧
    cellByte (norFrame 0x12 65537 2 [7, 8]) 0 = 0x12 ∧
    slotAt (norAddr (norFrame 0x12 65537 2 [7, 8])) = some ((slotAt 65537).getD 0) ∧
    0 < (cellField (norFrame 0x12 65537 2 [7, 8]) 5 2) ∧
    (cellField (norFrame 0x12 65537 2 [7, 8]) 5 2) ≤ 256 ∧
    (frameData (norFrame 0x12 65537 2 [7, 8])).length = (cellField (norFrame 0x12 65537 2 [7, 8]) 5 2) ∧
    (norAddr (norFrame 0x12 65537 2 [7, 8])) % 256 + (cellField (norFrame 0x12 65537 2 [7, 8]) 5 2) ≤ 256 ∧
    norWf wRec.fw.nor = true ∧
    (∀ i : Nat, i < (cellField (norFrame 0x12 65537 2 [7, 8]) 5 2) → norByte wRec.fw.nor ((norAddr (norFrame 0x12 65537 2 [7, 8])) + i) = 0xFF#8) ∧
    m41.phase = .bootRecovery ∧
    frameOk (norFrame 0x13 0 0 []) = true ∧
    cellByte (norFrame 0x13 0 0 []) 0 = 0x13 ∧
    (norAddr (norFrame 0x13 0 0 [])) = 0 ∧
    (cellField (norFrame 0x13 0 0 []) 5 2) = 0 ∧
    frameData (norFrame 0x13 0 0 []) = [] ∧
    m41.fw.active = 1 ∧
    m41.fw.slot1.image = some imgA ∧
    m41.fw.slot1.marked = false ∧
    m41.fw.slot2.marked = false ∧
    imageFault m41 imgA = 0 ∧
    tornCells m41.part.arCells = [] ∧
    m41.fw.slot1.everReady = true ∧
    wBoot.hbm0 = true ∧
    wBoot.hbm1 = true := by
  repeat'
    first
      | refine And.intro ?_ ?_
      | decide +kernel

/-- A state and operands that meet what Administration asks for. -/
theorem test_meets_administration :
    TakesNum (.ethercat : Door) wBus 0x1011 1 0x64616F6C ∧
    anyWriting wBus = false ∧
    TakesNum (.ethercat : Door) wBus 0x2000 6 1 ∧
    TakesNum (.ethercat : Door) wBus 0x2050 3 0x01000002 ∧
    (.ethercat : Door) ≠ .bench ∧
    1 ≤ 0x01000002 / 2 ^ 24 ∧
    0x01000002 / 2 ^ 24 ≤ 7 ∧
    TakesNum (.ethercat : Door) wQuar 0x2050 1 2 := by
  repeat'
    first
      | exact takes_of (by decide +kernel) (by decide +kernel)
      | refine And.intro ?_ ?_
      | decide +kernel

/-- A state and operands that meet what AdminRequests asks for. -/
theorem test_meets_admin_requests :
    1 < 2 ^ 32 ∧
    Takes (.ethercat : Door) wPol 0x2050 4 (requestBytes 1 1 (0 : Dword) (0 : Dword)) ∧
    formatCheck wPol 1 (formatFields (0 : Dword)) = none ∧
    1 ≠ 0xFFFFFFFF ∧
    0 < 2 ^ 32 ∧
    Takes (.ethercat : Door) wPol 0x2050 4 (requestBytes 2 0 (2 : Dword) (0 : Dword)) ∧
    sanitizeCheck wPol (bitsOf (2 : Dword).toNat 0 2) = none ∧
    (bitsOf (2 : Dword).toNat 0 2) ≠ 1 ∧
    Takes (.ethercat : Door) m42 0x2050 4 (requestBytes 2 0 (1 : Dword) (0 : Dword)) ∧
    (bitsOf (1 : Dword).toNat 0 2) = 1 ∧
    Takes (.ethercat : Door) wPol 0x2050 4 (requestBytes 3 1 (0 : Dword) (0 : Dword)) ∧
    deleteCheck wPol 1 = none ∧
    TakesNum (.ethercat : Door) wForeign 0x2060 4 1 ∧
    wForeign.tierState = 2 := by
  repeat'
    first
      | exact takes_of (by decide +kernel) (by decide +kernel)
      | refine And.intro ?_ ?_
      | decide +kernel

/-- A state and operands that meet what EventDelivery asks for. -/
theorem test_meets_event_delivery :
    Active wEmcy ∧
    Active m43 ∧
    m43.evt.emcy = m44 :: ([] : List EmcyMsg) ∧
    m43.evt.emcyDropped = 0 ∧
    wEmcy.evt.emcy = m44 :: ([] : List EmcyMsg) ∧
    0 < wEmcy.evt.emcyDropped ∧
    Active wBus ∧
    Active m45 ∧
    m45.doors.portLink.getD (if true then 1 else 0) false = true ∧
    ecatOf 4 = some (.safeOp : EcatState) ∧
    wBus.doors.ecat = .op ∧
    wBus.doors.watchdog = false ∧
    (wEmcy.ctrls.get (1 : PortId)).present = true ∧
    (wEmcy.ctrls.get (1 : PortId)).linkUp = true ∧
    spdmResponse (cellByte ([0x12, 0x99] : List Byte) 1) = none ∧
    spdmResponse (cellByte ([0x12, 0x84] : List Byte) 1) = some ((spdmResponse 0x84).getD 0) ∧
    (cellByte ([0x12, 0x84] : List Byte) 1) ≠ 0xE0 ∧
    (cellByte ([0x12, 0x84] : List Byte) 1) ≠ 0xE4 ∧
    (cellByte ([0x12, 0x84] : List Byte) 1) ≠ 0xE5 ∧
    (cellByte ([0x12, 0x84] : List Byte) 1) ≠ 0xEC ∧
    (cellByte ([0x12, 0xE0, 0, 1] : List Byte) 1) = 0xE0 ∧
    1 ≤ cellByte ([0x12, 0xE0, 0, 1] : List Byte) 3 ∧
    cellByte ([0x12, 0xE0, 0, 1] : List Byte) 3 ≤ 5 ∧
    (cellByte ([0x12, 0xE4] : List Byte) 1) = 0xE4 ∧
    sessions wEmcy < 4 ∧
    Active m46 ∧
    (m46.ctrls.get (1 : PortId)).present = true ∧
    (m46.ctrls.get (1 : PortId)).linkUp = true ∧
    (cellByte ([0x12, 0xEC] : List Byte) 1) = 0xEC ∧
    0 < (m46.ctrls.get (1 : PortId)).spdm := by
  repeat'
    first
      | (unfold Active; decide +kernel)
      | refine And.intro ?_ ?_
      | decide +kernel

/-- A state and operands that meet what PowerStates asks for. -/
theorem test_meets_power_states :
    wShake.phase = .running ∧
    wShake.pwr.waiting = [] ∧
    wShake.pwr.shaking = some (2, 3, 0) ∧
    2 ≤ 2 ∧
    2 ≤ 3 ∧
    wShake.pwr.ps < 3 ∧
    1 ≤ 3 ∧
    (∀ k : Nat, 3 ≤ k → k ≤ lastBlock 2 → (askBlock 2 k wShake = .agree)) ∧
    m47.phase = .running ∧
    m47.pwr.waiting = [] ∧
    m47.pwr.shaking = some (3, 5, 0) ∧
    1 ≤ 5 ∧
    5 ≤ lastBlock 3 ∧
    askBlock 3 5 m47 = .delay 1 ∧
    0 + 1 ≤ 500 ∧
    wPol1.phase = .running ∧
    wPol1.pwr.waiting = [] ∧
    wPol1.pwr.shaking = none ∧
    num wPol1 0x2020 1 = 1 ∧
    wPol1.pwr.ps < 2 ∧
    num wPol1 0x2020 2 ≠ 0 ∧
    archiveIdle wPol1 = true ∧
    m48.phase = .running ∧
    m48.pwr.waiting = [] ∧
    m48.pwr.shaking = none ∧
    num m48 0x2020 1 = 1 ∧
    m48.pwr.ps = 2 ∧
    num m48 0x2020 3 ≠ 0 ∧
    (∀ k : Nat, 1 ≤ k → k ≤ 13 → (askBlock (if num m48 0x2020 4 = 1 then 4 else 3) k m48 = .agree)) ∧
    wPs3.phase = .running ∧
    wPs3.pwr.waiting = [] ∧
    wPs3.pwr.shaking = none ∧
    wPs3.pwr.fromPs < 3 ∧
    wPs3.pwr.captured = [] ∧
    wPs3.pwr.shoal = none ∧
    wPs3.evt.deferred = [] ∧
    wPs3.pwr.ps = 3 ∧
    wPs4.phase = .running ∧
    wPs4.pwr.waiting = [] ∧
    wPs4.pwr.shaking = none ∧
    wPs4.pwr.fromPs < 3 ∧
    wPs4.pwr.captured = [] ∧
    wPs4.pwr.shoal = none ∧
    wPs4.evt.deferred = [] ∧
    wPs4.pwr.ps = 4 ∧
    (wBootHbm.hbm0 = true ∧ wBootHbm.hbm1 = true) ∧
    m49.hbm0 = false ∧
    shoalCause 12000 24000 ([] : List Int) ([] : List (Bool × Bool)) ([] : List Bool) wPs4 = none ∧
    shoalCause 9000 24000 ([] : List Int) ([] : List (Bool × Bool)) ([] : List Bool) wPs4 = some (1, ([] : List Nat)) ∧
    wPs4.sup.dip = false := by
  repeat'
    first
      | exact all_of 14 (by decide +kernel) (by decide +kernel)
      | refine And.intro ?_ ?_
      | decide +kernel

/-- A state and operands that meet what SpindleStarts asks for. -/
theorem test_meets_spindle_starts :
    Active m50 ∧
    bayEnabled m50 (2 : BayId) = true ∧
    (bayAt m50 (2 : BayId)).cway.wg = false ∧
    ((bayAt m50 (2 : BayId)).spin).state = 1 ∧
    (EmfWatch.forward wForward = true ∧ 300 < (watchSpeed m50 (2 : BayId) wForward)) ∧
    ¬ (EmfWatch.forward wBackward = true ∧ 300 < (watchSpeed m50 (2 : BayId) wBackward)) ∧
    (EmfWatch.backward wBackward = true ∨ 30 ≤ (watchSpeed m50 (2 : BayId) wBackward)) ∧
    (bayAt m50 (2 : BayId)).spindleFault = false ∧
    EmfWatch.backward m51 = false ∧
    (watchSpeed m50 (2 : BayId) m51) < 30 ∧
    Active m52 ∧
    bayEnabled m52 (2 : BayId) = true ∧
    (bayAt m52 (2 : BayId)).cway.wg = false ∧
    ((bayAt m52 (2 : BayId)).spin).state = 2 ∧
    Active m53 ∧
    bayEnabled m53 (2 : BayId) = true ∧
    (bayAt m53 (2 : BayId)).cway.wg = false ∧
    ((bayAt m53 (2 : BayId)).spin).state = 3 ∧
    ((bayAt m53 (2 : BayId)).spin).gates = 1 ∧
    ((bayAt m53 (2 : BayId)).spin).sensorless = false ∧
    ((bayAt m53 (2 : BayId)).spin).forced < forcedCount m53 (2 : BayId) ∧
    Active m54 ∧
    bayEnabled m54 (2 : BayId) = true ∧
    (bayAt m54 (2 : BayId)).cway.wg = false ∧
    ((bayAt m54 (2 : BayId)).spin).duePred ≠ 0 ∧
    ((bayAt m54 (2 : BayId)).spin).state = 3 ∧
    ((bayAt m54 (2 : BayId)).spin).gates = 0 ∧
    Active m55 ∧
    bayEnabled m55 (2 : BayId) = true ∧
    (bayAt m55 (2 : BayId)).cway.wg = false ∧
    NoneWaits m55 ∧
    ((bayAt m55 (2 : BayId)).spin).runAt = none ∧
    ((bayAt m55 (2 : BayId)).spin).retries < bnum m55 (2 : BayId) 0x20 0x0C ∧
    ((bayAt m55 (2 : BayId)).spin).state = 3 ∧
    ((bayAt m55 (2 : BayId)).spin).sensorless = false ∧
    ((bayAt m55 (2 : BayId)).spin).gates = 1 ∧
    Active m56 ∧
    bayEnabled m56 (2 : BayId) = true ∧
    (bayAt m56 (2 : BayId)).cway.wg = false ∧
    NoneWaits m56 ∧
    ((bayAt m56 (2 : BayId)).spin).runAt = none ∧
    ((bayAt m56 (2 : BayId)).spin).retries < bnum m56 (2 : BayId) 0x20 0x0C ∧
    ((bayAt m56 (2 : BayId)).spin).state = 4 ∧
    ((bayAt m56 (2 : BayId)).spin).sensorless = true ∧
    ((bayAt m56 (2 : BayId)).spin).crossed = false ∧
    ((bayAt m56 (2 : BayId)).spin).missedRun = 4 ∧
    Active m57 ∧
    bayEnabled m57 (2 : BayId) = true ∧
    (bayAt m57 (2 : BayId)).cway.wg = false ∧
    NoneWaits m57 ∧
    startingCount m57 < 4 ∧
    ((bayAt m57 (2 : BayId)).spin).state = 7 ∧
    ((bayAt m57 (2 : BayId)).spin).retryDue = true ∧
    ((bayAt m57 (2 : BayId)).spin).sensorless = false := by
  repeat'
    first
      | (unfold NoneWaits; decide +kernel)
      | (unfold Active; decide +kernel)
      | refine And.intro ?_ ?_
      | decide +kernel

/-- A state and operands that meet what SpindleRuns asks for. -/
theorem test_meets_spindle_runs :
    Active m59 ∧
    (bayAt m59 (2 : BayId)).cway.wg = false ∧
    ((bayAt m59 (2 : BayId)).spin).sensorless = true ∧
    ((bayAt m59 (2 : BayId)).spin).crossed = false ∧
    crossingState m58 = ((bayAt m59 (2 : BayId)).spin).comm ∧
    ((bayAt m59 (2 : BayId)).spin).comm < 6 ∧
    ((bayAt m59 (2 : BayId)).spin).tPrev ≤ 4 * (m58.t - ((bayAt m59 (2 : BayId)).spin).lastComm) ∧
    Active m60 ∧
    (bayAt m60 (2 : BayId)).cway.wg = false ∧
    ((bayAt m60 (2 : BayId)).spin).duePred ≠ 0 ∧
    ((bayAt m60 (2 : BayId)).spin).sensorless = true ∧
    ((bayAt m60 (2 : BayId)).spin).state = 4 ∧
    NoneWaits m60 ∧
    Active m61 ∧
    (bayAt m61 (2 : BayId)).cway.wg = false ∧
    ((bayAt m61 (2 : BayId)).spin).sensorless = true ∧
    ((bayAt m61 (2 : BayId)).spin).crossed = false ∧
    ((bayAt m61 (2 : BayId)).spin).missedRun < 4 ∧
    NoneWaits m61 ∧
    Active m62 ∧
    (bayAt m62 (2 : BayId)).cway.wg = false ∧
    ((bayAt m62 (2 : BayId)).spin).sensorless = true ∧
    (((bayAt m62 (2 : BayId)).spin).state = 3 ∨ ((bayAt m62 (2 : BayId)).spin).state = 5) ∧
    ((bayAt m62 (2 : BayId)).spin).onTarget = true ∧
    0 < ((bayAt m62 (2 : BayId)).spin).target ∧
    NoneWaits m62 ∧
    Active m63 ∧
    (bayAt m63 (2 : BayId)).cway.wg = false ∧
    ((bayAt m63 (2 : BayId)).spin).sensorless = true ∧
    (((bayAt m63 (2 : BayId)).spin).state = 3 ∨ ((bayAt m63 (2 : BayId)).spin).state = 4) ∧
    ((bayAt m63 (2 : BayId)).spin).duty = bnum m63 (2 : BayId) 0x20 0x0F ∧
    ((bayAt m63 (2 : BayId)).spin).speed * 200 < ((bayAt m63 (2 : BayId)).spin).target * 199 ∧
    NoneWaits m63 ∧
    Active m64 ∧
    (bayAt m64 (2 : BayId)).cway.wg = false ∧
    ((bayAt m64 (2 : BayId)).spin).state = 6 ∧
    ((bayAt m64 (2 : BayId)).spin).brakeHold = false ∧
    Active m65 ∧
    (bayAt m65 (2 : BayId)).cway.wg = false ∧
    ((bayAt m65 (2 : BayId)).spin).state = 7 ∧
    ((bayAt m65 (2 : BayId)).spin).retryDue = false ∧
    ((bayAt m65 (2 : BayId)).spin).dipCoast = false ∧
    (watchSpeed m65 (2 : BayId) m51) < 30 ∧
    NoneWaits m65 ∧
    Active m66 ∧
    (bayAt m66 (2 : BayId)).cway.wg = false ∧
    ((bayAt m66 (2 : BayId)).spin).state = 6 ∧
    ((bayAt m66 (2 : BayId)).spin).brakeHold = true ∧
    ((bayAt m66 (2 : BayId)).spin).waitStart = none ∧
    ((bayAt m66 (2 : BayId)).spin).afterBrake = false ∧
    Active m67 ∧
    (bayAt m67 (2 : BayId)).cway.wg = false ∧
    ((bayAt m67 (2 : BayId)).spin).state = 6 ∧
    ((bayAt m67 (2 : BayId)).spin).brakeHold = true ∧
    ((bayAt m67 (2 : BayId)).spin).waitStart = none ∧
    ((bayAt m67 (2 : BayId)).spin).afterBrake = true ∧
    Active m68 ∧
    (bayAt m68 (2 : BayId)).cway.wg = false ∧
    ((bayAt m68 (2 : BayId)).spin).dipCoast = true := by
  repeat'
    first
      | (unfold NoneWaits; decide +kernel)
      | (unfold Active; decide +kernel)
      | refine And.intro ?_ ?_
      | decide +kernel

/-- A state and operands that meet what LibraryAnswers asks for. -/
theorem test_meets_library_answers :
    Active m69 ∧
    libraryOpen m69 = true ∧
    (bayAt m69 (2 : BayId)).reqSeq < 256 ∧
    clamped (bayAt m69 (2 : BayId)) = false ∧
    Active m70 ∧
    libraryOpen m70 = true ∧
    (bayAt m70 (2 : BayId)).reqSeq < 256 ∧
    clamped (bayAt m70 (2 : BayId)) = true ∧
    (bayAt m70 (2 : BayId)).reqCode = 1 ∧
    discOn m70 (2 : BayId) = some (9, dWaits) ∧
    LeadIn.discState wBlank = 2 ∧
    (NoneWaits m70 ∧ startingCount m70 < 4 ∧ AtRest (bayAt m70 (2 : BayId)).spin) ∧
    Active m71 ∧
    libraryOpen m71 = true ∧
    (bayAt m71 (2 : BayId)).reqSeq < 256 ∧
    clamped (bayAt m71 (2 : BayId)) = true ∧
    (bayAt m71 (2 : BayId)).reqCode = 1 ∧
    (bayAt m71 (2 : BayId)).spin.state = 0 ∧
    (bayAt m71 (2 : BayId)).cway.wg = false ∧
    (LeadIn.discState m72 ≠ 2 ∨ discOn m71 (2 : BayId) = none) ∧
    Active m73 ∧
    libraryOpen m73 = true ∧
    (bayAt m73 (2 : BayId)).reqSeq < 256 ∧
    clamped (bayAt m73 (2 : BayId)) = true ∧
    (bayAt m73 (2 : BayId)).reqCode = 2 ∧
    (bayAt m73 (2 : BayId)).reqReason = 2 ∧
    (NoneWaits m73 ∧ startingCount m73 < 4 ∧ AtRest (bayAt m73 (2 : BayId)).spin) ∧
    Active m74 ∧
    libraryOpen m74 = true ∧
    (bayAt m74 (2 : BayId)).reqSeq < 256 ∧
    clamped (bayAt m74 (2 : BayId)) = true ∧
    (bayAt m74 (2 : BayId)).reqCode = 2 ∧
    (bayAt m74 (2 : BayId)).reqReason ≠ 2 ∧
    (if LeadIn.readable wBlank = true ∧ LeadIn.version wBlank = 1 then LeadIn.serial wBlank else []) = (bayAt m74 (2 : BayId)).reqSerial ∧
    (NoneWaits m74 ∧ startingCount m74 < 4 ∧ AtRest (bayAt m74 (2 : BayId)).spin) ∧
    Active m75 ∧
    libraryOpen m75 = true ∧
    (bayAt m75 (2 : BayId)).reqSeq < 256 ∧
    clamped (bayAt m75 (2 : BayId)) = true ∧
    (bayAt m75 (2 : BayId)).reqCode = 2 ∧
    (bayAt m75 (2 : BayId)).reqReason ≠ 2 ∧
    (if LeadIn.readable m72 = true ∧ LeadIn.version m72 = 1 then LeadIn.serial m72 else []) ≠ (bayAt m75 (2 : BayId)).reqSerial ∧
    (bayAt m75 (2 : BayId)).misread = false ∧
    (bayAt m75 (2 : BayId)).spin.state = 0 ∧
    (bayAt m75 (2 : BayId)).cway.wg = false ∧
    Active m76 ∧
    libraryOpen m76 = true ∧
    (bayAt m76 (2 : BayId)).reqSeq < 256 ∧
    clamped (bayAt m76 (2 : BayId)) = true ∧
    (bayAt m76 (2 : BayId)).reqCode = 2 ∧
    (bayAt m76 (2 : BayId)).reqReason = 3 ∧
    (if LeadIn.readable m72 = true ∧ LeadIn.version m72 = 1 then LeadIn.serial m72 else []) ≠ (bayAt m76 (2 : BayId)).reqSerial ∧
    (bayAt m76 (2 : BayId)).misread = true ∧
    Active m77 ∧
    libraryOpen m77 = true ∧
    (bayAt m77 (2 : BayId)).reqSeq < 256 ∧
    (bayAt m77 (2 : BayId)).reqCode = 3 ∧
    (bayAt m77 (2 : BayId)).present = false ∧
    (discOn m77 (2 : BayId) = none ∧ recallOn m77 (2 : BayId) = none ∧ reconSerial m77 (2 : BayId) = none) ∧
    Active m78 ∧
    libraryOpen m78 = true ∧
    (bayAt m78 (2 : BayId)).reqSeq < 256 ∧
    (bayAt m78 (2 : BayId)).reqCode = 3 ∧
    (bayAt m78 (2 : BayId)).present = false ∧
    discOn m78 (2 : BayId) = some (9, dWaits) ∧ dWaits.resync = false ∧ dWaits.serial = [] ∧
    Active m79 ∧
    libraryOpen m79 = true ∧
    (bayAt m79 (2 : BayId)).reqSeq < 256 ∧
    (bayAt m79 (2 : BayId)).reqCode = 3 ∧
    (bayAt m79 (2 : BayId)).present = false ∧
    discOn m79 (2 : BayId) = none ∧
    recallOn m79 (2 : BayId) = some m80 ∧
    (bayAt m69 (2 : BayId)).reqCode = 1 ∧
    Active m81 ∧
    libraryOpen m81 = true ∧
    (bayAt m81 (2 : BayId)).reqSeq < 256 ∧
    (bayAt m81 (2 : BayId)).reqCode = 2 ∧
    (bayAt m81 (2 : BayId)).reqReason = 2 ∧
    recallOn m81 (2 : BayId) = some m80 ∧
    (bayAt m75 (2 : BayId)).reqReason = 3 ∧
    Active m82 ∧
    libraryOpen m82 = true ∧
    (bayAt m82 (2 : BayId)).reqCode = 1 ∧
    isRecon m82 9 = false ∧
    discOn m82 (2 : BayId) = some (9, dWaits) ∧ setOf m82 9 = some (wSet1 dWaits) ∧ dWaits ∈ (wSet1 dWaits).discs ∧
    Active m83 ∧
    libraryOpen m83 = true ∧
    (bayAt m83 (2 : BayId)).reqCode = 0 ∧
    (bayAt m83 (2 : BayId)).blankDue = true ∧
    isRecon m83 9 = false ∧
    discOn m83 (2 : BayId) = some (9, dWaits) ∧ setOf m83 9 = some (wSet1 dWaits) ∧ dWaits ∈ (wSet1 dWaits).discs ∧
    Active m84 ∧
    libraryOpen m84 = true ∧
    (bayAt m84 (2 : BayId)).reqCode = 3 ∧
    Active wDue ∧
    libraryOpen wDue = true ∧
    (bayAt wDue (2 : BayId)).blankDue = true ∧
    (bayAt wDue (2 : BayId)).reqCode = 0 ∧
    (discOn wDue (2 : BayId) = none ∧ recallOn wDue (2 : BayId) = none ∧ reconSerial wDue (2 : BayId) = none) ∧
    (bayAt m83 (2 : BayId)).present = false ∧
    discOn m83 (2 : BayId) = some (9, dWaits) ∧ dWaits.resync = false ∧ dWaits.serial = [] ∧
    (bayAt wDue (2 : BayId)).unloadDue = some 7 ∧
    (bayAt wDue (2 : BayId)).present = true ∧
    (bayAt wDue (2 : BayId)).spin.state = 0 ∧
    (bayAt wDue (2 : BayId)).cway.wg = false ∧
    Active m85 ∧
    libraryOpen m85 = true ∧
    (bayAt m85 (2 : BayId)).present = false ∧
    (bayAt m85 (2 : BayId)).loaderState ≠ 3 ∧
    Active m86 ∧
    libraryOpen m86 = true ∧
    (bayAt m86 (2 : BayId)).present = false ∧
    (bayAt m86 (2 : BayId)).loaderState = 3 ∧
    (bayAt m86 (2 : BayId)).reqCode = 0 ∧
    (bayAt m86 (2 : BayId)).started = true ∧
    bayEnabled m86 (2 : BayId) = true ∧
    (bayAt m86 (2 : BayId)).spin.state = 0 ∧
    (bayAt m86 (2 : BayId)).cway.wg = false ∧
    aboutToAsk m86 (2 : BayId) (if LeadIn.readable m72 = true ∧ LeadIn.version m72 = 1 then LeadIn.serial m72 else []) = false ∧
    Active m87 ∧
    libraryOpen m87 = true ∧
    (bayAt m87 (2 : BayId)).present = true ∧
    Active m88 ∧
    libraryOpen m88 = true ∧
    (bayAt m88 (2 : BayId)).present = true ∧
    discOn m88 (2 : BayId) = some (9, m89) ∧ setOf m88 9 = some m90 ∧ m89 ∈ m90.discs ∧
    m89.serial ≠ [] ∧
    m89.resync = false := by
  repeat'
    first
      | (rw [wBlank_known]; decide +kernel)
      | with_reducible exact wBlank_state
      | (unfold NoneWaits AtRest; decide +kernel)
      | (unfold Active; decide +kernel)
      | refine And.intro ?_ ?_
      | decide +kernel

/-- A state and operands that meet what CellsArrive asks for. -/
theorem test_meets_cells_arrive :
    Active m91 ∧
    bayEnabled m91 (2 : BayId) = true ∧
    (bayAt m91 (2 : BayId)).cway.state = 2 ∧
    (bayAt m91 (2 : BayId)).cway.wg = false ∧
    cellKnown (wCell [0x14, 8]) = true ∧
    cellType (wCell [0x14, 8]) = 1 ∧
    (((bayAt m91 (2 : BayId)).cway).seqs[(cellByte (wCell [0x14, 8]) 0 % 16)]?).join = some 7 ∧
    ((7 + 1) % 256) = (cellByte (wCell [0x14, 8]) 1) ∧
    cellKnown (wCell [0x14, 9]) = true ∧
    cellType (wCell [0x14, 9]) = 1 ∧
    (((bayAt m91 (2 : BayId)).cway).seqs[(cellByte (wCell [0x14, 9]) 0 % 16)]?).join = some 7 ∧
    ((7 + 1) % 256) ≠ (cellByte (wCell [0x14, 9]) 1) ∧
    4 ≤ (cellByte (wCell [0x14, 9]) 0 % 16) ∧
    ((if 4 ≤ (cellByte (wCell [0x14, 9]) 0 % 16) ∧ (cellByte (wCell [0x14, 9]) 0 % 16) < 8 then takeSamples m91 ((cellByte (wCell [0x14, 9]) 0 % 16) - 4) (cellField (wCell [0x14, 9]) 4 4) (cellSamples (wCell [0x14, 9])) ((fun (sc : Nat) => { (bayAt m91 (2 : BayId)) with cway := { ((bayAt m91 (2 : BayId)).cway) with sc := sc % 2 ^ 32, scAt := nowPs m91 - 1000 * (bayAt m91 (2 : BayId)).tb.delay } }) ((cellField (wCell [0x14, 9]) 4 4) + cellByte (wCell [0x14, 9]) 2 - 1)) else ((fun (sc : Nat) => { (bayAt m91 (2 : BayId)) with cway := { ((bayAt m91 (2 : BayId)).cway) with sc := sc % 2 ^ 32, scAt := nowPs m91 - 1000 * (bayAt m91 (2 : BayId)).tb.delay } }) ((cellField (wCell [0x14, 9]) 4 4) + cellByte (wCell [0x14, 9]) 2 - 1))).chan.gaps.contains ((cellByte (wCell [0x14, 9]) 0 % 16) - 4) = false) ∧
    Active m92 ∧
    bayEnabled m92 (2 : BayId) = true ∧
    (bayAt m92 (2 : BayId)).cway.state = 2 ∧
    (bayAt m92 (2 : BayId)).cway.wg = false ∧
    cellKnown ([0x14, 9] : List Byte) = false ∧
    (({ (bayAt m92 (2 : BayId)) with cway := { ((bayAt m92 (2 : BayId)).cway) with upErrors := satAdd 4294967295 ((bayAt m92 (2 : BayId)).cway).upErrors 1, errorsAt := (m92.clock :: ((bayAt m92 (2 : BayId)).cway).errorsAt.filter fun t => decide (m92.clock < t + usCycles 10000)).take 256 } }).cway.errorsAt.length ≤ bnum m92 (2 : BayId) 0x70 0x0C) ∧
    Active m93 ∧
    bayEnabled m93 (2 : BayId) = true ∧
    (bayAt m93 (2 : BayId)).cway.state = 2 ∧
    (bayAt m93 (2 : BayId)).cway.wg = false ∧
    cellKnown (wCell [0x20, 9, 0, 0, 0, 0, 0, 0, 5, 0, 0xFF, 0xFF]) = true ∧
    cellType (wCell [0x20, 9, 0, 0, 0, 0, 0, 0, 5, 0, 0xFF, 0xFF]) = 2 ∧
    (bayAt m93 (2 : BayId)).servo.cellSeq = some 8 ∧
    (cellByte (wCell [0x20, 9, 0, 0, 0, 0, 0, 0, 5, 0, 0xFF, 0xFF]) 1) = ((8 + 1) % 256) ∧
    8 < 256 ∧
    cellKnown (wCell [0x20, 11]) = true ∧
    cellType (wCell [0x20, 11]) = 2 ∧
    2 ≤ ((cellByte (wCell [0x20, 11]) 1) + 255 - 8) % 256 ∧
    cellKnown (wCell [0x30, 0, 1, 2, 0, 0, 3, 5]) = true ∧
    cellType (wCell [0x30, 0, 1, 2, 0, 0, 3, 5]) = 3 ∧
    cellField (wCell [0x30, 0, 1, 2, 0, 0, 3, 5]) 4 2 = ((bayAt m92 (2 : BayId)).cway).faults.toNat ∧
    cellField (wCell [0x30, 0, 1, 2, 0, 0, 3, 5]) 14 2 ≤ ((bayAt m92 (2 : BayId)).cway).dnSeen ∧
    cellByte (wCell [0x30, 0, 1, 2, 0, 0, 3, 5]) 2 ≠ 0 ∧
    ((bayAt m92 (2 : BayId)).cway).regQueue = [] := by
  repeat'
    first
      | (unfold Active; decide +kernel)
      | refine And.intro ?_ ?_
      | decide +kernel

/-- A state and operands that meet what LinkTrains asks for. -/
theorem test_meets_link_trains :
    Active m94 ∧
    bayEnabled m94 (2 : BayId) = true ∧
    (bayAt m94 (2 : BayId)).cway.wg = false ∧
    ((bayAt m94 (2 : BayId)).cway).state = 1 ∧
    ((bayAt m94 (2 : BayId)).cway).retraining = false ∧
    (identityRead ([wIdentity] : List (List Byte)) = some wIdentity ∧ identityOk wIdentity = true ∧ lanesOk (2 : BayId) (wSets 2) = true ∧ 90 ≤ 200000) ∧
    identitySerial wIdentity = ((bayAt m94 (2 : BayId)).cway).serial ∧
    Active m95 ∧
    bayEnabled m95 (2 : BayId) = true ∧
    (bayAt m95 (2 : BayId)).cway.wg = false ∧
    ((bayAt m95 (2 : BayId)).cway).state = 1 ∧
    ((bayAt m95 (2 : BayId)).cway).retraining = false ∧
    identitySerial wIdentity ≠ ((bayAt m95 (2 : BayId)).cway).serial ∧
    (∀ x : List Byte, identityRead ([wIdentity] : List (List Byte)) = some x → identityOk x = false ∨ lanesOk (2 : BayId) (wSets 3) = false ∨ 200000 < 90) ∧
    ((bayAt m94 (2 : BayId)).cway).attempts < 2 ∧
    Active m96 ∧
    bayEnabled m96 (2 : BayId) = true ∧
    (bayAt m96 (2 : BayId)).cway.wg = false ∧
    ((bayAt m96 (2 : BayId)).cway).state = 1 ∧
    ((bayAt m96 (2 : BayId)).cway).retraining = false ∧
    ((bayAt m96 (2 : BayId)).cway).attempts = 2 ∧
    Active m97 ∧
    bayEnabled m97 (2 : BayId) = true ∧
    (bayAt m97 (2 : BayId)).cway.wg = false ∧
    ((bayAt m97 (2 : BayId)).cway).state = 2 ∧
    (bayAt m97 (2 : BayId)).servo.closed 0 = false ∧
    identitySerial wIdentity = ((bayAt m97 (2 : BayId)).cway).serial ∧
    Active m98 ∧
    bayEnabled m98 (2 : BayId) = true ∧
    (bayAt m98 (2 : BayId)).cway.wg = false ∧
    ((bayAt m98 (2 : BayId)).cway).regOut = some (0, 1, 3) ∧
    3 < 8 ∧
    Active m99 ∧
    bayEnabled m99 (2 : BayId) = true ∧
    (bayAt m99 (2 : BayId)).cway.wg = false ∧
    ((bayAt m99 (2 : BayId)).cway).state = 2 ∧
    ((bayAt m99 (2 : BayId)).cway).faults = 0 ∧
    (0x0008#16) &&& 0x00F3#16 = 0 ∧
    (0x0008#16) &&& 0x000C#16 ≠ 0 ∧
    Active m100 ∧
    bayEnabled m100 (2 : BayId) = true ∧
    (bayAt m100 (2 : BayId)).cway.wg = false ∧
    ((bayAt m100 (2 : BayId)).cway).state = 2 ∧
    ((bayAt m100 (2 : BayId)).cway).faults &&& 0x0003#16 ≠ 0 ∧
    ((bayAt m100 (2 : BayId)).cway).faults &&& 0x000C#16 = 0 ∧
    (bayAt m100 (2 : BayId)).harbour = false ∧
    ((bayAt m100 (2 : BayId)).cway).regOut = none := by
  repeat'
    first
      | (unfold Active; decide +kernel)
      | refine And.intro ?_ ?_
      | decide +kernel

/-- A state and operands that meet what WindowsAndCommits asks for. -/
theorem test_meets_windows_and_commits :
    Active m101 ∧
    bayEnabled m101 (2 : BayId) = true ∧
    (bayAt m101 (2 : BayId)).cway.wg = false ∧
    ((bayAt m101 (2 : BayId)).tb).state = 1 ∧
    parityOk 6 (placeCand (bayAt m101 (2 : BayId)) (wCand 100)).layer = true ∧
    parityOk 11 (placeCand (bayAt m101 (2 : BayId)) (wCand 100)).wedge = true ∧
    lockFits (bayAt m101 (2 : BayId)).spin.speed ((((placeCand (bayAt m101 (2 : BayId)) (wCand 100)).wedge / 2, (placeCand (bayAt m101 (2 : BayId)) (wCand 100)).t) :: ((bayAt m101 (2 : BayId)).tb).lockRun).take 3) = false ∧
    Active m102 ∧
    bayEnabled m102 (2 : BayId) = true ∧
    (bayAt m102 (2 : BayId)).cway.wg = false ∧
    ((bayAt m102 (2 : BayId)).tb).state = 1 ∧
    parityOk 6 (placeCand (bayAt m102 (2 : BayId)) (wCand 18361112)).layer = true ∧
    parityOk 11 (placeCand (bayAt m102 (2 : BayId)) (wCand 18361112)).wedge = true ∧
    lockFits (bayAt m102 (2 : BayId)).spin.speed ((((placeCand (bayAt m102 (2 : BayId)) (wCand 18361112)).wedge / 2, (placeCand (bayAt m102 (2 : BayId)) (wCand 18361112)).t) :: ((bayAt m102 (2 : BayId)).tb).lockRun).take 3) = true ∧
    ((bayAt m102 (2 : BayId)).servo).confirming = false ∧
    Active m103 ∧
    bayEnabled m103 (2 : BayId) = true ∧
    (bayAt m103 (2 : BayId)).cway.wg = false ∧
    (((bayAt m103 (2 : BayId)).tb).state = 2 ∨ ((bayAt m103 (2 : BayId)).tb).state = 3) ∧
    ((bayAt m103 (2 : BayId)).tb).closed = none ∧
    (∀ c ∈ ([wCand 100200000] : List Cand), insideWindow ((bayAt m103 (2 : BayId)).tb) (placeCand (bayAt m103 (2 : BayId)) c) = false) ∧
    (wCand 100100000).spot < 4 ∧
    bnum m103 (2 : BayId) 0x80 3 ≤ (wCand 100100000).corr ∧
    insideWindow ((bayAt m103 (2 : BayId)).tb) (placeCand (bayAt m103 (2 : BayId)) (wCand 100100000)) = true ∧
    candFails ((bayAt m103 (2 : BayId)).servo) ((bayAt m103 (2 : BayId)).tb) (placeCand (bayAt m103 (2 : BayId)) (wCand 100100000)) = 0 ∧
    Active m104 ∧
    bayEnabled m104 (2 : BayId) = true ∧
    (bayAt m104 (2 : BayId)).cway.wg = false ∧
    (((bayAt m104 (2 : BayId)).tb).state = 2 ∨ ((bayAt m104 (2 : BayId)).tb).state = 3) ∧
    ((bayAt m104 (2 : BayId)).servo).closed 0 = false ∧
    ((bayAt m104 (2 : BayId)).servo).closed 1 = false ∧
    ((bayAt m104 (2 : BayId)).servo).state < 4 ∧
    ((bayAt m104 (2 : BayId)).tb).closed = some (some 100002560) ∧
    Active m105 ∧
    bayEnabled m105 (2 : BayId) = true ∧
    (bayAt m105 (2 : BayId)).cway.wg = false ∧
    (((bayAt m105 (2 : BayId)).tb).state = 2 ∨ ((bayAt m105 (2 : BayId)).tb).state = 3) ∧
    ((bayAt m105 (2 : BayId)).servo).closed 0 = false ∧
    ((bayAt m105 (2 : BayId)).servo).closed 1 = false ∧
    ((bayAt m105 (2 : BayId)).servo).state < 4 ∧
    ((bayAt m105 (2 : BayId)).tb).closed = some none ∧
    ((bayAt m105 (2 : BayId)).tb).missed + 1 < ((bayAt m105 (2 : BayId)).tb).coastLim ∧
    Active m106 ∧
    bayEnabled m106 (2 : BayId) = true ∧
    (bayAt m106 (2 : BayId)).cway.wg = false ∧
    (((bayAt m106 (2 : BayId)).tb).state = 2 ∨ ((bayAt m106 (2 : BayId)).tb).state = 3) ∧
    ((bayAt m106 (2 : BayId)).servo).closed 0 = false ∧
    ((bayAt m106 (2 : BayId)).servo).closed 1 = false ∧
    ((bayAt m106 (2 : BayId)).servo).state < 4 ∧
    ((bayAt m106 (2 : BayId)).tb).closed = some none ∧
    ((bayAt m106 (2 : BayId)).tb).coastLim ≤ ((bayAt m106 (2 : BayId)).tb).missed + 1 := by
  repeat'
    first
      | (unfold Active; decide +kernel)
      | refine And.intro ?_ ?_
      | decide +kernel

/-- A state and operands that meet what FiringAndEncoder asks for. -/
theorem test_meets_firing_and_encoder :
    Active m107 ∧
    bayEnabled m107 (2 : BayId) = true ∧
    ((bayAt m107 (2 : BayId)).tb).queue = (⟨500, 1, 0⟩ : QEvent) :: ([] : List QEvent) ∧
    (⟨500, 1, 0⟩ : QEvent).kind = 1 ∧
    Active m108 ∧
    bayEnabled m108 (2 : BayId) = true ∧
    ((bayAt m108 (2 : BayId)).tb).queue = (⟨500, 2, 9⟩ : QEvent) :: ([] : List QEvent) ∧
    (⟨500, 2, 9⟩ : QEvent).kind = 2 ∧
    Active m109 ∧
    bayEnabled m109 (2 : BayId) = true ∧
    ((bayAt m109 (2 : BayId)).tb).queue = (⟨500, 3, 0⟩ : QEvent) :: ([] : List QEvent) ∧
    (⟨500, 3, 0⟩ : QEvent).kind = 3 ∧
    Active m110 ∧
    bayEnabled m110 (2 : BayId) = true ∧
    ((bayAt m110 (2 : BayId)).tb).queue = (⟨500, 4, 1⟩ : QEvent) :: ([] : List QEvent) ∧
    (⟨500, 4, 1⟩ : QEvent).kind = 4 ∧
    (bayAt m110 (2 : BayId)).servo.loops[(⟨500, 4, 1⟩ : QEvent).arg]? = some m111 ∧
    m111.next = some 7 ∧
    Active wGate ∧
    bayEnabled wGate (2 : BayId) = true ∧
    ((bayAt wGate (2 : BayId)).tb).queue = (⟨500, 5, 0⟩ : QEvent) :: ([] : List QEvent) ∧
    (⟨500, 5, 0⟩ : QEvent).kind = 5 ∧
    mayRaiseGate wGate (2 : BayId) = true ∧
    Active m112 ∧
    bayEnabled m112 (2 : BayId) = true ∧
    ((bayAt m112 (2 : BayId)).tb).queue = (⟨500, 5, 0⟩ : QEvent) :: ([] : List QEvent) ∧
    mayRaiseGate m112 (2 : BayId) = false ∧
    Active m113 ∧
    bayEnabled m113 (2 : BayId) = true ∧
    bnum m113 (2 : BayId) 0x80 0x0C = 1 ∧
    (((((bayAt m113 (2 : BayId)).tb).encoder + (quadStep ((bayAt m113 (2 : BayId)).tb).encAB (false.toNat * 2 + true.toNat)).getD 0) - ((bayAt m113 (2 : BayId)).tb).encBase).natAbs ≤ (encLimit (bnum m113 (2 : BayId) 0x80 0x0D)) ∧ ∀ p ∈ ((bayAt m113 (2 : BayId)).tb).encHist, ((((bayAt m113 (2 : BayId)).tb).encoder + (quadStep ((bayAt m113 (2 : BayId)).tb).encAB (false.toNat * 2 + true.toNat)).getD 0) - p.2).natAbs ≤ (encLimit (bnum m113 (2 : BayId) 0x80 0x0D))) ∧
    (quadStep ((bayAt m113 (2 : BayId)).tb).encAB (false.toNat * 2 + true.toNat)) = some 1 ∧
    Active m114 ∧
    bayEnabled m114 (2 : BayId) = true ∧
    bnum m114 (2 : BayId) 0x80 0x0C = 1 ∧
    (((((bayAt m114 (2 : BayId)).tb).encoder + (quadStep ((bayAt m114 (2 : BayId)).tb).encAB (true.toNat * 2 + true.toNat)).getD 0) - ((bayAt m114 (2 : BayId)).tb).encBase).natAbs ≤ (encLimit (bnum m114 (2 : BayId) 0x80 0x0D)) ∧ ∀ p ∈ ((bayAt m114 (2 : BayId)).tb).encHist, ((((bayAt m114 (2 : BayId)).tb).encoder + (quadStep ((bayAt m114 (2 : BayId)).tb).encAB (true.toNat * 2 + true.toNat)).getD 0) - p.2).natAbs ≤ (encLimit (bnum m114 (2 : BayId) 0x80 0x0D))) ∧
    (quadStep ((bayAt m114 (2 : BayId)).tb).encAB (true.toNat * 2 + true.toNat)) = none ∧
    ((bayAt m114 (2 : BayId)).tb).encSkipAt = none ∧
    Active m115 ∧
    bayEnabled m115 (2 : BayId) = true ∧
    bnum m115 (2 : BayId) 0x80 0x0C = 1 ∧
    (((((bayAt m115 (2 : BayId)).tb).encoder + (quadStep ((bayAt m115 (2 : BayId)).tb).encAB (true.toNat * 2 + true.toNat)).getD 0) - ((bayAt m115 (2 : BayId)).tb).encBase).natAbs ≤ (encLimit (bnum m115 (2 : BayId) 0x80 0x0D)) ∧ ∀ p ∈ ((bayAt m115 (2 : BayId)).tb).encHist, ((((bayAt m115 (2 : BayId)).tb).encoder + (quadStep ((bayAt m115 (2 : BayId)).tb).encAB (true.toNat * 2 + true.toNat)).getD 0) - p.2).natAbs ≤ (encLimit (bnum m115 (2 : BayId) 0x80 0x0D))) ∧
    (quadStep ((bayAt m115 (2 : BayId)).tb).encAB (true.toNat * 2 + true.toNat)) = none ∧
    ((bayAt m115 (2 : BayId)).tb).encSkipAt = some 0 ∧
    ((bayAt m115 (2 : BayId)).tb).encAt + max 1 1 < 0 + 1024 ∧
    ((bayAt m115 (2 : BayId)).tb).uncertain = false := by
  repeat'
    first
      | (unfold Active; decide +kernel)
      | refine And.intro ?_ ?_
      | decide +kernel

/-- A state and operands that meet what FocusMoves asks for. -/
theorem test_meets_focus_moves :
    Active m116 ∧
    bayEnabled m116 (2 : BayId) = true ∧
    (bayAt m116 (2 : BayId)).harbour = false ∧
    (bayAt m116 (2 : BayId)).cway.wg = false ∧
    0 < 24 ∧
    ((bayAt m116 (2 : BayId)).servo).closed 0 = false ∧
    captureReady m116 (2 : BayId) 0 = true ∧
    Active m117 ∧
    bayEnabled m117 (2 : BayId) = true ∧
    (bayAt m117 (2 : BayId)).harbour = false ∧
    (bayAt m117 (2 : BayId)).cway.wg = false ∧
    ((bayAt m117 (2 : BayId)).servo).closed 0 = false ∧
    captureReady m117 (2 : BayId) 0 = false ∧
    Active m118 ∧
    bayEnabled m118 (2 : BayId) = true ∧
    (bayAt m118 (2 : BayId)).harbour = false ∧
    (bayAt m118 (2 : BayId)).cway.wg = false ∧
    ((bayAt m118 (2 : BayId)).servo).state = 2 ∧
    ((bayAt m118 (2 : BayId)).servo).closed 0 = true ∧
    ((bayAt m118 (2 : BayId)).servo).attempts + 1 < bnum m118 (2 : BayId) 0x10 0x0A ∧
    Active m119 ∧
    bayEnabled m119 (2 : BayId) = true ∧
    (bayAt m119 (2 : BayId)).harbour = false ∧
    (bayAt m119 (2 : BayId)).cway.wg = false ∧
    ((bayAt m119 (2 : BayId)).servo).state = 2 ∧
    ((bayAt m119 (2 : BayId)).servo).closed 0 = true ∧
    bnum m119 (2 : BayId) 0x10 0x0A ≤ ((bayAt m119 (2 : BayId)).servo).attempts + 1 ∧
    Active m120 ∧
    bayEnabled m120 (2 : BayId) = true ∧
    (bayAt m120 (2 : BayId)).harbour = false ∧
    (bayAt m120 (2 : BayId)).cway.wg = false ∧
    7 < 24 ∧
    ((bayAt m120 (2 : BayId)).servo).closed 0 = true ∧
    ((bayAt m120 (2 : BayId)).servo).layer ≠ 255 ∧
    ((bayAt m120 (2 : BayId)).servo).layer ≠ 7 ∧
    ((bayAt m120 (2 : BayId)).servo).state ≠ 5 ∧
    -1704 ≤ 1 ∧
    1 ≤ 39207 ∧
    (bayAt m120 (2 : BayId)).tb.state = 2 ∧
    (4 * 1 - ((bayAt m120 (2 : BayId)).servo).unwrapped / 65536).natAbs ≤ 256 ∧
    -1704 ≤ 100 ∧
    100 ≤ 39207 ∧
    256 < (4 * 100 - ((bayAt m120 (2 : BayId)).servo).unwrapped / 65536).natAbs := by
  repeat'
    first
      | (unfold Active; decide +kernel)
      | refine And.intro ?_ ?_
      | decide +kernel

/-- A state and operands that meet what ServoWork asks for. -/
theorem test_meets_servo_work :
    Active wWriting ∧
    bayEnabled wWriting (2 : BayId) = true ∧
    (bayAt wWriting (2 : BayId)).harbour = false ∧
    ((bayAt wWriting (2 : BayId)).work = 3 ∨ (bayAt wWriting (2 : BayId)).work = 5) ∧
    writeReady wWriting (2 : BayId) = true ∧
    Active m121 ∧
    bayEnabled m121 (2 : BayId) = true ∧
    (bayAt m121 (2 : BayId)).harbour = false ∧
    ((bayAt m121 (2 : BayId)).work = 3 ∨ (bayAt m121 (2 : BayId)).work = 5) ∧
    writeReady m121 (2 : BayId) = false ∧
    Active m122 ∧
    bayEnabled m122 (2 : BayId) = true ∧
    1 ≤ 2 ∧
    2 ≤ 5 ∧
    3 < 24 ∧
    calReady m122 (2 : BayId) 2 (wTrials (-50)) = true ∧
    calResult ((bayAt m122 (2 : BayId)).servo) 2 (wTrials (-50)) = some (-50 : Int) ∧
    calBounds m122 (2 : BayId) 2 3 (wTrials (-50)) (-50 : Int) = true ∧
    recordWrite (2 : BayId) 2 (wTrials (-50)) (-50 : Int) m122 = (true, m122) ∧
    calReady m122 (2 : BayId) 2 m123 = true ∧
    calResult ((bayAt m122 (2 : BayId)).servo) 2 m123 = some (-50 : Int) ∧
    calBounds m122 (2 : BayId) 2 3 m123 (-50 : Int) = true ∧
    (recordWrite (2 : BayId) 2 m123 (-50 : Int) m122).1 = false ∧
    Active m124 ∧
    bayEnabled m124 (2 : BayId) = true ∧
    calReady m124 (2 : BayId) 2 (wTrials 401) = true ∧
    (∀ x : Int, calResult ((bayAt m124 (2 : BayId)).servo) 2 (wTrials 401) = some x → calBounds m124 (2 : BayId) 2 3 (wTrials 401) x = false) ∧
    calReady m124 (2 : BayId) 2 m125 = false ∧
    Active wBays ∧
    bayEnabled wBays (2 : BayId) = true ∧
    5 < 7 ∧
    (bayAt wBays (2 : BayId)).cway.wg = false ∧
    ((bayAt wBays (2 : BayId)).servo).loops[5]? = some m126 ∧
    (5 ≠ 0 ∨ ((bayAt wBays (2 : BayId)).servo).focusRuns < 2) ∧
    Active m127 ∧
    bayEnabled m127 (2 : BayId) = true ∧
    0 < 7 ∧
    (bayAt m127 (2 : BayId)).cway.wg = false ∧
    ((bayAt m127 (2 : BayId)).servo).loops[0]? = some wClosed ∧
    0 = 0 ∧
    2 ≤ ((bayAt m127 (2 : BayId)).servo).focusRuns ∧
    wClosed.isOpen = false ∧
    Active wOne ∧
    bayEnabled wOne (2 : BayId) = true ∧
    (∀ x : BayId, x ≠ (2 : BayId) → (bayAt wOne x).started = false) ∧
    (bayAt wOne (2 : BayId)).started = true ∧
    (bayAt wOne (2 : BayId)).cway.state ≠ 2 ∧
    ((bayAt wOne (2 : BayId)).servo).wedgeDue = none ∧
    ((bayAt wOne (2 : BayId)).servo).state = 1 ∧
    ((bayAt wOne (2 : BayId)).servo).prof.on = false ∧
    ((bayAt wOne (2 : BayId)).servo).loops[0]? = some m128 ∧
    m128.isOpen = true ∧
    m128.shadow = some ([7] : List Byte) := by
  repeat'
    first
      | (unfold Active; decide +kernel)
      | refine And.intro ?_ ?_
      | decide +kernel

/-- A state and operands that meet what DiscWriting asks for. -/
theorem test_meets_disc_writing :
    Active m129 ∧
    bayEnabled m129 (2 : BayId) = true ∧
    writingOn m129 (2 : BayId) = some ((wSet wDisc), wDisc) ∧
    nextRow (wSet wDisc).plan wDisc = some (5, (dataRow 0 5)) ∧
    wDisc.staged ≠ 0 ∧
    ((bayAt m129 (2 : BayId)).chan).rowActive = false ∧
    ((bayAt m129 (2 : BayId)).chan).resumeFrom = none ∧
    mayWrite m129 (2 : BayId) (wSet wDisc) wDisc 5 = true ∧
    Active m131 ∧
    bayEnabled m131 (2 : BayId) = true ∧
    writingOn m131 (2 : BayId) = some ((wSet wDisc), wDisc) ∧
    ((bayAt m131 (2 : BayId)).chan).frames[0]? = some m132 ∧
    ((bayAt m131 (2 : BayId)).chan).frames[1]? = some m133 ∧
    1 ≠ 0 ∧
    m133.st < 3 ∧
    ((bayAt m131 (2 : BayId)).chan).rowActive = true ∧
    ((bayAt m131 (2 : BayId)).chan).resumeFrom = none ∧
    m132.st < 3 ∧
    ((bayAt m131 (2 : BayId)).chan).rowStart + m132.start + unitsOfNs (bayAt m131 (2 : BayId)).tb (bayAt m131 (2 : BayId)).cway.latency ≤ (presentAngle m131 (2 : BayId)) ∧
    (bayAt m131 (2 : BayId)).cway.wg = false ∧
    (criterion m131 (2 : BayId) (tableTarget (rowTable m131 (2 : BayId) (wSet wDisc) wDisc.layer ((bayAt m131 (2 : BayId)).chan).rowOf)) (((bayAt m131 (2 : BayId)).chan).gaps.contains m132.spot) ((bayAt m131 (2 : BayId)).chan).rx m132 m130) = 0 ∧
    Active m135 ∧
    bayEnabled m135 (2 : BayId) = true ∧
    writingOn m135 (2 : BayId) = some ((wSet wDisc), wDisc) ∧
    ((bayAt m135 (2 : BayId)).chan).frames[0]? = some m132 ∧
    ((bayAt m135 (2 : BayId)).chan).frames[1]? = some m133 ∧
    ((bayAt m135 (2 : BayId)).chan).rowActive = true ∧
    ((bayAt m135 (2 : BayId)).chan).resumeFrom = none ∧
    ((bayAt m135 (2 : BayId)).chan).rowStart + m132.start + unitsOfNs (bayAt m135 (2 : BayId)).tb (bayAt m135 (2 : BayId)).cway.latency ≤ (presentAngle m135 (2 : BayId)) ∧
    (bayAt m135 (2 : BayId)).cway.wg = false ∧
    (criterion m135 (2 : BayId) (tableTarget (rowTable m135 (2 : BayId) (wSet wDisc) wDisc.layer ((bayAt m135 (2 : BayId)).chan).rowOf)) (((bayAt m135 (2 : BayId)).chan).gaps.contains m132.spot) ((bayAt m135 (2 : BayId)).chan).rx m132 m134) ≠ 0 ∧
    m132.slips = true ∧
    ((wSet wDisc).discs.find? (fun x => x.role == wDisc.role) = some wDisc) ∧
    wDisc.slot < reserveSlots ∧
    ((bayAt m135 (2 : BayId)).chan).runFail.getD m132.spot 0 < 7 ∧
    4 * (((bayAt m135 (2 : BayId)).chan).rowFail + 1) ≤ ((bayAt m135 (2 : BayId)).chan).frames.length ∧
    m132.spot < ((bayAt m135 (2 : BayId)).chan).runFail.length ∧
    Active m136 ∧
    bayEnabled m136 (2 : BayId) = true ∧
    writingOn m136 (2 : BayId) = some ((wSet wDisc), wDisc) ∧
    ((bayAt m136 (2 : BayId)).chan).frames[0]? = some m137 ∧
    ((bayAt m136 (2 : BayId)).chan).frames[1]? = some m133 ∧
    ((bayAt m136 (2 : BayId)).chan).rowActive = true ∧
    ((bayAt m136 (2 : BayId)).chan).resumeFrom = none ∧
    m137.st < 3 ∧
    ((bayAt m136 (2 : BayId)).chan).rowStart + m137.start + unitsOfNs (bayAt m136 (2 : BayId)).tb (bayAt m136 (2 : BayId)).cway.latency ≤ (presentAngle m136 (2 : BayId)) ∧
    (bayAt m136 (2 : BayId)).cway.wg = false ∧
    (criterion m136 (2 : BayId) (tableTarget (rowTable m136 (2 : BayId) (wSet wDisc) wDisc.layer ((bayAt m136 (2 : BayId)).chan).rowOf)) (((bayAt m136 (2 : BayId)).chan).gaps.contains m137.spot) ((bayAt m136 (2 : BayId)).chan).rx m137 m134) ≠ 0 ∧
    m137.slips = false ∧
    ((bayAt m136 (2 : BayId)).chan).runFail.getD m137.spot 0 = 7 ∧
    m137.spot < ((bayAt m136 (2 : BayId)).chan).runFail.length ∧
    Active m138 ∧
    bayEnabled m138 (2 : BayId) = true ∧
    writingOn m138 (2 : BayId) = some ((wSet wDisc), wDisc) ∧
    rowEnded ((bayAt m138 (2 : BayId)).chan) = false ∧
    ((bayAt m138 (2 : BayId)).chan).resumeFrom = some 1 ∧
    resumeOffset ((bayAt m138 (2 : BayId)).chan).frames = some m139 ∧
    (bayAt m138 (2 : BayId)).cway.wg = false ∧
    mayWrite m138 (2 : BayId) (wSet wDisc) wDisc ((bayAt m138 (2 : BayId)).chan).rowOf = true := by
  repeat'
    first
      | (unfold Active; decide +kernel)
      | refine And.intro ?_ ?_
      | decide +kernel

/-- A state and operands that meet what OpcAndReads asks for. -/
theorem test_meets_opc_and_reads :
    Active wOpc ∧
    bayEnabled wOpc (2 : BayId) = true ∧
    1 < 24 ∧
    ((bayAt wOpc (2 : BayId)).chan).rejects.getD 1 0 < 4 ∧
    opcMayRun wOpc (2 : BayId) 1 = false ∧
    0 < 24 ∧
    ((bayAt wOpc (2 : BayId)).chan).rejects.getD 0 0 < 4 ∧
    opcMayRun wOpc (2 : BayId) 0 = true ∧
    opcAccepts wOpc (2 : BayId) 0 wRise = some ((opcAccepts wOpc 2 0 wRise).getD 0) ∧
    opcAccepts wOpc (2 : BayId) 0 ([] : List OpcStep) = none ∧
    mayRead wOpc (2 : BayId) = true ∧
    readOk wOpc (2 : BayId) 0 wFiller = true ∧
    readOk wOpc (2 : BayId) 0 ([] : List Byte) = false ∧
    Active m140 ∧
    bayEnabled m140 (2 : BayId) = true ∧
    mayRead m140 (2 : BayId) = true ∧
    ((bayAt m140 (2 : BayId)).chan).step2 ≠ 0 ∧
    readOk m140 (2 : BayId) ((bayAt m140 (2 : BayId)).chan).ladderAt wFiller = true ∧
    (((bayAt m140 (2 : BayId)).chan).step2 = 1 ∨ ((bayAt m140 (2 : BayId)).chan).step2 = 2) ∧
    readOk m140 (2 : BayId) ((bayAt m140 (2 : BayId)).chan).ladderAt ([] : List Byte) = false ∧
    Active m141 ∧
    bayEnabled m141 (2 : BayId) = true ∧
    mayRead m141 (2 : BayId) = true ∧
    ((bayAt m141 (2 : BayId)).chan).step2 = 3 ∧
    readOk m141 (2 : BayId) ((bayAt m141 (2 : BayId)).chan).ladderAt ([] : List Byte) = false ∧
    Active wBays ∧
    bayEnabled wBays (2 : BayId) = true ∧
    (∀ q ∈ wBays.ebb.recalls, q.bay = some (2 : BayId) → q.full = false → othersReady wBays q = true) ∧
    (rebuildFrame 1 0 (m142.filterMap fun x => (sourceFrame wBays (2 : BayId) 0 x).map fun p => (x.role, p.2)) = some ([5] : List Byte)) ∧
    rebuiltOk wBays (2 : BayId) 0 0 ([5] : List Byte) = true ∧
    (∀ f : List Byte, rebuildFrame 4 0 (([] : List SourceRead).filterMap fun x => (sourceFrame wBays (2 : BayId) 0 x).map fun p => (x.role, p.2)) = some f → rebuiltOk wBays (2 : BayId) 0 0 f = false) ∧
    ((wBays.ebb.recalls.find? fun q => q.bay == some (2 : BayId) && q.step4 && !q.full) = none) ∧
    ¬ ((wBays.ebb.recon).status = 2 ∧ (wBays.ebb.recon).role = 0 ∧ (wBays.ebb.recon).bays.contains (2 : BayId) = true) ∧
    Active m143 ∧
    bayEnabled m143 (2 : BayId) = true ∧
    (∀ q ∈ m143.ebb.recalls, q.bay = some (2 : BayId) → q.full = false → othersReady m143 q = true) ∧
    (∀ f : List Byte, rebuildFrame 4 0 (([] : List SourceRead).filterMap fun x => (sourceFrame m143 (2 : BayId) 0 x).map fun p => (x.role, p.2)) = some f → rebuiltOk m143 (2 : BayId) 0 0 f = false) ∧
    ((m143.ebb.recalls.find? fun q => q.bay == some (2 : BayId) && q.step4 && !q.full) = none) ∧
    ((m143.ebb.recon).status = 2 ∧ (m143.ebb.recon).role = 0 ∧ (m143.ebb.recon).bays.contains (2 : BayId) = true) ∧
    Active wStep4 ∧
    bayEnabled wStep4 (2 : BayId) = true ∧
    (∀ m144 ∈ wStep4.ebb.recalls, m144.bay = some (2 : BayId) → m144.full = false → othersReady wStep4 m144 = true) ∧
    (∀ f : List Byte, rebuildFrame 4 0 (([] : List SourceRead).filterMap fun x => (sourceFrame wStep4 (2 : BayId) 0 x).map fun p => (x.role, p.2)) = some f → rebuiltOk wStep4 (2 : BayId) 0 0 f = false) ∧
    ((wStep4.ebb.recalls.find? fun m144 => m144.bay == some (2 : BayId) && m144.step4 && !m144.full) = some m144) ∧
    (∀ q ∈ (wRecall { loaded := true } yRead).ebb.recalls, q.bay = some 2 → q.full = false → othersReady (wRecall { loaded := true } yRead) q = false) := by
  repeat'
    first
      | (unfold Active; decide +kernel)
      | refine And.intro ?_ ?_
      | decide +kernel

/-- A state and operands that meet what PlanCommands asks for. -/
theorem test_meets_plan_commands :
    Active wDrain ∧
    setWidth wDrain = some 14 ∧
    wDrain.ebb.building = none ∧
    wDrain.tierState ≠ 2 ∧
    wDrain.ebb.plans.length < num wDrain 0x2810 5 ∧
    (placeAll wDrain 14).extents ≠ [] ∧
    wDrain.ebb.nextSet ≤ 0xFFFFFF ∧
    ((placeAll wDrain 14).left || oldEnough wDrain || wDrain.ebb.startNow) = true ∧
    Active wYoung ∧
    setWidth wYoung = some 14 ∧
    wYoung.ebb.building = none ∧
    ((placeAll wYoung 14).left || oldEnough wYoung || wYoung.ebb.startNow) = false ∧
    Active m145 ∧
    m145.ebb.building = some m146 ∧
    num m145 0x2800 7 ≠ 1 ∧
    Active wRebuilt ∧
    rebuiltPlan wRebuilt 5 = some m147 ∧
    (0 : BitVec 64) = m147.digest ∧
    (1 : BitVec 64) ≠ m147.digest ∧
    setOf wRebuilt 5 = none ∧
    Active wLostPlan ∧
    rebuiltPlan wLostPlan 7 = some m148 ∧
    (1 : BitVec 64) ≠ m148.digest ∧
    setOf wLostPlan 7 = some m149 := by
  repeat'
    first
      | (unfold Active; decide +kernel)
      | refine And.intro ?_ ?_
      | decide +kernel

/-- A state and operands that meet what SetBoundaries asks for. -/
theorem test_meets_set_boundaries :
    Active m129 ∧
    (writingSet m129).isSome = true ∧
    Active m150 ∧
    writingSet m150 = none ∧
    m150.ebb.recalls = [] ∧
    m150.ebb.recon.status = 0 ∧
    pendingReplacement m150 = none ∧
    setWidth m150 = some 14 ∧
    m150.ebb.plans = m151 :: ([] : List Plan) ∧
    m151.k = 14 ∧
    m151.inStore = true ∧
    num m150 0x2800 7 ≠ 0 ∧
    14 + 2 ≤ (freeBays m150).length ∧
    (∀ x ∈ freeBays m150, (bayAt m150 x).present = false) ∧
    Active m152 ∧
    writingSet m152 = none ∧
    m152.ebb.recalls = [] ∧
    m152.ebb.recon.status = 0 ∧
    pendingReplacement m152 = none ∧
    setWidth m152 = some 14 ∧
    m152.ebb.plans = [] ∧
    m152.ebb.queue ≠ [] ∧
    ebbRuns m152 = true ∧
    Active wFailedDisc ∧
    wFailedDisc.ebb.recalls = [] ∧
    pendingReplacement wFailedDisc = some (7, m153) ∧
    freeBays wFailedDisc = (0 : BayId) :: ((freeBays wFailedDisc).tail) ∧
    (∀ z ∈ freeBays wFailedDisc, (bayAt wFailedDisc z).present = false ∧ (bayAt wFailedDisc z).disc ≠ 2) ∧
    Active m154 ∧
    writingOn m129 (2 : BayId) = some ((wSet wDisc), wDisc) ∧
    wDisc.resync = false ∧
    (wSet wDisc).plan.inStore = true ∧
    m129.pwr.ps < 2 ∧
    wDisc.part = 1 ∧
    wDisc.row + wDisc.staged < dataRows ∧
    (nextRow (wSet wDisc).plan wDisc).isSome = true ∧
    stagedFrames (wSet wDisc).plan wDisc ≤ bufferFrames ∧
    notAhead (wSet wDisc) wDisc = true ∧
    wDisc.replacement = false ∧
    drainRow m129 (wSet wDisc) wDisc ([] : List (Nat × Media)) = (([] : List (Nat × Nat)), m129) ∧
    ([] : List (Nat × Nat)) = [] ∧
    Active wVoid ∧
    writingOn wVoid (2 : BayId) = some (aVoid, wDisc) ∧
    aVoid.plan.inStore = true ∧
    wVoid.pwr.ps < 2 ∧
    (nextRow aVoid.plan wDisc).isSome = true ∧
    stagedFrames aVoid.plan wDisc ≤ bufferFrames ∧
    notAhead aVoid wDisc = true ∧
    drainRow wVoid aVoid wDisc ([] : List (Nat × Media)) = (([(9, 0)] : List (Nat × Nat)), wVoid) ∧
    ([(9, 0)] : List (Nat × Nat)) = [(9, 0)] ∧
    wVoid.phase = .running ∧
    wVoid.pwr.ps < 3 := by
  repeat'
    first
      | (unfold Active; decide +kernel)
      | refine And.intro ?_ ?_
      | decide +kernel

/-- A state and operands that meet what RecallsAndRecon asks for. -/
theorem test_meets_recalls_and_recon :
    Active m156 ∧
    bayEnabled m156 (2 : BayId) = true ∧
    (bayAt m156 (2 : BayId)).cway.wg = false ∧
    NoneWaits m156 ∧
    (m156.ebb.recalls.find? (fun q => (q.bay == some (2 : BayId) && !q.loaded) || q.others.contains (2 : BayId)) = some m155) ∧
    m155.bay = some (2 : BayId) ∧
    m155.loaded = false ∧
    clamped (bayAt m156 (2 : BayId)) = true ∧
    (¬ (LeadIn.readable wBlank = false ∨ LeadIn.version wBlank ≠ 1 ∨ LeadIn.serial wBlank = [] ∨ LeadIn.serial wBlank ≠ expectedSerial m156 (2 : BayId) m155)) ∧
    (LeadIn.readable m72 = false ∨ LeadIn.version m72 ≠ 1 ∨ LeadIn.serial m72 = [] ∨ LeadIn.serial m72 ≠ expectedSerial m156 (2 : BayId) m155) ∧
    (bayAt m156 (2 : BayId)).misread = false ∧
    (bayAt m156 (2 : BayId)).spin.state = 0 ∧
    (bayAt m156 (2 : BayId)).reqCode ≠ 3 ∧
    Active m157 ∧
    bayEnabled m157 (2 : BayId) = true ∧
    (bayAt m157 (2 : BayId)).cway.wg = false ∧
    NoneWaits m157 ∧
    (m157.ebb.recalls.find? (fun q => (q.bay == some (2 : BayId) && !q.loaded) || q.others.contains (2 : BayId)) = some m155) ∧
    clamped (bayAt m157 (2 : BayId)) = true ∧
    (LeadIn.readable m72 = false ∨ LeadIn.version m72 ≠ 1 ∨ LeadIn.serial m72 = [] ∨ LeadIn.serial m72 ≠ expectedSerial m157 (2 : BayId) m155) ∧
    (bayAt m157 (2 : BayId)).misread = true ∧
    Active m158 ∧
    bayEnabled m158 (2 : BayId) = true ∧
    (bayAt m158 (2 : BayId)).cway.wg = false ∧
    NoneWaits m158 ∧
    (m158.ebb.recalls.find? (fun q => q.obj == m159.obj) = some m159) ∧
    objOf m158 m159.obj = some wArchObj ∧
    m159.bay = some (2 : BayId) ∧
    m159.loaded = true ∧
    m159.full = false ∧
    (bayAt m158 (2 : BayId)).spin.state = 4 ∧
    (bayAt m158 (2 : BayId)).spin.target = 9600 ∧
    nsOf m158 m159.nsid = some nsA ∧
    (zoneOf m158 m159.nsid m159.zone).st = .recallTarget ∧
    (goodFrames wArchObj (bayAt m158 (2 : BayId)).chan.rebuilt m159.frames (([wFrame 0 1] : List DiscFrame).take (wArchObj.lbas - m159.frames))).length = (([wFrame 0 1] : List DiscFrame).take (wArchObj.lbas - m159.frames)).length ∧
    (m159.frames + (([wFrame 0 1] : List DiscFrame).take (wArchObj.lbas - m159.frames)).length) < wArchObj.lbas ∧
    (goodFrames wArchObj (bayAt m158 (2 : BayId)).chan.rebuilt m159.frames (([wFrame 0 1, wFrame 1 1] : List DiscFrame).take (wArchObj.lbas - m159.frames))).length = (([wFrame 0 1, wFrame 1 1] : List DiscFrame).take (wArchObj.lbas - m159.frames)).length ∧
    (∀ f ∈ (goodFrames wArchObj (bayAt m158 (2 : BayId)).chan.rebuilt m159.frames (([wFrame 0 1, wFrame 1 1] : List DiscFrame).take (wArchObj.lbas - m159.frames))), f.step ≤ 2) ∧
    (m159.frames + (([wFrame 0 1, wFrame 1 1] : List DiscFrame).take (wArchObj.lbas - m159.frames)).length) = wArchObj.lbas ∧
    m159.todo = [] ∧
    Active m160 ∧
    bayEnabled m160 (2 : BayId) = true ∧
    (bayAt m160 (2 : BayId)).cway.wg = false ∧
    NoneWaits m160 ∧
    (m160.ebb.recalls.find? (fun q => q.obj == m159.obj) = some m159) ∧
    objOf m160 m159.obj = some wArchObj ∧
    (bayAt m160 (2 : BayId)).spin.state = 4 ∧
    (bayAt m160 (2 : BayId)).spin.target = 9600 ∧
    nsOf m160 m159.nsid = some nsA ∧
    (zoneOf m160 m159.nsid m159.zone).st = .recallTarget ∧
    ([wFrame 1 1] : List DiscFrame) = [(wFrame 1 1)] ∧
    DiscFrame.found wArchObj (bayAt m160 (2 : BayId)).chan.rebuilt m159.frames (wFrame 1 1) = none ∧
    m159.frames < wArchObj.lbas ∧
    countedBays m160 < widthOf m160 wArchObj.setId + 1 ∧
    DiscFrame.found wArchObj (bayAt m158 (2 : BayId)).chan.rebuilt m159.frames (wFrame 1 1) = none ∧
    widthOf m158 wArchObj.setId + 1 ≤ countedBays m158 ∧
    Active m161 ∧
    bayEnabled m161 (2 : BayId) = true ∧
    (bayAt m161 (2 : BayId)).cway.wg = false ∧
    NoneWaits m161 ∧
    (m161.ebb.recalls.find? (fun q => q.bay == some (2 : BayId) && q.todo.contains 5) = some m162) ∧
    reserveSlots ≤ reserveSlots ∧
    Active m163 ∧
    bayEnabled m163 (2 : BayId) = true ∧
    (bayAt m163 (2 : BayId)).cway.wg = false ∧
    NoneWaits m163 ∧
    (m163.ebb.recalls.find? (fun q => q.bay == some (2 : BayId) && q.todo.contains 5) = some m162) ∧
    0 < reserveSlots ∧
    (bayAt m163 (2 : BayId)).spin.state = 4 ∧
    (bayAt m163 (2 : BayId)).spin.target = 7200 ∧
    (bayAt m163 (2 : BayId)).servo.layer = pfaLayer 5 ∧
    opcFresh m163 (2 : BayId) (pfaLayer 5) = true ∧
    Active m164 ∧
    bayEnabled m164 (2 : BayId) = true ∧
    (bayAt m164 (2 : BayId)).cway.wg = false ∧
    NoneWaits m164 ∧
    writingOn m164 (2 : BayId) = some (m165, m166) ∧
    m166.resync = true ∧
    m165.plan.inStore = true ∧
    clamped (bayAt m164 (2 : BayId)) = true ∧
    (bayAt m164 (2 : BayId)).started = true ∧
    LeadIn.readable wBlank = true ∧
    LeadIn.version wBlank = 1 ∧
    LeadIn.serial wBlank = m166.serial ∧
    (bayAt m164 (2 : BayId)).spin.state = 4 ∧
    (bayAt m164 (2 : BayId)).spin.target = 7200 ∧
    Active m167 ∧
    bayEnabled m167 (2 : BayId) = true ∧
    (bayAt m167 (2 : BayId)).cway.wg = false ∧
    NoneWaits m167 ∧
    writingOn m167 (2 : BayId) = some (m168, m169) ∧
    m169.resync = true ∧
    m168.plan.inStore = true ∧
    clamped (bayAt m167 (2 : BayId)) = true ∧
    (bayAt m167 (2 : BayId)).started = true ∧
    LeadIn.serial wBlank ≠ m169.serial ∧
    (bayAt m167 (2 : BayId)).spin.state = 0 ∧
    (bayAt m167 (2 : BayId)).reqCode ≠ 3 ∧
    Active m170 ∧
    bayEnabled m170 (2 : BayId) = true ∧
    (bayAt m170 (2 : BayId)).cway.wg = false ∧
    NoneWaits m170 ∧
    m170.ebb.recon.status = 2 ∧
    setOf m170 m170.ebb.recon.setId = some m171 ∧
    m171.discs.head? = some m172 ∧
    m172.status = .closed ∧
    Active m173 ∧
    bayEnabled m173 (2 : BayId) = true ∧
    (bayAt m173 (2 : BayId)).cway.wg = false ∧
    NoneWaits m173 ∧
    m173.ebb.recon.status = 2 ∧
    setOf m173 m173.ebb.recon.setId = some m174 ∧
    m174.discs.head? = some m175 ∧
    m175.status = .failed := by
  repeat'
    first
      | (rw [wBlank_readable, wBlank_version, wBlank_serial]; decide +kernel)
      | with_reducible exact wBlank_readable
      | (rw [wBlank_serial]; decide +kernel)
      | with_reducible exact wBlank_version
      | (unfold NoneWaits; decide +kernel)
      | (unfold Active; decide +kernel)
      | refine And.intro ?_ ?_
      | decide +kernel

/-- A state and operands that meet what BreakwaterRuns asks for. -/
theorem test_meets_breakwater_runs :
    Active m176 ∧
    dieOf m176 0 0 = some m177 ∧
    (0 = 0 ∨ ((nsOf m176 0).map (·.fdp)).getD false = true) ∧
    mayStart m176 0 0 m177 (askedOp m176 0 0 0 0 0 0 5 0) = some m178 ∧
    Active m179 ∧
    dieOf m179 0 0 = some m180 ∧
    (0 = 0 ∨ ((nsOf m179 0).map (·.fdp)).getD false = true) ∧
    mayStart m179 0 0 m180 (askedOp m179 0 0 1 1 0 0 5 0) = none ∧
    dieTakes m179 0 0 (askedOp m179 0 0 1 1 0 0 5 0).kind = true ∧
    (waitingOn m179 0 0).contains (askedOp m179 0 0 1 1 0 0 5 0) = false ∧
    Active m181 ∧
    dieOf m181 0 0 = some m182 ∧
    m182.op = some m183 ∧
    maySuspend m181 0 0 m182 m183 = true ∧
    Active m184 ∧
    dieOf m184 0 0 = some m185 ∧
    m185.op = none ∧
    m185.susp = some m183 ∧
    resumeDue m184 0 0 m185 = true ∧
    Active wRun ∧
    1 ≤ 3 ∧
    3 ≤ 8 ∧
    Active m186 ∧
    (bitOf (num m186 0x2620 5) (if true then 0 else 1)) = false ∧
    (bitOf (num wRun 0x2620 5) (if true then 0 else 1)) = true ∧
    (∀ h ∈ ([] : List MemHit), patrolled wRun true 9 h = false) ∧
    patrolled wRun true 9 wHit = true ∧
    hitKind wRun wHit = .corrected ∧
    1 ≤ (MemPart.bucket wHit.part wHit.addr) ∧
    (MemPart.bucket wHit.part wHit.addr) ≤ wRun.mem.buckets.length ∧
    (bucketOf wRun (MemPart.bucket wHit.part wHit.addr)).level ≠ bucketDepth wRun (MemPart.bucket wHit.part wHit.addr) := by
  repeat'
    first
      | (unfold Active; decide +kernel)
      | refine And.intro ?_ ?_
      | decide +kernel

/-- A state and operands that meet what FlashOperations asks for. -/
theorem test_meets_flash_operations :
    Active m187 ∧
    Quiet m187 ∧
    m187.sup.dip = false ∧
    ((zoneOf m187 1 3).programmed = true ∧ (rowEnd m187 (zoneOf m187 1 3)).isSome = true ∧ (((zoneOf m187 1 3).members.filter fun m => !m.lost).map fun m => (m.port, m.die)).Nodup) ∧
    (urgent m187 = true → (zoneOf m187 1 3).flashed < (zoneOf m187 1 3).ack) ∧
    Active wStage ∧
    Quiet wStage ∧
    wStage.sup.dip = false ∧
    ((zoneOf wStage 1 3).programmed = false ∨ rowEnd wStage (zoneOf wStage 1 3) = none) ∧
    stages wStage (zoneOf wStage 1 3) = true ∧
    (zoneOf wStage 1 3).st ≠ .empty ∧
    (urgent wStage = true → (zoneOf wStage 1 3).flashed < (zoneOf wStage 1 3).ack) ∧
    (stagingDies wStage ((zoneOf wStage 1 3).payer wStage)) ≠ [] ∧
    unprogrammed (setZone { (zoneOf wStage 1 3) with flashed := (zoneOf wStage 1 3).wp } (stageSpan (zoneOf wStage 1 3) ((stagingDies wStage ((zoneOf wStage 1 3).payer wStage)).map (·.1)) (zoneOf wStage 1 3).flashed ((zoneOf wStage 1 3).wp - (zoneOf wStage 1 3).flashed) false wStage)) ≤ stagingRoom (setZone { (zoneOf wStage 1 3) with flashed := (zoneOf wStage 1 3).wp } (stageSpan (zoneOf wStage 1 3) ((stagingDies wStage ((zoneOf wStage 1 3).payer wStage)).map (·.1)) (zoneOf wStage 1 3).flashed ((zoneOf wStage 1 3).wp - (zoneOf wStage 1 3).flashed) false wStage)) ∧
    Active m188 ∧
    Quiet m188 ∧
    m188.sup.dip = false ∧
    upkeepRuns m188 = true ∧
    (zoneOf m188 1 3).placed < (zoneOf m188 1 3).flashed ∧
    ((zoneOf m188 1 3).programmed = true ∧ (rowEnd m188 (zoneOf m188 1 3)).isSome = true ∧ (((zoneOf m188 1 3).members.filter fun m => !m.lost).map fun m => (m.port, m.die)).Nodup) ∧
    Active m189 ∧
    Quiet m189 ∧
    m189.sup.dip = false ∧
    dieOf m189 0 0 = some m190 ∧
    m190.op = some m191 ∧
    m191.kind = .program ∧
    m191.zone = some (1, 3) ∧
    memberAt (zoneOf m189 1 3) 0 0 m191.block = some 0 ∧
    (zoneOf m189 1 3).st ≠ .empty ∧
    (((zoneOf m189 1 3).rowBusy.filter fun i => i != 0) ≠ []) ∧
    Active m192 ∧
    Quiet m192 ∧
    m192.sup.dip = false ∧
    dieOf m192 0 0 = some m193 ∧
    m193.op = some m194 ∧
    m194.kind = .erase ∧
    Active m179 ∧
    Quiet m179 ∧
    m179.sup.dip = false ∧
    dieOf m179 0 0 = some m180 ∧
    m180.op = some m195 ∧
    timedOutBefore m179 m180 = false ∧
    (mayStart (modDie 0 0 (fun x => { x.accrue m179.clock with op := none, timeoutAt := some m179.clock }) m179) 0 0 ({ m180.accrue m179.clock with op := none, timeoutAt := some m179.clock }) ({ m195 with retried := true, lent := false }) = some wLent) ∧
    Active wTimed ∧
    Quiet wTimed ∧
    wTimed.sup.dip = false ∧
    dieOf wTimed 0 0 = some m196 ∧
    m196.op = some m195 ∧
    timedOutBefore wTimed m196 = false ∧
    (mayStart (modDie 0 0 (fun x => { x.accrue wTimed.clock with op := none, timeoutAt := some wTimed.clock }) wTimed) 0 0 ({ m196.accrue wTimed.clock with op := none, timeoutAt := some wTimed.clock }) ({ m195 with retried := true, lent := false }) = none) ∧
    (dieTakes (modDie 0 0 (fun x => { x.accrue wTimed.clock with op := none, timeoutAt := some wTimed.clock }) wTimed) 0 0 m195.kind = true) ∧
    Active m197 ∧
    Quiet m197 ∧
    m197.sup.dip = false ∧
    dieOf m197 0 0 = some m198 ∧
    m198.op = some m195 ∧
    timedOutBefore m197 m198 = true ∧
    m198.failed = false ∧
    laneOf 0 < 8 ∧
    Active m200 ∧
    Quiet m200 ∧
    m200.sup.dip = false ∧
    (zoneOf m200 1 3).members[0]? = some m199 ∧
    upkeepRuns m200 = true ∧
    (zoneOf m200 1 3).st ≠ .empty ∧
    m199.refresh = true ∧
    m199.lost = false ∧
    (zoneOf m200 1 3).rowBusy.contains 0 = false ∧
    (workStart m200 m199.port m199.die .program .refresh 0).isSome = true ∧
    bestBlock m200 m199.port m199.die = some m201 ∧
    Active wNoBlock ∧
    Quiet wNoBlock ∧
    wNoBlock.sup.dip = false ∧
    (zoneOf wNoBlock 1 3).members[0]? = some m199 ∧
    upkeepRuns wNoBlock = true ∧
    (zoneOf wNoBlock 1 3).st ≠ .empty ∧
    (zoneOf wNoBlock 1 3).rowBusy.contains 0 = false ∧
    (workStart wNoBlock m199.port m199.die .program .refresh 0).isSome = true ∧
    ((zoneOf wNoBlock 1 3).st = .full ∧ (zoneOf wNoBlock 1 3).arch = .resident) ∧
    bestBlock wNoBlock m199.port m199.die = none ∧
    ((zoneOf m200 1 3).st = .full ∧ (zoneOf m200 1 3).arch = .resident) ∧
    Active m202 ∧
    Quiet m202 ∧
    m202.sup.dip = false ∧
    (zoneOf m202 1 3).members[0]? = some m199 ∧
    upkeepRuns m202 = true ∧
    (zoneOf m202 1 3).st ≠ .empty ∧
    dieOf m202 0 0 = some m203 ∧
    wearMove m202 0 0 m203 = some (7, 1, 3, 0) ∧
    (workStart m202 0 0 .program .refresh 0).isSome = true ∧
    m199.port = 0 ∧
    m199.die = 0 ∧
    (zoneOf m202 1 3).st = .full := by
  repeat'
    first
      | (unfold Active; decide +kernel)
      | (unfold Quiet; decide +kernel)
      | refine And.intro ?_ ?_
      | decide +kernel

/-- A state and operands that meet what FlashUpkeep asks for. -/
theorem test_meets_flash_upkeep :
    Active m204 ∧
    Quiet m204 ∧
    m204.sup.dip = false ∧
    m204.tierState ≠ 2 ∧
    upkeepRuns m204 = true ∧
    (zoneOf m204 1 3).members[0]? = some m199 ∧
    (zoneOf m204 1 3).st ≠ .empty ∧
    Active m205 ∧
    Quiet m205 ∧
    m205.sup.dip = false ∧
    m205.tierState ≠ 2 ∧
    upkeepRuns m205 = true ∧
    (zoneOf m205 1 3).members[0]? = some m199 ∧
    (zoneOf m205 1 3).st ≠ .empty ∧
    bitOf (num m205 0x2620 5) 2 = true ∧
    m199.lost = false ∧
    (zoneOf m205 1 3).placed ≠ 0 ∧
    (workStart m205 m199.port m199.die .read .scrub 0).isSome = true ∧
    Active wLost ∧
    Quiet wLost ∧
    wLost.sup.dip = false ∧
    wLost.tierState ≠ 2 ∧
    upkeepRuns wLost = true ∧
    (zoneOf wLost 1 3).members[0]? = some m206 ∧
    (zoneOf wLost 1 3).st ≠ .empty ∧
    (rebuildable wLost (zoneOf wLost 1 3)).contains 0 = true ∧
    rebuildTurn wLost (zoneOf wLost 1 3) = true ∧
    roomiestDie wLost (16 * (zoneOf wLost 1 3).lane + 0) = some (0, 0) ∧
    bestBlock wLost 0 0 = some ((bestBlock wLost 0 0).getD 0) ∧
    (zoneOf wLost 1 3).rowBusy = [] ∧
    (workStart wLost 0 0 .program ((rebuildClass wLost (zoneOf wLost 1 3)).1) ((rebuildClass wLost (zoneOf wLost 1 3)).2)).isSome = true ∧
    Active wCold ∧
    Quiet wCold ∧
    wCold.sup.dip = false ∧
    wCold.tierState ≠ 2 ∧
    upkeepRuns wCold = true ∧
    wCold.flash.coldReads.contains (0, 0, 2) = true ∧
    (workStart wCold 0 0 .read .system 0).isSome = true ∧
    dieOf wCold 0 0 = some m207 ∧
    m207.bins[2]? = some m208 ∧
    Active m209 ∧
    Quiet m209 ∧
    m209.sup.dip = false ∧
    m209.tierState ≠ 2 ∧
    upkeepRuns m209 = true ∧
    m209.flash.formatting = true ∧
    Active wAdopting ∧
    Quiet wAdopting ∧
    wAdopting.sup.dip = false ∧
    wAdopting.tierState ≠ 2 ∧
    upkeepRuns wAdopting = true ∧
    volOf wAdopting 0 = some m210 ∧
    m210.st = .adopting ∧
    (wAdopting.flash.vols.any (fun w => w.serves && laneOf w.port == laneOf 0) = true) ∧
    Active m211 ∧
    Quiet m211 ∧
    m211.sup.dip = false ∧
    m211.tierState ≠ 2 ∧
    upkeepRuns m211 = true ∧
    volOf m211 0 = some m212 ∧
    m212.retiring = true ∧
    (∀ y ∈ m211.hs.zones, ∀ m ∈ y.members, m.port ≠ 0) := by
  repeat'
    first
      | (unfold Active; decide +kernel)
      | (unfold Quiet; decide +kernel)
      | refine And.intro ?_ ?_
      | decide +kernel

/-- A state and operands that meet what AbortAborts asks for. -/
theorem test_meets_abort_aborts :
    AdminReady aSrc wAdmin ∧
    Reaches aSrc (.abort 1 9) wAdmin := by
  repeat'
    first
      | exact adminReady_of (by decide +kernel)
      | refine And.intro ?_ ?_
      | decide +kernel

/-- A state and operands that meet what DescriptorExtension asks for. -/
theorem test_meets_descriptor_extension :
    IoReady aIo wOpen ∧
    nsGate wOpen aIo.port 1 = .ok nsA ∧
    nsA.fdp = false ∧
    Reaches aIo (.zoneSend 1 0 .setExtension false) wOpen := by
  repeat'
    first
      | exact ioReady_of (by decide +kernel)
      | exact ok_of (by decide +kernel)
      | refine And.intro ?_ ?_
      | decide +kernel

end Sys2Proof.Tests
end

section
/-! SUPPORT. What every step keeps (R1, R467, R520, R522): each instruction answers a next state, and that state keeps the
queue's rest, the part's identity, the blown cells and the NOR's canonical form. Firmware Commit, the bench port's NOR
frames and the ways to start up reach the NOR or the cells; every branch of every other instruction leaves the anchor. -/

namespace Sys2Proof.Machine

open Sys2Proof

/-- The outcome is a next state that keeps what every step keeps of s. -/
def Keeps (s : State) (o : Host.Outcome State Fault Refusal) : Prop := ∃ t, o = .next t ∧ Kept s t

/-! ### The branches an instruction can have -/

theorem Keeps.next {s t : State} (h : Kept s t) : Keeps s (.next t) := ⟨t, rfl, h⟩

theorem Keeps.anchored {s t : State} (h : t.anchor = s.anchor) : Keeps s (.next t) := .next (.of_anchor h)

theorem Keeps.same (s : State) : Keeps s (.next s) := .next (.refl s)

theorem Keeps.ite {s : State} {c : Prop} [Decidable c] {a b : Host.Outcome State Fault Refusal} (ha : Keeps s a)
    (hb : Keeps s b) : Keeps s (if c then a else b) := by
  split
  · exact ha
  · exact hb

/-- The end of a wait only answers the command (R38), and the end of a shutdown only its controller. -/
@[simp] theorem settle_anchor (s : State) : (settle s).anchor = s.anchor := by
  refine (foldl_anchor _ (fun t p => settleShutdown_anchor p t) _ _).trans (foldl_anchor _ (fun t i => ?_) _ _)
  split
  · exact (endWait_anchor _ _).trans (dropInflight_anchor _ _)
  · rfl

/-! An instruction whose branches go by a match, or nest, has its lemma below, with the shape of its definition; the
others are taken in exec_keeps. -/

/-! ### Flash operations on a die -/

theorem execFlashOperationStart_keeps (port die op cls tenant level block reclaim : Nat) (s : State) :
    Keeps s (execFlashOperationStart port die op cls tenant level block reclaim s) := by
  refine .ite (.same s) ?_
  split
  · exact .same s
  · dsimp only
    split
    · exact .anchored (by simp)
    · exact .ite (.anchored (addWait_anchor ..)) (.same s)

theorem execProgramSuspend_keeps (port die : Nat) (s : State) : Keeps s (execProgramSuspend port die s) := by
  unfold execProgramSuspend
  split
  · exact .same s
  · split
    · exact .same s
    · exact .ite (.anchored (modDie_anchor ..)) (.same s)

theorem execProgramResume_keeps (port die : Nat) (s : State) : Keeps s (execProgramResume port die s) := by
  unfold execProgramResume
  split
  · exact .same s
  · exact .anchored (by simp)

/-! ### The Causeway link -/

theorem execSpotSampleCell_keeps (b : BayId) (cell : List Byte) (s : State) : Keeps s (execSpotSampleCell b cell s) :=
  .ite (.same s) (.ite (.anchored (badCell_anchor ..)) (.ite (.same s) (.ite (.anchored (by simp))
    (.anchored (by simp)))))

theorem execRegisterAckTimeout_keeps (b : BayId) (s : State) : Keeps s (execRegisterAckTimeout b s) := by
  unfold execRegisterAckTimeout
  split
  · exact .ite (.anchored (modBay_anchor ..)) (.anchored (retrain_anchor ..))
  · exact .same s

/-! ### Servo calibration -/

theorem execServoCalibration_keeps (b : BayId) (cal layer : Nat) (r : CalIn) (s : State) :
    Keeps s (execServoCalibration b cal layer r s) := by
  refine .ite (.same s) (.ite (.anchored (rejectServo_anchor ..)) ?_)
  split
  · exact .anchored (rejectServo_anchor ..)
  · exact .ite (.anchored (rejectServo_anchor ..)) (.anchored (by simp))

/-! ### The time base -/

theorem execWedgeCommit_keeps (b : BayId) (lens : Int) (s : State) : Keeps s (execWedgeCommit b lens s) := by
  unfold execWedgeCommit
  dsimp only
  split
  · exact .ite (.anchored (commitWedge_anchor ..)) (.same s)
  · exact .same s

theorem execEventFire_keeps (b : BayId) (s : State) : Keeps s (execEventFire b s) := by
  unfold execEventFire
  split
  · exact .same s
  · exact .anchored (by simp)

/-! ### The spindle -/

theorem execZeroCrossing_keeps (b : BayId) (c : Crossing) (s : State) : Keeps s (execZeroCrossing b c s) :=
  .ite (.same s) (.ite (.ite (.same s) (.anchored (modBay_anchor ..))) (.ite (.ite (.same s)
    (.anchored (modBay_anchor ..))) (.ite (.anchored (forcedCrossing_anchor ..)) (.same s))))

theorem execBrakeCheck_keeps (b : BayId) (seen : EmfWatch) (s : State) : Keeps s (execBrakeCheck b seen s) :=
  .ite (.ite (.anchored (by simp)) (.anchored (by simp))) (.ite (.ite (.anchored (by simp))
    (.anchored (setSpeed_anchor ..))) (.ite (.anchored (setSpeed_anchor ..)) (.same s)))

theorem execBrakeEnd_keeps (b : BayId) (s : State) : Keeps s (execBrakeEnd b s) :=
  .ite (.ite (.anchored (by simp)) (.ite (.anchored (by simp)) (.anchored (by simp)))) (.same s)

/-! ### The drive side -/

theorem execDriveSupplyCrossing_keeps (level mv : Nat) (s : State) :
    Keeps s (execDriveSupplyCrossing level mv s) := by
  refine .ite (.same s) (.ite (.anchored (by simp)) (.ite (.anchored (by simp)) (.ite (.anchored (by simp)) ?_)))
  split <;> exact .anchored (by simp)

theorem execDriveSupplyRecovery_keeps (level mv : Nat) (s : State) :
    Keeps s (execDriveSupplyRecovery level mv s) := by
  refine .ite (.same s) (.ite (.anchored (by simp)) (.ite (.anchored (by simp)) ?_))
  split <;> exact .anchored (by simp)

theorem execCoilRmsThreshold_keeps (b : BayId) (coil : Nat) (s : State) : Keeps s (execCoilRmsThreshold b coil s) :=
  .ite (.same s) (.ite (.ite (.anchored (by simp)) (.anchored (by simp))) (.ite (.anchored (modBay_anchor ..))
    (.same s)))

/-! ### The write channel -/

theorem execRowStart_keeps (b : BayId) (s : State) : Keeps s (execRowStart b s) := by
  unfold execRowStart
  split
  · exact .same s
  · split
    · exact .same s
    · exact .ite (.same s) (.anchored (by simp))

theorem execFrameDecision_keeps (b : BayId) (idx : Nat) (r : FrameRead) (s : State) :
    Keeps s (execFrameDecision b idx r s) := by
  unfold execFrameDecision
  split
  · exact .ite (.same s) (.anchored (by simp))
  · exact .same s

theorem execWriteResume_keeps (b : BayId) (s : State) : Keeps s (execWriteResume b s) := by
  unfold execWriteResume
  split
  · exact .same s
  · refine .ite (.anchored (rowDone_anchor ..)) ?_
    split
    · exact .ite (.same s) (.anchored (by simp))
    · exact .same s

theorem execOpc_keeps (b : BayId) (layer : Nat) (steps : List OpcStep) (s : State) :
    Keeps s (execOpc b layer steps s) := by
  refine .ite (.same s) (.ite (.anchored (opcEvent_anchor ..)) ?_)
  split <;> exact .anchored (by simp)

/-! ### Archive sets and recalls -/

theorem execPlanBuildStart_keeps (mem : List MemHit) (s : State) : Keeps s (execPlanBuildStart mem s) := by
  unfold execPlanBuildStart
  dsimp only
  split
  · exact .anchored (by simp)
  · exact .ite (.anchored (by simp)) (.anchored (by simp))

theorem execPlanSeal_keeps (s : State) : Keeps s (execPlanSeal s) := by
  unfold execPlanSeal
  split
  · exact .same s
  · exact .anchored (by simp)

theorem execPlanDigestCheck_keeps (sid : Nat) (digest : BitVec 64) (s : State) :
    Keeps s (execPlanDigestCheck sid digest s) := by
  unfold execPlanDigestCheck
  split
  · exact .same s
  · refine .ite (.anchored (modPlan_anchor ..)) ?_
    dsimp only
    split <;> exact .anchored (by simp)

theorem execReconstructionComplete_keeps (failed : Bool) (s : State) :
    Keeps s (execReconstructionComplete failed s) := by
  unfold execReconstructionComplete
  dsimp only
  split
  · exact .ite (.anchored (endRecon_anchor ..)) (.ite (.anchored (by simp)) (.same s))
  · exact .same s

theorem execRowStage_keeps (b : BayId) (reads : List (Nat × Media)) (mem : List MemHit) (s : State) :
    Keeps s (execRowStage b reads mem s) := by
  unfold execRowStage
  dsimp only
  split
  · exact .anchored (by simp)
  · exact .ite (.anchored (by simp)) (.anchored (by simp))

theorem execResynchronisation_keeps (b : BayId) (lead : LeadIn) (row : Nat) (read : List (Nat × List Byte))
    (blanks : List Nat) (slotsUsed : Nat) (s : State) :
    Keeps s (execResynchronisation b lead row read blanks slotsUsed s) := by
  unfold execResynchronisation
  split
  · exact .same s
  · exact .ite (.same s) (.ite (.anchored (by simp)) (.ite (.anchored (by simp)) (.anchored (by simp))))

theorem execReallocation_keeps (b : BayId) (pfa slot : Nat) (confirmed : Bool) (s : State) :
    Keeps s (execReallocation b pfa slot confirmed s) := by
  refine .ite (.same s) (.ite (.anchored ?_) (.ite (.same s) (.anchored ?_)))
  all_goals
    dsimp only
    split <;> simp

theorem execRecallDiscIdentify_keeps (b : BayId) (lead : LeadIn) (s : State) :
    Keeps s (execRecallDiscIdentify b lead s) := by
  unfold execRecallDiscIdentify
  split
  · exact .same s
  · exact .ite (.same s) (.ite (.anchored (by simp)) (.ite (.anchored (by simp)) (.anchored (by simp))))

theorem execRecallRead_keeps (obj : Nat) (frames : List DiscFrame) (s : State) :
    Keeps s (execRecallRead obj frames s) := by
  unfold execRecallRead
  split
  · split
    · exact .same s
    · exact .ite (.same s) (.ite (.anchored (by simp)) (.ite (.anchored (by simp)) (.anchored (by simp))))
  · exact .same s

theorem execPqReconstruct_keeps (b : BayId) (k role pfa : Nat) (sources : List SourceRead) (s : State) :
    Keeps s (execPqReconstruct b k role pfa sources s) := by
  refine .ite (.same s) ?_
  split
  · exact .anchored (frameUnrecovered_anchor ..)
  · exact .ite (.anchored (frameUnrecovered_anchor ..)) (.anchored (by simp))

/-! ### Steppers, library and discs -/

theorem execStepTimer_keeps (b : BayId) (which : Nat) (s : State) : Keeps s (execStepTimer b which s) :=
  .ite (.same s) (.ite (.ite (.anchored (sledStep_anchor ..)) (.same s)) (.ite (.ite (.anchored (by simp))
    (.same s)) (.ite (.ite (.anchored (collStep_anchor ..)) (.same s)) (.same s))))

theorem execLibraryAnswerUnavailable_keeps (b : BayId) (seq : Nat) (s : State) :
    Keeps s (execLibraryAnswerUnavailable b seq s) := by
  refine .ite (.same s) (.ite (.anchored (by simp)) ?_)
  split <;> exact .anchored (by simp)

theorem execLibraryRequestTimeout_keeps (b : BayId) (s : State) : Keeps s (execLibraryRequestTimeout b s) := by
  unfold execLibraryRequestTimeout
  dsimp only
  split
  · exact .ite (.anchored (by simp)) (.same s)
  · exact .anchored (by simp)
  · exact .anchored (by simp)
  · exact .anchored (by simp)

theorem execUnloadRepost_keeps (b : BayId) (s : State) : Keeps s (execUnloadRepost b s) := by
  unfold execUnloadRepost
  split
  · exact .same s
  · exact .ite (.same s) (.ite (.anchored (unloaded_anchor ..)) (.anchored (postUnload_anchor ..)))

theorem execDiscInserted_keeps (b : BayId) (lead : LeadIn) (s : State) : Keeps s (execDiscInserted b lead s) :=
  .ite (.same s) (.ite (.anchored (by simp)) (.ite (.anchored (by simp)) (.ite (.anchored (by simp))
    (.anchored (by simp)))))

theorem execDiscRemoved_keeps (b : BayId) (s : State) : Keeps s (execDiscRemoved b s) := by
  refine .ite (.same s) ?_
  rcases discOn s b with _ | ⟨sid, d⟩ <;>
    exact .ite (.ite (.anchored (by simp)) (.anchored (by simp)))
      (.ite (.anchored (by simp)) (.ite (.anchored (by simp)) (.anchored (by simp))))

theorem execEthercatStateChange_keeps (st : Nat) (seqs : List Nat) (s : State) :
    Keeps s (execEthercatStateChange st seqs s) := by
  unfold execEthercatStateChange
  split
  · exact .same s
  · exact .ite (.anchored (by simp)) (.ite (.anchored (by simp)) (.anchored (by simp)))

/-! ### Resets and the boot watchdog -/

theorem execBootWatchdogExpiry_keeps (b : Boot) (s : State) : Keeps s (execBootWatchdogExpiry b s) :=
  .ite (.same s) (.next (.trans (.of_anchor (by simp)) (startUp_kept ..)))

theorem execResetNAssert_keeps (s : State) : Keeps s (execResetNAssert s) := by
  unfold execResetNAssert
  dsimp only
  split <;> exact .anchored (by simp)

/-! ### Power states -/

theorem execPowerHandshakeDelay_keeps (s : State) : Keeps s (execPowerHandshakeDelay s) := by
  unfold execPowerHandshakeDelay
  split
  · exact .same s
  · exact .anchored (by simp)

/-! ### Host ports -/

theorem execPcieLinkUp_keeps (p : PortId) (rate width : Nat) (reversed : Bool) (inverted : List Nat) (s : State) :
    Keeps s (execPcieLinkUp p rate width reversed inverted s) := by
  refine .ite (.same s) ?_
  split
  · exact .same s
  · exact .anchored (by simp)

theorem execCommandFetch_keeps (p : PortId) (sq cid : Nat) (c : NvmeCmd) (d : Dptr) (s : State) :
    Keeps s (execCommandFetch p sq cid c d s) := by
  unfold execCommandFetch
  split
  · exact .same s
  · exact .ite (.same s) (.anchored (by simp))

theorem execFetchError_keeps (p : PortId) (sq : Nat) (s : State) : Keeps s (execFetchError p sq s) := by
  unfold execFetchError
  split
  · exact .same s
  · exact .ite (.same s) (.anchored (by simp))

/-! ### Doors -/

theorem execRegisterWrite_keeps (w : RegWrite) (s : State) : Keeps s (execRegisterWrite w s) := by
  unfold execRegisterWrite
  split
  · exact .anchored (hostWrite_anchor ..)
  · exact .anchored (hostWrite4_anchor ..)
  · exact .anchored (cfgWrite_anchor ..)
  · exact .anchored (doorWrite_anchor ..)

theorem execSdoUpload_keeps (index sub : Nat) (ca : Bool) (s : State) : Keeps s (execSdoUpload index sub ca s) := by
  refine .ite (.same s) (.ite (.anchored (putSdo_anchor ..)) ?_)
  split <;> exact .anchored (putSdo_anchor ..)

theorem execSegmentedTransferTimeout_keeps (s : State) : Keeps s (execSegmentedTransferTimeout s) := by
  unfold execSegmentedTransferTimeout
  split
  · exact .same s
  · exact .anchored (by simp)

theorem execSdoInformation_keeps (kind index sub : Nat) (s : State) :
    Keeps s (execSdoInformation kind index sub s) := by
  refine .ite (.same s) ?_
  split <;> exact .anchored (putSdo_anchor ..)

/-! ### Power state 4 -/

theorem execShoalWatchCycle_keeps (mv12 mvField : Nat) (temps : List Int) (discs : List (Bool × Bool))
    (links : List Bool) (b : Boot) (s : State) :
    Keeps s (execShoalWatchCycle mv12 mvField temps discs links b s) := by
  refine .ite (.same s) ?_
  split
  · exact .anchored (by simp)
  · exact .ite (.anchored (by simp)) (.anchored (by simp))

/-! ### The NVMe command engine -/

theorem execCommandDispatch_keeps (e : Env) (s : State) : Keeps s (execCommandDispatch e s) := by
  unfold execCommandDispatch
  split
  · exact .same s
  · dsimp only
    split
    · exact .same s
    · refine .next (Kept.then_anchor ?_ ((markWaiting_anchor _).trans (settle_anchor _)))
      exact .trans (.of_anchor (by simp)) (runNvme_kept ..)

/-! ### Flash upkeep -/

theorem execFlashStatusPoll_keeps (port die : Nat) (r : Poll) (s : State) :
    Keeps s (execFlashStatusPoll port die r s) := by
  unfold execFlashStatusPoll
  split
  · exact .same s
  · exact .anchored (by simp)

theorem execFlashOperationTimeout_keeps (port die : Nat) (s : State) :
    Keeps s (execFlashOperationTimeout port die s) := by
  unfold execFlashOperationTimeout
  split
  · exact .same s
  · split
    · exact .same s
    · exact .ite (.anchored (by simp)) (.anchored (by simp))

theorem execRefreshRelocation_keeps (nsid idx pos : Nat) (lost placed : Bool) (s : State) :
    Keeps s (execRefreshRelocation nsid idx pos lost placed s) := by
  unfold execRefreshRelocation
  dsimp only
  split
  · exact .same s
  · refine .ite (.same s) ?_
    split
    · exact .same s
    · exact .anchored (by simp)

theorem execWearMove_keeps (port die : Nat) (placed : Bool) (s : State) :
    Keeps s (execWearMove port die placed s) := by
  unfold execWearMove
  split
  · exact .ite (.same s) (.ite (.anchored (moveMember_anchor ..)) (.anchored (by simp)))
  · exact .same s

theorem execMemberRebuild_keeps (nsid idx pos : Nat) (s : State) : Keeps s (execMemberRebuild nsid idx pos s) := by
  refine .ite (.same s) ?_
  split
  · exact .same s
  · dsimp only
    split
    · exact .same s
    · exact .anchored (by simp)

theorem execColdStartReads_keeps (port die bin : Nat) (ones zeros : List Nat) (s : State) :
    Keeps s (execColdStartReads port die bin ones zeros s) := by
  refine .ite (.same s) ?_
  split
  · refine .anchored ?_
    dsimp only
    split <;> simp
  · exact .same s

theorem execFlashPatrol_keeps (nsid idx pos bin step bits : Nat) (ones zeros : List Nat) (s : State) :
    Keeps s (execFlashPatrol nsid idx pos bin step bits ones zeros s) := by
  unfold execFlashPatrol
  dsimp only
  split
  · exact .same s
  · refine .ite (.same s) ?_
    split
    · exact .anchored (by simp)
    · exact .same s

/-! ### Events and SPDM -/

theorem execEmergencyMessageSent_keeps (s : State) : Keeps s (execEmergencyMessageSent s) := by
  unfold execEmergencyMessageSent
  split
  · exact .same s
  · exact .anchored (by simp)

theorem execSpdmRequest_keeps (p : PortId) (msg : List Byte) (s : State) : Keeps s (execSpdmRequest p msg s) := by
  refine .ite (.same s) ?_
  split
  · exact .anchored (spdmAnswer_anchor ..)
  · repeat' apply Keeps.ite
    all_goals exact .anchored (by simp)

/-! ### Every instruction, then every step -/

/-- Every instruction completes and keeps. The cases are grouped by what runs: first those that reach the NOR or the
cells, then the writes of a door, then the others by their branches. -/
theorem exec_keeps (i : Instr) (s : State) : Keeps s (exec i s) := by
  cases i with
  | createIoSq | createIoCq | deleteIoSq | deleteIoCq | getLogPage | identify | abort | setFeaturesPowerManagement |
    setFeaturesVolatileWriteCache | setFeaturesNumberOfQueues | setFeaturesArbitration |
    setFeaturesTemperatureThreshold | setFeaturesInterruptCoalescing | setFeaturesInterruptVectorConfig |
    setFeaturesAsyncEventConfig | setFeaturesTimestamp | setFeaturesFdp | getFeatures | asyncEventRequest |
    namespaceCreate | namespaceDelete | namespaceAttach | namespaceDetach | firmwareImageDownload |
    firmwareCommitStore | firmwareCommitActivate | formatNvm | sanitizeBlockErase | sanitizeCryptoErase |
    sanitizeExitFailureMode | dictionaryRead | dictionaryWrite | flush | write | read | writeZeroes |
    datasetManagement | reservationRegister | reservationAcquire | reservationReport | reservationRelease | zoneOpen
    | zoneClose | zoneFinish | zoneReset | zoneOffline | setZoneDescriptorExtension | zoneManagementReceive |
    zoneAppend | zoneArchive | archiveCancel | zoneRecall | archiveQuery =>
    exact .next (runNow_kept ..)
  | benchRead | benchWrite | benchHarbour | benchReset | benchNorRead | benchNorErase | benchNorProgram |
    benchReboot =>
    exact .next (benchFrame_kept ..)
  | powerOnReset =>
    exact .next (.trans (.of_anchor (by simp)) (startUp_kept ..))
  | startSelfTest | queuePoolSplitWrite | budgetWrite | profileSelect | cellModeWrite | volumeAdopt | volumeRetire |
    bucketClear | bucketSettingsWrite | scratchpadCarveOut | cacheClean | cacheInvalidate | cacheCleanAndInvalidate
    | startSetNow | reconstructRequest | coefficientCommit | restoreDefaults | lockNow | adminArm |
    adminPolicyChange | adoptTier =>
    exact .anchored (writeNum_anchor ..)
  | tenantTableWrite | strategyTableWrite | scheduleWrite | sledTargetPosition | adminRequestFormat |
    adminRequestSanitize | adminRequestNamespaceDelete =>
    exact .anchored (doorWrite_anchor ..)
  | channelStatisticsClear | causewayClear | timebaseClear | servoCountsClear | spindleStart7200 | spindleStart9600
    | spindleBrake | spindleCoast | spindleStartAtSpeed | spindleCountsClear | sledHome | sledPark | sledStop |
    sledDeEnergise | loaderOpen | loaderClamp | loaderStop | collimatorHome | collimatorStop | faultClear |
    bayRestart | enterBayHarbour | calibrationRequest | bayEnableWrite =>
    exact .anchored (writeBay_anchor ..)
  | supplyResetLevel | fixedSupervisorTrip | managementWatchdogExpiry | holdupSelfTestEnd | perstNRelease |
    budgetPeriodBoundary | bucketLeak | planRebuild | replacementStart | replacementPacingWindow |
    chopperOffsetUpdate | barrierLoss | drvEnHigh | lockPoint | libraryOpenLoader | libraryClamp | libraryStopLoader
    | armWindowExpiry | msixCoalesceTimer =>
    exact .anchored (by simp)
  | junctionOverTemperature | cctempReached | thermalThrottleRelease | perstNAssert | controllerEnable | ccEnClear |
    shutdownNotification | sqTailDoorbell | cqHeadDoorbell | linkRetrain | drvEnLow | ethercatPortLinkChange =>
    exact .ite (.anchored (by simp)) (.anchored (by simp))
  | dipTimeLimit | thermalHarbourRecovery | holdupChargeWaitExpiry | stagedDataMigrate | adoptionComplete |
    retirementComplete | trainingTimeout | cwFltNLow | captureSettleTimeout | startTimeout | spindleRunning |
    speedLimited | coastObservationTimeout =>
    exact .ite (.anchored (by simp)) (.same s)
  | bayStart | dipRidden | holdupOkRise | holdupSelfTestInterval | functionLevelReset | hotReset | linkDown |
    formatComplete | sanitizeComplete | readCountCheckpoint | tierFormatComplete | mapRegionRebuildComplete |
    setBoundary | discFrameDecode | ladderStep2Revolution | linkTraining | windowClose | engineCycleBoundary |
    layerJump | seek | spindleRetry | coilRetry | coilRetryEpisodeEnd | driveSideFault | libraryAnswerLoaded |
    blankRequestRetry | pdoWatchdogExpiry | powerWake | retentionAgeReached | laserFaultClear =>
    exact .ite (.same s) (.anchored (by simp))
  | aggregateCoilLimit =>
    exact .ite (.anchored (by simp)) (.ite (.anchored (by simp)) (.anchored (by simp)))
  | forcedCommutation | benchAnswer =>
    exact .ite (.anchored (by simp)) (.ite (.anchored (by simp)) (.same s))
  | harbourFlushEnd | holdupOkFall | soundingPatrol | acquireLock | encoderCount | loopOverrun | focusCapture |
    writeModeEntry | coilCurrentLimit | aggregateCoilRepeat | libraryAnswerUnloaded =>
    exact .ite (.same s) (.ite (.anchored (by simp)) (.anchored (by simp)))
  | supplyDipStart | programRowDispatch | temperatureThresholdCrossing =>
    exact .ite (.anchored (by simp)) (.ite (.anchored (by simp)) (.ite (.anchored (by simp)) (.anchored (by simp))))
  | spindleWatchEnd | commutation | missedWindow | barrierRetrain | sdoDownload =>
    exact .ite (.same s) (.ite (.anchored (by simp)) (.ite (.anchored (by simp)) (.anchored (by simp))))
  | policyIdleTimer =>
    exact .ite (.same s) (.ite (.anchored (by simp)) (.ite (.anchored (by simp)) (.same s)))
  | servoCell | statusCell =>
    exact .ite (.same s) (.ite (.anchored (by simp)) (.ite (.same s) (.anchored (by simp))))
  | bootWatchdogExpiry => exact execBootWatchdogExpiry_keeps ..
  | resetNAssert => exact execResetNAssert_keeps ..
  | commandFetch => exact execCommandFetch_keeps ..
  | fetchError => exact execFetchError_keeps ..
  | commandDispatch => exact execCommandDispatch_keeps ..
  | registerWrite => exact execRegisterWrite_keeps ..
  | flashOperationStart => exact execFlashOperationStart_keeps ..
  | flashStatusPoll => exact execFlashStatusPoll_keeps ..
  | flashOperationTimeout => exact execFlashOperationTimeout_keeps ..
  | programSuspend => exact execProgramSuspend_keeps ..
  | programResume => exact execProgramResume_keeps ..
  | refreshRelocation => exact execRefreshRelocation_keeps ..
  | wearMove => exact execWearMove_keeps ..
  | memberRebuild => exact execMemberRebuild_keeps ..
  | coldStartReads => exact execColdStartReads_keeps ..
  | flashPatrol => exact execFlashPatrol_keeps ..
  | planBuildStart => exact execPlanBuildStart_keeps ..
  | planSeal => exact execPlanSeal_keeps ..
  | planDigestCheck => exact execPlanDigestCheck_keeps ..
  | rowStage => exact execRowStage_keeps ..
  | rowStart => exact execRowStart_keeps ..
  | frameDecision => exact execFrameDecision_keeps ..
  | writeResume => exact execWriteResume_keeps ..
  | reconstructionComplete => exact execReconstructionComplete_keeps ..
  | reallocation => exact execReallocation_keeps ..
  | resynchronisation => exact execResynchronisation_keeps ..
  | recallDiscIdentify => exact execRecallDiscIdentify_keeps ..
  | recallRead => exact execRecallRead_keeps ..
  | opc => exact execOpc_keeps ..
  | pqReconstruct => exact execPqReconstruct_keeps ..
  | spotSampleCell => exact execSpotSampleCell_keeps ..
  | registerAckTimeout => exact execRegisterAckTimeout_keeps ..
  | wedgeCommit => exact execWedgeCommit_keeps ..
  | eventFire => exact execEventFire_keeps ..
  | servoCalibration => exact execServoCalibration_keeps ..
  | brakeCheck => exact execBrakeCheck_keeps ..
  | brakeEnd => exact execBrakeEnd_keeps ..
  | zeroCrossing => exact execZeroCrossing_keeps ..
  | stepTimer => exact execStepTimer_keeps ..
  | driveSupplyCrossing => exact execDriveSupplyCrossing_keeps ..
  | driveSupplyRecovery => exact execDriveSupplyRecovery_keeps ..
  | coilRmsThreshold => exact execCoilRmsThreshold_keeps ..
  | sdoUpload => exact execSdoUpload_keeps ..
  | sdoInformation => exact execSdoInformation_keeps ..
  | segmentedTransferTimeout => exact execSegmentedTransferTimeout_keeps ..
  | libraryAnswerUnavailable => exact execLibraryAnswerUnavailable_keeps ..
  | libraryRequestTimeout => exact execLibraryRequestTimeout_keeps ..
  | unloadRepost => exact execUnloadRepost_keeps ..
  | discInserted => exact execDiscInserted_keeps ..
  | ethercatStateChange => exact execEthercatStateChange_keeps ..
  | powerHandshakeDelay => exact execPowerHandshakeDelay_keeps ..
  | shoalWatchCycle => exact execShoalWatchCycle_keeps ..
  | emergencyMessageSent => exact execEmergencyMessageSent_keeps ..
  | pcieLinkUp => exact execPcieLinkUp_keeps ..
  | discRemoved => exact execDiscRemoved_keeps ..
  | spdmRequest => exact execSpdmRequest_keeps ..

/-- A step with an empty queue lets the counters run on; any other executes the front command on the queue's rest. -/
theorem step_keeps (s : State) : Keeps { s with pending := s.pending.tail } (step s) := by
  unfold step
  split
  · next h => exact .anchored ((idle_anchor s).trans (by simp [State.anchor, h]))
  · next c rest h =>
    rw [h]
    exact exec_keeps c _

/-- Settles O60, by step_keeps taken apart into its five parts. -/
theorem everyStepKeeps : Obligations.EveryStepKeeps := by
  intro s
  obtain ⟨t, hstep, hpending, hcode, hserial, hcells, hnor⟩ := step_keeps s
  exact ⟨t, hstep, hpending, hcode, hserial, hcells, hnor⟩

end Sys2Proof.Machine
end

section
/-! SUPPORT. Resets of one controller (R13, R26, R39, R154) and the state right after reset. A reset takes the controller's queues
and requests; the events around it reach every controller, so what they leave is said first: the controller's own queues, since it
has no request to report on, and the rest of every other controller. -/

namespace Sys2Proof.Machine

open Sys2Proof

/-! ### What an event leaves of a controller without requests (R508) -/

/-- Controller p has no outstanding asynchronous event request, and l are its completion queues. -/
def Unasked (p : PortId) (l : List Cq) (s : State) : Prop :=
  (s.ctrls.get p).aers = [] ∧ (s.ctrls.get p).cqs = l

theorem Unasked.of_eq {p : PortId} {l : List Cq} {s t : State} (h : Unasked p l s) (e : t.ctrls = s.ctrls) : Unasked p l t := by
  unfold Unasked
  rw [e]
  exact h

/-- A completion of another controller (R40). -/
theorem ctrl_post_other {p q : PortId} (c : Completion) (s : State) (h : q ≠ p) :
    (post p c s).ctrls.get q = s.ctrls.get q := by
  unfold post modCq
  split
  · split
    · rw [ctrl_modCtrl_other _ _ h, ctrl_modCtrl_other _ _ h]
    · rfl
  · rfl

/-- With no request the event stays pending; another controller's report is not this one's. -/
theorem Unasked.reportAer {p : PortId} {l : List Cq} {s : State} (group : Nat) (q : PortId) (h : Unasked p l s) :
    Unasked p l (reportAer group q s) := by
  by_cases hpq : p = q
  · subst hpq
    obtain ⟨haers, hcqs⟩ := h
    unfold Machine.reportAer
    simp only [haers]
    split
    · exact ⟨haers, hcqs⟩
    · simpa [Unasked] using ⟨haers, hcqs⟩
  · have hsame : (Machine.reportAer group q s).ctrls.get p = s.ctrls.get p := by
      unfold Machine.reportAer
      dsimp only
      split
      · rfl
      · split
        · exact ctrl_modCtrl_other _ _ hpq
        · rw [ctrl_post_other _ _ hpq, ctrl_modCtrl_other _ _ hpq]
    unfold Unasked
    rw [hsame]
    exact h

theorem Unasked.reportAers {p : PortId} {l : List Cq} {s : State} (group : Nat) (qs : List PortId) (h : Unasked p l s) :
    Unasked p l (qs.foldl (fun t q => Machine.reportAer group q t) s) := by
  induction qs generalizing s with
  | nil => exact h
  | cons q qs ih => exact ih (h.reportAer group q)

theorem Unasked.deliver {p : PortId} {l : List Cq} {s : State} (r : EventRec) (h : Unasked p l s) :
    Unasked p l (deliver r s) := by
  have h1 : Unasked p l
      (if masked s 1 r.ev then s else allPorts.foldl (fun t q => Machine.reportAer (eventGroup r.ev) q t) s) := by
    split
    · exact h
    · exact h.reportAers _ _
  unfold Machine.deliver
  dsimp only
  refine h1.of_eq ?_
  split <;> split <;> simp

theorem Unasked.raiseNow {p : PortId} {l : List Cq} {s : State} (ev cause : Nat) (data : List Nat) (h : Unasked p l s) :
    Unasked p l (raiseNow ev cause data s) := by
  unfold Machine.raiseNow
  dsimp only
  split
  · exact h
  · exact Unasked.deliver _ (h.of_eq (by simp))

/-- A raise leaves the completion queues of a controller that has no request outstanding. -/
theorem Unasked.raise {p : PortId} {l : List Cq} {s : State} (ev cause : Nat) (data : List Nat) (h : Unasked p l s) :
    Unasked p l (raise ev cause data s) := by
  unfold Machine.raise
  split
  · exact h
  · split
    · exact h
    · exact h.raiseNow ..

/-! ### What is outside one controller (R13) -/

/-- Outside controller p and the discarded array operations, t is s: the other controllers' readiness and submission queues, the
zones, the bays and the part. -/
def ApartFrom (p : PortId) (s t : State) : Prop :=
  (∀ q : PortId, q ≠ p → (t.ctrls.get q).rdy = (s.ctrls.get q).rdy ∧ (t.ctrls.get q).sqs = (s.ctrls.get q).sqs) ∧
    t.hs.zones = s.hs.zones ∧ t.bays = s.bays ∧ t.part = s.part

theorem ApartFrom.refl (p : PortId) (s : State) : ApartFrom p s s := ⟨fun _ _ => ⟨rfl, rfl⟩, rfl, rfl, rfl⟩

theorem ApartFrom.trans {p : PortId} {s t u : State} (h : ApartFrom p s t) (h' : ApartFrom p t u) : ApartFrom p s u := by
  obtain ⟨hctrl, hzones, hbays, hpart⟩ := h
  obtain ⟨hctrl', hzones', hbays', hpart'⟩ := h'
  exact ⟨fun q hq => ⟨(hctrl' q hq).1.trans (hctrl q hq).1, (hctrl' q hq).2.trans (hctrl q hq).2⟩, hzones'.trans hzones,
    hbays'.trans hbays, hpart'.trans hpart⟩

theorem apartFrom_modCtrl (p : PortId) (f : Ctrl → Ctrl) (s : State) : ApartFrom p s (modCtrl p f s) := by
  refine ⟨fun q hq => ?_, rfl, rfl, rfl⟩
  rw [ctrl_modCtrl_other f s hq]
  exact ⟨rfl, rfl⟩

/-- A raise leaves each controller's enable, readiness, submission queues and link. -/
theorem raise_ctrl (ev cause : Nat) (data : List Nat) (s : State) (p : PortId) :
    ((raise ev cause data s).ctrls.get p).rdy = (s.ctrls.get p).rdy ∧
      ((raise ev cause data s).ctrls.get p).en = (s.ctrls.get p).en ∧
      ((raise ev cause data s).ctrls.get p).sqs = (s.ctrls.get p).sqs ∧
      ((raise ev cause data s).ctrls.get p).linkUp = (s.ctrls.get p).linkUp := by
  have hstill := raise_still ev cause data s p
  exact ⟨(congrArg Ctrl.rdy hstill :), (congrArg Ctrl.en hstill :), (congrArg Ctrl.sqs hstill :),
    (congrArg Ctrl.linkUp hstill :)⟩

theorem apartFrom_raise (p : PortId) (ev cause : Nat) (data : List Nat) (s : State) :
    ApartFrom p s (raise ev cause data s) := by
  refine ⟨fun q _ => ?_, by simp, by simp, by simp⟩
  obtain ⟨hrdy, _, hsqs, _⟩ := raise_ctrl ev cause data s q
  exact ⟨hrdy, hsqs⟩

theorem apartFrom_resetController (p : PortId) (deep : Bool) (s : State) : ApartFrom p s (resetController p deep s) :=
  apartFrom_modCtrl p _ (dropCommands p (discardOwned (fun o => o.1 == p) s))

/-! ### A controller that was reset (R26, R39) -/

/-- Which array operations are discarded rests on the flash tier alone (R154). -/
theorem discardOwned_flash_congr (mine : PortId × Nat → Bool) {s t : State} (h : t.flash = s.flash) :
    (discardOwned mine t).flash = (discardOwned mine s).flash := by
  simp only [discardOwned, modDies, h]

@[simp] theorem ctrl_resetController (p : PortId) (deep : Bool) (s : State) :
    (resetController p deep s).ctrls.get p = (s.ctrls.get p).afterReset deep :=
  ctrl_modCtrl_same p _ (dropCommands p (discardOwned (fun o => o.1 == p) s))

theorem resetController_evt (p : PortId) (deep : Bool) (s : State) : (resetController p deep s).evt = s.evt := rfl

/-- A reset of the controller says nothing of its link. -/
theorem resetController_linkUp (p : PortId) (deep : Bool) (s : State) :
    ((resetController p deep s).ctrls.get p).linkUp = (s.ctrls.get p).linkUp := by
  rw [ctrl_resetController]
  rfl

/-- None of the controller's commands is in flight after its reset (R39). -/
theorem resetController_inflight (p : PortId) (deep : Bool) (s : State) :
    ∀ i ∈ (resetController p deep s).hs.inflight, i.port ≠ p := by
  intro i hi
  have hkept : i ∈ s.hs.inflight.filter fun i => i.port != p := hi
  simpa using (List.mem_filter.mp hkept).2

/-- Controller p was reset, with whatever events: it is disabled, has no queue, no request and no command in flight, the
operations that served it are discarded, and what is outside it is as in s. -/
def WasReset (p : PortId) (s t : State) : Prop :=
  (t.ctrls.get p).rdy = false ∧ (t.ctrls.get p).en = false ∧ (t.ctrls.get p).sqs = [] ∧ Unasked p [] t ∧
    (∀ i ∈ t.hs.inflight, i.port ≠ p) ∧ t.flash = (discardOwned (fun o => o.1 == p) s).flash ∧ ApartFrom p s t

/-- The reset itself, from a state t that differs from s in this controller and in events only. -/
theorem wasReset_resetController {p : PortId} {s t : State} (deep : Bool) (h : ApartFrom p s t) (hflash : t.flash = s.flash) :
    WasReset p s (resetController p deep t) := by
  refine ⟨?_, ?_, ?_, ⟨?_, ?_⟩, resetController_inflight p deep t, discardOwned_flash_congr _ hflash,
    h.trans (apartFrom_resetController p deep t)⟩ <;> rw [ctrl_resetController] <;> rfl

/-- The reset's event. -/
theorem WasReset.raise {p : PortId} {s t : State} (ev cause : Nat) (data : List Nat) (h : WasReset p s t) :
    WasReset p s (raise ev cause data t) := by
  obtain ⟨hrdy, hen, hsqs, hasked, hinflight, hflash, hapart⟩ := h
  obtain ⟨hrdy', hen', hsqs', _⟩ := raise_ctrl ev cause data t p
  exact ⟨hrdy'.trans hrdy, hen'.trans hen, hsqs'.trans hsqs, hasked.raise ..,
    by simpa using hinflight, by simpa using hflash, hapart.trans (apartFrom_raise ..)⟩

/-- What a function level reset keeps of the configuration space (R26). -/
theorem WasReset.setPci {p : PortId} {s t : State} (g : Pci) (h : WasReset p s t) :
    WasReset p s (modCtrl p (fun k => { k with pci := g }) t) := by
  obtain ⟨hrdy, hen, hsqs, ⟨haers, hcqs⟩, hinflight, hflash, hapart⟩ := h
  refine ⟨?_, ?_, ?_, ⟨?_, ?_⟩, hinflight, hflash, hapart.trans (apartFrom_modCtrl ..)⟩ <;> rw [ctrl_modCtrl_same] <;> assumption

/-- The facts of WasReset in the order of the statement. -/
theorem WasReset.facts {p : PortId} {s t : State} (h : WasReset p s t) :
    (t.ctrls.get p).rdy = false ∧ (t.ctrls.get p).en = false ∧ (t.ctrls.get p).sqs = [] ∧ (t.ctrls.get p).cqs = [] ∧
      (t.ctrls.get p).aers = [] ∧ (∀ i ∈ t.hs.inflight, i.port ≠ p) ∧
      (∀ q : PortId, q ≠ p → (t.ctrls.get q).rdy = (s.ctrls.get q).rdy ∧ (t.ctrls.get q).sqs = (s.ctrls.get q).sqs) ∧
      t.hs.zones = s.hs.zones ∧ t.bays = s.bays ∧ t.flash = (discardOwned (fun o => o.1 == p) s).flash ∧ t.part = s.part := by
  obtain ⟨hrdy, hen, hsqs, ⟨haers, hcqs⟩, hinflight, hflash, hctrl, hzones, hbays, hpart⟩ := h
  exact ⟨hrdy, hen, hsqs, hcqs, haers, hinflight, hctrl, hzones, hbays, hflash, hpart⟩

/-- The controller reset event names its cause, unless the device sleeps (R26, R511). -/
theorem raiseReset_hasEvent (p : PortId) (cause : Nat) {s : State} (h : s.pwr.ps ≠ 4) :
    HasEvent (40 + p.val) cause [] (raiseReset p cause s) :=
  raise_hasEvent cause [] (eventAllowed_device s (by omega)) h

/-- A port whose controller changed by f and whose link event was raised: the state PERST_N_ASSERT and LINK_DOWN reset. -/
def linkLost (p : PortId) (f : Ctrl → Ctrl) (s : State) : State :=
  raise (32 + p.val) 1 [0, 0] (modCtrl p f s)

/-- A controller held by PERST_N (R26). -/
def Ctrl.inPerst (c : Ctrl) : Ctrl :=
  { c.linkDown with perst := true, accessible := false }

theorem execPerstNAssert_linkUp {p : PortId} {s : State} (hserved : portsServed s = true)
    (hpresent : (s.ctrls.get p).present = true) (hperst : (s.ctrls.get p).perst = false)
    (hlink : (s.ctrls.get p).linkUp = true) :
    execPerstNAssert p s = .next (raiseReset p 5 (resetController p true (linkLost p Ctrl.inPerst s))) := by
  refine (if_neg (by simp [hserved, hpresent, hperst])).trans ?_
  exact congrArg (fun t => Host.Outcome.next (raiseReset p 5 (resetController p true t))) (if_pos hlink)

theorem execLinkDown_linkUp {p : PortId} {s : State} (hlink : (s.ctrls.get p).linkUp = true) :
    execLinkDown p s = .next (resetController p true (linkLost p Ctrl.linkDown s)) :=
  if_neg (by simp [hlink])

/-- Nothing outside the controller changes when its link is lost, and a change that takes the link down is kept. -/
theorem linkLost_facts (p : PortId) {f : Ctrl → Ctrl} (s : State) (hf : ∀ c : Ctrl, (f c).linkUp = false) :
    ApartFrom p s (linkLost p f s) ∧ (linkLost p f s).flash = s.flash ∧ (linkLost p f s).pwr = s.pwr ∧
      ((linkLost p f s).ctrls.get p).linkUp = false := by
  obtain ⟨_, _, _, hlink⟩ := raise_ctrl (32 + p.val) 1 [0, 0] (modCtrl p f s) p
  exact ⟨(apartFrom_modCtrl p f s).trans (apartFrom_raise ..), by simp [linkLost], by simp [linkLost],
    hlink.trans (by simp [hf])⟩

/-- The link event of a port that goes down, unless the device sleeps (R13, R511). -/
theorem linkLost_hasEvent (p : PortId) (f : Ctrl → Ctrl) {s : State} (h : s.pwr.ps ≠ 4) :
    HasEvent (32 + p.val) 1 [0, 0] (linkLost p f s) :=
  raise_hasEvent 1 [0, 0] (eventAllowed_device _ (by omega)) h

/-! ### The five resets -/

section
variable {p : PortId} {s : State}

theorem Active.ps_ne_four (h : Active s) : s.pwr.ps ≠ 4 := by
  have := h.2
  omega

/-- CC_EN_CLEAR resets the controller, its registers kept, with cause 1. -/
theorem ccEnClear_resets (ha : Active s) (hen : (s.ctrls.get p).en = true) :
    Yields (.ccEnClear p) s fun t => WasReset p s t ∧ HasEvent (40 + p.val) 1 [] t := by
  refine ⟨raiseReset p 1 (resetController p false s), ?_, ?_, raiseReset_hasEvent p 1 ha.ps_ne_four⟩
  · have hawake : asleep s = false := by simp [asleep, ha.ps_ne_four]
    change execCcEnClear p s = _
    simp [execCcEnClear, disableController, hawake, hen]
  · exact (wasReset_resetController false (.refl p s) rfl).raise ..

/-- FUNCTION_LEVEL_RESET resets the function, with cause 2. -/
theorem functionLevelReset_resets (ha : Active s) (hacc : (s.ctrls.get p).accessible = true) :
    Yields (.functionLevelReset p) s fun t => WasReset p s t ∧ HasEvent (40 + p.val) 2 [] t := by
  refine ⟨_, (if_neg (by simp [hacc]) : execFunctionLevelReset p s = _), ?_, raiseReset_hasEvent p 2 ha.ps_ne_four⟩
  exact ((wasReset_resetController true (.refl p s) rfl).setPci _).raise ..

/-- HOT_RESET resets the function, with cause 3. -/
theorem hotReset_resets (ha : Active s) (hacc : (s.ctrls.get p).accessible = true) :
    Yields (.hotReset p) s fun t => WasReset p s t ∧ HasEvent (40 + p.val) 3 [] t := by
  refine ⟨_, (if_neg (by simp [hacc]) : execHotReset p s = _), ?_, raiseReset_hasEvent p 3 ha.ps_ne_four⟩
  exact (wasReset_resetController true (.refl p s) rfl).raise ..

/-- PERST_N_ASSERT takes the link down and resets the function, with cause 5. -/
theorem perstNAssert_resets (ha : Active s) (hpresent : (s.ctrls.get p).present = true) (hperst : (s.ctrls.get p).perst = false)
    (hlink : (s.ctrls.get p).linkUp = true) :
    Yields (.perstNAssert p) s fun t =>
      WasReset p s t ∧ HasEvent (40 + p.val) 5 [] t ∧ (t.ctrls.get p).linkUp = false := by
  have hserved : portsServed s = true := by simp [portsServed, ha.1]
  obtain ⟨hapart, hflash, hpwr, hdown⟩ := linkLost_facts p (f := Ctrl.inPerst) s fun _ => rfl
  have hps : (linkLost p Ctrl.inPerst s).pwr.ps ≠ 4 := by simpa [hpwr] using ha.ps_ne_four
  refine ⟨_, execPerstNAssert_linkUp hserved hpresent hperst hlink, ?_, raiseReset_hasEvent p 5 hps, ?_⟩
  · exact (wasReset_resetController true hapart hflash).raise ..
  · obtain ⟨_, _, _, hkept⟩ := raise_ctrl (40 + p.val) 5 [] (resetController p true (linkLost p Ctrl.inPerst s)) p
    exact (hkept.trans (resetController_linkUp ..)).trans hdown

/-- LINK_DOWN resets the function with the link event alone. -/
theorem linkDown_resets (ha : Active s) (hlink : (s.ctrls.get p).linkUp = true) :
    Yields (.linkDown p) s fun t =>
      WasReset p s t ∧ HasEvent (32 + p.val) 1 [0, 0] t ∧ (t.ctrls.get p).linkUp = false := by
  obtain ⟨hapart, hflash, _, hdown⟩ := linkLost_facts p (f := Ctrl.linkDown) s fun _ => rfl
  refine ⟨_, execLinkDown_linkUp hlink, wasReset_resetController true hapart hflash, ?_,
    (resetController_linkUp ..).trans hdown⟩
  unfold HasEvent
  rw [resetController_evt]
  exact linkLost_hasEvent p Ctrl.linkDown ha.ps_ne_four

end

/-- Settles O6, each reset by its own lemma. -/
theorem controllerResets : Obligations.ControllerResets := by
  intro p s ha hpresent hacc hen hperst hlink
  obtain ⟨t1, hstep1, hreset1, hevent1⟩ := ccEnClear_resets ha hen
  obtain ⟨t2, hstep2, hreset2, hevent2⟩ := functionLevelReset_resets ha hacc
  obtain ⟨t3, hstep3, hreset3, hevent3⟩ := hotReset_resets ha hacc
  obtain ⟨t5, hstep5, hreset5, hevent5, hlink5⟩ := perstNAssert_resets ha hpresent hperst hlink
  obtain ⟨td, hstepd, hresetd, heventd, hlinkd⟩ := linkDown_resets ha hlink
  exact ⟨⟨t1, hstep1, hreset1.facts, hevent1⟩, ⟨t2, hstep2, hreset2.facts, hevent2⟩, ⟨t3, hstep3, hreset3.facts, hevent3⟩,
    ⟨t5, hstep5, hreset5.facts, hevent5, hlink5⟩, ⟨td, hstepd, hresetd.facts, heventd, hlinkd⟩⟩

/-! ### The state right after reset -/

/-- Every controller at reset has the default of its fields. -/
theorem ctrl_reset (p : PortId) : State.reset.ctrls.get p = {} :=
  Vector.getElem_replicate p.isLt

/-- Every bay at reset has the default of its fields. -/
theorem bayAt_reset (b : BayId) : bayAt State.reset b = {} :=
  Vector.getElem_replicate b.isLt

/-- No value of the dictionary is written at reset, so every subindex reads its default (R458). -/
theorem num_reset (index sub : Nat) : num State.reset index sub = defaultNum State.reset.part.code index sub := rfl

/-- The default budgets keep the sums of R115. -/
theorem ownBudgets_reset_fit : budgetsFit (ownBudgets State.reset) = true := by
  have hdefaults : ownBudgets State.reset = (List.range 8).map fun i => defaultNum State.reset.part.code 0x2220 (i + 1) := rfl
  rw [hdefaults]
  decide +kernel

/-- Settles O59: the defaults of the queue, the controllers, the bays and the NOR, then the dictionary's. -/
theorem resetState : Obligations.ResetState := by
  refine ⟨rfl, rfl, rfl, rfl, fun p => ?_, fun b => ?_, reset_norWf, ?_, ?_, ownBudgets_reset_fit⟩
  · rw [ctrl_reset]
    exact ⟨rfl, rfl⟩
  · rw [bayAt_reset]
    exact ⟨rfl, rfl, rfl, rfl⟩
  · rw [num_reset]
    decide +kernel
  · rw [num_reset]
    decide +kernel

end Sys2Proof.Machine
end

section
/-! SUPPORT. Two statements that fail on the host side: what an Abort's dispatch marks (R63, R103), and a Flush of NSID FFFFFFFFh (R59). -/

namespace Sys2Proof.Machine

open Sys2Proof

/-! ### ABORT marks what waits (R103) -/

/-- A ready controller 0 whose I/O queue holds a fetched, unmarked Write that finds no room in a write cache of size 0. -/
def abortWitness : State :=
  { phase := .running
    hs := { cacheLimit := 0 }
    ctrls := Vector.replicate 4
      { present := true, rdy := true
        sqs := [{ size := 8 }, { qid := 1, size := 8, cqid := 1, fetched := [{ cmd := .write 1 0 [{}] false {} none }] }]
        cqs := [{ size := 8 }, { qid := 1, size := 8 }] } }

/-- Refutes O56: the dispatch of the Abort marks a fetched Write that finds no room in the write cache as waiting (R103), so
what was fetched does not stay as it was. -/
theorem not_abortAborts : ¬ Obligations.AbortAborts := by
  intro h
  have hready : AdminReady {} abortWitness :=
    ⟨rfl, ⟨⟨rfl, by decide⟩, ⟨rfl, rfl, by decide +kernel⟩, rfl, rfl, rfl, rfl, rfl, rfl, _, _, rfl, rfl⟩, rfl⟩
  obtain ⟨t, hstep, _, _, _, _, _, hfetched⟩ := h {} abortWitness 0 0 hready ⟨rfl, fun _ => rfl⟩
  have hrun : exec (.abort {} 0 0) abortWitness = .next (runNow {} (.abort 0 0) {} abortWitness) := rfl
  obtain rfl : runNow {} (.abort 0 0) {} abortWitness = t := by simpa [hrun] using hstep
  exact absurd (hfetched 0 1) (by decide +kernel)

/-! ### FLUSH takes the NSID FFFFFFFFh for every namespace (R59) -/

/-- A namespace of NSID FFFFFFFFh without data, beside one whose zone 0 holds one completed, unprogrammed LBA. -/
def flushWitnessNs : Ns := { nsid := 0xFFFFFFFF, attached := [0] }

/-- An I/O queue of a ready controller 0, with flushWitnessNs and a zone of another namespace that is not programmed. -/
def flushWitness : State :=
  { phase := .running
    hs := { ns := [flushWitnessNs], zones := [{ nsid := 1, idx := 0, st := .implicitOpen, wp := 1, ack := 1 }] }
    ctrls := Vector.replicate 4
      { present := true, rdy := true, sqs := [{ size := 8 }, { qid := 1, size := 8, cqid := 1 }]
        cqs := [{ size := 8 }, { qid := 1, size := 8 }] } }

/-- Refutes O17: a namespace with the NSID FFFFFFFFh has no unprogrammed data, but FLUSH takes that NSID for every namespace
(R59) and waits for the data of another one. -/
theorem not_readAndFlush : ¬ Obligations.ReadAndFlush := by
  intro h
  have hready : IoReady { sq := 1 } flushWitness :=
    ⟨by decide, ⟨⟨rfl, by decide⟩, ⟨rfl, rfl, by decide +kernel⟩, rfl, rfl, rfl, rfl, rfl, rfl, _, _, rfl, rfl⟩, rfl, rfl, rfl⟩
  obtain ⟨_, hflush, _⟩ := h { sq := 1 } {} flushWitness 0xFFFFFFFF 0 0 [] false {} flushWitnessNs hready rfl
  obtain ⟨t, hstep, hanswered, _⟩ := hflush rfl rfl
  have hrun : exec (.flush { sq := 1 } 0xFFFFFFFF) flushWitness =
      .next (runNow { sq := 1 } (.flush 0xFFFFFFFF) {} flushWitness) := rfl
  obtain rfl : runNow { sq := 1 } (.flush 0xFFFFFFFF) {} flushWitness = t := by simpa [hrun] using hstep
  exact absurd (congrArg Option.isSome hanswered) (by decide +kernel)

end Sys2Proof.Machine
end

section
/-! SUPPORT. Ports and queues: what marking the commands that wait for the write cache leaves (R103), a port that comes up, doorbells
and fetch. -/

namespace Sys2Proof.Machine

open Sys2Proof

/-! ### Changes of the controllers alone -/

/-- t is s but for the controllers. -/
def CtrlsAlone (s t : State) : Prop :=
  t = { s with ctrls := t.ctrls }

theorem CtrlsAlone.trans {s t u : State} (h : CtrlsAlone s t) (h' : CtrlsAlone t u) : CtrlsAlone s u :=
  Eq.trans h' (congrArg (fun x : State => { x with ctrls := u.ctrls }) h)

theorem ctrlsAlone_modCtrl (p : PortId) (f : Ctrl → Ctrl) (s : State) : CtrlsAlone s (modCtrl p f s) := rfl

/-- The submission queue that is changed, where the change keeps its identifier. -/
theorem sq_modSq_same (p : PortId) (qid : Nat) (f : Sq → Sq) (s : State) (h : ∀ q : Sq, (f q).qid = q.qid) :
    ((modSq p qid f s).ctrls.get p).sq? qid = ((s.ctrls.get p).sq? qid).map f := by
  unfold modSq Ctrl.sq?
  rw [ctrl_modCtrl_same]
  exact find_modWhere _ _ _ fun a ha => by simpa [h a] using ha

/-! ### Commands marked as waiting (R103) -/

/-- What the host gave of a fetched command. -/
def Fetched.entry (e : Fetched) : Nat × NvmeCmd × Dptr := (e.cid, e.cmd, e.dptr)

/-- A controller whose fetched commands are changed by m. -/
def Ctrl.marked (m : Fetched → Fetched) (c : Ctrl) : Ctrl :=
  { c with sqs := c.sqs.map fun q => { q with fetched := q.fetched.map m } }

/-- A change of fetched commands that changes none. -/
theorem Ctrl.marked_id (c : Ctrl) : c.marked id = c := by
  simp [Ctrl.marked]

theorem markWaiting_alone (s : State) : CtrlsAlone s (markWaiting s) := by
  unfold markWaiting
  dsimp only
  split <;> rfl

/-- Marking keeps of every fetched command what the host gave. -/
theorem markWaiting_ctrls (s : State) :
    ∃ m : Fetched → Fetched, (∀ e, (m e).entry = e.entry) ∧ ∀ p, (markWaiting s).ctrls.get p = (s.ctrls.get p).marked m := by
  unfold markWaiting
  dsimp only
  split
  · refine ⟨fun e => if cacheBlocked s e.cmd then { e with waited := true } else e, fun e => ?_, fun p => vector_ofFn _ p⟩
    dsimp only
    split <;> rfl
  · exact ⟨id, fun _ => rfl, fun p => (Ctrl.marked_id _).symm⟩

theorem Ctrl.sq_marked (m : Fetched → Fetched) (c : Ctrl) (qid : Nat) :
    (c.marked m).sq? qid = (c.sq? qid).map fun q => { q with fetched := q.fetched.map m } := by
  unfold Ctrl.sq? Ctrl.marked
  rw [List.find?_map]
  rfl

theorem map_entry_map {m : Fetched → Fetched} (hm : ∀ e, (m e).entry = e.entry) (l : List Fetched) :
    (l.map m).map Fetched.entry = l.map Fetched.entry := by
  rw [List.map_map]
  exact List.map_congr_left fun e _ => hm e

/-- What a submission queue shows of itself: identifier, head, tail, and what the host gave of each fetched command. -/
def Sq.shown (q : Sq) : Nat × Nat × Nat × List (Nat × NvmeCmd × Dptr) :=
  (q.qid, q.head, q.tail, q.fetched.map Fetched.entry)

theorem Ctrl.shown_marked {m : Fetched → Fetched} (hm : ∀ e, (m e).entry = e.entry) (c : Ctrl) :
    (c.marked m).sqs.map Sq.shown = c.sqs.map Sq.shown := by
  refine (List.map_map ..).trans (List.map_congr_left fun q _ => ?_)
  simp [Sq.shown, ← map_entry_map hm q.fetched]

/-- Marking leaves what every submission queue shows. -/
theorem shown_markWaiting (s : State) (p : PortId) :
    ((markWaiting s).ctrls.get p).sqs.map Sq.shown = (s.ctrls.get p).sqs.map Sq.shown := by
  obtain ⟨m, hm, hctrl⟩ := markWaiting_ctrls s
  rw [hctrl, Ctrl.shown_marked hm]

/-- The submission queue found shows what it showed before marking. -/
theorem sq_markWaiting (s : State) (p : PortId) (qid : Nat) :
    (((markWaiting s).ctrls.get p).sq? qid).map Sq.shown = ((s.ctrls.get p).sq? qid).map Sq.shown := by
  obtain ⟨m, hm, hctrl⟩ := markWaiting_ctrls s
  rw [hctrl, Ctrl.sq_marked, Option.map_map]
  exact congrArg (fun f => Option.map f _) (funext fun q => by simp [Sq.shown, ← map_entry_map hm q.fetched])

/-! ### A port comes up and its controller is enabled and shut down (R18, R22, R27, R61) -/

section
variable {p : PortId} {s : State}

theorem Active.portsServed (h : Active s) : portsServed s = true := by
  simp [Machine.portsServed, h.1]

/-- An active device is awake and captures nothing (R24). -/
theorem Active.awake (h : Active s) : asleep s = false := by
  simp [asleep, h.ps_ne_four]

theorem perstNRelease_opens (ha : Active s) (hpresent : (s.ctrls.get p).present = true) :
    Yields (.perstNRelease p) s fun t => (t.ctrls.get p).accessible = true ∧ (t.ctrls.get p).perst = false ∧ CtrlsAlone s t ∧
      ∀ q : PortId, q ≠ p → t.ctrls.get q = s.ctrls.get q := by
  refine ⟨_, (rfl : execPerstNRelease p s = _), ?_, ?_, rfl, fun q hq => ctrl_modCtrl_other _ s hq⟩ <;> rw [ctrl_modCtrl_same]
  simp [hpresent, ha.portsServed]

/-- What a raise leaves of a controller's link. -/
theorem raise_link (ev cause : Nat) (data : List Nat) (s : State) (p : PortId) :
    let c := s.ctrls.get p
    let k := (raise ev cause data s).ctrls.get p
    k.linkUp = c.linkUp ∧ k.rate = c.rate ∧ k.width = c.width ∧ k.flit = c.flit ∧ k.reversed = c.reversed ∧
      k.inverted = c.inverted := by
  have h := raise_still ev cause data s p
  exact ⟨(congrArg Ctrl.linkUp h :), (congrArg Ctrl.rate h :), (congrArg Ctrl.width h :), (congrArg Ctrl.flit h :),
    (congrArg Ctrl.reversed h :), (congrArg Ctrl.inverted h :)⟩

theorem pcieLinkUp_trains {rate r width : Nat} {reversed : Bool} {inverted : List Nat} (ha : Active s)
    (hpresent : (s.ctrls.get p).present = true) (hperst : (s.ctrls.get p).perst = false) (hrate : linkRate rate = some r) :
    Yields (.pcieLinkUp p rate width reversed inverted) s fun t =>
      (t.ctrls.get p).linkUp = true ∧ (t.ctrls.get p).rate = r ∧ (t.ctrls.get p).width = min width (splitWidth s) ∧
        (t.ctrls.get p).flit = (r == 64) ∧ (t.ctrls.get p).reversed = reversed ∧ (t.ctrls.get p).inverted = inverted ∧
        HasEvent (32 + p.val) (if r < 64 ∨ min width (splitWidth s) < splitWidth s then 3 else 2)
          [r, min width (splitWidth s)] t ∧ t.hs = s.hs ∧ t.bays = s.bays ∧ t.flash = s.flash := by
  have hstep : execPcieLinkUp p rate width reversed inverted s = .next (raise (32 + p.val)
      (if r < 64 ∨ min width (splitWidth s) < splitWidth s then 3 else 2) [r, min width (splitWidth s)]
      (modCtrl p (Ctrl.trained r (min width (splitWidth s)) reversed inverted) s)) := by
    simp [execPcieLinkUp, hpresent, hperst, ha.portsServed, hrate]
  obtain ⟨hup, hr, hw, hflit, hrev, hinv⟩ := raise_link (32 + p.val)
    (if r < 64 ∨ min width (splitWidth s) < splitWidth s then 3 else 2) [r, min width (splitWidth s)]
    (modCtrl p (Ctrl.trained r (min width (splitWidth s)) reversed inverted) s) p
  rw [ctrl_modCtrl_same] at hup hr hw hflit hrev hinv
  exact ⟨_, hstep, hup, hr, hw, hflit, hrev, hinv,
    raise_hasEvent _ _ (eventAllowed_device _ (by omega)) ha.ps_ne_four, by simp, by simp, by simp⟩

theorem controllerEnable_readies {asqs acqs mps ams : Nat} (ha : Active s) (hacc : (s.ctrls.get p).accessible = true)
    (hen : (s.ctrls.get p).en = false) (hasq : 2 ≤ asqs) (hasq' : asqs ≤ 4096) (hacq : 2 ≤ acqs) (hacq' : acqs ≤ 4096)
    (hmps : mps ≤ 4) (hams : ams ≤ 1) :
    Yields (.controllerEnable p asqs acqs mps ams) s fun t =>
      (t.ctrls.get p).rdy = true ∧ ((t.ctrls.get p).sqs.map fun q => (q.qid, q.size)) = [(0, asqs)] ∧
        ((t.ctrls.get p).cqs.map fun q => (q.qid, q.size)) = [(0, acqs)] ∧ CtrlsAlone s t ∧
        ∀ q : PortId, q ≠ p → t.ctrls.get q = s.ctrls.get q := by
  have hstep : execControllerEnable p asqs acqs mps ams s = .next (enableController p asqs acqs mps ams s) :=
    if_neg (by simp [ha.awake])
  have henable : enableController p asqs acqs mps ams s = modCtrl p (fun c =>
      { c with en := true, rdy := true, mps := mps, ams := ams, aqa := asqs - 1 + 65536 * (acqs - 1)
               sqs := [{ size := asqs }], cqs := [{ size := acqs }] }) s := by
    simp [enableController, hacc, hen, hasq, hasq', hacq, hacq', hmps, hams]
  rw [henable] at hstep
  refine ⟨_, hstep, ?_, ?_, ?_, rfl, fun q hq => ctrl_modCtrl_other _ s hq⟩ <;> rw [ctrl_modCtrl_same] <;> rfl

/-- A shutdown that waits for nothing is complete (R61). -/
theorem settleShutdown_done (hshst : (s.ctrls.get p).shst = 1) (hnone : (s.ctrls.get p).shutTargets = []) :
    settleShutdown p s = checkpointIfAll (modCtrl p (fun c => { c with shst := 2, shutTargets := [] }) s) :=
  if_pos ⟨hshst, by simp [hnone]⟩

/-- A shutdown checkpoint touches Tidemark alone (R555). -/
theorem checkpointIfAll_frame (s : State) :
    (checkpointIfAll s).ctrls = s.ctrls ∧ (checkpointIfAll s).evt = s.evt ∧ (checkpointIfAll s).hs = s.hs ∧
      (checkpointIfAll s).bays = s.bays ∧ (checkpointIfAll s).flash = s.flash := by
  unfold checkpointIfAll
  split <;> exact ⟨rfl, rfl, rfl, rfl, rfl⟩

/-- A shutdown of controller p that has nothing to wait for, reported and not yet settled. -/
def shutting (p : PortId) (s : State) : State :=
  raiseReset p 4 (modCtrl p (fun c => { c with shst := 1, shutTargets := [] }) s)

theorem shutting_ctrl (p : PortId) (s : State) :
    ((shutting p s).ctrls.get p).shst = 1 ∧ ((shutting p s).ctrls.get p).shutTargets = [] := by
  have hstill := raise_still (40 + p.val) 4 [] (modCtrl p (fun c => { c with shst := 1, shutTargets := [] }) s) p
  exact ⟨(congrArg Ctrl.shst hstill :).trans (by simp [Ctrl.still]), (congrArg Ctrl.shutTargets hstill :).trans (by simp [Ctrl.still])⟩

theorem shutdownNotification_completes (ha : Active s) (hacc : (s.ctrls.get p).accessible = true)
    (hshst : (s.ctrls.get p).shst = 0) (hown : ownTargets s p = []) :
    Yields (.shutdownNotification p) s fun t =>
      (t.ctrls.get p).shst = 2 ∧ HasEvent (40 + p.val) 4 [] t ∧ t.hs = s.hs ∧ t.bays = s.bays ∧ t.flash = s.flash := by
  have hstep : execShutdownNotification p s = .next (notifyShutdown p s) := if_neg (by simp [ha.awake])
  have hnotify : notifyShutdown p s = settleShutdown p (shutting p s) := by
    simp [notifyShutdown, hacc, hshst, hown, shutting]
  have hevent : HasEvent (40 + p.val) 4 [] (shutting p s) := raiseReset_hasEvent p 4 ha.ps_ne_four
  obtain ⟨hrunning, hnone⟩ := shutting_ctrl p s
  rw [hnotify, settleShutdown_done hrunning hnone] at hstep
  obtain ⟨hctrls, hevt, hhs, hbays, hflash⟩ :=
    checkpointIfAll_frame (modCtrl p (fun c => { c with shst := 2, shutTargets := [] }) (shutting p s))
  refine ⟨_, hstep, ?_, ?_, hhs.trans (by simp [shutting, raiseReset]), hbays.trans (by simp [shutting, raiseReset]),
    hflash.trans (by simp [shutting, raiseReset])⟩
  · rw [hctrls, ctrl_modCtrl_same]
  · unfold HasEvent
    rw [hevt]
    exact hevent

end

/-- Settles O7, each command by its own lemma. -/
theorem controllerComesUp : Obligations.ControllerComesUp := by
  intro p s rate r width asqs acqs mps ams reversed inverted ha hpresent
  exact ⟨perstNRelease_opens ha hpresent, fun hperst hrate => pcieLinkUp_trains ha hpresent hperst hrate,
    fun hacc hen hasq hasq' hacq hacq' hmps hams => controllerEnable_readies ha hacc hen hasq hasq' hacq hacq' hmps hams,
    fun hacc hshst hown => shutdownNotification_completes ha hacc hshst hown⟩

/-! ### Doorbells, fetch and registers (R23, R35, R40, R45, R46) -/

section
variable {p : PortId} {s : State} {qid : Nat}

/-- Nothing but controller p is changed. -/
def OneCtrl (p : PortId) (s t : State) : Prop :=
  t = { s with ctrls := t.ctrls } ∧ ∀ x : PortId, x ≠ p → t.ctrls.get x = s.ctrls.get x

theorem oneCtrl_modCtrl (p : PortId) (f : Ctrl → Ctrl) (s : State) : OneCtrl p s (modCtrl p f s) :=
  ⟨rfl, fun _ hx => ctrl_modCtrl_other f s hx⟩

theorem OneCtrl.trans {p : PortId} {s t u : State} (h : OneCtrl p s t) (h' : OneCtrl p t u) : OneCtrl p s u :=
  ⟨CtrlsAlone.trans h.1 h'.1, fun x hx => (h'.2 x hx).trans (h.2 x hx)⟩

/-- A post on a controller is its own affair. -/
theorem oneCtrl_post (p : PortId) (c : Completion) (s : State) : OneCtrl p s (post p c s) := by
  unfold post
  split
  · split
    · exact (oneCtrl_modCtrl p _ s).trans (oneCtrl_modCtrl p _ _)
    · exact ⟨rfl, fun _ _ => rfl⟩
  · exact ⟨rfl, fun _ _ => rfl⟩

/-- An invalid doorbell's event is its controller's own affair (R45). -/
theorem oneCtrl_errorEvent (p : PortId) (s : State) : OneCtrl p s (errorEvent p s) := by
  unfold errorEvent
  dsimp only
  split
  · exact (oneCtrl_modCtrl p _ s).trans (oneCtrl_post p _ _)
  · exact oneCtrl_modCtrl p _ s

/-- An invalid doorbell's event leaves the submission queues. -/
theorem sqs_errorEvent (p : PortId) (s : State) : ((errorEvent p s).ctrls.get p).sqs = (s.ctrls.get p).sqs := by
  unfold errorEvent
  dsimp only
  split
  · exact (congrArg Ctrl.sqs (post_still p _ _ p) :).trans (by rw [ctrl_modCtrl_same]; rfl)
  · rw [ctrl_modCtrl_same]

theorem execSqTailDoorbell_awake (ha : Active s) (p : PortId) (qid tail : Nat) :
    execSqTailDoorbell p qid tail s = .next (sqDoorbell p qid tail s) :=
  if_neg (by simp [ha.awake])

theorem sqTailDoorbell_moves {q : Sq} {tail : Nat} (ha : Active s) (hrdy : (s.ctrls.get p).rdy = true)
    (hq : (s.ctrls.get p).sq? qid = some q) (htail : tail < q.size) :
    Yields (.sqTailDoorbell p qid tail) s fun t =>
      (t.ctrls.get p).sq? qid = some { q with tail := tail } ∧ OneCtrl p s t := by
  have hbell : sqDoorbell p qid tail s = modSq p qid (fun q => { q with tail := tail }) s := by
    simp [sqDoorbell, hrdy, hq, Nat.not_le.2 htail]
  refine ⟨_, execSqTailDoorbell_awake ha p qid tail, ?_⟩
  rw [hbell]
  exact ⟨(sq_modSq_same _ _ (fun q => { q with tail := tail }) _ fun _ => rfl).trans (by rw [hq]; rfl), oneCtrl_modCtrl ..⟩

theorem sqTailDoorbell_stops {q : Sq} {tail : Nat} (ha : Active s) (hrdy : (s.ctrls.get p).rdy = true)
    (hq : (s.ctrls.get p).sq? qid = some q) (htail : q.size ≤ tail) :
    Yields (.sqTailDoorbell p qid tail) s fun t =>
      ((t.ctrls.get p).sq? qid).map (·.stopped) = some true ∧ OneCtrl p s t := by
  have hbell : sqDoorbell p qid tail s = errorEvent p (modSq p qid (fun q => { q with stopped := true }) s) := by
    simp [sqDoorbell, hrdy, hq, htail]
  refine ⟨_, execSqTailDoorbell_awake ha p qid tail, ?_⟩
  rw [hbell]
  refine ⟨?_, (oneCtrl_modCtrl ..).trans (oneCtrl_errorEvent ..)⟩
  unfold Ctrl.sq?
  rw [sqs_errorEvent]
  exact (congrArg (Option.map Sq.stopped) (sq_modSq_same p qid (fun q => { q with stopped := true }) s fun _ => rfl)).trans
    (by rw [hq]; rfl)

/-- With nothing waiting, a drain only reads the tail anew (R40). -/
theorem drain_idle {k : Cq} (h : k.waiting = []) :
    k.drain.head = k.head ∧ k.drain.posted = k.posted ∧ k.drain.waiting = [] := by
  simp [Cq.drain, h]

theorem cqHeadDoorbell_consumes {k : Cq} {head n : Nat} (ha : Active s) (hrdy : (s.ctrls.get p).rdy = true)
    (hk : (s.ctrls.get p).cq? qid = some k) (hwait : k.waiting = []) (hn : k.consumed head = some n) :
    Yields (.cqHeadDoorbell p qid head) s fun t =>
      ((t.ctrls.get p).cq? qid).map (fun x => (x.head, x.posted)) = some (head, k.posted.drop n) ∧ OneCtrl p s t := by
  have hstep : execCqHeadDoorbell p qid head s = .next (cqDoorbell p qid head s) := if_neg (by simp [ha.awake])
  obtain ⟨hhead, hposted, hwaiting⟩ := drain_idle (k := { k with head := head, posted := k.posted.drop n }) hwait
  have hbell : cqDoorbell p qid head s = modCtrl p (Ctrl.signals k.iv 0)
      (modCq p qid (fun q => Cq.drain { q with head := head, posted := q.posted.drop n }) s) := by
    simp [cqDoorbell, hrdy, hk, hn, hwait]
  refine ⟨_, hstep, ?_⟩
  rw [hbell]
  refine ⟨?_, (oneCtrl_modCtrl ..).trans (oneCtrl_modCtrl ..)⟩
  rw [ctrl_modCtrl_same]
  change (((modCq p qid _ s).ctrls.get p).cq? qid).map _ = _
  rw [cq_modCq_same _ _ (fun q => Cq.drain { q with head := head, posted := q.posted.drop n }) _ fun _ => rfl, hk]
  simp [hhead, hposted]

/-- A fetch shows the queue with its head advanced and the entry at the end (R35). -/
theorem commandFetch_copies {q : Sq} {cid : Nat} {c : NvmeCmd} {d : Dptr} (hq : (s.ctrls.get p).sq? qid = some q)
    (hfetch : mayFetch s p q = true) :
    Yields (.commandFetch p qid cid c d) s fun t =>
      (((t.ctrls.get p).sq? qid).map fun x => (x.head, x.tail, x.fetched.map Fetched.entry)) =
          some ((q.head + 1) % max 1 q.size, q.tail, q.fetched.map Fetched.entry ++ [(cid, c, d)]) ∧ CtrlsAlone s t ∧
        ∀ x : PortId, x ≠ p → (t.ctrls.get x).sqs.map Sq.shown = (s.ctrls.get x).sqs.map Sq.shown := by
  have hstep : execCommandFetch p qid cid c d s = .next (markWaiting (modSq p qid (fun q =>
      { q with head := (q.head + 1) % max 1 q.size, fetched := q.fetched ++ [{ cid := cid, cmd := c, dptr := d }] }) s)) := by
    simp [execCommandFetch, hq, hfetch]
  refine ⟨_, hstep, ?_, CtrlsAlone.trans (ctrlsAlone_modCtrl ..) (markWaiting_alone _), fun x hx => ?_⟩
  · have hshown := congrArg (Option.map Prod.snd) (sq_markWaiting (modSq p qid (fun q =>
      { q with head := (q.head + 1) % max 1 q.size, fetched := q.fetched ++ [{ cid := cid, cmd := c, dptr := d }] }) s) p qid)
    rw [sq_modSq_same _ _ _ _ (by exact fun _ => rfl), hq, Option.map_map] at hshown
    refine hshown.trans ?_
    simp [Sq.shown, Fetched.entry]
  · exact (shown_markWaiting _ x).trans (by rw [modSq, ctrl_modCtrl_other _ _ hx])

theorem fetchError_stops {q : Sq} (ha : Active s) (hq : (s.ctrls.get p).sq? qid = some q) (hfetch : mayFetch s p q = true) :
    Yields (.fetchError p qid) s fun t =>
      (t.ctrls.get p).cfs = true ∧ HasEvent (36 + p.val) 0 [] t ∧ t.hs = s.hs ∧ t.bays = s.bays ∧ t.flash = s.flash := by
  have hstep : execFetchError p qid s = .next (raise (36 + p.val) 0 [] (modCtrl p (fun c => { c with cfs := true }) s)) := by
    simp [execFetchError, hq, hfetch]
  refine ⟨_, hstep, ?_, raise_hasEvent _ _ (eventAllowed_device _ (by omega)) ha.ps_ne_four, by simp, by simp, by simp⟩
  have hstill := raise_still (36 + p.val) 0 [] (modCtrl p (fun c => { c with cfs := true }) s) p
  rw [ctrl_modCtrl_same] at hstill
  exact congrArg Ctrl.cfs hstill

/-- The two halves of a register written one after the other give the value (R23). -/
theorem putHalf_both (v old : BitVec 64) :
    putHalf true (v.extractLsb' 32 32) (putHalf false (v.extractLsb' 0 32) old) = v := by
  change (v.extractLsb' 32 32 ++ (old.extractLsb' 32 32 ++ v.extractLsb' 0 32 : BitVec (32 + 32)).extractLsb' 0 32 : BitVec (32 + 32)) = v
  rw [BitVec.extractLsb'_append_eq_right]
  refine BitVec.eq_of_getElem_eq fun i hi => ?_
  rw [BitVec.getElem_append]
  split
  · exact (BitVec.getElem_extractLsb' ..).trans (congrArg v.getLsbD (Nat.zero_add i))
  · next h => exact (BitVec.getElem_extractLsb' ..).trans (congrArg v.getLsbD (show 32 + (i - 32) = i by omega))

theorem registerWrite_setsAsq {v : BitVec 64} (ha : Active s) (hacc : (s.ctrls.get p).accessible = true)
    (hen : (s.ctrls.get p).en = false) :
    Yields (.registerWrite (.bar p 0x28 v)) s fun t => (t.ctrls.get p).asq = v ∧ OneCtrl p s t := by
  have hhalf : ∀ (off : Nat) (x : Dword) (t : State), (t.ctrls.get p).accessible = true → (off = 0x28 ∨ off = 0x2C) →
      barWrite4 p off x t = modCtrl p (fun c => if c.en then c else { c with asq := putHalf (off == 0x2C) x c.asq }) t := by
    intro off x t hacc hoff
    obtain rfl | rfl := hoff <;> simp [barWrite4, hacc]
  have hbar : barWrite p 0x28 v s = modCtrl p (fun c => if c.en then c else { c with asq := putHalf true (v.extractLsb' 32 32) c.asq })
      (modCtrl p (fun c => if c.en then c else { c with asq := putHalf false (v.extractLsb' 0 32) c.asq }) s) := by
    unfold barWrite
    rw [hhalf 0x28 _ s hacc (.inl rfl)]
    refine hhalf 0x2C _ _ ?_ (.inr rfl)
    rw [ctrl_modCtrl_same]
    simp [hen, hacc]
  have hstep : exec (.registerWrite (.bar p 0x28 v)) s = .next (hostWrite p 0x28 v s) := rfl
  have hwrite : hostWrite p 0x28 v s = barWrite p 0x28 v s := if_neg (by simp [ha.awake])
  refine ⟨_, hstep, ?_⟩
  rw [hwrite, hbar]
  refine ⟨?_, (oneCtrl_modCtrl ..).trans (oneCtrl_modCtrl ..)⟩
  rw [ctrl_modCtrl_same, ctrl_modCtrl_same]
  simp [hen, putHalf_both]

end

/-- Settles O8, each command by its own lemma. -/
theorem doorbellsAndFetch : Obligations.DoorbellsAndFetch := by
  intro p s qid n tail head cid c d q k v ha
  refine ⟨fun hrdy hq htail => sqTailDoorbell_moves ha hrdy hq htail, fun hrdy hq htail => sqTailDoorbell_stops ha hrdy hq htail,
    fun hrdy hk hwait hn => cqHeadDoorbell_consumes ha hrdy hk hwait hn, fun hq hfetch => commandFetch_copies hq hfetch,
    fun hq hfetch => fetchError_stops ha hq hfetch, fun hacc hen => registerWrite_setsAsq ha hacc hen⟩

end Sys2Proof.Machine
end

section
/-! SUPPORT. Commands of a ready queue: what the device's run of a command comes to when nothing else completes with it (R36, R37),
and what its completion leaves; then the admin commands on queues and reports, and the reservations. -/

namespace Sys2Proof.Machine

open Sys2Proof

/-! ### Queues keep their form (R34, R40) -/

/-- What a submission queue was created as. -/
def Sq.form (q : Sq) : Nat × Nat × Nat := (q.qid, q.size, q.cqid)

/-- What a completion queue was created as. -/
def Cq.form (k : Cq) : Nat × Nat × Nat := (k.qid, k.size, k.iv)

/-- A controller's queues as they were created, and its shutdown status. -/
def Ctrl.form (c : Ctrl) : List (Nat × Nat × Nat) × List (Nat × Nat × Nat) × Nat :=
  (c.sqs.map Sq.form, c.cqs.map Cq.form, c.shst)

/-- Every controller has the queues it had, and its shutdown status. -/
def QueuesKept (s t : State) : Prop :=
  ∀ p : PortId, (t.ctrls.get p).form = (s.ctrls.get p).form

theorem QueuesKept.refl (s : State) : QueuesKept s s := fun _ => rfl

theorem QueuesKept.trans {s t u : State} (h : QueuesKept s t) (h' : QueuesKept t u) : QueuesKept s u :=
  fun p => (h' p).trans (h p)

theorem QueuesKept.of_eq {s t : State} (h : t.ctrls = s.ctrls) : QueuesKept s t := fun p => by rw [h]

theorem QueuesKept.modCtrl (p : PortId) (f : Ctrl → Ctrl) (s : State) (h : ∀ c, (f c).form = c.form) :
    QueuesKept s (modCtrl p f s) := by
  intro q
  by_cases hq : q = p
  · subst hq
    rw [ctrl_modCtrl_same, h]
  · rw [ctrl_modCtrl_other f s hq]

theorem QueuesKept.foldl {α : Type} (g : State → α → State) (h : ∀ t a, QueuesKept t (g t a)) (l : List α) (s : State) :
    QueuesKept s (l.foldl g s) := by
  induction l generalizing s with
  | nil => exact .refl s
  | cons a l ih => exact (h s a).trans (ih (g s a))

/-- A change in place that keeps what a view shows keeps the list of it. -/
theorem map_modWhere {α β : Type} (view : α → β) (p : α → Bool) (f : α → α) (l : List α) (h : ∀ a, view (f a) = view a) :
    (modWhere p f l).map view = l.map view := by
  refine (List.map_map ..).trans (List.map_congr_left fun a _ => ?_)
  dsimp only [Function.comp]
  split
  · exact h a
  · rfl

theorem Cq.form_push (c : Completion) (k : Cq) : (k.push c).form = k.form := by
  unfold Cq.push
  split <;> rfl

theorem Ctrl.form_signal (v : Nat) (c : Ctrl) : (c.signal v).form = c.form := by
  unfold Ctrl.signal
  split <;> rfl

theorem queuesKept_post (p : PortId) (c : Completion) (s : State) : QueuesKept s (post p c s) := by
  unfold post
  split
  · split
    · refine QueuesKept.trans (.modCtrl _ _ _ fun k => ?_) (.modCtrl _ _ _ fun k => ?_)
      · simp [Ctrl.form, map_modWhere Cq.form _ _ _ (Cq.form_push _)]
      · split
        · exact k.form_signal _
        · rfl
    · exact .refl s
  · exact .refl s

theorem queuesKept_reportAer (group : Nat) (p : PortId) (s : State) : QueuesKept s (reportAer group p s) := by
  unfold reportAer
  dsimp only
  split
  · exact .refl s
  · split
    · exact .modCtrl _ _ _ fun _ => rfl
    · refine QueuesKept.trans ?_ (queuesKept_post _ _ _)
      exact .modCtrl _ _ _ fun _ => rfl

theorem queuesKept_deliver (r : EventRec) (s : State) : QueuesKept s (deliver r s) := by
  have h : QueuesKept s (if masked s 1 r.ev then s else allPorts.foldl (fun t p => reportAer (eventGroup r.ev) p t) s) := by
    split
    · exact .refl s
    · exact .foldl _ (fun t p => queuesKept_reportAer _ p t) _ s
  unfold deliver
  dsimp only
  refine h.trans (.of_eq ?_)
  split <;> split <;> simp

theorem queuesKept_raise (ev cause : Nat) (data : List Nat) (s : State) : QueuesKept s (raise ev cause data s) := by
  unfold raise
  split
  · exact .refl s
  · split
    · exact .of_eq rfl
    · unfold raiseNow
      dsimp only
      split
      · exact .of_eq rfl
      · refine QueuesKept.trans ?_ (queuesKept_deliver _ _)
        exact .of_eq (by simp)

theorem queuesKept_markWaiting (s : State) : QueuesKept s (markWaiting s) := by
  obtain ⟨m, _, hctrl⟩ := markWaiting_ctrls s
  intro p
  rw [hctrl]
  simp [Ctrl.form, Ctrl.marked, List.map_map, Function.comp_def, Sq.form]

/-- The queue found under an identifier has the form found under it. -/
theorem Ctrl.form_sq (c : Ctrl) (qid : Nat) : (c.sq? qid).map Sq.form = (c.sqs.map Sq.form).find? fun f => f.1 == qid := by
  rw [List.find?_map]
  rfl

theorem Ctrl.form_cq (c : Ctrl) (qid : Nat) : (c.cq? qid).map Cq.form = (c.cqs.map Cq.form).find? fun f => f.1 == qid := by
  rw [List.find?_map]
  rfl

theorem QueuesKept.sq {s t : State} (h : QueuesKept s t) (p : PortId) (qid : Nat) :
    ((t.ctrls.get p).sq? qid).map Sq.form = ((s.ctrls.get p).sq? qid).map Sq.form := by
  have hsqs : (t.ctrls.get p).sqs.map Sq.form = (s.ctrls.get p).sqs.map Sq.form := congrArg Prod.fst (h p)
  rw [Ctrl.form_sq, Ctrl.form_sq, hsqs]

theorem QueuesKept.cq {s t : State} (h : QueuesKept s t) (p : PortId) (qid : Nat) :
    ((t.ctrls.get p).cq? qid).map Cq.form = ((s.ctrls.get p).cq? qid).map Cq.form := by
  have hcqs : (t.ctrls.get p).cqs.map Cq.form = (s.ctrls.get p).cqs.map Cq.form := congrArg (fun f => f.2.1) (h p)
  rw [Ctrl.form_cq, Ctrl.form_cq, hcqs]

/-- A command's submission queue exists and is bound to a completion queue. -/
def Bound (src : Src) (s : State) : Prop :=
  ∃ q k, (s.ctrls.get src.port).sq? src.sq = some q ∧ (s.ctrls.get src.port).cq? q.cqid = some k

theorem Bound.of_kept {src : Src} {s t : State} (h : Bound src s) (hkept : QueuesKept s t) : Bound src t := by
  obtain ⟨q, k, hq, hk⟩ := h
  have hsq := hkept.sq src.port src.sq
  have hcq := hkept.cq src.port q.cqid
  rw [hq] at hsq
  rw [hk] at hcq
  obtain ⟨q', hq', hform⟩ := Option.map_eq_some_iff.1 hsq
  obtain ⟨k', hk', _⟩ := Option.map_eq_some_iff.1 hcq
  have hcqid : q'.cqid = q.cqid := congrArg (fun f => f.2.2) hform
  exact ⟨q', k', hq', by rw [hcqid, hk']⟩

theorem Quiet.of_kept {s t : State} (h : Quiet s) (hflight : t.hs.inflight = s.hs.inflight) (hwait : t.hs.waitR = s.hs.waitR)
    (hkept : QueuesKept s t) : Quiet t := by
  obtain ⟨hflight', hwait', hshst⟩ := h
  exact ⟨hflight.trans hflight', hwait.trans hwait',
    fun p e => hshst p ((congrArg (fun f => f.2.2) (hkept p) : (t.ctrls.get p).shst = _).symm.trans e)⟩

/-! ### Completing a command (R40, R57 to R61) -/

/-- Shutdowns that do not run do not complete (R61). -/
theorem settleShutdowns_idle {s : State} (h : ∀ p : PortId, (s.ctrls.get p).shst ≠ 1) (ps : List PortId) :
    ps.foldl (fun t p => settleShutdown p t) s = s := by
  induction ps with
  | nil => rfl
  | cons p ps ih =>
    have hp : settleShutdown p s = s := if_neg fun e => h p e.1
    rw [List.foldl_cons, hp, ih]

/-- With nothing in flight and no shutdown, nothing else completes. -/
theorem Quiet.settle {s : State} (h : Quiet s) : settle s = s := by
  obtain ⟨hflight, _, hshst⟩ := h
  unfold Machine.settle
  rw [hflight]
  exact settleShutdowns_idle hshst _

theorem newest_markWaiting (src : Src) (s : State) : newest src (markWaiting s) = newest src s := by
  obtain ⟨m, _, hctrl⟩ := markWaiting_ctrls s
  unfold newest
  rw [hctrl, Ctrl.sq_marked]
  cases (s.ctrls.get src.port).sq? src.sq <;> rfl

/-- After src's command ended in u with c as its answer: the newest entry of its queue is c, and nothing but the controllers
differs from u, with their queues as they were. -/
def EndsWith (src : Src) (c : Completion) (u t : State) : Prop :=
  (∃ head, newest src t = some { c with sqhd := head }) ∧ CtrlsAlone u t ∧ QueuesKept u t

theorem EndsWith.answered {src : Src} {c : Completion} {u t : State} {st : Status} (h : EndsWith src c u t) (hcid : c.cid = src.cid)
    (hsq : c.sq = src.sq) (hst : (c.sct, c.sc) = st.code) : Answered src st t := by
  obtain ⟨⟨head, hnewest⟩, _⟩ := h
  unfold Answered
  rw [hnewest]
  simp [hcid, hsq, ← hst]

/-- What the newest entry shows, whatever the queue's head. -/
theorem EndsWith.shows {src : Src} {c : Completion} {u t : State} {β : Type} (h : EndsWith src c u t) (view : Completion → β)
    (hview : ∀ head, view { c with sqhd := head } = view c) : (newest src t).map view = some (view c) := by
  obtain ⟨⟨head, hnewest⟩, _⟩ := h
  rw [hnewest, Option.map_some, hview]

/-- A success given when nothing else completes (R40). -/
theorem completes {src : Src} {u : State} (dw0 dw1 : Dword) (data : List Byte) (blocks : List Blk) (hquiet : Quiet u)
    (hbound : Bound src u) :
    EndsWith src (completionOf src .success dw0 dw1 data blocks) u
      (markWaiting (settle (complete src .success dw0 dw1 data blocks u))) := by
  obtain ⟨q, k, hq, hk⟩ := hbound
  have hwait := hquiet.2.1
  have hpost : complete src .success dw0 dw1 data blocks u = post src.port (completionOf src .success dw0 dw1 data blocks) u :=
    (complete_now src .success dw0 dw1 data blocks hwait).trans (by simp [finish, completionOf, Status.code])
  have hkept : QueuesKept u (complete src .success dw0 dw1 data blocks u) := by
    rw [hpost]
    exact queuesKept_post _ _ _
  have halone : CtrlsAlone u (complete src .success dw0 dw1 data blocks u) := hpost ▸ (oneCtrl_post ..).1
  have hhs := complete_success_hs src dw0 dw1 data blocks hwait
  rw [(hquiet.of_kept (congrArg Hs.inflight hhs) (congrArg Hs.waitR hhs) hkept).settle]
  refine ⟨⟨q.head, ?_⟩, halone.trans (markWaiting_alone _), hkept.trans (queuesKept_markWaiting _)⟩
  rw [newest_markWaiting, newest_complete .success dw0 dw1 data blocks hq hk hwait]

/-! ### What the transfer of a command's data counts (R21) -/

theorem countRequests_alone (src : Src) (x : Xfer) (s : State) : CtrlsAlone s (countRequests src x s) := by
  unfold countRequests
  split <;> rfl

theorem queuesKept_countRequests (src : Src) (x : Xfer) (s : State) : QueuesKept s (countRequests src x s) := by
  unfold countRequests
  split
  · exact .refl s
  · exact .modCtrl _ _ _ fun _ => rfl

/-- A transfer to the host takes no request (R21). -/
theorem countRequests_read {src : Src} {x : Xfer} (s : State) (h : x.read = true) : countRequests src x s = s :=
  if_pos (.inl h)

/-- A command without data takes no request. -/
theorem countRequests_none (src : Src) (s : State) : countRequests src {} s = s :=
  if_pos (.inr ⟨rfl, rfl⟩)

@[simp] theorem countRequests_start (src : Src) (x : Xfer) (s : State) :
    (countRequests src x s).lockPassed = s.lockPassed ∧ (countRequests src x s).tierState = s.tierState ∧
      (countRequests src x s).part = s.part ∧ (countRequests src x s).fw = s.fw := by
  rw [countRequests_alone src x s]
  exact ⟨rfl, rfl, rfl, rfl⟩

@[simp] theorem countRequests_host (src : Src) (x : Xfer) (s : State) :
    (countRequests src x s).evt = s.evt ∧ (countRequests src x s).hs = s.hs ∧ (countRequests src x s).flash = s.flash ∧
      (countRequests src x s).tide = s.tide ∧ (countRequests src x s).bw = s.bw ∧ (countRequests src x s).mem = s.mem := by
  rw [countRequests_alone src x s]
  exact ⟨rfl, rfl, rfl, rfl, rfl, rfl⟩

@[simp] theorem countRequests_drive (src : Src) (x : Xfer) (s : State) :
    (countRequests src x s).ebb = s.ebb ∧ (countRequests src x s).bays = s.bays ∧ (countRequests src x s).doors = s.doors ∧
      (countRequests src x s).adm = s.adm ∧ (countRequests src x s).pwr = s.pwr ∧ (countRequests src x s).sup = s.sup := by
  rw [countRequests_alone src x s]
  exact ⟨rfl, rfl, rfl, rfl, rfl, rfl⟩

/-- The gate of a namespace looks at the namespaces and the administration alone (R37). -/
theorem nsGate_congr {s t : State} (hns : t.hs.ns = s.hs.ns) (hadm : t.adm = s.adm) (p : PortId) (nsid : Nat) :
    nsGate t p nsid = nsGate s p nsid := by
  unfold nsGate sanitizeGate nsOf
  rw [hns, hadm]

/-- A namespace that passes its gate exists (R37). -/
theorem nsOf_of_nsGate {s : State} {p : PortId} {nsid : Nat} {n : Ns} (h : nsGate s p nsid = .ok n) : nsOf s nsid = some n := by
  unfold nsGate at h
  split at h
  · cases h
  · cases h
  · next m _ hm =>
    split at h
    · cases h
    · split at h
      · cases h
      · exact hm.trans (congrArg some (Except.ok.inj h))

/-! ### The run of a command (R36, R37) -/

/-- Admin commands need no room in the write cache (R103). -/
theorem cacheNeed_admin {c : NvmeCmd} (h : isAdmin c = true) : cacheNeed c = 0 := by
  unfold cacheNeed
  split
  · cases h
  · cases h
  · cases h
  · rfl

/-- A command that needs no room is not kept back (R103). -/
theorem cacheBlocked_of_need {s : State} {c : NvmeCmd} (h : cacheNeed c = 0) : cacheBlocked s c = false := by
  simp [cacheBlocked, h]

theorem HostReady.bound {src : Src} {s : State} (h : HostReady src s) : Bound src s := by
  obtain ⟨_, _, _, _, _, _, _, _, hbound⟩ := h
  exact hbound

theorem HostReady.quiet {src : Src} {s : State} (h : HostReady src s) : Quiet s := h.2.1

/-- A ready queue's command runs (R36). -/
theorem HostReady.runNow {src : Src} {s : State} (h : HostReady src s) (c : NvmeCmd) (e : Env) (hroom : cacheBlocked s c = false) :
    runNow src c e s = markWaiting (settle (runNvme src c e s)) := by
  obtain ⟨⟨hphase, hps⟩, _, hshaking, _, _, _, _, hrdy, q, _, hq, _⟩ := h
  have hserve : mayServe s c = true := by simp [mayServe, hphase, hshaking, hps]
  simp [Machine.runNow, hrdy, hq, hserve, hroom]

/-- An admin command that reaches its data (R47, R51). -/
theorem runNow_admin {src : Src} {s : State} {c : NvmeCmd} (h : AdminReady src s) (hc : isAdmin c = true) (hreach : Reaches src c s) :
    runNow src c {} s = markWaiting (settle (runAdmin src c (countRequests src (dataOf s src c) s))) := by
  obtain ⟨hsq, hready, hrunning⟩ := h
  obtain ⟨hfault, hprp⟩ := hreach
  have hphase : s.phase = .running := hready.1.1
  rw [hready.runNow c {} (cacheBlocked_of_need (cacheNeed_admin hc))]
  simp [runNvme, hc, hsq, hphase, hrunning, admCommand, hprp hc, hfault, unlessFault]

/-- The state with no region waited for. -/
def unwaited (s : State) : State := { s with hs := { s.hs with waitR := [] } }

theorem unwaited_of {s : State} (h : s.hs.waitR = []) : unwaited s = s := by
  unfold unwaited
  rw [← h]

/-- With every region of the map rebuilt a command waits for none (R122). -/
theorem regionsMissing_none {s : State} (c : NvmeCmd) (h : s.hs.regions = []) (h' : s.hs.promoted = []) (h'' : s.hs.rebuilding = []) :
    regionsMissing s c = [] := by
  simp [regionsMissing, regionMissing, h, h', h'']

/-- An I/O command that meets no memory error and no fault of its pointers (R37, R51, R122). -/
theorem runNow_io {src : Src} {s : State} {c : NvmeCmd} {e : Env} (h : IoReady src s) (hc : isAdmin c = false)
    (hroom : cacheBlocked s c = false) (hmem : e.mem = []) (htag : e.tag = none) (hfault : dataFault s src c = none) :
    runNow src c e s = markWaiting (settle (unwaited (runIo src c e (countRequests src (dataOf s src c) s)))) := by
  obtain ⟨hsq, hready, _, _, _⟩ := h
  have hrun := hready.runNow c e hroom
  obtain ⟨_, ⟨_, hwait, _⟩, _, _, hregions, hpromoted, hrebuilding, _⟩ := hready
  have hnone := regionsMissing_none c hregions hpromoted hrebuilding
  have hnvme : runNvme src c e s = unwaited (runIo src c e (unwaited (countRequests src (dataOf s src c) s))) := by
    simp [runNvme, hc, hsq, ioCommand, ioFault, hmem, htag, hfault, mapFault, metErrors, memErrors, hnone, unlessFault,
      loseStaging, stagingLosses, unwaited]
  rw [hrun, hnvme, unwaited_of (s := countRequests src (dataOf s src c) s) (by simpa using hwait)]

section
variable {src : Src} {s u : State} {c : NvmeCmd} {dw0 dw1 : Dword} {data : List Byte} {blocks : List Blk}

/-- An admin command whose effect is u answers success. -/
theorem AdminReady.ends (h : AdminReady src s) (hc : isAdmin c = true) (hreach : Reaches src c s)
    (hrun : runAdmin src c (countRequests src (dataOf s src c) s) = complete src .success dw0 dw1 data blocks u)
    (hflight : u.hs.inflight = s.hs.inflight) (hwait : u.hs.waitR = s.hs.waitR)
    (hshst : ∀ p, (u.ctrls.get p).shst = (s.ctrls.get p).shst) (hbound : Bound src u) :
    EndsWith src (completionOf src .success dw0 dw1 data blocks) u (runNow src c {} s) := by
  obtain ⟨hflight', hwait', hshst'⟩ := h.2.1.quiet
  rw [runNow_admin h hc hreach, hrun]
  exact completes dw0 dw1 data blocks ⟨hflight.trans hflight', hwait.trans hwait', fun p => hshst p ▸ hshst' p⟩ hbound

/-- An I/O command whose effect is u, with the queues as they were, answers success. -/
theorem IoReady.ends {e : Env} (h : IoReady src s) (hc : isAdmin c = false) (hroom : cacheBlocked s c = false) (hmem : e.mem = [])
    (htag : e.tag = none) (hfault : dataFault s src c = none)
    (hrun : runIo src c e (countRequests src (dataOf s src c) s) = complete src .success dw0 dw1 data blocks u)
    (hflight : u.hs.inflight = s.hs.inflight) (hwait : u.hs.waitR = s.hs.waitR) (hkept : QueuesKept s u) :
    EndsWith src (completionOf src .success dw0 dw1 data blocks) u (runNow src c e s) := by
  have hquiet := h.2.1.quiet.of_kept hflight hwait hkept
  rw [runNow_io h hc hroom hmem htag hfault, hrun,
    unwaited_of ((congrArg Hs.waitR (complete_success_hs src dw0 dw1 data blocks hquiet.2.1)).trans hquiet.2.1)]
  exact completes dw0 dw1 data blocks hquiet (h.2.1.bound.of_kept hkept)

end

/-- A success of src answers success. -/
theorem EndsWith.success {src : Src} {dw0 dw1 : Dword} {data : List Byte} {blocks : List Blk} {u t : State}
    (h : EndsWith src (completionOf src .success dw0 dw1 data blocks) u t) : Answered src .success t :=
  h.answered rfl rfl rfl

/-- What a view that does not look at the controllers sees after the answer. -/
theorem EndsWith.same {src : Src} {c : Completion} {u t : State} {β : Type} (h : EndsWith src c u t) (view : State → β)
    (hview : ∀ x, view { u with ctrls := x } = view u) : view t = view u := by
  obtain ⟨_, halone, _⟩ := h
  exact (congrArg view halone).trans (hview _)

/-! ### Queues are created and deleted (R29, R34, R38) -/

section
variable {src : Src} {s : State} {qid size : Nat}

/-- After the answer the device is as in u, in the parts of the state a queue command keeps. -/
theorem EndsWith.deviceKept {c : Completion} {u t : State} (h : EndsWith src c u t) :
    DeviceKept u t ∧ t.hs = u.hs ∧ t.evt = u.evt ∧ t.lockPassed = u.lockPassed :=
  ⟨⟨h.same State.bays fun _ => rfl, h.same State.flash fun _ => rfl, h.same State.ebb fun _ => rfl,
    h.same State.part fun _ => rfl, h.same State.doors fun _ => rfl⟩, h.same State.hs fun _ => rfl, h.same State.evt fun _ => rfl,
    h.same State.lockPassed fun _ => rfl⟩

/-- A change of one controller that keeps its shutdown status keeps every one's. -/
theorem shst_modCtrl (p : PortId) (f : Ctrl → Ctrl) (s : State) (h : ∀ c, (f c).shst = c.shst) (q : PortId) :
    ((modCtrl p f s).ctrls.get q).shst = (s.ctrls.get q).shst := by
  by_cases hq : q = p
  · subst hq
    rw [ctrl_modCtrl_same, h]
  · rw [ctrl_modCtrl_other f s hq]

/-- A queue that joins behind the others is found where none had its identifier. -/
theorem find_append_new {α : Type} {p : α → Bool} {l : List α} {a : α} (h : l.find? p = none) (ha : p a = true) :
    (l ++ [a]).find? p = some a := by
  simp [List.find?_append, h, ha]

/-- What is found stays found when another joins behind. -/
theorem find_append_old {α : Type} {p : α → Bool} {l : List α} {a b : α} (h : l.find? p = some a) : (l ++ [b]).find? p = some a := by
  simp [List.find?_append, h]

/-- What a filter keeps is found in it. -/
theorem find_filter_kept {α : Type} {p r : α → Bool} (l : List α) (h : ∀ a, p a = true → r a = true) :
    (l.filter r).find? p = l.find? p := by
  rw [List.find?_filter]
  congr 1
  funext a
  specialize h a
  cases hp : p a <;> simp_all

/-- Controller c with one more completion queue. -/
def Ctrl.addCq (k : Cq) (c : Ctrl) : Ctrl := { c with cqs := c.cqs ++ [k] }

/-- Controller c with one more submission queue. -/
def Ctrl.addSq (q : Sq) (c : Ctrl) : Ctrl := { c with sqs := c.sqs ++ [q] }

/-- Controller c without a completion queue. -/
def Ctrl.dropCq (qid : Nat) (c : Ctrl) : Ctrl := { c with cqs := c.cqs.filter fun k => k.qid != qid }

theorem Bound.modCtrl (h : Bound src s) (f : Ctrl → Ctrl)
    (hf : ∀ q, (s.ctrls.get src.port).sq? src.sq = some q → (f (s.ctrls.get src.port)).sq? src.sq = some q ∧
      ∀ k, (s.ctrls.get src.port).cq? q.cqid = some k → (f (s.ctrls.get src.port)).cq? q.cqid = some k) :
    Bound src (modCtrl src.port f s) := by
  obtain ⟨q, k, hq, hk⟩ := h
  obtain ⟨hq', hk'⟩ := hf q hq
  refine ⟨q, k, ?_, ?_⟩ <;> rw [ctrl_modCtrl_same]
  · exact hq'
  · exact hk' k hk

/-- The form of the completion queue found after the answer is the one it had in u. -/
theorem EndsWith.cq {c : Completion} {u t : State} {k : Cq} (h : EndsWith src c u t) (hk : (u.ctrls.get src.port).cq? qid = some k) :
    ((t.ctrls.get src.port).cq? qid).map (fun k => (k.size, k.iv)) = some (k.size, k.iv) := by
  have hform := congrArg (Option.map Prod.snd) (h.2.2.cq src.port qid)
  rw [hk, Option.map_map] at hform
  exact hform

theorem EndsWith.sq {c : Completion} {u t : State} {q : Sq} (h : EndsWith src c u t) (hq : (u.ctrls.get src.port).sq? qid = some q) :
    ((t.ctrls.get src.port).sq? qid).map (fun q => (q.size, q.cqid)) = some (q.size, q.cqid) := by
  have hform := congrArg (Option.map Prod.snd) (h.2.2.sq src.port qid)
  rw [hq, Option.map_map] at hform
  exact hform

theorem createIoCq_adds {iv : Nat} (h : AdminReady src s) (hqid : 0 < qid) (halloc : qid ≤ allocOf s src.port) (hsize : 2 ≤ size)
    (hsize' : size ≤ 16384) (hreach : Reaches src (.createCq qid size iv) s) (hnone : ((s.ctrls.get src.port).cq? qid).isNone)
    (hiv : iv < 2047) :
    Yields (.createIoCq src qid size iv) s fun t =>
      Answered src .success t ∧ ((t.ctrls.get src.port).cq? qid).map (fun k => (k.size, k.iv)) = some (size, iv) ∧
        t.lockPassed = true ∧ DeviceKept s t ∧ t.hs.zones = s.hs.zones ∧ t.hs.ns = s.hs.ns := by
  have hnone := Option.isNone_iff_eq_none.1 hnone
  have hrun : runAdmin src (.createCq qid size iv) (countRequests src (dataOf s src (.createCq qid size iv)) s) =
      complete src .success 0 0 [] [] (passLock (modCtrl src.port (Ctrl.addCq { qid := qid, size := size, iv := iv }) s)) := by
    have hid : ¬(qid = 0 ∨ allocOf s src.port < qid ∨ ((s.ctrls.get src.port).cq? qid).isSome) := by
      simp [hnone, Nat.not_lt.2 halloc, Nat.ne_of_gt hqid]
    have hok : sizeOk size ≠ false := by simp [sizeOk, hsize, hsize']
    rw [show dataOf s src (.createCq qid size iv) = {} from rfl, countRequests_none]
    exact (if_neg hid).trans ((if_neg hok).trans (if_neg (Nat.not_le.2 hiv)))
  have hbound : Bound src (modCtrl src.port (Ctrl.addCq { qid := qid, size := size, iv := iv }) s) :=
    h.2.1.bound.modCtrl _ fun q hq => ⟨hq, fun k hk => find_append_old hk⟩
  have hends := h.ends rfl hreach hrun rfl rfl (shst_modCtrl _ _ s fun _ => rfl) hbound
  obtain ⟨hdevice, hhs, _, hlock⟩ := hends.deviceKept
  refine ⟨_, rfl, hends.success, hends.cq (k := { qid := qid, size := size, iv := iv }) ?_, hlock, hdevice,
    congrArg Hs.zones hhs, congrArg Hs.ns hhs⟩
  change ((modCtrl _ _ s).ctrls.get src.port).cq? qid = _
  rw [ctrl_modCtrl_same]
  exact find_append_new hnone (by simp)

theorem createIoSq_adds {cqid prio : Nat} (h : AdminReady src s) (hqid : 0 < qid) (halloc : qid ≤ allocOf s src.port)
    (hsize : 2 ≤ size) (hsize' : size ≤ 16384) (hreach : Reaches src (.createSq qid size cqid prio) s)
    (hnone : ((s.ctrls.get src.port).sq? qid).isNone) (hcqid : cqid ≠ 0) (hcq : ((s.ctrls.get src.port).cq? cqid).isSome) :
    Yields (.createIoSq src qid size cqid prio) s fun t =>
      Answered src .success t ∧ ((t.ctrls.get src.port).sq? qid).map (fun q => (q.size, q.cqid)) = some (size, cqid) ∧
        t.lockPassed = true ∧ DeviceKept s t ∧ t.hs.zones = s.hs.zones ∧ t.hs.ns = s.hs.ns := by
  have hnone := Option.isNone_iff_eq_none.1 hnone
  obtain ⟨k, hk⟩ := Option.isSome_iff_exists.1 hcq
  have hrun : runAdmin src (.createSq qid size cqid prio) (countRequests src (dataOf s src (.createSq qid size cqid prio)) s) =
      complete src .success 0 0 [] []
        (passLock (modCtrl src.port (Ctrl.addSq { qid := qid, size := size, cqid := cqid, prio := prio % 4 }) s)) := by
    have hcq : ¬(cqid = 0 ∨ ((s.ctrls.get src.port).cq? cqid).isNone) := by simp [hk, hcqid]
    have hid : ¬(qid = 0 ∨ allocOf s src.port < qid ∨ ((s.ctrls.get src.port).sq? qid).isSome) := by
      simp [hnone, Nat.not_lt.2 halloc, Nat.ne_of_gt hqid]
    have hok : sizeOk size ≠ false := by simp [sizeOk, hsize, hsize']
    rw [show dataOf s src (.createSq qid size cqid prio) = {} from rfl, countRequests_none]
    exact (if_neg hcq).trans ((if_neg hid).trans (if_neg hok))
  have hbound : Bound src (modCtrl src.port (Ctrl.addSq { qid := qid, size := size, cqid := cqid, prio := prio % 4 }) s) :=
    h.2.1.bound.modCtrl _ fun q hq => ⟨find_append_old hq, fun k hk => hk⟩
  have hends := h.ends rfl hreach hrun rfl rfl (shst_modCtrl _ _ s fun _ => rfl) hbound
  obtain ⟨hdevice, hhs, _, hlock⟩ := hends.deviceKept
  refine ⟨_, rfl, hends.success, hends.sq (q := { qid := qid, size := size, cqid := cqid, prio := prio % 4 }) ?_, hlock, hdevice,
    congrArg Hs.zones hhs, congrArg Hs.ns hhs⟩
  change ((modCtrl _ _ s).ctrls.get src.port).sq? qid = _
  rw [ctrl_modCtrl_same]
  exact find_append_new hnone (by simp)

/-- A submission queue that fetches no more (R38). -/
def Sq.closed (q : Sq) : Sq := { q with fetched := [], stopped := true, tail := q.head }

/-- Controller c without a submission queue, which was closed. -/
def Ctrl.dropSq (qid : Nat) (c : Ctrl) : Ctrl :=
  { c with sqs := (modWhere (fun q => q.qid == qid) Sq.closed c.sqs).filter fun q => q.qid != qid }

/-- A queue that goes leaves the others. -/
theorem Ctrl.sq_dropSq_other {qid i : Nat} (c : Ctrl) (h : i ≠ qid) : (c.dropSq qid).sq? i = c.sq? i := by
  unfold Ctrl.sq? Ctrl.dropSq
  rw [find_filter_kept _ fun q hq => by simpa [beq_iff_eq.1 hq] using h]
  exact find_modWhere_other _ _ _ _ (fun _ _ => rfl) fun q hq => by simpa [beq_iff_eq.1 hq] using Ne.symm h

theorem Ctrl.sq_dropSq_same (qid : Nat) (c : Ctrl) : (c.dropSq qid).sq? qid = none := by
  unfold Ctrl.sq? Ctrl.dropSq
  rw [List.find?_filter, List.find?_eq_none]
  intro q _
  simp

/-- The state after the submission queue of qid has gone with nothing left to complete (R38, R154). -/
def sqGone (p : PortId) (qid : Nat) (s : State) : State :=
  dropSq p qid (modSq p qid Sq.closed s)

theorem ctrls_discardOwned (mine : PortId × Nat → Bool) (s : State) : (discardOwned mine s).ctrls = s.ctrls := rfl

theorem ctrl_sqGone (p : PortId) (qid : Nat) (s : State) :
    (sqGone p qid s).ctrls.get p = (s.ctrls.get p).dropSq qid := by
  unfold sqGone dropSq modSq
  rw [ctrl_modCtrl_same, ctrls_discardOwned, ctrl_modCtrl_same]
  rfl

theorem shst_sqGone (p : PortId) (qid : Nat) (s : State) (x : PortId) :
    ((sqGone p qid s).ctrls.get x).shst = (s.ctrls.get x).shst := by
  unfold sqGone dropSq modSq
  rw [shst_modCtrl, ctrls_discardOwned, shst_modCtrl] <;> exact fun _ => rfl

theorem deleteIoSq_drops (h : AdminReady src s) (hqid : 0 < qid) (hreach : Reaches src (.deleteSq qid) s)
    (hfetched : ((s.ctrls.get src.port).sq? qid).map (·.fetched) = some []) (hidle : sqIdle s src.port qid = true) :
    Yields (.deleteIoSq src qid) s fun t =>
      Answered src .success t ∧ ((t.ctrls.get src.port).sq? qid).isNone ∧
        t.flash = (discardOwned (fun o => o == (src.port, qid)) s).flash ∧ DeviceKept { s with flash := t.flash } t ∧
        t.hs.zones = s.hs.zones ∧ t.hs.ns = s.hs.ns := by
  obtain ⟨q, hq, hempty⟩ := Option.map_eq_some_iff.1 hfetched
  have hrun : runAdmin src (.deleteSq qid) (countRequests src (dataOf s src (.deleteSq qid)) s) =
      complete src .success 0 0 [] [] (sqGone src.port qid s) := by
    rw [show dataOf s src (.deleteSq qid) = {} from rfl, countRequests_none]
    change admDeleteSq src qid s = _
    unfold admDeleteSq
    rw [hq]
    dsimp only
    rw [if_neg (Nat.ne_of_gt hqid), hempty]
    exact if_pos hidle
  have hbound : Bound src (sqGone src.port qid s) := by
    obtain ⟨q, k, hq, hk⟩ := h.2.1.bound
    refine ⟨q, k, ?_, ?_⟩ <;> rw [ctrl_sqGone]
    · rw [Ctrl.sq_dropSq_other _ (by rw [h.1]; omega), hq]
    · exact hk
  have hends := h.ends rfl hreach hrun rfl rfl (shst_sqGone src.port qid s) hbound
  obtain ⟨⟨hbays, hflash, hebb, hpart, hdoors⟩, hhs, _, _⟩ := hends.deviceKept
  refine ⟨_, rfl, hends.success, ?_, ?_, ⟨hbays, rfl, hebb, hpart, hdoors⟩, congrArg Hs.zones hhs, congrArg Hs.ns hhs⟩
  · have hsq := hends.2.2.sq src.port qid
    rw [ctrl_sqGone, Ctrl.sq_dropSq_same] at hsq
    exact Option.isNone_iff_eq_none.2 (Option.map_eq_none_iff.1 hsq)
  · exact hflash.trans (discardOwned_flash_congr _ rfl)

theorem deleteIoCq_drops (h : AdminReady src s) (hqid : 0 < qid) (hreach : Reaches src (.deleteCq qid) s)
    (hcq : ((s.ctrls.get src.port).cq? qid).isSome) (hunbound : ∀ q ∈ (s.ctrls.get src.port).sqs, q.cqid ≠ qid) :
    Yields (.deleteIoCq src qid) s fun t =>
      Answered src .success t ∧ ((t.ctrls.get src.port).cq? qid).isNone ∧ DeviceKept s t ∧ t.hs.zones = s.hs.zones ∧
        t.hs.ns = s.hs.ns := by
  have hrun : runAdmin src (.deleteCq qid) (countRequests src (dataOf s src (.deleteCq qid)) s) =
      complete src .success 0 0 [] [] (modCtrl src.port (Ctrl.dropCq qid) s) := by
    have hid : ¬(qid = 0 ∨ ((s.ctrls.get src.port).cq? qid).isNone) := by
      obtain ⟨k, hk⟩ := Option.isSome_iff_exists.1 hcq
      simp [hk, Nat.ne_of_gt hqid]
    have hnone : ¬(s.ctrls.get src.port).sqs.any (fun q => q.cqid == qid) = true := by simpa using hunbound
    rw [show dataOf s src (.deleteCq qid) = {} from rfl, countRequests_none]
    exact (if_neg hid).trans (if_neg hnone)
  have hbound : Bound src (modCtrl src.port (Ctrl.dropCq qid) s) := h.2.1.bound.modCtrl _ fun q hq => ⟨hq, fun k hk => by
    have hother : q.cqid ≠ qid := hunbound q (List.mem_of_find?_eq_some hq)
    exact (find_filter_kept _ fun k hk => by simpa [beq_iff_eq.1 hk] using hother).trans hk⟩
  have hends := h.ends rfl hreach hrun rfl rfl (shst_modCtrl _ _ s fun _ => rfl) hbound
  obtain ⟨hdevice, hhs, _, _⟩ := hends.deviceKept
  refine ⟨_, rfl, hends.success, ?_, hdevice, congrArg Hs.zones hhs, congrArg Hs.ns hhs⟩
  have hgone : ((s.ctrls.get src.port).dropCq qid).cq? qid = none := by simp [Ctrl.cq?, Ctrl.dropCq]
  have hform := hends.2.2.cq src.port qid
  rw [ctrl_modCtrl_same, hgone] at hform
  exact Option.isNone_iff_eq_none.2 (Option.map_eq_none_iff.1 hform)

end

/-- Settles O9, each command by its own lemma. -/
theorem queueCommands : Obligations.QueueCommands := by
  intro src s qid size cqid prio iv h hqid halloc hsize hsize'
  exact ⟨createIoCq_adds h hqid halloc hsize hsize', createIoSq_adds h hqid halloc hsize hsize', deleteIoSq_drops h hqid,
    deleteIoCq_drops h hqid⟩

/-! ### Reports (R25, R67, R513, R515) -/

section
variable {src : Src} {s u : State} {c : NvmeCmd} {dw0 : Dword} {data : List Byte}

/-- An admin command that answers with data and leaves the controllers and the host side. -/
theorem AdminReady.reports (h : AdminReady src s) (hc : isAdmin c = true) (hreach : Reaches src c s)
    (hread : (dataOf s src c).read = true) (hrun : runAdmin src c s = complete src .success dw0 0 data [] u)
    (hhs : u.hs = s.hs) (hctrls : u.ctrls = s.ctrls) :
    EndsWith src (completionOf src .success dw0 0 data []) u (runNow src c {} s) := by
  refine h.ends hc hreach ?_ (congrArg Hs.inflight hhs) (congrArg Hs.waitR hhs) (fun p => by rw [hctrls])
    (h.2.1.bound.of_kept (.of_eq hctrls))
  rw [countRequests_read s hread, hrun]

theorem getLogPage_reads {lid nsid off len : Nat} {page : List Byte} (h : AdminReady src s)
    (hreach : Reaches src (.getLogPage lid nsid off len true) s) (hpage : logPage s src.port lid nsid = some page)
    (hoff : off % 4 = 0) (hlen : off ≤ page.length) :
    Yields (.getLogPage src lid nsid off len true) s fun t =>
      Answered src .success t ∧ (newest src t).map (·.data) = some ((page.drop off).take len) ∧ DeviceKept s t ∧ t.hs = s.hs ∧
        t.evt = s.evt := by
  have hrun : runAdmin src (.getLogPage lid nsid off len true) s =
      complete src .success 0 0 ((page.drop off).take len) [] (spend s) := by
    change admGetLog src lid nsid off len true s = _
    unfold admGetLog
    rw [hpage]
    exact if_neg (by simp [hoff, hlen])
  have hends := h.reports rfl hreach rfl hrun rfl rfl
  obtain ⟨hdevice, hhs, hevt, _⟩ := hends.deviceKept
  exact ⟨_, rfl, hends.success, hends.shows (·.data) fun _ => rfl, hdevice, hhs, hevt⟩

theorem identify_reads {cns nsid cntid csi : Nat} (h : AdminReady src s) (hreach : Reaches src (.identify cns nsid cntid csi) s)
    (hdata : identifyData s src.port cns nsid cntid csi = .ok data) :
    Yields (.identify src cns nsid cntid csi) s fun t =>
      Answered src .success t ∧ (newest src t).map (·.data) = some data ∧ DeviceKept s t ∧ t.hs = s.hs ∧ t.evt = s.evt := by
  have hrun : runAdmin src (.identify cns nsid cntid csi) s = complete src .success 0 0 data [] s := by
    change admIdentify src cns nsid cntid csi s = _
    unfold admIdentify
    rw [hdata]
  have hends := h.reports rfl hreach rfl hrun rfl rfl
  obtain ⟨hdevice, hhs, hevt, _⟩ := hends.deviceKept
  exact ⟨_, rfl, hends.success, hends.shows (·.data) fun _ => rfl, hdevice, hhs, hevt⟩

theorem dictionaryRead_reads {index sub len : Nat} {ca : Bool} {v : List Byte} (h : AdminReady src s)
    (hreach : Reaches src (.dictRead 0 index sub ca len 0) s) (hv : readDict s index sub ca = .ok v) (hlen : 0 < len)
    (hlen' : len ≤ 4096) (hfits : v.length ≤ len) :
    Yields (.dictionaryRead src 0 index sub ca len 0) s fun t =>
      Answered src .success t ∧ (newest src t).map (·.data) = some v ∧ DeviceKept s t ∧ t.hs = s.hs ∧ t.evt = s.evt := by
  have hrun : runAdmin src (.dictRead 0 index sub ca len 0) s =
      complete src .success (BitVec.ofNat 32 v.length) 0 v [] s := by
    change admDictRead src 0 index sub ca len 0 s = _
    unfold admDictRead
    rw [if_neg (by simp; omega), hv]
    exact if_neg (Nat.not_lt.2 hfits)
  have hends := h.reports rfl hreach rfl hrun rfl rfl
  obtain ⟨hdevice, hhs, hevt, _⟩ := hends.deviceKept
  exact ⟨_, rfl, hends.success, hends.shows (·.data) fun _ => rfl, hdevice, hhs, hevt⟩

end

/-- Settles O11, each command by its own lemma. -/
theorem reportCommands : Obligations.ReportCommands := by
  intro src s lid nsid off len cns cntid csi index sub ca page data v h
  exact ⟨getLogPage_reads h, identify_reads h, dictionaryRead_reads h⟩

/-! ### Reservations (R37, R67; log 13) -/

section
variable {src : Src} {s u t : State} {c : NvmeCmd} {nsid : Nat} {n : Ns}

/-- What an I/O command keeps, its answer keeps. -/
theorem EndsWith.ioKept {x : Completion} (h : EndsWith src x u t) (hkept : IoKept s u) : IoKept s t := by
  obtain ⟨hbays, hpart, hfw, hdoors, hpwr, hsup⟩ := hkept
  exact ⟨(h.same State.bays fun _ => rfl).trans hbays, (h.same State.part fun _ => rfl).trans hpart,
    (h.same State.fw fun _ => rfl).trans hfw, (h.same State.doors fun _ => rfl).trans hdoors,
    (h.same State.pwr fun _ => rfl).trans hpwr, (h.same State.sup fun _ => rfl).trans hsup⟩

/-- The namespace found rests on the list of namespaces. -/
theorem nsOf_congr {s t : State} (h : t.hs.ns = s.hs.ns) (nsid : Nat) : nsOf t nsid = nsOf s nsid := by
  unfold nsOf
  rw [h]

/-- A command that stores a reservation of its namespace changes nothing else there. -/
theorem IoReady.reserves {r : Reserv} (h : IoReady src s) (hn : nsGate s src.port nsid = .ok n) (hc : isAdmin c = false)
    (hneed : cacheNeed c = 0) (hreach : Reaches src c s)
    (hrun : ∀ t, nsGate t src.port nsid = .ok n → runIo src c {} t = putReserv src nsid r t) :
    Answered src .success (runNow src c {} s) ∧ nsOf (runNow src c {} s) nsid = some { n with resv := r } ∧
      (runNow src c {} s).hs.zones = s.hs.zones ∧ IoKept s (runNow src c {} s) := by
  have hgate : nsGate (countRequests src (dataOf s src c) s) src.port nsid = .ok n :=
    (nsGate_congr (by simp) (by simp) src.port nsid).trans hn
  have hends := h.ends (u := tideRecord (modNs nsid (fun n => { n with resv := r }) (countRequests src (dataOf s src c) s)))
    hc (cacheBlocked_of_need hneed) rfl rfl hreach.1 (hrun _ hgate) (by simp [modNs]) (by simp [modNs])
    (queuesKept_countRequests src _ s)
  have hhs := hends.same State.hs fun _ => rfl
  refine ⟨hends.success, ?_, (congrArg Hs.zones hhs).trans (by simp [modNs]),
    hends.ioKept ⟨by simp, by simp, by simp, by simp, by simp, by simp⟩⟩
  calc nsOf (runNow src c {} s) nsid
      = nsOf (modNs nsid (fun n => { n with resv := r }) (countRequests src (dataOf s src c) s)) nsid :=
        nsOf_congr (congrArg Hs.ns hhs) nsid
    _ = some { n with resv := r } := by
        rw [nsOf_modNs_same _ _ _ (by exact fun _ => rfl), nsOf_of_nsGate hgate]
        rfl

theorem resvRegister_new {key new : BitVec 64} (h : IoReady src s) (hn : nsGate s src.port nsid = .ok n)
    (hreach : Reaches src (.resvRegister nsid 0 0 false key new) s) (hnone : n.resv.key? src.port = none) :
    Yields (.reservationRegister src nsid 0 0 false key new) s fun t =>
      Answered src .success t ∧
        nsOf t nsid = some { n with resv := { n.resv with keys := n.resv.keys ++ [(src.port, new)]
                                                          gen := (n.resv.gen + 1) % 2 ^ 32 } } ∧
        t.hs.zones = s.hs.zones ∧ IoKept s t := by
  refine ⟨_, rfl, h.reserves hn rfl rfl hreach fun t ht => ?_⟩
  change ioResvRegister src nsid 0 0 false key new t = _
  simp [ioResvRegister, ht, hnone, Reserv.persist, Reserv.bump]

theorem resvAcquire_free {rtype : Nat} {key pk : BitVec 64} (h : IoReady src s) (hn : nsGate s src.port nsid = .ok n)
    (hreach : Reaches src (.resvAcquire nsid 0 rtype false key pk) s) (hkey : n.resv.key? src.port = some key)
    (hfree : n.resv.holder = none) (hpos : 0 < rtype) (hle : rtype ≤ 6) :
    Yields (.reservationAcquire src nsid 0 rtype false key pk) s fun t =>
      Answered src .success t ∧ nsOf t nsid = some { n with resv := { n.resv with holder := some src.port, rtype := rtype } } ∧
        t.hs.zones = s.hs.zones ∧ IoKept s t := by
  refine ⟨_, rfl, h.reserves hn rfl rfl hreach fun t ht => ?_⟩
  change ioResvAcquire src nsid 0 rtype false key pk t = _
  simp [ioResvAcquire, ht, hkey, hfree, Nat.ne_of_gt hpos, Nat.not_lt.2 hle]

theorem resvRelease_holder {rtype : Nat} {key : BitVec 64} (h : IoReady src s) (hn : nsGate s src.port nsid = .ok n)
    (hreach : Reaches src (.resvRelease nsid 0 rtype false key) s) (hkey : n.resv.key? src.port = some key)
    (hholder : n.resv.holder = some src.port) (htype : n.resv.rtype = rtype) :
    Yields (.reservationRelease src nsid 0 rtype false key) s fun t =>
      Answered src .success t ∧ nsOf t nsid = some { n with resv := { n.resv with holder := none, rtype := 0 } } ∧
        t.hs.zones = s.hs.zones ∧ IoKept s t := by
  refine ⟨_, rfl, h.reserves hn rfl rfl hreach fun t ht => ?_⟩
  change ioResvRelease src nsid 0 rtype false key t = _
  simp [ioResvRelease, ht, hkey, hholder, htype]

theorem resvReport_reads (h : IoReady src s) (hn : nsGate s src.port nsid = .ok n) (hreach : Reaches src (.resvReport nsid) s) :
    Yields (.reservationReport src nsid) s fun t =>
      Answered src .success t ∧ (newest src t).map (·.data) = some (resvData n.resv) ∧ t.hs.ns = s.hs.ns ∧
        t.hs.zones = s.hs.zones ∧ IoKept s t := by
  have hrun : runIo src (.resvReport nsid) {} (countRequests src (dataOf s src (.resvReport nsid)) s) =
      complete src .success 0 0 (resvData n.resv) [] s := by
    rw [countRequests_read s rfl]
    change ioResvReport src nsid s = _
    unfold ioResvReport
    rw [hn]
  have hends := h.ends (c := .resvReport nsid) (e := {}) rfl rfl rfl rfl hreach.1 hrun rfl rfl (.refl s)
  have hhs := hends.same State.hs fun _ => rfl
  exact ⟨_, rfl, hends.success, hends.shows (·.data) fun _ => rfl, congrArg Hs.ns hhs, congrArg Hs.zones hhs,
    hends.ioKept ⟨rfl, rfl, rfl, rfl, rfl, rfl⟩⟩

end

/-- Settles O20, each command by its own lemma. -/
theorem reservationCommands : Obligations.ReservationCommands := by
  intro src s nsid rtype key new pk n h hn
  exact ⟨resvRegister_new h hn, resvAcquire_free h hn, resvRelease_holder h hn, resvReport_reads h hn⟩

end Sys2Proof.Machine
end

section
/-! SUPPORT. The hold-up supply and its self-test (R550 to R552), with the write of a command subindex that the device takes (R455 to
R461); and a volume's retirement (R172). -/

namespace Sys2Proof.Machine

open Sys2Proof

/-! ### A write that passes its checks (R455 to R461) -/

section
variable {door : Door} {s : State} {index sub : Nat} {data : List Byte}

theorem Served.waits (h : Served door s) : doorWaits s true = false := by
  obtain ⟨⟨hphase, hps⟩, _⟩ := h
  simp [doorWaits, hphase, show s.pwr.ps ≠ 4 by omega, show s.pwr.ps ≠ 3 by omega]

theorem Served.initRefuses (h : Served door s) (index : Nat) : initRefuses s door index = false := by
  obtain ⟨_, hinit⟩ := h
  unfold Machine.initRefuses
  cases hd : (door == .ethercat)
  · simp
  · have hecat : (s.doors.ecat == .init) = false := by simpa using hinit (by simpa using hd)
    simp [hecat]

/-- A write that passes every check keeps its value, acts, and is answered with success. -/
theorem Takes.doorWrite {r : State} (m : Meas) (h : Takes door s index sub data)
    (hrun : runWrite door m index (sub, data) (tideRecord (keepValue index s (sub, data))) = .ok r) :
    doorWrite door m index sub false data s = answerDoor door index sub none [] (stageValues index [(sub, data)] r) := by
  obtain ⟨hserved, _, hobj, hsub, haccess, hvalue, hpolicy, hown⟩ := h
  have happly : applyValues door m index [(sub, data)] s = .ok (stageValues index [(sub, data)] r) := by
    simp [applyValues, hpolicy, hown, runWrites, hrun]
  have hwrite : writeDict door m index sub false data s = (stageValues index [(sub, data)] r, none) := by
    simp [writeDict, hobj, hsub, firstRefused, haccess, hvalue, happly]
  simp [Machine.doorWrite, hserved.waits, hserved.initRefuses index, hwrite]

/-- A numeric value is not staged in the scratchpad (R187). -/
theorem stageValues_numeric {t : State} {d : ObjDesc} (hd : descOf t.part.code index sub = some d) (hty : d.ty.numeric = true) :
    stageValues index [(sub, data)] t = t := by
  simp only [stageValues, List.foldl_cons, List.foldl_nil, hd, Option.map_some]
  split
  · next n h => simp [Option.some.inj h, Ty.numeric] at hty
  · rfl

/-- An answer is the doors' own affair. -/
theorem answerDoor_doors (door : Door) (index sub : Nat) (a : Option Abort) (data : List Byte) (s : State) :
    answerDoor door index sub a data s = { s with doors := (answerDoor door index sub a data s).doors } := by
  cases door <;> rfl

end

/-! ### A SMART event (R67) -/

theorem ctrlsAlone_foldl {α : Type} (g : State → α → State) (h : ∀ t a, CtrlsAlone t (g t a)) (l : List α) (s : State) :
    CtrlsAlone s (l.foldl g s) := by
  induction l generalizing s with
  | nil => rfl
  | cons a l ih => exact (h s a).trans (ih (g s a))

/-- A SMART event reaches the controllers alone. -/
theorem reportSmart_alone (bit info : Nat) (s : State) : CtrlsAlone s (reportSmart bit info s) := by
  refine ctrlsAlone_foldl _ (fun t p => ?_) _ s
  dsimp only
  split
  · rfl
  · split
    · exact (ctrlsAlone_modCtrl ..).trans (oneCtrl_post ..).1
    · rfl

@[simp] theorem reportSmart_start (bit info : Nat) (s : State) :
    (reportSmart bit info s).tierState = s.tierState ∧ (reportSmart bit info s).part = s.part ∧
      (reportSmart bit info s).fw = s.fw := by
  rw [reportSmart_alone bit info s]
  exact ⟨rfl, rfl, rfl⟩

@[simp] theorem reportSmart_host (bit info : Nat) (s : State) :
    (reportSmart bit info s).evt = s.evt ∧ (reportSmart bit info s).hs = s.hs ∧ (reportSmart bit info s).flash = s.flash ∧
      (reportSmart bit info s).tide = s.tide ∧ (reportSmart bit info s).bw = s.bw ∧ (reportSmart bit info s).mem = s.mem := by
  rw [reportSmart_alone bit info s]
  exact ⟨rfl, rfl, rfl, rfl, rfl, rfl⟩

@[simp] theorem reportSmart_drive (bit info : Nat) (s : State) :
    (reportSmart bit info s).ebb = s.ebb ∧ (reportSmart bit info s).bays = s.bays ∧ (reportSmart bit info s).doors = s.doors ∧
      (reportSmart bit info s).adm = s.adm ∧ (reportSmart bit info s).pwr = s.pwr ∧ (reportSmart bit info s).sup = s.sup := by
  rw [reportSmart_alone bit info s]
  exact ⟨rfl, rfl, rfl, rfl, rfl, rfl⟩

/-! ### The hold-up supply (R56, R550 to R552) -/

/-- What a hold-up command keeps of the device: the bays, the flash tier, the part, the zones. -/
def HoldupKept (s t : State) : Prop :=
  t.bays = s.bays ∧ t.flash = s.flash ∧ t.part = s.part ∧ t.hs.zones = s.hs.zones

section
variable {s : State} {v0 v1 : Nat}

theorem Active.isRunning (h : Active s) : isRunning s = true := by
  simp [Machine.isRunning, h.1]

/-- Protection that is lost leaves the supplies and what a hold-up command keeps (R56). -/
theorem protectionLost_keeps (s : State) : (protectionLost s).sup = s.sup ∧ HoldupKept s (protectionLost s) := by
  simp [protectionLost, HoldupKept]

theorem holdupOkFall_unprotects (ha : Active s) (hok : s.sup.holdupOk = true) :
    Yields .holdupOkFall s fun t => t.sup.holdupOk = false ∧ cacheProtected t = false ∧ HoldupKept s t := by
  have hstep : execHoldupOkFall s =
      .next (protectionLost { s with sup := { s.sup with holdupOk := false, holdupFell := true } }) :=
    (if_neg (by simp [hok])).trans (if_pos ha.isRunning)
  obtain ⟨hsup, hkept⟩ := protectionLost_keeps { s with sup := { s.sup with holdupOk := false, holdupFell := true } }
  refine ⟨_, hstep, by rw [hsup], ?_, hkept⟩
  simp [cacheProtected, hsup]

/-- A self-test starts when the supply is charged, none runs, no dip is ridden and none has ended lately (R550). -/
theorem startSelfTest_starts {u : State} (hok : u.sup.holdupOk = true) (htest : u.sup.testing = false) (hdip : u.sup.dip = false)
    (hend : u.sup.testEnd = none) :
    startSelfTest v0 u = { u with sup := { u.sup with testing := true, result := 1, v0 := v0, rv0 := bankTens u v0 } } := by
  simp [startSelfTest, hok, htest, hdip, hend]

theorem holdupOkRise_tests (ha : Active s) (hok : s.sup.holdupOk = false) (htest : s.sup.testing = false)
    (hdip : s.sup.dip = false) (hend : s.sup.testEnd = none) :
    Yields (.holdupOkRise v0) s fun t =>
      t.sup.holdupOk = true ∧ t.sup.testing = true ∧ t.sup.v0 = v0 ∧ t = { s with sup := t.sup } := by
  have hstep : execHoldupOkRise v0 s =
      .next (startSelfTest v0 { s with sup := { s.sup with holdupOk := true, holdupFell := false } }) :=
    (if_neg (by simp [hok])).trans (congrArg _ (if_pos ha.isRunning))
  rw [startSelfTest_starts (u := { s with sup := { s.sup with holdupOk := true, holdupFell := false } }) rfl htest hdip hend]
    at hstep
  exact ⟨_, hstep, rfl, rfl, rfl, rfl⟩

theorem holdupSelfTestInterval_tests (ha : Active s) (hok : s.sup.holdupOk = true) (htest : s.sup.testing = false)
    (hdip : s.sup.dip = false) (hend : s.sup.testEnd = none) (hinterval : num s 0x2040 8 ≠ 0) :
    Yields (.holdupSelfTestInterval v0) s fun t =>
      t.sup.testing = true ∧ t.sup.result = 1 ∧ t.sup.v0 = v0 ∧ t = { s with sup := t.sup } := by
  have hstep : execHoldupSelfTestInterval v0 s = .next (startSelfTest v0 s) := if_neg (by simp [hinterval, ha.isRunning])
  rw [startSelfTest_starts hok htest hdip hend] at hstep
  exact ⟨_, hstep, rfl, rfl, rfl, rfl⟩

/-- The row of the subindex that requests a self-test (Table 14.1). -/
def selfTestRow : ObjDesc := ⟨0x2040, 0x2040, 9, 9, .u8, .wo, 0, [(1, 1)]⟩

theorem descOf_selfTest (code : OrderingCode) : descOf code 0x2040 9 = some selfTestRow := by
  cases code <;> decide +kernel

/-- Every door that is served takes the request of a self-test. -/
theorem Served.takesSelfTest {door : Door} (h : Served door s) : TakesNum door s 0x2040 9 1 := by
  have hdesc := descOf_selfTest s.part.code
  have hrow : objectExists s 0x2040 = true := by
    unfold objectExists
    cases s.part.code <;> decide +kernel
  have hbytes : valueBytes s 0x2040 9 1 = [1#8] := by
    unfold valueBytes
    rw [hdesc]
    rfl
  have hkeep : keepValue 0x2040 s (9, [1#8]) = s := by simp [keepValue, hdesc, keptSub, selfTestRow]
  unfold TakesNum
  rw [hbytes]
  refine ⟨h, by decide, hrow, ?_, ?_, ?_, ?_, ?_⟩
  · simp [subExists, hdesc]
  · simp [accessAbort, hdesc, h.1.1, selfTestRow]
  · unfold valueAbort
    rw [hdesc]
    exact (if_neg (by decide)).trans ((if_neg (by simp [splitHeld])).trans (if_pos (by decide)))
  · simp [policyRefuses, destructiveOf]
  · rw [hkeep]
    rfl

theorem startSelfTest_tests {door : Door} (h : Served door s) (hok : s.sup.holdupOk = true) (htest : s.sup.testing = false)
    (hdip : s.sup.dip = false) (hend : s.sup.testEnd = none) :
    Yields (.startSelfTest door 1 v0) s fun t =>
      t.sup.testing = true ∧ t.sup.result = 1 ∧ t.sup.v0 = v0 ∧ HoldupKept s t := by
  have hdesc := descOf_selfTest s.part.code
  have hkeep : keepValue 0x2040 s (9, valueBytes s 0x2040 9 1) = s := by simp [keepValue, hdesc, keptSub, selfTestRow]
  have hrun : runWrite door { v0 := some v0 } 0x2040 (9, valueBytes s 0x2040 9 1)
      (tideRecord (keepValue 0x2040 s (9, valueBytes s 0x2040 9 1))) = .ok (startSelfTest v0 (tideRecord s)) := by
    rw [hkeep]
    change requestSelfTest { v0 := some v0 } (tideRecord s) = _
    exact if_neg (by simp [htest, hdip, hok])
  have hstarts := startSelfTest_starts (u := tideRecord s) (v0 := v0) hok htest hdip hend
  have hwrite := h.takesSelfTest.doorWrite _ hrun
  rw [stageValues_numeric (by rw [hstarts]; exact hdesc) rfl, answerDoor_doors, hstarts] at hwrite
  exact ⟨_, congrArg Host.Outcome.next hwrite, rfl, rfl, rfl, rfl, rfl, rfl, rfl⟩

/-- A self-test has ended with this result, and what a hold-up command keeps is kept. -/
def Judged (s : State) (result : Nat) (t : State) : Prop :=
  t.sup.testing = false ∧ t.sup.result = result ∧ HoldupKept s t

theorem Judged.raise {t : State} {result : Nat} (ev cause : Nat) (data : List Nat) (h : Judged s result t) :
    Judged s result (raise ev cause data t) := by
  simpa [Judged, HoldupKept] using h

theorem Judged.protectionLost {t : State} {result : Nat} (h : Judged s result t) : Judged s result (protectionLost t) := by
  obtain ⟨hsup, hbays, hflash, hpart, hzones⟩ := protectionLost_keeps t
  unfold Judged HoldupKept
  rwa [hsup, hbays, hflash, hpart, hzones]

theorem endSelfTest_judges (htest : s.sup.testing = true) :
    Judged s (if 5 * requiredEnergy s ≤ 4 * usableEnergy s (bankCapacitance s s.sup.v0 v1) v1 then 2 else 3)
      (endSelfTest v1 s) := by
  unfold endSelfTest
  refine iteInduction (motive := Judged s _) (fun h => absurd (htest.symm.trans h) (by decide)) (fun _ => ?_)
  extract_lets cap e pass spent adm sup s1 s2
  have hresult : (if pass then 2 else 3) = (if 5 * requiredEnergy s ≤ 4 * e then 2 else 3) := by simp [pass]
  have h1 : Judged s (if 5 * requiredEnergy s ≤ 4 * e then 2 else 3) s1 := ⟨rfl, hresult, rfl, rfl, rfl, rfl⟩
  have h2 := h1.raise 5 0 (evBytes 4 (min 4294967295 e))
  refine iteInduction (motive := Judged s _) (fun _ => ?_) (fun _ => ?_)
  · exact iteInduction (motive := Judged s _) (fun _ => h1) fun _ => Judged.raise _ _ _ h1
  · exact iteInduction (motive := Judged s _) (fun _ => h2.protectionLost) fun _ => h2

theorem holdupChargeWaitExpiry_reports (ha : Active s) (hok : s.sup.holdupOk = false) (hfell : s.sup.holdupFell = false) :
    Yields .holdupChargeWaitExpiry s fun t => HasEvent 5 0 [0, 0, 0, 0] t ∧ HoldupKept s t ∧ t.sup = s.sup := by
  have hstep : execHoldupChargeWaitExpiry s = .next (raise 5 0 (evBytes 4 0) s) := if_pos ⟨ha.isRunning, hok, hfell⟩
  exact ⟨_, hstep, raise_hasEvent 0 _ (eventAllowed_device _ (by omega)) ha.ps_ne_four, by simp [HoldupKept], by simp⟩

end

/-- Settles O4, each command by its own lemma. -/
theorem holdupCommands : Obligations.HoldupCommands := by
  intro s v0 v1 door ha
  exact ⟨holdupOkFall_unprotects ha, holdupOkRise_tests ha, holdupSelfTestInterval_tests ha, startSelfTest_tests,
    fun htest => ⟨_, rfl, endSelfTest_judges htest⟩, holdupChargeWaitExpiry_reports ha⟩

/-! ### A retirement that ends at once (R172, R505, R516) -/

/-- An excluded volume at port 0, under a full event log whose records are of the present core cycle and of event 200. -/
def retireWitness : State :=
  { phase := .running
    evt := { log := List.replicate 1024 { ev := 200 } }
    flash := { vols := [{ st := .excluded }] } }

theorem retireWitness_takes : TakesNum .nvme retireWitness 0x2410 0x0A 0 := by
  refine ⟨⟨⟨rfl, by decide⟩, by decide⟩, by decide, ?_, ?_, ?_, ?_, ?_, ?_⟩ <;> decide +kernel

/-- The log is full of records that stand above one of event 024, so that event 025 of the operation's end pushes it out. -/
theorem retireWitness_event :
    ¬ HasEvent 24 6 (evBytes 4 0 ++ [doorCode .nvme]) (writeNum .nvme {} 0x2410 0x0A 0 retireWitness) := by
  unfold HasEvent
  decide +kernel

/-- Refutes O23: the retirement of an excluded volume ends in the step that starts it, and where the event log is full of the
same core cycle's higher events (R505, R507), event 025 takes the place of event 024. -/
theorem not_tierWrites : ¬ Obligations.TierWrites := by
  intro h
  obtain ⟨_, _, _, hretire⟩ := h .nvme retireWitness _ 0 0
  obtain ⟨t, hstep, _, _, hevent, _⟩ := hretire retireWitness_takes rfl
  have hrun : exec (.volumeRetire .nvme 0) retireWitness = .next (writeNum .nvme {} 0x2410 0x0A 0 retireWitness) := rfl
  obtain rfl : writeNum .nvme {} 0x2410 0x0A 0 retireWitness = t := by simpa [hrun] using hstep
  exact retireWitness_event hevent

end Sys2Proof.Machine
end

section
/-! SUPPORT. Writes (R43, R44, R49, R55, R587): what opening and binding a zone may change, how a committed write ends, and the write
commands on a zoned namespace. -/

namespace Sys2Proof.Machine

open Sys2Proof

/-! ### Changes of the tier alone (R84, R88, R104) -/

/-- t is s but for the zones and namespaces, the flash, the archive and the Tidemark record. -/
def TierOnly (s t : State) : Prop :=
  t = { s with hs := { s.hs with zones := t.hs.zones, changedAt := t.hs.changedAt, ns := t.hs.ns }
               flash := t.flash, tide := t.tide, ebb := t.ebb }

theorem TierOnly.refl (s : State) : TierOnly s s := rfl

theorem TierOnly.trans {s t u : State} (h : TierOnly s t) (h' : TierOnly t u) : TierOnly s u :=
  Eq.trans h' (congrArg (fun x : State =>
    { x with hs := { x.hs with zones := u.hs.zones, changedAt := u.hs.changedAt, ns := u.hs.ns }
             flash := u.flash, tide := u.tide, ebb := u.ebb }) h)

theorem TierOnly.foldl {α : Type} (g : State → α → State) (h : ∀ t a, TierOnly t (g t a)) (l : List α) (s : State) :
    TierOnly s (l.foldl g s) := by
  induction l generalizing s with
  | nil => exact .refl s
  | cons a l ih => exact (h s a).trans (ih (g s a))

/-- What a view that looks at none of these sees. -/
theorem TierOnly.same {s t : State} {β : Type} (h : TierOnly s t) (view : State → β)
    (hview : ∀ z c n f x e, view { s with hs := { s.hs with zones := z, changedAt := c, ns := n }, flash := f, tide := x, ebb := e } =
      view s) : view t = view s :=
  (congrArg view h).trans (hview ..)

theorem TierOnly.ioKept {s t : State} (h : TierOnly s t) : IoKept s t :=
  ⟨h.same State.bays fun _ _ _ _ _ _ => rfl, h.same State.part fun _ _ _ _ _ _ => rfl, h.same State.fw fun _ _ _ _ _ _ => rfl,
    h.same State.doors fun _ _ _ _ _ _ => rfl, h.same State.pwr fun _ _ _ _ _ _ => rfl, h.same State.sup fun _ _ _ _ _ _ => rfl⟩

theorem TierOnly.quiet {s t : State} (h : TierOnly s t) (hs : Quiet s) : Quiet t :=
  hs.of_kept (h.same (·.hs.inflight) fun _ _ _ _ _ _ => rfl) (h.same (·.hs.waitR) fun _ _ _ _ _ _ => rfl)
    (.of_eq (h.same State.ctrls fun _ _ _ _ _ _ => rfl))

theorem TierOnly.bound {src : Src} {s t : State} (h : TierOnly s t) (hs : Bound src s) : Bound src t :=
  hs.of_kept (.of_eq (h.same State.ctrls fun _ _ _ _ _ _ => rfl))

theorem IoKept.trans {s t u : State} (h : IoKept s t) (h' : IoKept t u) : IoKept s u := by
  obtain ⟨hbays, hpart, hfw, hdoors, hpwr, hsup⟩ := h
  obtain ⟨hbays', hpart', hfw', hdoors', hpwr', hsup'⟩ := h'
  exact ⟨hbays'.trans hbays, hpart'.trans hpart, hfw'.trans hfw, hdoors'.trans hdoors, hpwr'.trans hpwr, hsup'.trans hsup⟩

theorem tierOnly_unbind (z : Zone) (s : State) : TierOnly s (unbind z s) := by
  refine .foldl _ (fun t m => ?_) _ s
  split <;> rfl

theorem tierOnly_emptyZone (z : Zone) (s : State) : TierOnly s (emptyZone z s) := by
  have h : TierOnly s (if z.arch = .archivedResident then releaseObj z.obj s else s) := by split <;> rfl
  exact (h.trans (tierOnly_unbind z _)).trans rfl

theorem tierOnly_bindZone {z z' : Zone} {s s' : State} (h : bindZone z s = some (z', s')) : TierOnly s s' := by
  unfold bindZone at h
  split at h
  · cases h
  · dsimp only at h
    split at h
    · cases h
    · split at h
      · cases h
        rfl
      · cases h

/-- Binding keeps which zone it is and its state. -/
theorem bindZone_zone {z z' : Zone} {s s' : State} (h : bindZone z s = some (z', s')) :
    z'.nsid = z.nsid ∧ z'.idx = z.idx ∧ z'.st = z.st ∧ z'.obj = z.obj := by
  unfold bindZone at h
  split at h
  · cases h
  · dsimp only at h
    split at h
    · cases h
    · split at h
      · cases h
        exact ⟨rfl, rfl, rfl, rfl⟩
      · cases h

theorem tierOnly_closeLeastRecent {nsid : Nat} {s s' : State} (h : closeLeastRecent nsid s = some s') : TierOnly s s' := by
  unfold closeLeastRecent at h
  dsimp only at h
  split at h
  · cases h
  · cases h
    split
    · exact tierOnly_emptyZone _ s
    · rfl

theorem tierOnly_takeSlots {nsid : Nat} {a b : Bool} {s s' : State} (h : takeSlots nsid a b s = .ok s') : TierOnly s s' := by
  unfold takeSlots at h
  split at h
  · cases h
  · split at h
    · cases h
      rfl
    · split at h
      · split at h
        · next hclose =>
          split at h
          · cases h
            exact tierOnly_closeLeastRecent hclose
          · cases h
        · cases h
      · cases h

/-- Opening a zone keeps which zone it is and changes the tier alone (R84, R88). -/
theorem openZone_facts {z z' : Zone} {st : ZState} {b : Bool} {s s' : State} (h : openZone z st b s = .ok (z', s')) :
    TierOnly s s' ∧ z'.nsid = z.nsid ∧ z'.idx = z.idx := by
  unfold openZone at h
  split at h
  · cases h
    exact ⟨rfl, rfl, rfl⟩
  · split at h
    · cases h
    · next hslots =>
      have htier := tierOnly_takeSlots hslots
      split at h
      · split at h
        · next hbind =>
          cases h
          obtain ⟨hnsid, hidx, _⟩ := bindZone_zone hbind
          exact ⟨htier.trans (tierOnly_bindZone hbind), hnsid, hidx⟩
        · cases h
      · cases h
        exact ⟨htier, rfl, rfl⟩

theorem openForWrite_facts {z z' : Zone} {b : Bool} {s s' : State} (h : openForWrite z b s = .ok (z', s')) :
    TierOnly s s' ∧ z'.nsid = z.nsid ∧ z'.idx = z.idx := by
  unfold openForWrite at h
  split at h
  · cases h
    exact ⟨rfl, rfl, rfl⟩
  · exact openZone_facts h

/-- The zone found is the one named. -/
theorem zoneOf_name (s : State) (nsid idx : Nat) : (zoneOf s nsid idx).nsid = nsid ∧ (zoneOf s nsid idx).idx = idx := by
  unfold zoneOf
  cases hz : s.hs.zones.find? fun z => z.nsid == nsid && z.idx == idx with
  | none => exact ⟨rfl, rfl⟩
  | some z => simpa using List.find?_some hz

/-- The zone found rests on the lists of zones and of the times of the Empty ones. -/
theorem zoneOf_congr {s t : State} (hzones : t.hs.zones = s.hs.zones) (hsince : t.hs.changedAt = s.hs.changedAt) (a b : Nat) :
    zoneOf t a b = zoneOf s a b := by
  unfold zoneOf emptySince
  rw [hzones, hsince]

/-- A namespace that passes its gate has the identifier it was sought by. -/
theorem nsid_of_nsGate {s : State} {p : PortId} {nsid : Nat} {n : Ns} (h : nsGate s p nsid = .ok n) : n.nsid = nsid := by
  simpa using List.find?_some (nsOf_of_nsGate h)

/-- The metadata cache alone changes when a line is touched. -/
theorem touchLine_mem (addr : Nat) (dirty : Bool) (s : State) : touchLine addr dirty s = { s with mem := (touchLine addr dirty s).mem } := by
  unfold touchLine
  dsimp only
  split
  · rfl
  · split <;> rfl

/-! ### How a committed write ends (R55, R57, R58) -/

/-- A command with its effect in u has ended as a write does, in t: from the cache it is answered at once; otherwise it waits for
the targets, if they are not met. Nothing else has changed but the commands in flight. -/
def WriteEnds (src : Src) (fua : Bool) (targets : Targets) (dw0 dw1 : Dword) (u t : State) : Prop :=
  t = { u with ctrls := t.ctrls, hs := { u.hs with inflight := t.hs.inflight } } ∧
    (fromCache u fua = true → EndsWith src (completionOf src .success dw0 dw1 [] []) u t) ∧
    (fromCache u fua = false → targets.all (targetMet u) = false →
      t.hs.inflight = [{ port := src.port, sq := src.sq, cid := src.cid, wait := .programmed targets dw0 dw1 }])

section
variable {src : Src} {u : State} {fua : Bool} {targets : Targets} {dw0 dw1 : Dword}

/-- Outside a dip a write's success is given like any other (R60). -/
theorem completeWrite_now (src : Src) (dw0 dw1 : Dword) (hwait : u.hs.waitR = []) (hdip : u.sup.dip = false) :
    completeWrite src dw0 dw1 u = complete src .success dw0 dw1 [] [] u := by
  rw [complete_now src .success dw0 dw1 [] [] hwait]
  exact (if_pos hwait).trans (if_neg (by simp [hdip]))

/-- With no map region to wait for a success is an entry posted. -/
theorem complete_success_post (src : Src) (dw0 dw1 : Dword) (data : List Byte) (blocks : List Blk) (hwait : u.hs.waitR = []) :
    complete src .success dw0 dw1 data blocks u = post src.port (completionOf src .success dw0 dw1 data blocks) u :=
  (complete_now src .success dw0 dw1 data blocks hwait).trans (by simp [finish, completionOf, Status.code])

theorem CtrlsAlone.hs {s t : State} (h : CtrlsAlone s t) : t.hs = s.hs := (congrArg State.hs h :)

/-- The state in which a write waits for its targets. -/
def programWaits (src : Src) (targets : Targets) (dw0 dw1 : Dword) (u : State) : State :=
  { u with hs := { u.hs with
      inflight := [{ port := src.port, sq := src.sq, cid := src.cid, wait := .programmed targets dw0 dw1 }] } }

theorem hold_programWaits (hquiet : Quiet u) : hold src (.programmed targets dw0 dw1) u = programWaits src targets dw0 dw1 u := by
  obtain ⟨hflight, hwait, _⟩ := hquiet
  simp [hold, programWaits, hflight, hwait]

/-- A write that waits stays while its targets are not met, and completes when they are. -/
theorem settle_programWaits (hquiet : Quiet u) (hdip : u.sup.dip = false) :
    settle (programWaits src targets dw0 dw1 u) =
      if targets.all (targetMet u) then complete { port := src.port, sq := src.sq, cid := src.cid } .success dw0 dw1 [] [] u
      else programWaits src targets dw0 dw1 u := by
  obtain ⟨hflight, hwait, hshst⟩ := hquiet
  have hover : waitOver (programWaits src targets dw0 dw1 u)
      { port := src.port, sq := src.sq, cid := src.cid, wait := .programmed targets dw0 dw1 } = targets.all (targetMet u) := rfl
  have hdrop : dropInflight { port := src.port, sq := src.sq, cid := src.cid, wait := .programmed targets dw0 dw1 }
      (programWaits src targets dw0 dw1 u) = u := by
    have herase : (programWaits src targets dw0 dw1 u).hs.inflight.erase
        { port := src.port, sq := src.sq, cid := src.cid, wait := .programmed targets dw0 dw1 } = u.hs.inflight := by
      simp [programWaits, hflight]
    unfold dropInflight
    rw [herase]
    rfl
  unfold settle
  simp only [programWaits, List.foldl_cons, List.foldl_nil]
  change allPorts.foldl _ (if waitOver (programWaits src targets dw0 dw1 u) _ then endWait _ (dropInflight _ (programWaits ..))
    else programWaits src targets dw0 dw1 u) = _
  rw [hover, hdrop]
  split
  · have hend : endWait { port := src.port, sq := src.sq, cid := src.cid, wait := .programmed targets dw0 dw1 } u =
        complete { port := src.port, sq := src.sq, cid := src.cid } .success dw0 dw1 [] [] u :=
      completeWrite_now _ dw0 dw1 hwait hdip
    rw [hend, complete_success_post _ dw0 dw1 [] [] hwait]
    refine settleShutdowns_idle (fun p e => hshst p ?_) _
    exact (congrArg (fun f => f.2.2) (queuesKept_post _ _ u p) : ((post _ _ u).ctrls.get p).shst = _).symm.trans e
  · exact settleShutdowns_idle (s := programWaits src targets dw0 dw1 u) hshst _

theorem endWrite_ends (hquiet : Quiet u) (hbound : Bound src u) (hdip : u.sup.dip = false) :
    WriteEnds src fua targets dw0 dw1 u (markWaiting (settle (unwaited (endWrite src fua targets dw0 dw1 u)))) := by
  have hwait := hquiet.2.1
  unfold endWrite
  by_cases hcache : fromCache u fua = true
  · rw [if_pos hcache, completeWrite_now src dw0 dw1 hwait hdip,
      unwaited_of ((congrArg Hs.waitR (complete_success_hs src dw0 dw1 [] [] hwait)).trans hwait)]
    have hends := completes dw0 dw1 [] [] hquiet hbound
    have hhs := hends.same State.hs fun _ => rfl
    refine ⟨?_, fun _ => hends, fun h => absurd (h.symm.trans hcache) (by decide)⟩
    rw [hhs]
    exact hends.2.1
  · rw [if_neg hcache, hold_programWaits hquiet, unwaited_of (s := programWaits src targets dw0 dw1 u) hwait,
      settle_programWaits hquiet hdip]
    split
    · next hmet =>
      have halone : CtrlsAlone u (markWaiting (complete { port := src.port, sq := src.sq, cid := src.cid } .success dw0 dw1 [] [] u)) := by
        refine CtrlsAlone.trans ?_ (markWaiting_alone _)
        rw [complete_success_post _ dw0 dw1 [] [] hwait]
        exact (oneCtrl_post ..).1
      refine ⟨?_, fun h => absurd h hcache, fun _ h => absurd (hmet.symm.trans h) (by decide)⟩
      rw [congrArg Hs.inflight halone.hs]
      exact halone
    · have halone := markWaiting_alone (programWaits src targets dw0 dw1 u)
      have hflight := congrArg Hs.inflight halone.hs
      refine ⟨?_, fun h => absurd h hcache, fun _ _ => hflight⟩
      rw [hflight]
      exact halone

theorem WriteEnds.same {t : State} {β : Type} (h : WriteEnds src fua targets dw0 dw1 u t) (view : State → β)
    (hview : ∀ x y, view { u with ctrls := x, hs := { u.hs with inflight := y } } = view u) : view t = view u :=
  (congrArg view h.1).trans (hview ..)

theorem WriteEnds.ioKept {s t : State} (h : WriteEnds src fua targets dw0 dw1 u t) (hkept : IoKept s u) : IoKept s t :=
  hkept.trans ⟨h.same State.bays fun _ _ => rfl, h.same State.part fun _ _ => rfl, h.same State.fw fun _ _ => rfl,
    h.same State.doors fun _ _ => rfl, h.same State.pwr fun _ _ => rfl, h.same State.sup fun _ _ => rfl⟩

end

/-! ### Writes on a zoned namespace (R43, R44, R49, R587) -/

section
variable {src : Src} {s s1 : State} {n : Ns} {z1 : Zone} {x : Xfer} {blks : List Blk} {fua : Bool}

/-- The zone and the state in which a committed write stands before it ends. -/
def committed (src : Src) (n : Ns) (z : Zone) (blks : List Blk) (fua : Bool) (s : State) : State :=
  touchLine (zoneMapAddr s n.nsid z.idx) true (countWrite blks.length (setZone (z.written n blks (writerOf s src fua)) s))

theorem commitZone_eq (append : Bool) (src : Src) (n : Ns) (z : Zone) (blks : List Blk) (fua : Bool) (s : State) :
    ∃ dw1, commitZone src n z blks append fua s =
      endWrite src fua [(n.nsid, z.idx, z.wp + blks.length)] (if append then BitVec.ofNat 32 (z.idx * n.zsze + z.wp) else 0) dw1
        (committed src n z blks fua s) := ⟨_, rfl⟩

/-- t is s but for the metadata cache, Tidemark, the controllers, and of the host side the zones, the namespaces and the statistics of
writes. -/
def WriteStep (s t : State) : Prop :=
  t = { s with ctrls := t.ctrls, mem := t.mem, tide := t.tide
               hs := { s.hs with zones := t.hs.zones, ns := t.hs.ns, writeCmds := t.hs.writeCmds
                                 writeUnits := t.hs.writeUnits, stamp := t.hs.stamp } }

theorem WriteStep.same {s t : State} {β : Type} (h : WriteStep s t) (view : State → β)
    (hview : ∀ c m x z n k w d, view { s with ctrls := c, mem := m, tide := x
                                              hs := { s.hs with zones := z, ns := n, writeCmds := k, writeUnits := w, stamp := d } } =
      view s) : view t = view s :=
  (congrArg view h).trans (hview ..)

theorem WriteStep.ioKept {s t : State} (h : WriteStep s t) : IoKept s t :=
  ⟨h.same State.bays fun _ _ _ _ _ _ _ _ => rfl, h.same State.part fun _ _ _ _ _ _ _ _ => rfl,
    h.same State.fw fun _ _ _ _ _ _ _ _ => rfl, h.same State.doors fun _ _ _ _ _ _ _ _ => rfl,
    h.same State.pwr fun _ _ _ _ _ _ _ _ => rfl, h.same State.sup fun _ _ _ _ _ _ _ _ => rfl⟩

theorem WriteStep.fromCache {s t : State} (h : WriteStep s t) (fua : Bool) : fromCache t fua = fromCache s fua :=
  h.same (Machine.fromCache · fua) fun _ _ _ _ _ _ _ _ => rfl

theorem WriteStep.commands {s t : State} (h : WriteStep s t) : t.hs.inflight = s.hs.inflight ∧ t.hs.waitR = s.hs.waitR :=
  ⟨h.same (·.hs.inflight) fun _ _ _ _ _ _ _ _ => rfl, h.same (·.hs.waitR) fun _ _ _ _ _ _ _ _ => rfl⟩

theorem TierOnly.commands {s t : State} (h : TierOnly s t) : t.hs.inflight = s.hs.inflight ∧ t.hs.waitR = s.hs.waitR :=
  ⟨h.same (·.hs.inflight) fun _ _ _ _ _ _ => rfl, h.same (·.hs.waitR) fun _ _ _ _ _ _ => rfl⟩

theorem TierOnly.queuesKept {s t : State} (h : TierOnly s t) : QueuesKept s t :=
  .of_eq (h.same State.ctrls fun _ _ _ _ _ _ => rfl)

/-- A write command that comes to u and ends there as a write does. -/
theorem IoReady.writeEnds {c : NvmeCmd} {e : Env} {u : State} {targets : Targets} {dw0 dw1 : Dword} (h : IoReady src s)
    (hc : isAdmin c = false) (hroom : cacheBlocked s c = false) (hmem : e.mem = []) (htag : e.tag = none)
    (hdata : dataOf s src c = {}) (hfault : dataFault s src c = none) (hrun : runIo src c e s = endWrite src fua targets dw0 dw1 u)
    (hkept : IoKept s u) (hqueues : QueuesKept s u) (hcommands : u.hs.inflight = s.hs.inflight ∧ u.hs.waitR = s.hs.waitR) :
    WriteEnds src fua targets dw0 dw1 u (runNow src c e s) ∧ IoKept s (runNow src c e s) := by
  have hdip : u.sup.dip = false := by
    obtain ⟨_, _, _, hdip, _⟩ := h.2.1
    obtain ⟨_, _, _, _, _, hsup⟩ := hkept
    rw [hsup, hdip]
  have hends : WriteEnds src fua targets dw0 dw1 u (runNow src c e s) := by
    rw [runNow_io h hc hroom hmem htag hfault, hdata, countRequests_none, hrun]
    exact endWrite_ends (h.2.1.quiet.of_kept hcommands.1 hcommands.2 hqueues) (h.2.1.bound.of_kept hqueues) hdip
  exact ⟨hends, hends.ioKept hkept⟩

theorem writeStep_committed (src : Src) (n : Ns) (z : Zone) (blks : List Blk) (fua : Bool) (x : Xfer) (s : State) :
    WriteStep s (committed src n z blks fua (countRequests src x s)) := by
  unfold committed
  rw [touchLine_mem, countRequests_alone src x s]
  rfl

theorem committed_since (src : Src) (n : Ns) (z : Zone) (blks : List Blk) (fua : Bool) (s : State) :
    (committed src n z blks fua s).ctrls = s.ctrls ∧ (committed src n z blks fua s).hs.ns = s.hs.ns := by
  unfold committed
  rw [touchLine_mem]
  exact ⟨rfl, rfl⟩

theorem committed_zones (src : Src) (n : Ns) (z : Zone) (blks : List Blk) (fua : Bool) (s : State) (a b : Nat) :
    zoneOf (committed src n z blks fua s) a b = zoneOf (setZone (z.written n blks (writerOf s src fua)) s) a b := by
  unfold committed
  rw [touchLine_mem]
  rfl

/-- A zone that was written is not Empty (R90). -/
theorem written_st (n : Ns) (z : Zone) (blks : List Blk) (w : Writer) : (z.written n blks w).st ≠ .empty := by
  simp only [Zone.written, Zone.taken]
  split
  · decide
  · split <;> decide

/-- Who writes, and how, rests on the queue map, the host side and the supplies (R55, R110). -/
theorem writerOf_congr {s t : State} (hbw : t.bw = s.bw) (hhs : t.hs = s.hs) (hsup : t.sup = s.sup) (src : Src) (fua : Bool) :
    writerOf t src fua = writerOf s src fua := by
  simp [writerOf, tenantOfQueue, fromCache, cacheProtected, hbw, hhs, hsup]

/-- A committed write changes the zone it wrote alone (R90). -/
theorem zoneOf_committed (hname : z1.nsid = n.nsid) :
    zoneOf (committed src n z1 blks fua s) n.nsid z1.idx = z1.written n blks (writerOf s src fua) ∧
      OtherZones n.nsid z1.idx s (committed src n z1 blks fua s) := by
  have hw : (z1.written n blks (writerOf s src fua)).nsid = n.nsid ∧ (z1.written n blks (writerOf s src fua)).idx = z1.idx :=
    ⟨hname, rfl⟩
  refine ⟨?_, fun a b hab => ?_⟩ <;> rw [committed_zones]
  · have h := zoneOf_setZone_same (z1.written n blks (writerOf s src fua)) s
    rwa [hw.1, hw.2, if_neg (written_st n z1 blks _)] at h
  · exact zoneOf_setZone_other _ s (by rwa [hw.1, hw.2])

/-- The LBAs a write added are not programmed with it (R55). -/
theorem committed_targets (hname : z1.nsid = n.nsid) (hblks : blks ≠ []) (hflashed : z1.flashed ≤ z1.wp) :
    targetMet (committed src n z1 blks fua s) (n.nsid, z1.idx, z1.wp + blks.length) = false := by
  have hpos := List.length_pos_iff.2 hblks
  have hzone := (zoneOf_committed (src := src) (s := s) (fua := fua) (blks := blks) hname).1
  simp [targetMet, hzone, Zone.written, Zone.taken]
  omega

/-- A write command whose checks have passed ends with its blocks behind the write pointer of the zone it opened (R43, R49, R55). -/
theorem IoReady.commits {c : NvmeCmd} {e : Env} {z : Zone} {append b : Bool} (h : IoReady src s) (hc : isAdmin c = false)
    (hroom : cacheBlocked s c = false) (hmem : e.mem = []) (htag : e.tag = none) (hdata : dataOf s src c = {})
    (hfault : dataFault s src c = none) (hopen : openForWrite z b s = .ok (z1, s1)) (hname : z.nsid = n.nsid) (hblks : blks ≠ [])
    (hrun : runIo src c e s = commitZone src n z1 blks append fua (countRequests src x s1)) :
    Committed src n z1 blks fua s1 (runNow src c e s) ∧ IoKept s (runNow src c e s) ∧
      (fromCache s1 fua = true → (newest src (runNow src c e s)).map (·.dw0) =
        some (if append then BitVec.ofNat 32 (z1.idx * n.zsze + z1.wp) else 0)) := by
  obtain ⟨htier, hnsid, hidx⟩ := openForWrite_facts hopen
  have hname1 : z1.nsid = n.nsid := hnsid.trans hname
  obtain ⟨dw1, hend⟩ := commitZone_eq append src n z1 blks fua (countRequests src x s1)
  have hstep := writeStep_committed src n z1 blks fua x s1
  obtain ⟨hctrls, hns⟩ := committed_since src n z1 blks fua (countRequests src x s1)
  have hqueues := (htier.queuesKept.trans (queuesKept_countRequests src x s1)).trans (.of_eq hctrls)
  obtain ⟨hends, hkept⟩ := h.writeEnds hc hroom hmem htag hdata hfault (hrun.trans hend) (htier.ioKept.trans hstep.ioKept) hqueues
    ⟨hstep.commands.1.trans htier.commands.1, hstep.commands.2.trans htier.commands.2⟩
  have hcache := hstep.fromCache fua
  have hwriter : writerOf (countRequests src x s1) src fua = writerOf s1 src fua :=
    writerOf_congr (by simp) (by simp) (by simp) src fua
  obtain ⟨hzone, hother⟩ := zoneOf_committed (src := src) (s := countRequests src x s1) (fua := fua) (blks := blks) hname1
  have hview : ∀ a b, zoneOf (runNow src c e s) a b = zoneOf (committed src n z1 blks fua (countRequests src x s1)) a b :=
    fun a b => zoneOf_congr (hends.same (·.hs.zones) fun _ _ => rfl) (hends.same (·.hs.changedAt) fun _ _ => rfl) a b
  refine ⟨⟨?_, fun a b hab => ?_, ?_, ?_, ?_, fun hfua => ?_, fun hfua hflashed => ?_⟩, hkept, fun hfua => ?_⟩
  · rw [hview, hzone, hwriter]
  · exact (hview a b).trans ((hother a b hab).trans (zoneOf_congr (by simp) (by simp) a b))
  · exact (hends.same (·.hs.ns) fun _ _ => rfl).trans (hns.trans (by simp))
  · exact (hends.same State.flash fun _ _ => rfl).trans (hstep.same State.flash fun _ _ _ _ _ _ _ _ => rfl)
  · exact (hends.same State.ebb fun _ _ => rfl).trans (hstep.same State.ebb fun _ _ _ _ _ _ _ _ => rfl)
  · exact (hends.2.1 (hcache.trans hfua)).success
  · have hunmet := committed_targets (src := src) (s := countRequests src x s1) (fua := fua) hname1 hblks hflashed
    rw [hends.2.2 (hcache.trans hfua) (by simp [hunmet])]
    rfl
  · exact (hends.2.1 (hcache.trans hfua)).shows (·.dw0) fun _ => rfl

/-- Host entry gives one block for each (R198). -/
theorem length_entryBlks {pi : PiCtl} {append : Bool} {chk lba : Nat} {i : Nat} {bs out : List Blk}
    (h : entryBlks n pi append chk lba i bs = .ok out) : out.length = bs.length := by
  induction bs generalizing i out with
  | nil =>
    cases h
    rfl
  | cons b bs ih =>
    unfold entryBlks at h
    split at h
    · cases h
    · split at h
      · cases h
      · next hrest =>
        cases h
        simp [ih hrest]

theorem entryBlks_ne_nil {pi : PiCtl} {append : Bool} {chk lba : Nat} {bs out : List Blk}
    (h : entryBlks n pi append chk lba 0 bs = .ok out) (hbs : bs ≠ []) : out ≠ [] :=
  List.length_pos_iff.1 (by rw [length_entryBlks h]; exact List.length_pos_iff.2 hbs)

/-- What the cache has room for is not kept back (R103). -/
theorem cacheBlocked_of_room {c : NvmeCmd} (h : cacheRoom s (cacheNeed c) = true) : cacheBlocked s c = false := by
  simp [cacheBlocked, h]

theorem ptrFault_none (s : State) (src : Src) : ptrFault s src {} = none := rfl

/-- A write to a zone that passes the checks of the zone, the slots, the pointers and the protection information is committed
(R37, R49). -/
theorem writeZone_commits {lba len : Nat} {append autoClose : Bool} {mk : Nat → Except PiErr (List Blk)} {m : ZMove}
    (htable : table33 (zoneOf s n.nsid (lba / n.zsze)) .write = .ok m)
    (hwp : wpGate (zoneOf s n.nsid (lba / n.zsze)) n (lba % n.zsze) len append = none)
    (hopen : openForWrite (zoneOf s n.nsid (lba / n.zsze)) autoClose s = .ok (z1, s1)) (hptr : ptrFault s src x = none)
    (hmk : mk (lba / n.zsze * n.zsze + (zoneOf s n.nsid (lba / n.zsze)).wp) = .ok blks) :
    writeZone src n lba len append autoClose fua x mk s = commitZone src n z1 blks append fua (countRequests src x s1) := by
  simp [writeZone, zoneOffset, htable, hwp, hopen, hptr, hmk]

theorem ZonedReady.gate {nsid : Nat} (h : ZonedReady src nsid n s) : zonedGate s src.port nsid = .ok n := by
  obtain ⟨_, hns, hfdp, _⟩ := h
  simp [zonedGate, hns, hfdp]

end

/-- Settles O15: each of the three commands comes to the commit of its zone. -/
theorem writeCommands : Obligations.WriteCommands := by
  intro src e s s1 nsid slba cnt blks out fua pi h n z1 m hready x z at' htable hin
  have hgate := hready.gate
  obtain ⟨hio, hns, hfdp, hwrite⟩ := hready
  obtain rfl := nsid_of_nsGate hns
  have hname : z.nsid = n.nsid := (zoneOf_name s n.nsid _).1
  refine ⟨fun ⟨hmem, htag, hptr⟩ hne hle hlba hroom hwp hopen hout => ?_,
    fun ⟨hmem, htag, hptr⟩ hne hle hz hstart hroom hwp hopen hout => ?_, fun ⟨hmem, htag, hptr⟩ hpos hlba hroom hwp hopen => ?_⟩
  · have hrun : runIo src (.write n.nsid slba blks fua pi h) e s = commitZone src n z1 out false fua (countRequests src x s1) := by
      rw [← writeZone_commits (mk := fun a => entryBlks n pi false a a 0 blks) htable hwp hopen hptr hout]
      simp [runIo, ioWrite, hns, hne, Nat.not_lt.2 hle, Nat.not_lt.2 hlba, hwrite, hfdp, x]
    obtain ⟨hcommitted, hkept, _⟩ := hio.commits (c := .write n.nsid slba blks fua pi h) rfl (cacheBlocked_of_room hroom) hmem htag rfl rfl
      hopen hname (entryBlks_ne_nil hout hne) hrun
    exact ⟨_, rfl, hcommitted, hkept⟩
  · have hrun : runIo src (.zoneAppend n.nsid slba blks fua pi) e s =
        commitZone src n z1 out true fua (countRequests src x s1) := by
      rw [← writeZone_commits (mk := fun a => entryBlks n pi true slba a 0 blks) htable (by rw [hstart]; exact hwp) hopen hptr hout]
      have hlt : ¬n.size ≤ slba := by
        have hdiv := Nat.div_add_mod slba n.zsze
        have hmul := Nat.mul_comm n.zsze (slba / n.zsze)
        omega
      simp [runIo, ioZoneAppend, hgate, hne, Nat.not_lt.2 hle, Nat.ne_of_gt hz, hstart, hlt, hwrite, x]
    obtain ⟨hcommitted, hkept, hdw0⟩ := hio.commits (c := .zoneAppend n.nsid slba blks fua pi) rfl (cacheBlocked_of_room hroom) hmem htag rfl rfl
      hopen hname (entryBlks_ne_nil hout hne) hrun
    exact ⟨_, rfl, hcommitted, hkept, hdw0⟩
  · have hrun : runIo src (.writeZeroes n.nsid slba cnt fua pi) e s =
        commitZone src n z1 (zeroBlks n pi at' cnt) false fua (countRequests src {} s1) := by
      rw [← writeZone_commits (mk := fun a => .ok (zeroBlks n pi a cnt)) htable hwp hopen hptr rfl]
      simp [runIo, ioWriteZeroes, hns, Nat.ne_of_gt hpos, Nat.not_lt.2 hlba, hwrite, hfdp]
    have hne : zeroBlks n pi at' cnt ≠ [] := by simpa [zeroBlks] using Nat.ne_of_gt hpos
    obtain ⟨hcommitted, hkept, _⟩ := hio.commits (c := .writeZeroes n.nsid slba cnt fua pi) rfl (cacheBlocked_of_room hroom)
      hmem htag rfl rfl hopen hname hne hrun
    exact ⟨_, rfl, hcommitted, hkept⟩

end Sys2Proof.Machine
end

section
/-! SUPPORT. Writes and Dataset Management on an FDP namespace (R67, R104, R105): what giving places keeps, and the data put. -/

namespace Sys2Proof.Machine

open Sys2Proof

/-- What every member's step keeps of a view, the fold keeps. -/
theorem foldl_view {α β γ : Type} (view : β → γ) (g : β → α → β) (h : ∀ b a, view (g b a) = view b) (l : List α) (b : β) :
    view (l.foldl g b) = view b := by
  induction l generalizing b with
  | nil => rfl
  | cons a l ih => exact (ih (g b a)).trans (h b a)

/-! ### Lists put under consecutive keys -/

/-- A list put under the keys from base + k on leaves the keys below. -/
theorem getKey_putAll_below {β : Type} {base j : Nat} (l : List β) (k : Nat) (d : List (Nat × β)) (hj : j < k) :
    getKey (base + j) ((l.zipIdx k).foldl (fun d x => putKey (base + x.2) x.1 d) d) = getKey (base + j) d := by
  induction l generalizing k d with
  | nil => rfl
  | cons b l ih =>
    rw [List.zipIdx_cons, List.foldl_cons, ih (k + 1) _ (by omega)]
    exact getKey_putKey_other b d (by omega)

/-- A list put under consecutive keys is read there. -/
theorem getKey_putAll {β : Type} {base i : Nat} {b : β} (l : List β) (k : Nat) (d : List (Nat × β)) (hi : l[i]? = some b) :
    getKey (base + (k + i)) ((l.zipIdx k).foldl (fun d x => putKey (base + x.2) x.1 d) d) = some b := by
  induction l generalizing i k d with
  | nil => simp at hi
  | cons a l ih =>
    rw [List.zipIdx_cons, List.foldl_cons]
    cases i with
    | zero =>
      obtain rfl : a = b := by simpa using hi
      rw [Nat.add_zero, getKey_putAll_below l (k + 1) _ (Nat.lt_succ_self k)]
      exact getKey_putKey_same _ a d
    | succ i =>
      have h := ih (k + 1) (putKey (base + k) a d) (by simpa using hi)
      rwa [show k + 1 + i = k + (i + 1) by omega] at h

/-! ### Places (R104, R105) -/

section
variable {s s1 : State} {n : Ns} {nsid : Nat}

/-- What a namespace holds: the LBAs written to it and their data. -/
def Ns.content (n : Ns) : Nat × Nat × List (Nat × Blk) := (n.nsid, n.fdpWritten, n.fdpData)

theorem unbind_hs (z : Zone) (s : State) : (unbind z s).hs = s.hs :=
  foldl_view State.hs _ (fun t m => by split <;> rfl) _ s

theorem emptyZone_ns (z : Zone) (s : State) : (emptyZone z s).hs.ns = s.hs.ns := by
  have h : (if z.arch = .archivedResident then releaseObj z.obj s else s).hs = s.hs := by split <;> rfl
  exact (congrArg Hs.ns (unbind_hs z _)).trans (congrArg Hs.ns h)

theorem bindZone_hs {z z' : Zone} (h : bindZone z s = some (z', s1)) : s1.hs = s.hs := by
  unfold bindZone at h
  split at h
  · cases h
  · dsimp only at h
    split at h
    · cases h
    · split at h
      · cases h
        rfl
      · cases h

/-- A reclaim unit for a handle's next LBAs is had from the tier alone. -/
theorem unitFor_facts {ruh : Nat} {z : Zone} (h : unitFor n ruh s = some (z, s1)) : TierOnly s s1 ∧ s1.hs.ns = s.hs.ns := by
  unfold unitFor at h
  split at h
  · cases h
    exact ⟨rfl, rfl⟩
  · unfold newUnit at h
    dsimp only at h
    split at h
    · next r hr =>
      cases h
      exact ⟨tierOnly_bindZone hr, congrArg Hs.ns (bindZone_hs hr)⟩
    · next y _ _ _ =>
      exact ⟨(tierOnly_emptyZone y s).trans (tierOnly_bindZone h), (congrArg Hs.ns (bindZone_hs h)).trans (emptyZone_ns y s)⟩
    · cases h

/-- Giving places changes the tier alone, and of the namespace not what it holds. -/
theorem placeFdp_facts {ruh : Nat} {w : Writer} {fuel : Nat} {ls : List Nat} {tg : Targets}
    (h : placeFdp nsid ruh w fuel ls s = some (tg, s1)) :
    TierOnly s s1 ∧ (nsOf s1 nsid).map Ns.content = (nsOf s nsid).map Ns.content := by
  induction fuel generalizing ls s tg with
  | zero =>
    cases ls with
    | nil =>
      cases h
      exact ⟨rfl, rfl⟩
    | cons l ls => cases h
  | succ fuel ih =>
    cases ls with
    | nil =>
      cases h
      exact ⟨rfl, rfl⟩
    | cons l ls =>
      unfold placeFdp at h
      split at h
      · cases h
      · next z s2 hunit =>
        obtain ⟨m, _, hm⟩ := Option.bind_eq_some_iff.1 hunit
        obtain ⟨htier, hns⟩ := unitFor_facts hm
        obtain ⟨⟨tg', s3⟩, hrest, hpair⟩ := Option.map_eq_some_iff.1 h
        cases hpair
        obtain ⟨htier', hcontent⟩ := ih hrest
        have hput := foldl_view Ns.content (fun m x => Ns.placeAt m (placeFlashed s2 m x.1) x.1 (z.idx, z.wp + x.2)) (fun _ _ => rfl)
          ((l :: ls).take (zoneCapacity s - z.wp)).zipIdx
        have hput' := (nsOf_modNs_same nsid _ (setZone (z.taken (zoneCapacity s) ((l :: ls).take (zoneCapacity s - z.wp)).length w) s2)
          fun m => congrArg Prod.fst (hput m)).trans (congrArg (Option.map _) (nsOf_congr hns nsid))
        have hstep : TierOnly s2 (modNs nsid (fun n : Ns => (((l :: ls).take (zoneCapacity s - z.wp)).zipIdx).foldl
            (fun m x => m.placeAt (placeFlashed s2 m x.1) x.1 (z.idx, z.wp + x.2)) n)
          (setZone (z.taken (zoneCapacity s) ((l :: ls).take (zoneCapacity s - z.wp)).length w) s2)) := rfl
        refine ⟨(htier.trans hstep).trans htier', hcontent.trans ?_⟩
        rw [hput', Option.map_map]
        exact congrArg (Option.map · _) (funext hput)

/-! ### Writes (R104, R105) -/

/-- A namespace after its blocks were put at their LBAs. -/
def Ns.put (lba : Nat) (blks : List Blk) (m : Ns) : Ns :=
  { m with
    fdpWritten := m.fdpWritten + blks.length
    fdpData := (blks.zipIdx).foldl (fun d x => putKey (lba + x.2) x.1 d) m.fdpData }

/-- The state in which a committed write on an FDP namespace stands before it ends. -/
def committedFdp (nsid lba : Nat) (blks : List Blk) (s : State) : State :=
  tideRecord (touchFdp (countWrite blks.length (modNs nsid (Ns.put lba blks) s)) nsid lba blks.length true)

/-- The metadata cache alone changes when the map entries of LBAs are touched. -/
theorem touchFdp_mem (s : State) (nsid lba len : Nat) (dirty : Bool) :
    touchFdp s nsid lba len dirty = { s with mem := (touchFdp s nsid lba len dirty).mem } := by
  have h := foldl_view (fun t : State => { t with mem := s.mem })
    (fun t i => touchLine (128 * (fdpMapAddr s nsid lba / 128 + i)) dirty t)
    (fun t i => congrArg (fun u : State => { u with mem := s.mem }) (touchLine_mem _ dirty t))
    (List.range (fdpMapAddr s nsid (lba + (len - 1)) / 128 + 1 - fdpMapAddr s nsid lba / 128)) s
  exact congrArg (fun u : State => { u with mem := (touchFdp s nsid lba len dirty).mem }) h

theorem writeStep_committedFdp (nsid lba : Nat) (blks : List Blk) (s : State) : WriteStep s (committedFdp nsid lba blks s) := by
  unfold committedFdp
  rw [touchFdp_mem]
  rfl

/-- What a committed write leaves of the zones, the controllers and the namespaces. -/
theorem committedFdp_facts (nsid lba : Nat) (blks : List Blk) (s : State) :
    (committedFdp nsid lba blks s).ctrls = s.ctrls ∧ (committedFdp nsid lba blks s).hs.zones = s.hs.zones ∧
      nsOf (committedFdp nsid lba blks s) nsid = (nsOf s nsid).map (Ns.put lba blks) := by
  unfold committedFdp
  rw [touchFdp_mem]
  exact ⟨rfl, rfl, nsOf_modNs_same nsid (Ns.put lba blks) s fun _ => rfl⟩

/-- A write whose LBAs find places ends with its blocks put (R104, R105). -/
theorem commitFdp_eq {src : Src} {lba ruh : Nat} {blks : List Blk} {fua : Bool} {tg : Targets}
    (h : placeFdp n.nsid ruh (writerOf s src fua) (blks.length + 1) ((List.range blks.length).map (lba + ·)) s = some (tg, s1)) :
    commitFdp src n lba ruh blks fua s = endWrite src fua tg 0 0 (committedFdp n.nsid lba blks s1) := by
  unfold commitFdp
  rw [h]
  rfl

/-- A command on an FDP namespace takes its blocks to their places when its checks pass (R37, R104). -/
theorem writeFdp_commits {src : Src} {lba : Nat} {fua : Bool} {x : Xfer} {blks : List Blk} (h : ptrFault s src x = none) :
    writeFdp src n lba fua none x (.ok blks) s = commitFdp src n lba (n.handles.getD 0 0) blks fua (countRequests src x s) := by
  simp [writeFdp, h]

/-- A committed write shows its blocks at their LBAs, and the places found. -/
theorem committedFdp_shows {lba : Nat} {out : List Blk} {ns0 : Option Ns} (hns : ns0 = some n)
    (hcontent : (nsOf s1 nsid).map Ns.content = ns0.map Ns.content) :
    (nsOf (committedFdp nsid lba out s1) nsid).map (·.fdpWritten) = some (n.fdpWritten + out.length) ∧
      (∀ i b, out[i]? = some b → ((nsOf (committedFdp nsid lba out s1) nsid).bind fun m => getKey (lba + i) m.fdpData) = some b) ∧
      (nsOf (committedFdp nsid lba out s1) nsid).map (·.fdpMap) = (nsOf s1 nsid).map (·.fdpMap) := by
  obtain ⟨_, _, hput⟩ := committedFdp_facts nsid lba out s1
  rw [hns] at hcontent
  obtain ⟨m, hm, hmn⟩ := Option.map_eq_some_iff.1 hcontent
  rw [hput, hm]
  refine ⟨congrArg (fun c : Nat × Nat × List (Nat × Blk) => some (c.2.1 + out.length)) hmn, fun i b hb => ?_, rfl⟩
  have h := getKey_putAll (base := lba) out 0 m.fdpData hb
  rwa [Nat.zero_add] at h

end

theorem CtrlsAlone.ioKept {s t : State} (h : CtrlsAlone s t) : IoKept s t :=
  ⟨(congrArg State.bays h :), (congrArg State.part h :), (congrArg State.fw h :), (congrArg State.doors h :),
    (congrArg State.pwr h :), (congrArg State.sup h :)⟩

/-- A write whose LBAs find places ends with its blocks at their LBAs (R104, R105). -/
theorem writeFdp_places {src : Src} {e : Env} {s s1 : State} {nsid slba : Nat} {blks out : List Blk} {fua : Bool} {pi : PiCtl} {n : Ns}
    {tg : Targets} (h : IoReady src s) (hns : nsGate s src.port nsid = .ok n) (hfdp : n.fdp = true)
    (hwrite : writeGate s src.port n = none) (hsound : Sound src e (n.xfer pi false blks.length) s) (hne : blks ≠ [])
    (hle : blks.length ≤ 1024) (hlba : slba + blks.length ≤ n.size) (hroom : cacheRoom s blks.length = true)
    (hout : entryBlks n pi false slba slba 0 blks = .ok out)
    (hplace : placeFdp nsid (n.handles.getD 0 0) (writerOf (countRequests src (n.xfer pi false blks.length) s) src fua) (out.length + 1)
      ((List.range out.length).map (slba + ·)) (countRequests src (n.xfer pi false blks.length) s) = some (tg, s1)) :
    WriteEnds src fua tg 0 0 (committedFdp nsid slba out s1) (runNow src (.write nsid slba blks fua pi none) e s) ∧
      IoKept s (runNow src (.write nsid slba blks fua pi none) e s) ∧
      (nsOf s1 nsid).map Ns.content = (some n).map Ns.content ∧ fromCache (committedFdp nsid slba out s1) fua = fromCache s fua := by
  obtain rfl := nsid_of_nsGate hns
  obtain ⟨hmem, htag, hptr⟩ := hsound
  obtain ⟨htier, hcontent⟩ := placeFdp_facts hplace
  have halone := countRequests_alone src (n.xfer pi false blks.length) s
  have hstep := writeStep_committedFdp n.nsid slba out s1
  have hrun : runIo src (.write n.nsid slba blks fua pi none) e s = endWrite src fua tg 0 0 (committedFdp n.nsid slba out s1) := by
    rw [← commitFdp_eq hplace, ← writeFdp_commits hptr, ← hout]
    simp [runIo, ioWrite, hns, hne, Nat.not_lt.2 hle, Nat.not_lt.2 hlba, hwrite, hfdp]
  have hhs := halone.hs
  obtain ⟨hends, hkept⟩ := h.writeEnds (c := .write n.nsid slba blks fua pi none) rfl (cacheBlocked_of_room hroom) hmem htag rfl rfl hrun
    ((halone.ioKept.trans htier.ioKept).trans hstep.ioKept)
    (((queuesKept_countRequests src _ s).trans htier.queuesKept).trans (.of_eq (committedFdp_facts ..).1))
    ⟨(hstep.commands.1.trans htier.commands.1).trans (by rw [hhs]), (hstep.commands.2.trans htier.commands.2).trans (by rw [hhs])⟩
  refine ⟨hends, hkept, hcontent.trans ?_, (hstep.fromCache fua).trans ?_⟩
  · exact congrArg (Option.map Ns.content) ((nsOf_congr (congrArg Hs.ns hhs) n.nsid).trans (nsOf_of_nsGate hns))
  · exact (htier.same (fromCache · fua) fun _ _ _ _ _ _ => rfl).trans (by rw [halone]; rfl)

/-- The state after the LBAs of the ranges were taken out of a namespace (R67). -/
def deallocated (nsid : Nat) (ranges : List (Nat × Nat)) (s : State) : State :=
  tideRecord (modNs nsid (fun m => m.forget fun l => ranges.any fun r => decide (r.1 ≤ l) && decide (l < r.1 + r.2)) s)

theorem tierOnly_deallocated (nsid : Nat) (ranges : List (Nat × Nat)) (s : State) : TierOnly s (deallocated nsid ranges s) := rfl

theorem deallocated_data {n : Ns} {nsid : Nat} {s : State} (ranges : List (Nat × Nat)) (h : nsOf s nsid = some n) :
    (nsOf (deallocated nsid ranges s) nsid).map (·.fdpData) =
      some (n.fdpData.filter fun x => !ranges.any fun r => decide (r.1 ≤ x.1) && decide (x.1 < r.1 + r.2)) := by
  have hns : nsOf (deallocated nsid ranges s) nsid = (nsOf s nsid).map _ :=
    nsOf_modNs_same nsid (fun m => m.forget fun l => ranges.any fun r => decide (r.1 ≤ l) && decide (l < r.1 + r.2)) s fun _ => rfl
  rw [hns, h]
  rfl

/-- Deallocation takes the LBAs of the ranges out of the data (R67). -/
theorem dsm_forgets {src : Src} {s : State} {nsid : Nat} {ranges : List (Nat × Nat)} {n : Ns} (h : IoReady src s)
    (hns : nsGate s src.port nsid = .ok n) (hfdp : n.fdp = true) (hwrite : writeGate s src.port n = none)
    (hreach : Reaches src (.dsm nsid true ranges) s) (hranges : ∀ r ∈ ranges, r.1 + r.2 ≤ n.size) :
    Yields (.datasetManagement src nsid true ranges) s fun t =>
      Answered src .success t ∧
        (nsOf t nsid).map (fun m => m.fdpData) =
          some (n.fdpData.filter fun x => !ranges.any fun r => decide (r.1 ≤ x.1) && decide (x.1 < r.1 + r.2)) ∧
        t.hs.zones = s.hs.zones ∧ IoKept s t := by
  have halone := countRequests_alone src { data := 16 * ranges.length } s
  have hhs := halone.hs
  generalize hs0 : countRequests src { data := 16 * ranges.length } s = s0 at halone hhs
  have hgate : nsGate s0 src.port nsid = .ok n := (nsGate_congr (congrArg Hs.ns hhs) (congrArg State.adm halone :) src.port nsid).trans hns
  have hgate' : writeGate s0 src.port n = none := by
    rw [halone]
    exact hwrite
  have hany : (ranges.any fun r => decide (n.size < r.1 + r.2)) = false :=
    List.any_eq_false.2 fun r hr => by simpa using hranges r hr
  have htier := tierOnly_deallocated nsid ranges s0
  have hrun : runIo src (.dsm nsid true ranges) {} (countRequests src { data := 16 * ranges.length } s) =
      complete src .success 0 0 [] [] (deallocated nsid ranges s0) := by
    rw [hs0]
    simp only [runIo, ioDsm, hgate, hgate', hfdp, hany]
    rfl
  have hends := h.ends (c := .dsm nsid true ranges) rfl (cacheBlocked_of_need (c := .dsm nsid true ranges) rfl) rfl rfl hreach.1 hrun
    (htier.commands.1.trans (congrArg Hs.inflight hhs)) (htier.commands.2.trans (congrArg Hs.waitR hhs))
    ((hs0 ▸ queuesKept_countRequests src _ s : QueuesKept s s0).trans htier.queuesKept)
  refine ⟨_, rfl, hends.success, ?_, (hends.same (·.hs.zones) fun _ => rfl).trans (congrArg (·.zones) hhs :),
    hends.ioKept (halone.ioKept.trans htier.ioKept)⟩
  exact (congrArg _ (hends.same (nsOf · nsid) fun _ => rfl)).trans (deallocated_data ranges (nsOf_of_nsGate hgate))

/-- Settles O16: the write's places come from the tier alone, and its blocks stand at their LBAs. -/
theorem fdpCommands : Obligations.FdpCommands := by
  intro src e s nsid slba blks out fua pi n ranges tg s1 h hns hfdp hwrite
  refine ⟨fun hsound hne hle hlba hroom hout hplace => ?_, fun hreach hranges => dsm_forgets h hns hfdp hwrite hreach hranges⟩
  obtain ⟨hends, hkept, hcontent, hcache⟩ := writeFdp_places h hns hfdp hwrite hsound hne hle hlba hroom hout hplace
  obtain ⟨hcount, hdata, hmap⟩ := committedFdp_shows (lba := slba) (out := out) rfl hcontent
  obtain ⟨_, hzones, _⟩ := committedFdp_facts nsid slba out s1
  have hstep := writeStep_committedFdp nsid slba out s1
  have hview := hends.same (nsOf · nsid) fun _ _ => rfl
  refine ⟨_, rfl, ?_, ?_, ?_, (hends.same (·.hs.zones) fun _ _ => rfl).trans hzones,
    (hends.same State.flash fun _ _ => rfl).trans (hstep.same State.flash fun _ _ _ _ _ _ _ _ => rfl),
    fun hfua => (hends.2.1 (hcache.trans hfua)).success, hkept⟩
  · rwa [hview]
  · rwa [hview]
  · rwa [hview]

end Sys2Proof.Machine
end

section
/-! SUPPORT. What an event report and the work given to bays may change, and the archive commands (R69 to R75, R95, R96, R233). -/

namespace Sys2Proof.Machine

open Sys2Proof

/-! ### An event report (R504 to R511) -/

/-- t is s but for the event log, the controllers and the Tidemark record. -/
def Reported (s t : State) : Prop :=
  t = { s with ctrls := t.ctrls, evt := t.evt, tide := t.tide }

theorem Reported.trans {s t u : State} (h : Reported s t) (h' : Reported t u) : Reported s u :=
  Eq.trans h' (congrArg (fun x : State => { x with ctrls := u.ctrls, evt := u.evt, tide := u.tide }) h)

theorem CtrlsAlone.reported {s t : State} (h : CtrlsAlone s t) : Reported s t := by
  have htide : t.tide = s.tide := (congrArg State.tide h :)
  have hevt : t.evt = s.evt := (congrArg State.evt h :)
  unfold Reported
  rw [htide, hevt]
  exact h

theorem reportAer_alone (group : Nat) (p : PortId) (s : State) : CtrlsAlone s (reportAer group p s) := by
  unfold reportAer
  dsimp only
  split
  · rfl
  · split
    · exact ctrlsAlone_modCtrl ..
    · exact (ctrlsAlone_modCtrl ..).trans (oneCtrl_post ..).1

theorem reported_reportMsix (s : State) : Reported s (reportMsix s) := by
  have hsend : ∀ ps, Reported s (sendMsix ps s) := fun ps => by
    unfold sendMsix
    split <;> rfl
  unfold reportMsix
  split
  · split
    · rfl
    · exact hsend _
  · exact hsend _

theorem reported_reportEmcy (r : EventRec) (s : State) : Reported s (reportEmcy r s) := by
  unfold reportEmcy
  split
  · rfl
  · split <;> rfl

theorem reported_deliver (r : EventRec) (s : State) : Reported s (deliver r s) := by
  have haer : Reported s (if masked s 1 r.ev then s else allPorts.foldl (fun t p => reportAer (eventGroup r.ev) p t) s) := by
    split
    · rfl
    · exact (ctrlsAlone_foldl _ (fun t p => reportAer_alone _ p t) _ s).reported
  have hmsix : ∀ t, Reported s t → Reported s (if masked s 2 r.ev then t else reportMsix t) := fun t h => by
    split
    · exact h
    · exact h.trans (reported_reportMsix t)
  unfold deliver
  dsimp only
  split
  · exact hmsix _ haer
  · exact (hmsix _ haer).trans (reported_reportEmcy ..)

/-- An event changes the log and what reports it. -/
theorem reported_raise (ev cause : Nat) (data : List Nat) (s : State) : Reported s (raise ev cause data s) := by
  unfold raise
  split
  · rfl
  · split
    · rfl
    · unfold raiseNow
      dsimp only
      split
      · rfl
      · refine Reported.trans ?_ (reported_deliver _ _)
        rfl

/-! ### Work given to bays (R213, R214, R229, R233) -/

/-- The objects recalled and the zones they are recalled to. -/
def recallNames (s : State) : List (Nat × Nat) := s.ebb.recalls.map fun r => (r.obj, r.zone)

/-- t is s but for the bays and what is written to their discs, the recalls' bays, the events and their reports, and free values. -/
def BaysWork (s t : State) : Prop :=
  t = { s with ctrls := t.ctrls, evt := t.evt, tide := t.tide, bays := t.bays, free := t.free
               ebb := { s.ebb with sets := t.ebb.sets, recalls := t.ebb.recalls } } ∧
    recallNames t = recallNames s ∧ QueuesKept s t

theorem BaysWork.refl (s : State) : BaysWork s s := ⟨rfl, rfl, .refl s⟩

theorem BaysWork.trans {s t u : State} (h : BaysWork s t) (h' : BaysWork t u) : BaysWork s u := by
  obtain ⟨heq, hnames, hqueues⟩ := h
  obtain ⟨heq', hnames', hqueues'⟩ := h'
  refine ⟨heq'.trans (congrArg (fun x : State => { x with
    ctrls := u.ctrls, evt := u.evt, tide := u.tide, bays := u.bays, free := u.free
    ebb := { x.ebb with sets := u.ebb.sets, recalls := u.ebb.recalls } }) heq), hnames'.trans hnames, hqueues.trans hqueues'⟩

theorem BaysWork.foldl {α : Type} (g : State → α → State) (h : ∀ t a, BaysWork t (g t a)) (l : List α) (s : State) :
    BaysWork s (l.foldl g s) := by
  induction l generalizing s with
  | nil => exact .refl s
  | cons a l ih => exact (h s a).trans (ih (g s a))

/-- What a view that looks at none of these sees. -/
theorem BaysWork.same {s t : State} {β : Type} (h : BaysWork s t) (view : State → β)
    (hview : ∀ c e x b f d r, view { s with ctrls := c, evt := e, tide := x, bays := b, free := f
                                            ebb := { s.ebb with sets := d, recalls := r } } = view s) : view t = view s :=
  (congrArg view h.1).trans (hview ..)

theorem baysWork_modBay (b : BayId) (f : Bay → Bay) (s : State) : BaysWork s (modBay b f s) := ⟨rfl, rfl, .refl s⟩

theorem baysWork_modDisc (sid role : Nat) (f : SetDisc → SetDisc) (s : State) : BaysWork s (modDisc sid role f s) := ⟨rfl, rfl, .refl s⟩

theorem baysWork_raise (ev cause : Nat) (data : List Nat) (s : State) : BaysWork s (raise ev cause data s) := by
  have h := reported_raise ev cause data s
  have hbays : (raise ev cause data s).bays = s.bays := (congrArg State.bays h :)
  have hfree : (raise ev cause data s).free = s.free := (congrArg State.free h :)
  have hebb : (raise ev cause data s).ebb = s.ebb := (congrArg State.ebb h :)
  refine ⟨?_, by unfold recallNames; rw [hebb], queuesKept_raise _ _ _ _⟩
  rw [hbays, hfree, hebb]
  exact h

theorem baysWork_postRequest (b : BayId) (code reason : Nat) (serial : List Byte) (s : State) :
    BaysWork s (postRequest b code reason serial s) := baysWork_modBay ..

theorem baysWork_discFailed (sid role cause : Nat) (s : State) : BaysWork s (discFailed sid role cause s) := by
  unfold discFailed
  split
  · exact .refl s
  · refine BaysWork.trans ?_ (baysWork_raise ..)
    split
    · dsimp only
      split
      · exact ((baysWork_modDisc ..).trans (baysWork_modBay ..)).trans (baysWork_postRequest ..)
      · exact (baysWork_modDisc ..).trans (baysWork_modBay ..)
    · exact baysWork_modDisc ..

theorem baysWork_slipFrame (sid role planned : Nat) (s : State) : BaysWork s (slipFrame sid role planned s) := by
  unfold slipFrame
  split
  · exact .refl s
  · split
    · exact baysWork_discFailed ..
    · exact baysWork_modDisc ..

theorem baysWork_dropGate (b : BayId) (cause : Nat) (s : State) : BaysWork s (dropGate b cause s) := by
  unfold dropGate
  dsimp only
  split
  · exact .refl s
  · refine BaysWork.trans ?_ (baysWork_raise ..)
    have hgate : ∀ f : Bay → Bay, BaysWork s (modBay b f (spend s)) := fun f => ⟨rfl, rfl, .refl s⟩
    split
    · exact (hgate _).trans (.foldl _ (fun t p => baysWork_slipFrame _ _ p t) _ _)
    · exact hgate _

theorem baysWork_laserOff (b : BayId) (s : State) : BaysWork s (laserOff b s) :=
  (baysWork_dropGate b 10 s).trans (baysWork_modBay ..)

theorem baysWork_unloadReady (b : BayId) (s : State) : BaysWork s (unloadReady b s) := by
  unfold unloadReady
  split
  · split
    · exact (baysWork_modBay ..).trans (baysWork_postRequest ..)
    · exact .refl s
  · exact .refl s

theorem baysWork_admitStarts (n : Nat) (s : State) : BaysWork s (admitStarts n s) := by
  induction n generalizing s with
  | zero => exact .refl s
  | succ n ih =>
    unfold admitStarts
    dsimp only
    split
    · exact .refl s
    · split
      · exact .refl s
      · exact (baysWork_modBay ..).trans (ih _)

theorem baysWork_spinBrake (b : BayId) (s : State) : BaysWork s (spinBrake b s) := by
  refine BaysWork.trans ?_ (baysWork_admitStarts ..)
  refine (baysWork_modBay b Bay.brake s).trans ?_
  unfold setBrakeDuty
  split
  · exact baysWork_modBay ..
  · exact .refl _

theorem baysWork_postUnload (b : BayId) (reason : Nat) (s : State) : BaysWork s (postUnload b reason s) := by
  have hdue := (baysWork_laserOff b s).trans (baysWork_modBay b (fun y => { y with unloadDue := some reason }) (laserOff b s))
  unfold postUnload
  dsimp only
  split
  · exact hdue.trans (baysWork_unloadReady ..)
  · have hwithdrawn := hdue.trans (baysWork_postRequest b 0 0 [] _)
    split
    · exact hwithdrawn
    · exact hwithdrawn.trans (baysWork_spinBrake ..)

theorem baysWork_startSpindle (b : BayId) (rpm : Nat) (s : State) : BaysWork s (startSpindle b rpm s) := by
  have hqueue : BaysWork s (queueStart b rpm s) := (baysWork_modBay ..).trans (baysWork_admitStarts ..)
  unfold startSpindle
  dsimp only
  split
  · split
    · exact .refl s
    · split
      · exact baysWork_modBay ..
      · exact hqueue
  · split
    · exact baysWork_modBay ..
    · exact hqueue

theorem baysWork_askDisc (b : BayId) (reason rpm : Nat) (serial : List Byte) (s : State) :
    BaysWork s (askDisc b reason rpm serial s) := by
  unfold askDisc
  dsimp only
  split
  · exact baysWork_postRequest ..
  · split
    · exact (baysWork_postRequest ..).trans (baysWork_startSpindle ..)
    · exact baysWork_postUnload ..

theorem baysWork_setWork (b : BayId) (w role : Nat) (s : State) : BaysWork s (setWork b w role s) := baysWork_modBay ..

theorem baysWork_modRecall (id : Nat) (f : Recall → Recall) (s : State) (hf : ∀ r, (f r).obj = r.obj ∧ (f r).zone = r.zone) :
    BaysWork s (modRecall id f s) := by
  refine ⟨rfl, ?_, .refl s⟩
  unfold recallNames modRecall modWhere
  simp only [List.map_map]
  refine List.map_congr_left fun r _ => ?_
  simp only [Function.comp_apply]
  split
  · rw [(hf r).1, (hf r).2]
  · rfl

theorem baysWork_giveRecall (s : State) (r : Recall) : BaysWork s (giveRecall s r) := by
  unfold giveRecall
  split
  · exact .refl s
  · dsimp only
    split
    · exact .refl s
    · refine BaysWork.trans ?_ (baysWork_askDisc _ _ _ _ _)
      refine BaysWork.trans ?_ (baysWork_setWork _ _ _ _)
      exact baysWork_modRecall _ _ s fun _ => ⟨rfl, rfl⟩

theorem baysWork_giveOthers (id : Nat) (s : State) : BaysWork s (giveOthers id s) := by
  unfold giveOthers
  dsimp only
  split
  · exact .refl s
  · refine .foldl _ (fun t d => ?_) _ s
    split
    · refine BaysWork.trans ?_ (baysWork_askDisc _ _ _ _ _)
      refine BaysWork.trans ?_ (baysWork_setWork _ _ _ _)
      exact baysWork_modRecall _ _ t fun _ => ⟨rfl, rfl⟩
    · exact .refl t

theorem baysWork_giveRecalls (s : State) : BaysWork s (giveRecalls s) := by
  refine .foldl _ (fun t r => ?_) _ s
  unfold serveRecall
  split
  · exact baysWork_giveRecall t r
  · split
    · exact baysWork_giveOthers ..
    · exact .refl t

/-! ### The archive commands (R69 to R75, R95, R96) -/

section
variable {src : Src} {s : State} {nsid slba tag id : Nat} {n : Ns} {m : ZMove} {o : Obj}

/-- What an archive command leaves as it was (O19). -/
def ArchiveKept (s t : State) : Prop := t.part = s.part ∧ t.fw = s.fw ∧ t.doors = s.doors

theorem ZonedReady.archiveGate (h : ZonedReady src nsid n s) (hlba : slba < n.size) (hz : 0 < n.zsze) (hstart : slba % n.zsze = 0) :
    archiveGate s src.port nsid slba false 0 = .ok n := by
  have hgate := h.gate
  obtain ⟨_, _, _, hwrite⟩ := h
  simp [Machine.archiveGate, hgate, Nat.not_le.2 hlba, Nat.ne_of_gt hz, hstart, hwrite]

/-- A zone that Table 3.3 lets be archived, or its archive be cancelled, holds data. -/
theorem table33_archive_st {z : Zone} (h : table33 z .archive = .ok m) : z.st ≠ .empty := by
  intro he
  unfold table33 at h
  rw [he] at h
  cases h

theorem table33_cancel_st {z : Zone} (h : table33 z .cancel = .ok m) : z.st ≠ .empty := by
  intro he
  unfold table33 at h
  rw [he] at h
  cases h

/-- An archive command that succeeds with its effect in u. -/
theorem IoReady.archiveEnds {c : NvmeCmd} {u : State} {dw0 dw1 : Dword} {data : List Byte} (h : IoReady src s) (hc : isAdmin c = false)
    (hneed : cacheNeed c = 0) (hdata : countRequests src (dataOf s src c) s = s) (hfault : dataFault s src c = none)
    (hrun : runIo src c {} s = complete src .success dw0 dw1 data [] u) (hhs : u.hs.inflight = s.hs.inflight ∧ u.hs.waitR = s.hs.waitR)
    (hkept : QueuesKept s u) : EndsWith src (completionOf src .success dw0 dw1 data []) u (runNow src c {} s) :=
  h.ends hc (cacheBlocked_of_need hneed) rfl rfl hfault (by rw [hdata, hrun]) hhs.1 hhs.2 hkept

theorem zoneArchive_queues (h : ZonedReady src nsid n s) (hlba : slba < n.size) (hz : 0 < n.zsze) (hstart : slba % n.zsze = 0)
    (htable : table33 (zoneOf s nsid (slba / n.zsze)) .archive = .ok m) :
    Yields (.zoneArchive src nsid slba false tag 0) s fun t =>
      let z := zoneOf s nsid (slba / n.zsze)
      Answered src .success t ∧ (newest src t).map (·.dw0) = some (BitVec.ofNat 32 (nextObject s)) ∧
        zoneOf t nsid z.idx = { z with arch := .queued, obj := nextObject s, objLbas := z.wp, affinity := tag,
                                       changed := nowNs s, setId := 0, setK := 0 } ∧
        OtherZones nsid z.idx s t ∧ t.ebb.queue = s.ebb.queue ++ [nextObject s] ∧ t.hs.objNext = nextObject s + 1 ∧
        t.bays = s.bays ∧ t.flash = s.flash ∧ ArchiveKept s t := by
  obtain ⟨hname, _⟩ := zoneOf_name s nsid (slba / n.zsze)
  have hst := table33_archive_st htable
  have hgate := h.archiveGate hlba hz hstart
  have hends := h.1.archiveEnds (c := .archive nsid slba false tag 0) (dw0 := BitVec.ofNat 32 (nextObject s))
    (u := archiveZone n (zoneOf s nsid (slba / n.zsze)) tag s) rfl rfl (countRequests_none src s) rfl
    (by simp only [runIo, ioArchive, hgate, htable]; rfl) ⟨rfl, rfl⟩ (.refl s)
  have hzone := fun a b => hends.same (zoneOf · a b) fun _ => rfl
  generalize hz0 : zoneOf s nsid (slba / n.zsze) = z at *
  have hset : ∀ a b, zoneOf (archiveZone n z tag s) a b = zoneOf (setZone { z with
      arch := .queued, obj := nextObject s, objLbas := z.wp, affinity := tag, changed := nowNs s, setId := 0, setK := 0 } s) a b :=
    fun _ _ => rfl
  refine ⟨_, rfl, hends.success, hends.shows (·.dw0) fun _ => rfl, ?_, fun a b hab => ?_, hends.same (·.ebb.queue) fun _ => rfl,
    hends.same (·.hs.objNext) fun _ => rfl, hends.same State.bays fun _ => rfl, hends.same State.flash fun _ => rfl,
    hends.same State.part fun _ => rfl, hends.same State.fw fun _ => rfl, hends.same State.doors fun _ => rfl⟩
  · rw [hzone, hset, ← hname]
    exact (zoneOf_setZone_same _ s).trans (if_neg hst)
  · rw [hzone, hset]
    exact zoneOf_setZone_other _ s (by rwa [hname])

theorem archiveCancel_resident (h : ZonedReady src nsid n s) (hlba : slba < n.size) (hz : 0 < n.zsze) (hstart : slba % n.zsze = 0)
    (htable : table33 (zoneOf s nsid (slba / n.zsze)) .cancel = .ok m) :
    Yields (.archiveCancel src nsid slba false 0) s fun t =>
      let z := zoneOf s nsid (slba / n.zsze)
      Answered src .success t ∧ (zoneOf t nsid z.idx).arch = .resident ∧ (zoneOf t nsid z.idx).obj = 0 ∧
        OtherZones nsid z.idx s t ∧ t.ebb.queue = s.ebb.queue.filter (· != z.obj) ∧ t.bays = s.bays ∧ t.flash = s.flash ∧
        ArchiveKept s t := by
  obtain ⟨hname, _⟩ := zoneOf_name s nsid (slba / n.zsze)
  have hst := table33_cancel_st htable
  have hgate := h.archiveGate hlba hz hstart
  have hends := h.1.archiveEnds (c := .archiveCancel nsid slba false 0) (u := cancelZone (zoneOf s nsid (slba / n.zsze)) s) rfl rfl
    (countRequests_none src s) rfl (by simp only [runIo, ioCancel, hgate, htable]; rfl) ⟨rfl, rfl⟩ (.refl s)
  have hzone := fun a b => hends.same (zoneOf · a b) fun _ => rfl
  generalize hz0 : zoneOf s nsid (slba / n.zsze) = z at *
  have hset : ∀ a b, zoneOf (cancelZone z s) a b =
      zoneOf (setZone { clearObject z with arch := .resident, changed := nowNs s } (retireObj z.obj s)) a b := fun _ _ => rfl
  have hthis : zoneOf (cancelZone z s) nsid z.idx = { clearObject z with arch := .resident, changed := nowNs s } := by
    rw [hset, ← hname]
    exact (zoneOf_setZone_same { clearObject z with arch := .resident, changed := nowNs s } _).trans (if_neg hst)
  refine ⟨_, rfl, hends.success, ?_, ?_, fun a b hab => ?_, hends.same (·.ebb.queue) fun _ => rfl,
    hends.same State.bays fun _ => rfl, hends.same State.flash fun _ => rfl, hends.same State.part fun _ => rfl,
    hends.same State.fw fun _ => rfl, hends.same State.doors fun _ => rfl⟩
  · rw [hzone, hthis]
  · rw [hzone, hthis]
    rfl
  · rw [hzone, hset]
    exact zoneOf_setZone_other _ _ (by rwa [show ({ clearObject z with arch := .resident, changed := nowNs s } : Zone).nsid = nsid from hname])

theorem archiveQuery_answers (h : ZonedReady src nsid n s) (ho : objOf s id = some o)
    (hreach : Reaches src (.archiveQuery nsid id false 0 15 0) s) :
    Yields (.archiveQuery src nsid id false 0 15 0) s fun t =>
      Answered src .success t ∧ (newest src t).map (·.data) = some (querySummary s o) ∧ t.ebb = s.ebb ∧ t.hs.zones = s.hs.zones ∧
        t.bays = s.bays ∧ t.flash = s.flash ∧ ArchiveKept s t := by
  obtain ⟨hio, hns, hfdp, _⟩ := h
  have hsan : sanitizeGate s = none := by
    unfold nsGate at hns
    split at hns
    · cases hns
    · cases hns
    · assumption
  have hnsOf := nsOf_of_nsGate hns
  have hlen : (querySummary s o).take 64 = querySummary s o := List.take_of_length_le (by simp [querySummary, leBytes])
  have hends := hio.archiveEnds (c := .archiveQuery nsid id false 0 15 0) (u := s) (dw0 := 0) (dw1 := 0)
    (data := querySummary s o) rfl rfl
    (countRequests_read s rfl) hreach.1
    (by simp [runIo, ioQuery, hsan, hnsOf, hfdp, queryKey, ho, queryData, hlen]) ⟨rfl, rfl⟩ (.refl s)
  exact ⟨_, rfl, hends.success, hends.shows (·.data) fun _ => rfl, hends.same State.ebb fun _ => rfl, hends.same (·.hs.zones) fun _ => rfl,
    hends.same State.bays fun _ => rfl, hends.same State.flash fun _ => rfl, hends.same State.part fun _ => rfl,
    hends.same State.fw fun _ => rfl, hends.same State.doors fun _ => rfl⟩

/-- A power state that rises for a recall changes that, and is reported (R491). -/
theorem policyUp_facts (s : State) :
    policyUp s = { s with pwr := (policyUp s).pwr, ctrls := (policyUp s).ctrls, evt := (policyUp s).evt, tide := (policyUp s).tide } ∧
      QueuesKept s (policyUp s) := by
  unfold policyUp
  split
  · have h := reported_raise 13 0 [2, s.pwr.ceiling] { s with pwr := { s.pwr with ps := s.pwr.ceiling } }
    refine ⟨?_, queuesKept_raise 13 0 [2, s.pwr.ceiling] { s with pwr := { s.pwr with ps := s.pwr.ceiling } }⟩
    rw [(congrArg State.pwr h :)]
    exact h
  · exact ⟨rfl, .refl s⟩

/-- The target zone of a recall (R73, R96). -/
def recallTargetOf (z : Zone) (o : Obj) (s : State) : Zone :=
  { z with
    st := .recallTarget, obj := o.oid, objLbas := o.lbas, setId := o.setId, setK := widthOf s o.setId
    affinity := o.affinity, changed := nowNs s, realloc := o.realloc }

/-- A recall that is accepted gives its zone the target's state, enters the list of recalls and keeps the rest of the host side (R73). -/
theorem acceptRecall_facts (z : Zone) (o : Obj) (s : State) :
    (acceptRecall z o s).hs = (setZone (recallTargetOf z o s) s).hs ∧ QueuesKept s (acceptRecall z o s) ∧
      (o.oid, z.idx) ∈ recallNames (acceptRecall z o s) ∧ ArchiveKept s (acceptRecall z o s) := by
  unfold acceptRecall
  dsimp only
  generalize hs2 : tideRecord _ = s2
  have hnames : (o.oid, z.idx) ∈ recallNames s2 := by
    rw [← hs2]
    simp [recallNames, tideRecord]
  have hs0 : s2.hs = (setZone (recallTargetOf z o s) s).hs ∧ QueuesKept s s2 ∧ ArchiveKept s s2 := by
    rw [← hs2]
    exact ⟨rfl, .refl s, rfl, rfl, rfl⟩
  obtain ⟨hhs, hqueues, hkept⟩ := hs0
  have hwork := baysWork_giveRecalls s2
  obtain ⟨hup, hupQueues⟩ := policyUp_facts (giveRecalls s2)
  have hgiven := hwork.2.1
  refine ⟨((congrArg State.hs hup :).trans (hwork.same State.hs fun _ _ _ _ _ _ _ => rfl)).trans hhs,
    (hqueues.trans hwork.2.2).trans hupQueues, ?_, ?_⟩
  · have hebb : (policyUp (giveRecalls s2)).ebb = (giveRecalls s2).ebb := (congrArg State.ebb hup :)
    unfold recallNames at hgiven hnames ⊢
    rwa [hebb, hgiven]
  · obtain ⟨hpart, hfw, hdoors⟩ := hkept
    exact ⟨((congrArg State.part hup :).trans (hwork.same State.part fun _ _ _ _ _ _ _ => rfl)).trans hpart,
      ((congrArg State.fw hup :).trans (hwork.same State.fw fun _ _ _ _ _ _ _ => rfl)).trans hfw,
      ((congrArg State.doors hup :).trans (hwork.same State.doors fun _ _ _ _ _ _ _ => rfl)).trans hdoors⟩

theorem zoneRecall_accepts (h : ZonedReady src nsid n s) (hlba : slba < n.size) (hz : 0 < n.zsze) (hstart : slba % n.zsze = 0)
    (htable : table33 (zoneOf s nsid (slba / n.zsze)) .recall = .ok m) (ho : objOf s id = some o) (hlbaf : o.lbaf = n.lbaf)
    (hlbas : o.lbas ≤ n.zcap) (hreason : recallReason s o = 0) (hactive : activeFree s nsid = true) (hopen : openFree s nsid = true)
    (hbind : (bindZone (zoneOf s nsid (slba / n.zsze)) s).isSome) :
    Yields (.zoneRecall src nsid slba id 0) s fun t =>
      let z := zoneOf s nsid (slba / n.zsze)
      Answered src .success t ∧ (zoneOf t nsid z.idx).st = .recallTarget ∧ (zoneOf t nsid z.idx).obj = o.oid ∧
        OtherZones nsid z.idx s t ∧ (∃ r ∈ t.ebb.recalls, r.obj = o.oid ∧ r.zone = z.idx) ∧ ArchiveKept s t := by
  obtain ⟨hname, _⟩ := zoneOf_name s nsid (slba / n.zsze)
  have hgate := h.archiveGate hlba hz hstart
  obtain ⟨⟨z1, s1⟩, hbound⟩ := Option.isSome_iff_exists.1 hbind
  have htier := tierOnly_bindZone hbound
  obtain ⟨hnsid, hidx, _⟩ := bindZone_zone hbound
  have hhs := bindZone_hs hbound
  obtain ⟨hhs', hqueues, hnamed, hkept⟩ := acceptRecall_facts z1 o s1
  have hslots : takeSlots nsid true false s = .ok s := by simp [takeSlots, hactive, hopen]
  have hrun : runIo src (.recall nsid slba id 0) {} s = complete src .success 0 0 [] [] (acceptRecall z1 o s1) := by
    simp only [runIo, ioRecall, hgate, htable, ho, hslots, hbound, hreason]
    simp [hlbaf, Nat.not_lt.2 hlbas]
  have hends := h.1.archiveEnds (c := .recall nsid slba id 0) rfl rfl (countRequests_none src s) rfl hrun
    ⟨(congrArg Hs.inflight hhs').trans htier.commands.1, (congrArg Hs.waitR hhs').trans htier.commands.2⟩
    (htier.queuesKept.trans hqueues)
  generalize hz0 : zoneOf s nsid (slba / n.zsze) = z at *
  have hset : ∀ a b, zoneOf (runNow src (.recall nsid slba id 0) {} s) a b = zoneOf (setZone (recallTargetOf z1 o s1) s1) a b := by
    intro a b
    refine (hends.same (zoneOf · a b) fun _ => rfl).trans ?_
    exact zoneOf_congr (congrArg Hs.zones hhs') (congrArg Hs.changedAt hhs') a b
  have hthis : zoneOf (runNow src (.recall nsid slba id 0) {} s) nsid z.idx = recallTargetOf z1 o s1 := by
    have hset' := zoneOf_setZone_same (recallTargetOf z1 o s1) s1
    rw [hset, ← hname, ← hnsid, ← hidx]
    exact hset'
  obtain ⟨r, hr, hrn⟩ := List.mem_map.1 hnamed
  obtain ⟨hrobj, hrzone⟩ := Prod.mk.inj hrn
  obtain ⟨hpart, hfw, hdoors⟩ := hkept
  obtain ⟨_, hpart', hfw', hdoors', _⟩ := htier.ioKept
  refine ⟨_, rfl, hends.success, ?_, ?_, fun a b hab => ?_, ⟨r, ?_, hrobj, hrzone.trans hidx⟩,
    (hends.same State.part fun _ => rfl).trans (hpart.trans hpart'), (hends.same State.fw fun _ => rfl).trans (hfw.trans hfw'),
    (hends.same State.doors fun _ => rfl).trans (hdoors.trans hdoors')⟩
  · rw [hthis]
    rfl
  · rw [hthis]
    rfl
  · rw [hset, zoneOf_setZone_other _ s1 (by rwa [show (recallTargetOf z1 o s1).nsid = nsid from hnsid.trans hname,
      show (recallTargetOf z1 o s1).idx = z.idx from hidx])]
    exact zoneOf_congr (congrArg Hs.zones hhs) (congrArg Hs.changedAt hhs) a b
  · rwa [hends.same (·.ebb.recalls) fun _ => rfl]

end

/-- Settles O19: each command comes to its change of one zone, which the work given to bays leaves. -/
theorem archiveCommands : Obligations.ArchiveCommands := by
  intro src s nsid slba tag id n m o h z kept hlba hz hstart
  exact ⟨zoneArchive_queues h hlba hz hstart, archiveCancel_resident h hlba hz hstart, zoneRecall_accepts h hlba hz hstart,
    archiveQuery_answers h⟩

end Sys2Proof.Machine
end

section
/-! SUPPORT. A reallocation with no slot left whose recall ends with it (R231, R235, R505, R507). -/

namespace Sys2Proof.Machine

open Sys2Proof

/-- The recall of object 9: every frame is in its zone, one is left to reallocate in bay 0, and bay 1 holds a disc of its step 4. -/
def reallocationRecall : Recall :=
  { obj := 9, bay := some 0, loaded := true, full := true, todo := [5], others := [1] }

/-- That recall under a full event log whose records are of the present core cycle and of event 200; the write gate of bay 1 is high. -/
def reallocationWitness : State :=
  { phase := .running
    evt := { log := List.replicate 1024 { ev := 200 } }
    ebb := { recalls := [reallocationRecall] }
    bays := (Vector.replicate 16 ({ fitted := true } : Bay)).set 1 { fitted := true, present := true, cway := { wg := true } } }

theorem reallocationWitness_meets :
    Active reallocationWitness ∧ bayEnabled reallocationWitness 0 = true ∧ (bayAt reallocationWitness 0).cway.wg = false ∧
      NoneWaits reallocationWitness ∧
      reallocationWitness.ebb.recalls.find? (fun q => q.bay == some 0 && q.todo.contains 5) = some reallocationRecall := by
  refine ⟨⟨rfl, by decide⟩, ?_, ?_, ?_, rfl⟩
  · decide +kernel
  · decide +kernel
  · unfold NoneWaits
    decide +kernel

/-- The state in which the reallocation leaves the witness. -/
def reallocationEnd : State :=
  recallOver 9 (modRecall 9 (fun r => { r with todo := r.todo.filter (· != 5) }) (raise 118 0 [0, pfaLayer 5] reallocationWitness))

/-- The recall's end drops the gate of bay 1, and the event of that pushes event 118 out of the log. -/
theorem reallocationEnd_event : ¬ HasEvent 118 0 [0, pfaLayer 5] reallocationEnd := by
  unfold HasEvent
  decide +kernel

/-- Refutes O52: the reallocation that strikes a recall's last frame ends the recall and with it releases its bays; where the event log is
full of the same core cycle's higher events (R505, R507) and a bay of step 4 has its write gate high, the event of the gate's drop takes
the place of event 118. -/
theorem not_recallsAndRecon : ¬ Obligations.RecallsAndRecon := by
  intro h
  obtain ⟨hactive, henabled, hgate, hwaits, hfind⟩ := reallocationWitness_meets
  obtain ⟨_, _, hrealloc, _⟩ := h reallocationWitness 0 {} reallocationRecall hactive henabled hgate hwaits
  obtain ⟨t, hstep, hevent, _⟩ := (hrealloc 5 reserveSlots hfind).1 (Nat.le_refl _) true
  have hrun : exec (.reallocation 0 5 reserveSlots true) reallocationWitness = .next reallocationEnd := rfl
  obtain rfl : reallocationEnd = t := by simpa [hrun] using hstep
  exact reallocationEnd_event hevent

end Sys2Proof.Machine
end

section
/-! SUPPORT. Zone Management Send and Receive (R89, R90, R92, R93, R100): how a command that is refused ends, what a move of Table 3.3
may change, and the zone commands. -/

namespace Sys2Proof.Machine

open Sys2Proof

/-! ### Refusing a command (R40, R62) -/

section
variable {src : Src} {s u : State} {st : Status}

/-- An entry posted when nothing else completes is the newest of its queue (R40). -/
theorem posts (c : Completion) (hsq : c.sq = src.sq) (hquiet : Quiet u) (hbound : Bound src u) :
    EndsWith src c u (markWaiting (settle (post src.port c u))) := by
  obtain ⟨q, k, hq, hk⟩ := hbound
  have hhs : (post src.port c u).hs = u.hs := (post_host ..).2.1
  have hkept := queuesKept_post src.port c u
  rw [(hquiet.of_kept (congrArg Hs.inflight hhs) (congrArg Hs.waitR hhs) hkept).settle]
  have halone : CtrlsAlone u (post src.port c u) := (oneCtrl_post ..).1
  refine ⟨⟨q.head, ?_⟩, halone.trans (markWaiting_alone _), hkept.trans (queuesKept_markWaiting _)⟩
  rw [newest_markWaiting, newest_post hsq hq hk]

/-- The answer of a command that is refused (R37). -/
def refusal (src : Src) (st : Status) : Completion := completionOf src st 0 0 [] []

/-- The state with a refused command in its Error Information log (R62). -/
def refused (src : Src) (st : Status) (s : State) : State := logError src (refusal src st) s

theorem complete_refused (hst : st.code ≠ (0, 0)) (hwait : u.hs.waitR = []) :
    complete src st 0 0 [] [] u = post src.port (refusal src st) (refused src st u) := by
  have hfails : ¬(st.code.1 = 0 ∧ st.code.2 = 0) := fun h => hst (Prod.ext h.1 h.2)
  exact (complete_now src st 0 0 [] [] hwait).trans (congrArg (post src.port (refusal src st)) (if_neg hfails))

/-- An I/O command that its checks refuse answers with their status, and is entered in the Error Information log (R37, R62). -/
theorem IoReady.refuses {c : NvmeCmd} {e : Env} (h : IoReady src s) (hc : isAdmin c = false) (hroom : cacheBlocked s c = false)
    (hmem : e.mem = []) (htag : e.tag = none) (hfault : dataFault s src c = none) (hst : st.code ≠ (0, 0))
    (hrun : runIo src c e (countRequests src (dataOf s src c) s) = complete src st 0 0 [] [] u)
    (hflight : u.hs.inflight = s.hs.inflight) (hwait : u.hs.waitR = s.hs.waitR) (hkept : QueuesKept s u) :
    EndsWith src (refusal src st) (refused src st u) (runNow src c e s) := by
  have hquiet := h.2.1.quiet.of_kept hflight hwait hkept
  have hpost := complete_refused (src := src) hst hquiet.2.1
  have hnone : (post src.port (refusal src st) (refused src st u)).hs.waitR = [] :=
    (congrArg Hs.waitR (post_host ..).2.1).trans hquiet.2.1
  rw [runNow_io h hc hroom hmem htag hfault, hrun, hpost, unwaited_of hnone]
  exact posts (u := refused src st u) _ rfl hquiet (h.2.1.bound.of_kept hkept)

/-- What a refused command keeps of the device: all of it but the Error Information log. -/
theorem EndsWith.refused_keeps {t : State} (h : EndsWith src (refusal src st) (refused src st s) t) :
    Answered src st t ∧ t.hs.zones = s.hs.zones ∧ DeviceKept s t ∧ IoKept s t :=
  ⟨h.answered rfl rfl rfl, h.same (·.hs.zones) fun _ => rfl, h.deviceKept.1, h.ioKept ⟨rfl, rfl, rfl, rfl, rfl, rfl⟩⟩

/-- Set Zone Descriptor Extension is refused whatever the zone's state is (R93). -/
theorem setExtension_refused {nsid : Nat} {n : Ns} (h : IoReady src s) (hgate : zonedGate s src.port nsid = .ok n) (slba : Nat) :
    EndsWith src (refusal src .invalidField) (refused src .invalidField s)
      (runNow src (.zoneSend nsid slba .setExtension false) {} s) := by
  refine h.refuses rfl (cacheBlocked_of_need rfl) rfl rfl rfl (by decide) ?_ rfl rfl (.refl s)
  simp only [runIo, ioZoneSend, show dataOf s src (.zoneSend nsid slba .setExtension false) = {} from rfl, countRequests_none, hgate]
  rfl

end

/-- Settles O57: the action is refused at the gate, before the zone is looked at. -/
theorem descriptorExtension : Obligations.DescriptorExtension := by
  intro src s nsid slba n h hns hfdp _
  have hgate : zonedGate s src.port nsid = .ok n := by simp [zonedGate, hns, hfdp]
  obtain ⟨hanswer, hzones, hdevice, _⟩ := (setExtension_refused h hgate slba).refused_keeps
  exact ⟨_, rfl, hanswer, hzones, hdevice⟩

/-! ### Moves of Table 3.3 (R90, R93) -/

section
variable {src : Src} {s s1 : State} {nsid slba : Nat} {n : Ns} {z : Zone} {m : ZMove}

theorem tierOnly_offlineZone (z : Zone) (s : State) : TierOnly s (offlineZone z s) := by
  have h : TierOnly s (match z.arch with
      | .queued => retireObj z.obj s
      | .archivedResident => releaseObj z.obj s
      | _ => s) := by split <;> rfl
  exact (h.trans (tierOnly_unbind z _)).trans rfl

/-- A move of Table 3.3 changes the tier alone. -/
theorem tierOnly_moveZone (h : moveZone z m s = .ok s1) : TierOnly s s1 := by
  unfold moveZone at h
  split at h
  · split at h
    · next hopen =>
      cases h
      exact (openZone_facts hopen).1.trans rfl
    · cases h
  · cases h
    split
    · exact tierOnly_emptyZone z s
    · rfl
  · split at h
    · split at h
      · next hbind =>
        cases h
        exact (tierOnly_bindZone hbind).trans rfl
      · cases h
    · cases h
      rfl
  · cases h
    exact tierOnly_emptyZone z s
  · cases h
    exact tierOnly_offlineZone z s
  · cases h
    rfl

/-- A Zone Management Send whose cell of Table 3.3 is a move that can be made succeeds in the state the move gives (R90, R92). -/
theorem zoneSend_moves {a : ZAct} (h : ZonedReady src nsid n s) (hlba : slba < n.size) (hz : 0 < n.zsze) (hstart : slba % n.zsze = 0)
    (hact : a ≠ .setExtension) (htable : table33 (zoneOf s nsid (slba / n.zsze)) (ZAct.col a) = .ok m)
    (hmove : moveZone (zoneOf s nsid (slba / n.zsze)) m
      (touchLine (zoneMapAddr s nsid (zoneOf s nsid (slba / n.zsze)).idx) true s) = .ok s1) :
    EndsWith src (completionOf src .success 0 0 [] []) s1 (runNow src (.zoneSend nsid slba a false) {} s) ∧ IoKept s s1 := by
  have hgate := h.gate
  obtain ⟨hio, _, _, hwrite⟩ := h
  have htier := tierOnly_moveZone hmove
  rw [touchLine_mem] at htier
  have hrun : runIo src (.zoneSend nsid slba a false) {} s = complete src .success 0 0 [] [] s1 := by
    simp [runIo, ioZoneSend, hgate, hact, Nat.not_le.2 hlba, Nat.ne_of_gt hz, hstart, hwrite, htable, hmove]
  exact ⟨hio.archiveEnds (c := .zoneSend nsid slba a false) rfl rfl (countRequests_none src s) rfl hrun htier.commands htier.queuesKept,
    htier.ioKept⟩

/-- A command's answer leaves the zones, the flash and the archive that the command came to, and what I/O commands keep. -/
theorem EndsWith.tierKept {c : Completion} {u t : State} (h : EndsWith src c u t) (hkept : IoKept s u) :
    t.hs.zones = u.hs.zones ∧ t.flash = u.flash ∧ t.ebb = u.ebb ∧ IoKept s t :=
  ⟨h.same (·.hs.zones) fun _ => rfl, h.same State.flash fun _ => rfl, h.same State.ebb fun _ => rfl, h.ioKept hkept⟩

/-- Zone Management Receive reports and changes nothing (R89, R100). -/
theorem zoneReceive_reports {ext : Bool} {state len : Nat} (h : ZonedReady src nsid n s) (hlba : slba < n.size) (hz : 0 < n.zsze)
    (hreach : Reaches src (.zoneReceive nsid slba ext state len) s) (hstate : state ≤ 7) (hread : reservAllows n src.port false = true) :
    ∃ data, EndsWith src (completionOf src .success 0 0 data []) s (runNow src (.zoneReceive nsid slba ext state len) {} s) := by
  have hrun : ∃ data, runIo src (.zoneReceive nsid slba ext state len) {} s = complete src .success 0 0 data [] s := by
    simp only [runIo, ioZoneReceive, h.gate, Nat.not_le.2 hlba, Nat.ne_of_gt hz, Nat.not_lt.2 hstate, hread]
    exact ⟨_, rfl⟩
  obtain ⟨data, hrun⟩ := hrun
  exact ⟨data, h.1.archiveEnds (c := .zoneReceive nsid slba ext state len) rfl rfl (countRequests_read s rfl) hreach.1 hrun ⟨rfl, rfl⟩
    (.refl s)⟩

end

/-- Settles O18: each action comes to its move of Table 3.3, which the answer leaves. -/
theorem zoneCommands : Obligations.ZoneCommands := by
  intro src s s1 nsid slba state len ext n m h z s0 moved same hlba hz
  refine ⟨fun hstart hmove => ?_, ?_, fun hreach hstate hread => ?_⟩
  · have hmoved : ∀ a : ZAct, a ≠ .setExtension → table33 z (ZAct.col a) = .ok m →
        moved (runNow src (.zoneSend nsid slba a false) {} s) := fun a ha htable => by
      obtain ⟨hend, hkept⟩ := zoneSend_moves h hlba hz hstart ha htable hmove
      exact ⟨hend.success, hend.tierKept hkept⟩
    exact ⟨fun ht => ⟨_, rfl, hmoved .open (by decide) ht⟩, fun ht => ⟨_, rfl, hmoved .close (by decide) ht⟩,
      fun ht => ⟨_, rfl, hmoved .finish (by decide) ht⟩, fun ht => ⟨_, rfl, hmoved .reset (by decide) ht⟩,
      fun ht => ⟨_, rfl, hmoved .offline (by decide) ht⟩⟩
  · obtain ⟨hanswer, hzones, ⟨_, hflash, hebb, _⟩, hkept⟩ := (setExtension_refused h.1 h.gate slba).refused_keeps
    exact ⟨_, rfl, hanswer, hzones, hflash, hebb, hkept⟩
  · obtain ⟨data, hend⟩ := zoneReceive_reports h hlba hz hreach hstate hread
    exact ⟨_, rfl, hend.success, hend.tierKept ⟨rfl, rfl, rfl, rfl, rfl, rfl⟩⟩

end Sys2Proof.Machine
end

section
/-! SUPPORT. Budgets, array operations, leaky buckets and the patrol of memories (R107 to R120, R158, R190, R193, R194): reading back dies
and member blocks, and each command of the family. -/

namespace Sys2Proof.Machine

open Sys2Proof

/-! ### Dies (R113, R119) -/

section
variable {s : State} {port die : Nat}

/-- The die that is changed. -/
theorem dieOf_modDie_same (port die : Nat) (f : Die → Die) (s : State) :
    dieOf (modDie port die f s) port die = (dieOf s port die).map f := by
  have hvol := volOf_modVol_same port (fun v => { v with dies := modNth v.dies die f }) s fun _ => rfl
  unfold dieOf modDie
  rw [hvol]
  cases volOf s port with
  | none => rfl
  | some v => exact modNth_same v.dies die f

/-- Every die changed. -/
theorem dieOf_modDies (f : Die → Die) (s : State) (p i : Nat) : dieOf (modDies f s) p i = (dieOf s p i).map f := by
  have hvol : volOf (modDies f s) p = (volOf s p).map fun v => { v with dies := v.dies.map f } := List.find?_map ..
  unfold dieOf
  rw [hvol]
  cases volOf s p with
  | none => rfl
  | some v => exact List.getElem?_map ..

/-! ### Read counts of member blocks (R158) -/

/-- A member block after n reads of the block of a die (R158, R159). -/
def Member.counted (s : State) (n port die block : Nat) (m : Member) : Member :=
  if m.port == port && m.die == die && m.block == block then
    { m with reads := m.reads + n, refresh := m.refresh || decide (num s 0x2440 1 < m.reads + n) }
  else m

/-- A zone after n reads of the block of a die. -/
def Zone.counted (s : State) (n port die block : Nat) (z : Zone) : Zone :=
  { z with members := z.members.map (Member.counted s n port die block) }

/-- Counting reads changes the member blocks and the metadata cache alone. -/
theorem countReads_eq (n port die block : Nat) (s : State) :
    countReads n port die block s =
      { s with
        hs := { s.hs with zones := s.hs.zones.map (Zone.counted s n port die block) }
        mem := (countReads n port die block s).mem } := by
  unfold countReads
  dsimp only
  rw [touchLine_mem]
  rfl

theorem members_countReads (n port die block : Nat) (s : State) (a b : Nat) :
    (zoneOf (countReads n port die block s) a b).members = (zoneOf s a b).members.map (Member.counted s n port die block) := by
  have hfind : (s.hs.zones.map (Zone.counted s n port die block)).find? (fun z => z.nsid == a && z.idx == b) =
      (s.hs.zones.find? fun z => z.nsid == a && z.idx == b).map (Zone.counted s n port die block) := List.find?_map ..
  rw [countReads_eq]
  unfold zoneOf
  dsimp only
  rw [hfind]
  cases s.hs.zones.find? fun z => z.nsid == a && z.idx == b <;> rfl

/-! ### Starting an operation (R113, R114, R152, R158) -/

/-- An operation that starts stands on its die's array, and leaves what waits, the archive and the bays. -/
theorem startOp_facts {d : Die} (o : FlashOp) (h : dieOf s port die = some d) :
    (dieOf (startOp port die o s) port die).map (·.op) = some (some { o with started := s.clock, charged := s.clock }) ∧
      (startOp port die o s).bw = s.bw ∧ (startOp port die o s).ebb = s.ebb ∧ (startOp port die o s).bays = s.bays := by
  have hdie := fun f => congrArg (Option.map (·.op)) (dieOf_modDie_same port die f s)
  rw [h] at hdie
  unfold startOp
  dsimp only
  split
  · rw [countReads_eq]
    exact ⟨hdie _, rfl, rfl, rfl⟩
  · exact ⟨hdie _, rfl, rfl, rfl⟩

/-- A read that starts counts for the member blocks that it reads. -/
theorem members_startOp_read {o : FlashOp} (hkind : o.kind = .read) (a b : Nat) :
    (zoneOf (startOp port die o s) a b).members = (zoneOf s a b).members.map (Member.counted s 1 port die o.block) := by
  unfold startOp
  dsimp only
  rw [if_pos hkind, members_countReads]
  rfl

/-- A request to reclaim space of an FDP namespace, or of none, is looked at (R107). -/
def Reclaims (s : State) (reclaim : Nat) : Prop := reclaim = 0 ∨ ((nsOf s reclaim).map (·.fdp)).getD false = true

theorem Reclaims.served {reclaim : Nat} (h : Reclaims s reclaim) : ¬(reclaim ≠ 0 ∧ ((nsOf s reclaim).map (·.fdp)).getD false = false) := by
  rintro ⟨hne, hno⟩
  rcases h with h | h
  · exact hne h
  · exact absurd (hno.symm.trans h) (by decide)

theorem flashOperationStart_starts {op cls tn level block reclaim : Nat} {d : Die} {lent : Bool} (hdie : dieOf s port die = some d)
    (hreclaim : Reclaims s reclaim) (hmay : mayStart s port die d (askedOp s port die op cls tn level block reclaim) = some lent) :
    Yields (.flashOperationStart port die op cls tn level block reclaim) s fun t =>
      let o := askedOp s port die op cls tn level block reclaim
      (dieOf t port die).map (fun x => x.op) = some (some { o with lent := lent, started := s.clock, charged := s.clock }) ∧
        t.bw = { s.bw with waiting := s.bw.waiting.erase { port := port, die := die, op := o } } ∧ t.ebb = s.ebb ∧ t.bays = s.bays ∧
        (o.kind = .read → ∀ (nsid idx i : Nat) (b : Member), (zoneOf s nsid idx).members[i]? = some b → b.port = port → b.die = die →
          b.block = o.block → ((zoneOf t nsid idx).members[i]?).map Member.reads = some (b.reads + 1)) := by
  have hstep : execFlashOperationStart port die op cls tn level block reclaim s =
      .next (startOp port die { askedOp s port die op cls tn level block reclaim with lent := lent }
        (unwait port die (askedOp s port die op cls tn level block reclaim) s)) := by
    unfold execFlashOperationStart
    rw [if_neg hreclaim.served, hdie]
    dsimp only
    rw [hmay]
  generalize askedOp s port die op cls tn level block reclaim = o at *
  obtain ⟨hop, hbw, hebb, hbays⟩ := startOp_facts (s := unwait port die o s) { o with lent := lent } hdie
  refine ⟨_, hstep, hop, hbw, hebb, hbays, fun hread nsid idx i b hb hport hdie' hblock => ?_⟩
  have hmembers := members_startOp_read (s := unwait port die o s) (port := port) (die := die) (o := { o with lent := lent }) hread nsid idx
  rw [hmembers, List.getElem?_map, show (zoneOf (unwait port die o s) nsid idx).members[i]? = some b from hb]
  simp [Member.counted, hport, hdie', hblock]

theorem flashOperationStart_waits {op cls tn level block reclaim : Nat} {d : Die} (hdie : dieOf s port die = some d)
    (hreclaim : Reclaims s reclaim) (hmay : mayStart s port die d (askedOp s port die op cls tn level block reclaim) = none)
    (htakes : dieTakes s port die (askedOp s port die op cls tn level block reclaim).kind = true)
    (hnew : (waitingOn s port die).contains (askedOp s port die op cls tn level block reclaim) = false) :
    Yields (.flashOperationStart port die op cls tn level block reclaim) s fun t =>
      t = addWait port die (askedOp s port die op cls tn level block reclaim) s := by
  refine ⟨_, ?_, rfl⟩
  change execFlashOperationStart port die op cls tn level block reclaim s = _
  unfold execFlashOperationStart
  rw [if_neg hreclaim.served, hdie]
  dsimp only
  rw [hmay]
  exact if_pos ⟨htakes, hnew⟩

/-! ### Suspension and resume (R119, R120) -/

/-- t is s but for the budgets in force, what waits, and the flash. -/
def BreakwaterOnly (s t : State) : Prop := t = { s with bw := t.bw, flash := t.flash }

theorem programSuspend_suspends {d : Die} {o : FlashOp} (hdie : dieOf s port die = some d) (hop : d.op = some o)
    (hmay : maySuspend s port die d o = true) :
    Yields (.programSuspend port die) s fun t =>
      (dieOf t port die).map (fun x => (x.op, x.susp)) =
          some (none, some { o with suspends := o.suspends + 1, charged := s.clock, suspendedFor := s.clock }) ∧
        BreakwaterOnly s t := by
  have hstep : execProgramSuspend port die s = .next (modDie port die (fun d => { d.accrue s.clock with
      op := none, susp := some { o with suspends := o.suspends + 1, charged := s.clock, suspendedFor := s.clock } }) s) := by
    unfold execProgramSuspend
    rw [hdie]
    dsimp only
    rw [hop]
    exact if_pos hmay
  refine ⟨_, hstep, ?_, rfl⟩
  rw [dieOf_modDie_same, hdie]
  rfl

theorem programResume_resumes {d : Die} {o : FlashOp} (hdie : dieOf s port die = some d) (hop : d.op = none) (hsusp : d.susp = some o)
    (hdue : resumeDue s port die d = true) :
    Yields (.programResume port die) s fun t =>
      (dieOf t port die).map (fun x => (x.op, x.susp)) =
          some (some { o with started := s.clock, charged := s.clock, forced := rightWaits s port die, suspendedFor := 0 }, none) ∧
        BreakwaterOnly s t := by
  have hstep : execProgramResume port die s = .next (modDie port die (Die.resume s.clock (rightWaits s port die)) s) := by
    unfold execProgramResume
    rw [hdie]
    exact congrArg _ (if_pos ⟨by simp [hop], hdue⟩)
  refine ⟨_, hstep, ?_, rfl⟩
  rw [dieOf_modDie_same, hdie]
  simp [Die.resume, hsusp]

/-! ### Budgets (R112, R115) -/

theorem budgetPeriodBoundary_refills (s : State) :
    Yields .budgetPeriodBoundary s fun t =>
      t.bw.budgets = budgetsAt s ∧ t.bw.lending = lendingAt s ∧ t.bw.tenants = dom s 0x2210 1 ∧
        t.bw.queueMaps = [dom s 0x2210 2, dom s 0x2210 3, dom s 0x2210 4, dom s 0x2210 5] ∧ t.bw.nsMap = dom s 0x2210 6 ∧
        t.bw.periods = s.bw.periods + 1 ∧ BreakwaterOnly s t ∧
        ∀ (p i : Nat) (x : Die), dieOf s p i = some x → dieOf t p i = some (Die.refill (budgetsAt s) (Die.accrue s.clock x)) := by
  refine ⟨_, rfl, rfl, rfl, rfl, rfl, rfl, rfl, rfl, fun p i x hx => ?_⟩
  have hdie := dieOf_modDies (fun d => Die.refill (budgetsAt s) (Die.accrue s.clock d)) s p i
  rw [hx] at hdie
  exact hdie

/-! ### The patrol of memories and the leaky buckets (R190, R193, R194) -/

theorem bucketLeak_leaks {m : Nat} (s : State) (hpos : 1 ≤ m) (hle : m ≤ 8) :
    Yields (.bucketLeak m) s fun t =>
      t = { s with mem := { s.mem with buckets := modNth s.mem.buckets (m - 1) fun x => { x with level := x.level - 1 } } } :=
  ⟨leakBucket m s, congrArg Host.Outcome.next (if_pos ⟨hpos, hle⟩), rfl⟩

/-- The place from which the patrol of a memory goes on after some lines or words, and its passes (R193, R194). -/
def patrolMoved (hbm : Bool) (words : Nat) (m : Mem) : Mem :=
  if hbm then
    { m with hbmAt := (patrolStep m.hbmAt words hbmLines).1, hbmPasses := m.hbmPasses + (patrolStep m.hbmAt words hbmLines).2 }
  else { m with sramAt := (patrolStep m.sramAt words sramWords).1 }

theorem execSoundingPatrol_on {hbm : Bool} {words : Nat} {hits : List MemHit} (ha : Active s)
    (hon : bitOf (num s 0x2620 5) (if hbm then 0 else 1) = true) :
    let u := memHits (hits.filter (patrolled s hbm words)) s
    execSoundingPatrol hbm words hits s = .next { u with mem := patrolMoved hbm words u.mem } := by
  obtain ⟨hphase, hps⟩ := ha
  have hruns : ¬(bitOf (num s 0x2620 5) (if hbm then 0 else 1) = false ∨ s.phase ≠ .running ∨ 3 ≤ s.pwr.ps) := by
    simp [hon, hphase, hps]
  refine (if_neg hruns).trans ?_
  cases hbm <;> rfl

/-- A patrol that meets no error changes its place alone (R194). -/
theorem soundingPatrol_goesOn {hbm : Bool} {words : Nat} {hits : List MemHit} (ha : Active s)
    (hon : bitOf (num s 0x2620 5) (if hbm then 0 else 1) = true) (hnone : ∀ h ∈ hits, patrolled s hbm words h = false) :
    Yields (.soundingPatrol hbm words hits) s fun t => t = { s with mem := patrolMoved hbm words s.mem } := by
  have hstep := execSoundingPatrol_on (words := words) (hits := hits) ha hon
  rw [List.filter_eq_nil_iff.2 fun h hh => by simp [hnone h hh]] at hstep
  exact ⟨_, hstep, rfl⟩

/-- What the code of HBM finds does not rest on the state (R175): a corrected line is none that write staging lost. -/
theorem stagedLost_of_corrected {h : MemHit} (hcorr : hitKind s h = .corrected) (u : State) : stagedLost u h = false := by
  unfold stagedLost
  cases hpart : h.part with
  | hbm =>
    have hkind : hitKind u h = hitKind s h := by simp [hitKind, hpart]
    simp [hkind, hcorr]
  | _ => rfl

/-- A corrected error that does not fill its bucket counts in it, and in the log of memory errors (R190). -/
theorem memHits_corrected {h : MemHit} (hcorr : hitKind s h = .corrected)
    (hlevel : (bucketOf s (MemPart.bucket h.part h.addr)).level ≠ bucketDepth s (MemPart.bucket h.part h.addr)) :
    memHits [h] s =
      modBucket (MemPart.bucket h.part h.addr) (fun b => { b with total := b.total + 1, level := b.level + 1 })
        (logMemErr (MemPart.bucket h.part h.addr) (CodeResult.code .corrected) h.addr s) := by
  have hmet : memErrors [h] s = countCorrectable (MemPart.bucket h.part h.addr)
      (logMemErr (MemPart.bucket h.part h.addr) (CodeResult.code .corrected) h.addr s) := by
    change memError h s = _
    simp [memError, hcorr]
  unfold memHits loseStaging
  rw [hmet]
  have hlost : ∀ u, stagingLosses u [h] = [] := fun u => by simp [stagingLosses, stagedLost_of_corrected hcorr]
  have hdrain : [h].filter (fun h => h.part == .hbm && hitKind s h == .uncorrectable && hbmArea h.addr == .drain) = [] := by
    simp [hcorr]
  rw [hlost, hdrain]
  exact if_neg hlevel

/-- The bucket that is changed. -/
theorem bucketOf_modBucket_same {n : Nat} (f : Bucket → Bucket) (s : State) (hpos : 1 ≤ n) (hlen : n ≤ s.mem.buckets.length) :
    bucketOf (modBucket n f s) n = f (bucketOf s n) := by
  have hlt : n - 1 < s.mem.buckets.length := by omega
  simp [bucketOf, modBucket, List.getD_eq_getElem?_getD, List.getElem?_eq_getElem hlt]

theorem soundingPatrol_counts {hbm : Bool} {words : Nat} {h : MemHit} (ha : Active s)
    (hon : bitOf (num s 0x2620 5) (if hbm then 0 else 1) = true) (hmet : patrolled s hbm words h = true)
    (hcorr : hitKind s h = .corrected) (hpos : 1 ≤ MemPart.bucket h.part h.addr)
    (hlen : MemPart.bucket h.part h.addr ≤ s.mem.buckets.length)
    (hlevel : (bucketOf s (MemPart.bucket h.part h.addr)).level ≠ bucketDepth s (MemPart.bucket h.part h.addr)) :
    Yields (.soundingPatrol hbm words [h]) s fun t =>
      let n := MemPart.bucket h.part h.addr
      (bucketOf t n).total = (bucketOf s n).total + 1 ∧ (bucketOf t n).level = (bucketOf s n).level + 1 ∧
        t = { s with mem := t.mem } := by
  have hstep := execSoundingPatrol_on (words := words) (hits := [h]) ha hon
  simp only [List.filter_cons, hmet, List.filter_nil, if_true, memHits_corrected hcorr hlevel] at hstep
  generalize MemPart.bucket h.part h.addr = n at *
  have hbucket := bucketOf_modBucket_same (fun b => { b with total := b.total + 1, level := b.level + 1 })
    (logMemErr n (CodeResult.code .corrected) h.addr s) hpos hlen
  have hmoved : ∀ u : State, bucketOf { u with mem := patrolMoved hbm words u.mem } n = bucketOf u n := fun u => by cases hbm <;> rfl
  refine ⟨_, hstep, ?_, ?_, rfl⟩
  · rw [hmoved, hbucket]
    rfl
  · rw [hmoved, hbucket]
    rfl

end

/-- Settles O53, each command by its own lemmas. -/
theorem breakwaterRuns : Obligations.BreakwaterRuns := by
  intro s port die op cls tn level block reclaim m words d ha o w only
  refine ⟨budgetPeriodBoundary_refills s, fun hdie => ⟨fun hreclaim => ⟨fun lent => flashOperationStart_starts hdie hreclaim,
    flashOperationStart_waits hdie hreclaim⟩, fun o => programSuspend_suspends hdie, fun o => programResume_resumes hdie⟩,
    bucketLeak_leaks s, fun hbm hits => ⟨fun hoff => ⟨s, if_pos (.inl hoff), rfl⟩, soundingPatrol_goesOn ha,
      fun h hon => soundingPatrol_counts ha hon⟩⟩

end Sys2Proof.Machine
end

section
/-! SUPPORT. Writes of the object dictionary that keep their value (R109, R115, R117, R182, R187, R191, R284, R377, R455, R457): what is
read back after one, what a door's answer leaves, and the rows of the objects that are written so. -/

namespace Sys2Proof.Machine

open Sys2Proof

/-! ### Reading back a kept value (R457) -/

section
variable {door : Door} {s t : State} {index sub v : Nat} {data : List Byte} {d : ObjDesc}

/-- What the write of a kept value leaves of the device. -/
def WriteKept (s t : State) : Prop :=
  t.bays = s.bays ∧ t.flash = s.flash ∧ t.ebb = s.ebb ∧ t.part = s.part ∧ t.hs = s.hs ∧ t.ctrls = s.ctrls

theorem num_congr (hnums : t.doors.nums = s.doors.nums) (hpart : t.part = s.part) (i k : Nat) : num t i k = num s i k := by
  unfold num
  rw [hnums, hpart]

theorem dom_congr (hdoms : t.doors.doms = s.doors.doms) (hpart : t.part = s.part) (i k : Nat) : dom t i k = dom s i k := by
  unfold dom
  rw [hdoms, hpart]

theorem numKept_of_putNum (hsub : sub < 256) (hnums : t.doors.nums = (putNum index sub v s).doors.nums)
    (hdoms : t.doors.doms = s.doors.doms) (hpart : t.part = s.part) : NumKept index sub v s t := by
  have hnum := num_congr (s := putNum index sub v s) hnums hpart
  refine ⟨(hnum index sub).trans (num_putNum_same ..), hdoms, fun i k hk hne => (hnum i k).trans ?_⟩
  exact num_putNum_other v s fun e => hne (objKey_inj hk hsub e)

theorem domKept_of_putDom (hsub : sub < 256) (hdoms : t.doors.doms = (putDom index sub data s).doors.doms)
    (hnums : t.doors.nums = s.doors.nums) (hpart : t.part = s.part) : DomKept index sub data s t := by
  have hdom := dom_congr (s := putDom index sub data s) hdoms hpart
  refine ⟨(hdom index sub).trans (dom_putDom_same ..), hnums, fun i k hk hne => (hdom i k).trans ?_⟩
  exact dom_putDom_other data s fun e => hne (objKey_inj hk hsub e)

/-! ### Answers (R463, R465) -/

/-- A door's answer of success stands there, and the values of the dictionary and what a write leaves stay. -/
theorem answerDoor_success (door : Door) (index sub : Nat) (s : State) :
    let t := answerDoor door index sub none [] s
    Acked door index sub t ∧ t.doors.nums = s.doors.nums ∧ t.doors.doms = s.doors.doms ∧ t.mem = s.mem ∧ WriteKept s t := by
  cases door
  · exact ⟨rfl, rfl, rfl, rfl, rfl, rfl, rfl, rfl, rfl, rfl⟩
  · exact ⟨trivial, rfl, rfl, rfl, rfl, rfl, rfl, rfl, rfl, rfl⟩
  · exact ⟨⟨rfl, rfl⟩, rfl, rfl, rfl, rfl, rfl, rfl, rfl, rfl, rfl⟩

/-! ### Writes that keep their value (R187, R455, R457) -/

/-- A write of a numeric value that changes the memories to m at most. -/
theorem Takes.numWrite {m : Mem} (h : Takes door s index sub data) (hd : descOf s.part.code index sub = some d)
    (hty : d.ty.numeric = true) (hkept : keptSub d index sub = true)
    (hrun : runWrite door {} index (sub, data) (tideRecord (putNum index sub (ofBytes data) s)) =
      .ok { tideRecord (putNum index sub (ofBytes data) s) with mem := m }) :
    let t := Machine.doorWrite door {} index sub false data s
    NumKept index sub (ofBytes data) s t ∧ WriteKept s t ∧ t.mem = m ∧ Acked door index sub t := by
  have hkeep : keepValue index s (sub, data) = putNum index sub (ofBytes data) s := by simp [keepValue, hd, hkept, hty]
  have hwrite := h.doorWrite {} ((congrArg _ (congrArg tideRecord hkeep)).trans hrun)
  rw [stageValues_numeric (by exact hd) hty] at hwrite
  obtain ⟨_, hsub, _⟩ := h
  obtain ⟨hacked, hnums, hdoms, hmem, hdevice⟩ :=
    answerDoor_success door index sub { tideRecord (putNum index sub (ofBytes data) s) with mem := m }
  have ⟨_, _, _, hpart, _⟩ := hdevice
  rw [hwrite]
  exact ⟨numKept_of_putNum hsub hnums hdoms hpart, hdevice, hmem, hacked⟩

/-- Staging a value in the scratchpad rests on the part and the memories, and changes the memories alone (R187). -/
theorem stageValues_congr {u : State} (hpart : u.part = s.part) (hmem : u.mem = s.mem) (vals : Nat × List Byte) :
    stageValues index [vals] u = { u with mem := (stageValues index [vals] s).mem } := by
  have hcode : u.part.code = s.part.code := congrArg Part.code hpart
  simp only [stageValues, List.foldl_cons, List.foldl_nil, hcode]
  split
  · unfold stageDomain
    rw [hmem]
    split
    · rw [← hmem]
    · rfl
  · rw [← hmem]

/-- A write of a DOMAIN or string value that does nothing beyond being kept. -/
theorem Takes.domWrite (h : Takes door s index sub data) (hd : descOf s.part.code index sub = some d) (hty : d.ty.numeric = false)
    (hkept : keptSub d index sub = true) (hrun : ∀ u, runWrite door {} index (sub, data) u = .ok u) :
    let t := Machine.doorWrite door {} index sub false data s
    DomKept index sub data s t ∧ WriteKept s t ∧ t.mem = (stageValues index [(sub, data)] s).mem ∧ Acked door index sub t := by
  have hkeep : keepValue index s (sub, data) = putDom index sub data s := by simp [keepValue, hd, hkept, hty]
  have hwrite := h.doorWrite {} (hrun _)
  rw [hkeep, stageValues_congr (s := s) (u := tideRecord (putDom index sub data s)) rfl rfl] at hwrite
  obtain ⟨_, hsub, _⟩ := h
  obtain ⟨hacked, hnums, hdoms, hmem, hdevice⟩ := answerDoor_success door index sub
    { tideRecord (putDom index sub data s) with mem := (stageValues index [(sub, data)] s).mem }
  have ⟨_, _, _, hpart, _⟩ := hdevice
  rw [hwrite]
  exact ⟨domKept_of_putDom hsub hdoms hnums hpart, hdevice, hmem, hacked⟩

/-! ### The number that a numeric write carries (R454) -/

/-- A numeric value that passes has the length of its type. -/
theorem length_of_valueAbort (hd : descOf s.part.code index sub = some d) (hty : d.ty.numeric = true)
    (h : valueAbort s index (sub, data) = none) : data.length = d.ty.size := by
  refine Decidable.byContradiction fun hne => ?_
  unfold valueAbort at h
  rw [hd] at h
  dsimp only at h
  split at h
  · next e => rw [e] at hty; cases hty
  · next e => rw [e] at hty; cases hty
  · rw [if_pos hne] at h
    cases h

/-- A numeric value that passes is the number its bytes encode. -/
theorem TakesNum.ofBytes_valueBytes (h : TakesNum door s index sub v) (hd : descOf s.part.code index sub = some d)
    (hty : d.ty.numeric = true) : ofBytes (valueBytes s index sub v) = v := by
  obtain ⟨_, _, _, _, _, hvalue, _, _⟩ := h
  have hlen := length_of_valueAbort hd hty hvalue
  unfold valueBytes at hlen ⊢
  rw [hd] at hlen ⊢
  simp only [Option.map_some, Option.getD_some, length_leBytes] at hlen ⊢
  have hlt : v < 2 ^ (8 * d.ty.size) := by
    refine Decidable.byContradiction fun hge => ?_
    rw [if_neg hge] at hlen
    omega
  rw [if_pos hlt, ofBytes_leBytes, Nat.mod_eq_of_lt]
  rwa [show 256 = 2 ^ 8 from rfl, ← Nat.pow_mul]

/-- A write of a number that changes the memories to m at most. -/
theorem TakesNum.numWrite {m : Mem} (h : TakesNum door s index sub v) (hd : descOf s.part.code index sub = some d)
    (hty : d.ty.numeric = true) (hkept : keptSub d index sub = true)
    (hrun : ∀ data, runWrite door {} index (sub, data) (tideRecord (putNum index sub v s)) =
      .ok { tideRecord (putNum index sub v s) with mem := m }) :
    let t := Machine.writeNum door {} index sub v s
    NumKept index sub v s t ∧ WriteKept s t ∧ t.mem = m ∧ Acked door index sub t := by
  have hbytes := h.ofBytes_valueBytes hd hty
  have hwrite := Takes.numWrite (m := m) h hd hty hkept (by rw [hbytes]; exact hrun _)
  rwa [hbytes] at hwrite

/-! ### The rows written so (Table 14.1) -/

/-- A subindex has a numeric value, or a DOMAIN or string, that is kept as it is written. -/
def keptRow (numeric : Bool) (code : OrderingCode) (index sub : Nat) : Bool :=
  (descOf code index sub).any fun d => d.ty.numeric == numeric && keptSub d index sub

theorem exists_of_keptRow {numeric : Bool} {code : OrderingCode} (h : keptRow numeric code index sub = true) :
    ∃ d, descOf code index sub = some d ∧ d.ty.numeric = numeric ∧ keptSub d index sub = true := by
  obtain ⟨d, hd, hrow⟩ := Option.any_eq_true .. |>.1 h
  simp only [Bool.and_eq_true, beq_iff_eq] at hrow
  exact ⟨d, hd, hrow⟩

theorem keptRow_budgets (code : OrderingCode) : ∀ sub < 11, 1 ≤ sub → keptRow true code 0x2220 sub = true := by
  cases code <;> decide +kernel

theorem keptRow_depths (code : OrderingCode) : ∀ sub < 9, 1 ≤ sub → keptRow true code 0x2600 sub = true := by
  cases code <;> decide +kernel

theorem keptRow_single (code : OrderingCode) :
    keptRow true code 0x2610 1 = true ∧ keptRow true code 0x4400 1 = true ∧ keptRow false code 0x4C00 1 = true := by
  cases code <;> decide +kernel

theorem keptRow_tenants (code : OrderingCode) : ∀ sub < 7, 1 ≤ sub → keptRow false code 0x2210 sub = true := by
  cases code <;> decide +kernel

/-- The rows of the strategy tables: what may be written beside 4400h.01 is a DOMAIN (Table 8.3). -/
theorem strategyRows : ∀ d ∈ objTable, d.lo ≤ 0x4417 → 0x4400 ≤ d.hi →
    d.acc = .ro ∨ d.acc = .const ∨ (d.acc = .rw ∧ (d.ty.numeric = true → d.hi < 0x4410 ∧ d.subHi < 2)) := by
  decide +kernel

theorem bayOf_strategy (hlo : 0x4400 ≤ index) (hhi : index ≤ 0x4417) : bayOf index = none := by
  unfold bayOf
  rw [if_neg (by omega), if_neg (by omega), if_neg (by omega)]

theorem keptRow_strategy {code : OrderingCode} (hlo : 0x4400 ≤ index) (hhi : index ≤ 0x4417) (hsub : 0x4410 ≤ index ∨ 2 ≤ sub)
    (hd : descOf code index sub = some d) (hro : d.acc ≠ .ro) (hconst : d.acc ≠ .const) :
    d.ty.numeric = false ∧ keptSub d index sub = true := by
  have hbay := bayOf_strategy hlo hhi
  have hbase : baseIndex index = index := by
    unfold baseIndex
    rw [if_neg (by omega), if_neg (by omega), if_neg (by omega)]
  have hrow : d ∈ objTable ∧ d.lo ≤ index ∧ index ≤ d.hi := by
    have hmem := List.mem_of_find?_eq_some hd
    unfold rowsOf at hmem
    rw [hbay] at hmem
    dsimp only at hmem
    rw [if_neg (by omega)] at hmem
    simpa using hmem
  have hsubs : d.subLo ≤ sub ∧ sub ≤ d.subHi := by simpa using List.find?_some hd
  obtain ⟨hmem, hdlo, hdhi⟩ := hrow
  rcases strategyRows d hmem (by omega) (by omega) with hacc | hacc | ⟨hacc, hnumeric⟩
  · exact absurd hacc hro
  · exact absurd hacc hconst
  · refine ⟨?_, ?_⟩
    · refine Bool.eq_false_iff.2 fun hty => ?_
      obtain ⟨hbelow, hfamilies⟩ := hnumeric hty
      omega
    · simp [keptSub, hacc, hbase]
      omega

/-- What a subindex that takes a write may not be (R455). -/
theorem Takes.written (h : Takes door s index sub data) : ∃ d, descOf s.part.code index sub = some d ∧ d.acc ≠ .ro ∧ d.acc ≠ .const := by
  obtain ⟨_, _, _, _, haccess, _⟩ := h
  unfold accessAbort at haccess
  split at haccess
  · cases haccess
  · next d hd =>
    split at haccess
    · cases haccess
    · refine ⟨d, hd, fun hacc => ?_, fun hacc => ?_⟩
      · rw [hacc] at haccess
        cases haccess
      · rw [hacc] at haccess
        cases haccess

/-! ### What the writes do beyond being kept -/

theorem runWrite_strategy (hlo : 0x4400 ≤ index) (hhi : index ≤ 0x4417) (u : State) :
    runWrite door {} index (sub, data) u = .ok u := by
  unfold runWrite
  rw [bayOf_strategy hlo hhi]
  dsimp only
  unfold runDevice
  split
  any_goals omega
  rfl

/-- A new depth of a bucket holds its level down, a change of the memories alone (R191). -/
theorem runWrite_depth (hsub : sub ≤ 8) :
    runWrite door {} 0x2600 (sub, data) (tideRecord (putNum 0x2600 sub v s)) =
      .ok (modBucket sub (fun b => { b with level := min b.level v }) (tideRecord (putNum 0x2600 sub v s))) := by
  refine congrArg Except.ok ((if_pos hsub).trans ?_)
  unfold clampBucket
  rw [show num (tideRecord (putNum 0x2600 sub v s)) 0x2600 sub = v from num_putNum_same 0x2600 sub v s]

/-- A carve-out is a change of the memories alone (R182). -/
theorem applyCarveOut_eq (u : State) : applyCarveOut u = { u with mem := (applyCarveOut u).mem } := by
  unfold applyCarveOut
  dsimp only
  split <;> rfl

/-- With no plan being built the carve-out takes effect (R182). -/
theorem applyCarveOut_ways {u : State} (h : u.ebb.building = none) : (applyCarveOut u).mem.scratchWays = num u 0x2610 1 := by
  unfold applyCarveOut
  dsimp only
  split
  · next hsame =>
    rcases hsame with hbuilding | hsame
    · simp [h] at hbuilding
    · exact hsame.symm
  · rfl

/-! ### The commands -/

theorem budgetWrite_keeps (hpos : 1 ≤ sub) (hle : sub ≤ 10) (h : TakesNum door s 0x2220 sub v) :
    let t := writeNum door {} 0x2220 sub v s
    NumKept 0x2220 sub v s t ∧ WriteKept s t ∧ t.mem = s.mem ∧ Acked door 0x2220 sub t := by
  obtain ⟨d, hd, hty, hkept⟩ := exists_of_keptRow (keptRow_budgets s.part.code sub (by omega) hpos)
  exact h.numWrite hd hty hkept fun _ => rfl

theorem bucketSettingsWrite_keeps (hpos : 1 ≤ sub) (hle : sub ≤ 8) (hlen : s.mem.buckets.length = 8) (h : TakesNum door s 0x2600 sub v) :
    Yields (.bucketSettingsWrite door sub v) s fun t =>
      NumKept 0x2600 sub v s t ∧ (bucketOf t sub).level = min (bucketOf s sub).level v ∧ WriteKept s t ∧ Acked door 0x2600 sub t := by
  obtain ⟨d, hd, hty, hkept⟩ := exists_of_keptRow (keptRow_depths s.part.code sub (by omega) hpos)
  obtain ⟨hnum, hdevice, hmem, hacked⟩ := h.numWrite hd hty hkept fun _ => runWrite_depth hle
  have hbucket := (congrArg (fun m : Mem => m.buckets.getD (sub - 1) {}) hmem).trans
    (bucketOf_modBucket_same _ (tideRecord (putNum 0x2600 sub v s)) hpos (Nat.le_trans hle (Nat.le_of_eq hlen.symm)))
  exact ⟨_, rfl, hnum, congrArg Bucket.level hbucket, hdevice, hacked⟩

theorem scratchpadCarveOut_keeps (hbuilding : s.ebb.building = none) (h : TakesNum door s 0x2610 1 v) :
    Yields (.scratchpadCarveOut door v) s fun t =>
      NumKept 0x2610 1 v s t ∧ t.mem.scratchWays = v ∧ WriteKept s t ∧ Acked door 0x2610 1 t := by
  obtain ⟨d, hd, hty, hkept⟩ := exists_of_keptRow (keptRow_single s.part.code).1
  obtain ⟨hnum, hdevice, hmem, hacked⟩ := h.numWrite hd hty hkept fun _ => congrArg Except.ok (applyCarveOut_eq _)
  refine ⟨_, rfl, hnum, ?_, hdevice, hacked⟩
  refine (congrArg Mem.scratchWays hmem).trans ((applyCarveOut_ways ?_).trans ?_)
  · exact hbuilding
  · exact num_putNum_same 0x2610 1 v s

theorem tenantTableWrite_keeps (hpos : 1 ≤ sub) (hle : sub ≤ 6) (h : Takes door s 0x2210 sub data) :
    Yields (.tenantTableWrite door sub data) s fun t =>
      DomKept 0x2210 sub data s t ∧ WriteKept s t ∧ t.mem = (stageValues 0x2210 [(sub, data)] s).mem ∧ Acked door 0x2210 sub t := by
  obtain ⟨d, hd, hty, hkept⟩ := exists_of_keptRow (keptRow_tenants s.part.code sub (by omega) hpos)
  exact ⟨_, rfl, h.domWrite hd hty hkept fun _ => rfl⟩

theorem strategyTableWrite_keeps (hlo : 0x4400 ≤ index) (hhi : index ≤ 0x4417) (hsub : 0x4410 ≤ index ∨ 2 ≤ sub)
    (h : Takes door s index sub data) :
    Yields (.strategyTableWrite door index sub data) s fun t =>
      DomKept index sub data s t ∧ WriteKept s t ∧ t.mem = (stageValues index [(sub, data)] s).mem ∧ Acked door index sub t := by
  obtain ⟨d, hd, hro, hconst⟩ := h.written
  obtain ⟨hty, hkept⟩ := keptRow_strategy hlo hhi hsub hd hro hconst
  exact ⟨_, rfl, h.domWrite hd hty hkept (runWrite_strategy hlo hhi)⟩

theorem strategyFamilies_keeps (h : Takes door s 0x4400 1 data) :
    Yields (.strategyTableWrite door 0x4400 1 data) s fun t =>
      NumKept 0x4400 1 (ofBytes data) s t ∧ WriteKept s t ∧ t.mem = s.mem ∧ Acked door 0x4400 1 t := by
  obtain ⟨d, hd, hty, hkept⟩ := exists_of_keptRow (keptRow_single s.part.code).2.1
  exact ⟨_, rfl, h.numWrite hd hty hkept rfl⟩

theorem scheduleWrite_keeps (h : Takes door s 0x4C00 1 data) :
    Yields (.scheduleWrite door data) s fun t =>
      DomKept 0x4C00 1 data s t ∧ WriteKept s t ∧ t.mem = (stageValues 0x4C00 [(1, data)] s).mem ∧ Acked door 0x4C00 1 t := by
  obtain ⟨d, hd, hty, hkept⟩ := exists_of_keptRow (keptRow_single s.part.code).2.2
  exact ⟨_, rfl, h.domWrite hd hty hkept fun _ => rfl⟩

end

/-- Settles O22, each command by its own lemma. -/
theorem dictionaryKeeps : Obligations.DictionaryKeeps := by
  intro door s index sub v data kept staged
  exact ⟨fun hpos hle h => ⟨_, rfl, budgetWrite_keeps hpos (by omega) h⟩, fun h => ⟨_, rfl, budgetWrite_keeps (by decide) (by decide) h⟩,
    bucketSettingsWrite_keeps, scratchpadCarveOut_keeps, tenantTableWrite_keeps, strategyTableWrite_keeps, strategyFamilies_keeps,
    scheduleWrite_keeps⟩

end Sys2Proof.Machine
end

section
/-! SUPPORT. A second timeout of a die whose volume fails with it (R129, R164, R505, R507). -/

namespace Sys2Proof.Machine

open Sys2Proof

/-- The one die of a volume: its operation has just run out of time for the second time within 1 s. -/
def timeoutDie : Die := { op := some {}, timeoutAt := some 0 }

/-- That volume at port 0, under a full event log whose records are of the present core cycle and of event 200. -/
def timeoutWitness : State :=
  { phase := .running
    evt := { log := List.replicate 1024 { ev := 200 } }
    flash := { vols := [{ st := .inService, dies := [timeoutDie] }] } }

theorem timeoutWitness_meets :
    Active timeoutWitness ∧ Quiet timeoutWitness ∧ timeoutWitness.sup.dip = false ∧ dieOf timeoutWitness 0 0 = some timeoutDie ∧
      timedOutBefore timeoutWitness timeoutDie = true := by
  refine ⟨⟨rfl, by decide⟩, ⟨rfl, rfl, ?_⟩, rfl, rfl, ?_⟩
  · decide
  · decide

/-- The log is full of records that stand above one of event 064, so that event 072 of the volume pushes it out. -/
theorem timeoutWitness_event : ¬ HasEvent 64 9 (evBytes 2 0 ++ [0]) (settle (failDie 0 0 9 timeoutWitness)) := by
  unfold HasEvent
  decide +kernel

/-- Refutes O54: a die's failure at its second timeout raises event 064 and, where its volume fails with it, event 072 in the same core
cycle; where the event log is full of that cycle's higher events (R505, R507), event 072 takes the place of event 064. -/
theorem not_flashOperations : ¬ Obligations.FlashOperations := by
  intro h
  obtain ⟨hactive, hquiet, hdip, hdie, htimeout⟩ := timeoutWitness_meets
  obtain ⟨_, _, _, hpoll, _⟩ := h timeoutWitness 0 0 0 0 0 hactive hquiet hdip
  obtain ⟨_, _, _, _, hfails⟩ := hpoll timeoutDie {} hdie rfl
  obtain ⟨t, hstep, hevent, _⟩ := hfails htimeout rfl (by decide)
  have hrun : exec (.flashOperationTimeout 0 0) timeoutWitness = .next (settle (failDie 0 0 9 timeoutWitness)) := rfl
  obtain rfl : settle (failDie 0 0 9 timeoutWitness) = t := by simpa [hrun] using hstep
  exact timeoutWitness_event hevent

end Sys2Proof.Machine
end

section
/-! SUPPORT. The end of a retirement under a full event log (R172, R505, R507, R516). -/

namespace Sys2Proof.Machine

open Sys2Proof

/-- A retiring volume that no member stands on any more: until it is deselected its state reads failed with reason 0Bh (R172). -/
def retiringVol : Vol := { st := .failed, reason := 0x0B, retiring := true }

/-- That volume at port 0 with its retirement running, under a full event log whose records are of the present core cycle and of
event 200. -/
def retirementWitness : State :=
  { phase := .running
    evt := { log := List.replicate 1024 { ev := 200 } }
    adm := { running := [6] }
    flash := { vols := [retiringVol] } }

theorem retirementWitness_meets :
    Active retirementWitness ∧ Quiet retirementWitness ∧ retirementWitness.sup.dip = false ∧ retirementWitness.tierState ≠ 2 ∧
      upkeepRuns retirementWitness = true ∧ volOf retirementWitness 0 = some retiringVol := by
  refine ⟨⟨rfl, by decide⟩, ⟨rfl, rfl, ?_⟩, rfl, ?_, ?_, rfl⟩
  · decide
  · decide
  · decide +kernel

/-- The log is full of records that stand above one of event 097, so that event 025 of the operation's end pushes it out. -/
theorem retirementWitness_event :
    ¬ HasEvent 97 0 (evBytes 2 0) (endOperation 6 false (deselect 0 retirementWitness)) := by
  unfold HasEvent
  decide +kernel

/-- Refutes O55: the deselection of a retired volume raises event 097 and the end of its operation event 025 in the same core cycle;
where the event log is full of that cycle's higher events (R505, R507), event 025 takes the place of event 097. -/
theorem not_flashUpkeep : ¬ Obligations.FlashUpkeep := by
  intro h
  obtain ⟨hactive, hquiet, hdip, htier, hruns, hvol⟩ := retirementWitness_meets
  obtain ⟨_, _, _, _, hends⟩ := h retirementWitness 0 0 0 0 hactive hquiet hdip htier hruns
  obtain ⟨_, hretired⟩ := hends retiringVol hvol
  have hnone : ∀ y ∈ retirementWitness.hs.zones, ∀ m ∈ y.members, m.port ≠ 0 := fun _ hy => nomatch hy
  obtain ⟨t, hstep, hevent, _⟩ := hretired rfl hnone
  have hrun : exec (.retirementComplete 0) retirementWitness = .next (endOperation 6 false (deselect 0 retirementWitness)) := rfl
  obtain rfl : endOperation 6 false (deselect 0 retirementWitness) = t := by simpa [hrun] using hstep
  exact retirementWitness_event hevent

end Sys2Proof.Machine
end

section
/-! SUPPORT. Reports that the failure of a disc pushes out of a full event log (R214, R217, R223, R505 to R507). -/

namespace Sys2Proof.Machine

open Sys2Proof

/-- A set whose plan is being rebuilt, with one disc; bay 0 waits for that disc. -/
def waitingSet : ArchSet := { sid := 7, plan := { setId := 7, inStore := false }, discs := [{}] }

/-- That set on an active device in Op, bay 0 with its request for the blank disc, under a full event log whose oldest record is of event
ev and less than 1 s old, the others of event 200. -/
def crowdedWitness (ev : Nat) : State :=
  { phase := .running
    clock := 1000
    evt := { log := List.replicate 1023 { ev := 200 } ++ [{ ev := ev }] }
    doors := { ecat := .op }
    ebb := { sets := [waitingSet] }
    bays := (Vector.replicate 16 ({} : Bay)).set 0 { reqCode := 1 } }

theorem crowdedWitness_active (ev : Nat) : Active (crowdedWitness ev) := ⟨rfl, Nat.zero_lt_succ 2⟩

/-! ### A blank disc that never comes (R214, R478) -/

/-- The device after the time of the request has passed: event 123 merges into the oldest record, which event 114 then takes the place
of. -/
theorem timedOut_event : ¬ HasEvent 123 0 [0, 0] (discUnavailable 0 (unanswered 0 (crowdedWitness 123))) := by
  unfold HasEvent
  decide +kernel

/-- Refutes O41: a request for a blank disc that times out raises event 123 and, with the failure of its disc, event 114; under a full event
log whose oldest record event 123 merges into (R506), event 114 takes the place of that record (R507). -/
theorem not_libraryAnswers : ¬ Obligations.LibraryAnswers := by
  intro h
  obtain ⟨_, _, _, _, ⟨htimeout, _⟩, _⟩ := h 0 (crowdedWitness 123) {} (crowdedWitness_active 123) rfl
  obtain ⟨t, hstep, _, hevent, _⟩ := htimeout 7 {} waitingSet rfl rfl ⟨rfl, rfl, List.mem_singleton_self _⟩
  have hrun : exec (.libraryRequestTimeout 0) (crowdedWitness 123) = .next (discUnavailable 0 (unanswered 0 (crowdedWitness 123))) := rfl
  obtain rfl : discUnavailable 0 (unanswered 0 (crowdedWitness 123)) = t := Host.Outcome.next.inj (hrun.symm.trans hstep)
  exact timedOut_event hevent

/-! ### A plan that is lost (R217) -/

/-- An event leaves the started sets. -/
theorem setOf_raise (ev cause : Nat) (data : List Nat) (s : State) (sid : Nat) : setOf (raise ev cause data s) sid = setOf s sid := by
  unfold setOf
  rw [(raise_drive ev cause data s).1]

/-- The device after a digest that is not the sealed one: the report of the lost plan, then the failure of the set's disc. -/
def lostPlanEnd : State :=
  waitingSet.discs.foldl (fun t d => discFailed 7 d.role 5 t) (raise 117 0 (evBytes 4 7) (crowdedWitness 117))

/-- Event 117 merges into the oldest record, which event 114 then takes the place of. -/
theorem lostPlanEnd_event : ¬ HasEvent 117 0 (evBytes 4 7) lostPlanEnd := by
  unfold HasEvent
  decide +kernel

/-- Refutes O50: a started set's plan whose digest is wrong raises event 117 and, with the failure of each open disc, event 114; under a full
event log whose oldest record event 117 merges into (R506), event 114 takes the place of that record (R507). -/
theorem not_planCommands : ¬ Obligations.PlanCommands := by
  intro h
  obtain ⟨_, _, _, hcheck⟩ := h (crowdedWitness 117) 7 1 (crowdedWitness_active 117)
  obtain ⟨_, _, hlost⟩ := hcheck waitingSet.plan rfl
  obtain ⟨t, hstep, hevent, _⟩ := hlost waitingSet (by decide) rfl
  have hrun : exec (.planDigestCheck 7 1) (crowdedWitness 117) = .next lostPlanEnd := by
    have hset : setOf (raise 117 0 (evBytes 4 7) (crowdedWitness 117)) 7 = some waitingSet := setOf_raise ..
    have hplan : rebuiltPlan (crowdedWitness 117) 7 = some waitingSet.plan := rfl
    have hdigest : ¬(1 : BitVec 64) = waitingSet.plan.digest := by decide
    simp only [exec, execPlanDigestCheck, hplan]
    rw [if_neg hdigest, hset]
    rfl
  obtain rfl : lostPlanEnd = t := Host.Outcome.next.inj (hrun.symm.trans hstep)
  exact lostPlanEnd_event hevent

end Sys2Proof.Machine
end

section
/-! SUPPORT. Writing a disc (R219 to R221, R281, R282, R292, R293, R295): what a bay's event queue leaves, and the start of a row, the
decision on a frame, and the resumption behind a gate drop. -/

namespace Sys2Proof.Machine

open Sys2Proof

/-! ### One bay alone -/

/-- t is s but for one bay. -/
def BayAlone (b : BayId) (s t : State) : Prop :=
  t = { s with bays := t.bays } ∧ OtherBays b s t

theorem bayAlone_refl (b : BayId) (s : State) : BayAlone b s s := ⟨rfl, fun _ _ => rfl⟩

theorem BayAlone.trans {b : BayId} {s t u : State} (h : BayAlone b s t) (h' : BayAlone b t u) : BayAlone b s u := by
  obtain ⟨heq, hothers⟩ := h
  obtain ⟨heq', hothers'⟩ := h'
  exact ⟨heq'.trans (congrArg (fun x : State => { x with bays := u.bays }) heq), fun x hx => (hothers' x hx).trans (hothers x hx)⟩

theorem bayAlone_modBay (b : BayId) (f : Bay → Bay) (s : State) : BayAlone b s (modBay b f s) :=
  ⟨rfl, fun _ hx => bayAt_modBay_other f s hx⟩

/-- The bay's other values that entries of its event queue leave: its channel and the state of its servo. -/
def Requeued (b : BayId) (s t : State) : Prop :=
  BayAlone b s t ∧ (bayAt t b).chan = (bayAt s b).chan ∧ (bayAt t b).servo.state = (bayAt s b).servo.state

theorem requeued_refl (b : BayId) (s : State) : Requeued b s s := ⟨bayAlone_refl b s, rfl, rfl⟩

theorem Requeued.trans {b : BayId} {s t u : State} (h : Requeued b s t) (h' : Requeued b t u) : Requeued b s u := by
  obtain ⟨halone, hchan, hstate⟩ := h
  obtain ⟨halone', hchan', hstate'⟩ := h'
  exact ⟨halone.trans halone', hchan'.trans hchan, hstate'.trans hstate⟩

theorem requeued_modBay (b : BayId) {f : Bay → Bay} (s : State)
    (hf : ∀ y : Bay, (f y).chan = y.chan ∧ (f y).servo.state = y.servo.state) : Requeued b s (modBay b f s) := by
  refine ⟨bayAlone_modBay b f s, ?_, ?_⟩ <;> rw [bayAt_modBay_same]
  · exact (hf _).1
  · exact (hf _).2

/-- An entry is queued, fires at once, or is refused (R355 to R358). -/
theorem requeued_enqueue (b : BayId) (e : QEvent) (s : State) : Requeued b s (enqueue b e s) := by
  unfold enqueue
  dsimp only
  split
  · exact requeued_modBay b s fun _ => ⟨rfl, rfl⟩
  · split
    · exact requeued_refl b s
    · split
      · exact requeued_modBay b s fun _ => ⟨rfl, rfl⟩
      · split
        · exact requeued_modBay b s fun _ => ⟨rfl, rfl⟩
        · split
          · exact requeued_modBay b s fun _ => ⟨rfl, rfl⟩
          · exact requeued_refl b s

theorem requeued_queueRow (b : BayId) (start gate arg : Nat) (s : State) : Requeued b s (queueRow b start gate arg s) :=
  ((requeued_enqueue ..).trans (requeued_enqueue ..)).trans (requeued_enqueue ..)

/-- A change of a bay's channel and link with its row's events queued behind it (R282, R355). -/
theorem queueRow_modBay (b : BayId) (start gate arg : Nat) (f : Bay → Bay) (s : State) :
    let t := queueRow b start gate arg (modBay b f s)
    BayAlone b s t ∧ (bayAt t b).chan = (f (bayAt s b)).chan ∧ (bayAt t b).servo.state = (f (bayAt s b)).servo.state := by
  obtain ⟨halone, hchan, hstate⟩ := requeued_queueRow b start gate arg (modBay b f s)
  rw [bayAt_modBay_same] at hchan hstate
  exact ⟨(bayAlone_modBay b f s).trans halone, hchan, hstate⟩

/-! ### A row starts and resumes (R219, R221, R281, R282) -/

section
variable {b : BayId} {s : State} {a : ArchSet} {d : SetDisc} {q : Int}

/-- A bay that may write is in mode write. -/
theorem mayWrite_state (hmay : mayWrite s b a d q = true) : (bayAt s b).servo.state = 6 := by
  unfold mayWrite at hmay
  simp only [Bool.and_eq_true, beq_iff_eq] at hmay
  obtain ⟨⟨⟨⟨⟨⟨⟨⟨hstate, _⟩, _⟩, _⟩, _⟩, _⟩, _⟩, _⟩, _⟩ := hmay
  exact hstate

theorem rowStart_writes {fs : List FrameW} (hon : writingOn s b = some (a, d)) (hrow : nextRow a.plan d = some (q, fs))
    (hstaged : d.staged ≠ 0) (hidle : (bayAt s b).chan.rowActive = false) (hresume : (bayAt s b).chan.resumeFrom = none)
    (hmay : mayWrite s b a d q = true) :
    Yields (.rowStart b) s fun t =>
      (bayAt t b).chan.frames = fs.map (fun f => { f with content := discContent s a d f.planned }) ∧
        (bayAt t b).chan.rowActive = true ∧ (bayAt t b).chan.rowOf = q ∧ (bayAt t b).chan.rowFail = 0 ∧
        (bayAt t b).chan.rowStart = nextStart (presentAngle s b) (rowStart d.layer q) 0 ∧ (bayAt t b).servo.state = 6 ∧
        t = { s with bays := t.bays } ∧ OtherBays b s t := by
  have hgo : ¬(d.staged = 0 ∨ (bayAt s b).chan.rowActive = true ∨ (bayAt s b).chan.resumeFrom.isSome = true ∨
      mayWrite s b a d q = false) := by
    simp [hstaged, hidle, hresume, hmay]
  refine ⟨_, by simp only [exec, execRowStart, hon, hrow]; exact if_neg hgo, ?_⟩
  obtain ⟨halone, hchan, hstate⟩ := queueRow_modBay b _ _ _ _ s
  exact ⟨congrArg Chan.frames hchan, congrArg Chan.rowActive hchan, congrArg Chan.rowOf hchan, congrArg Chan.rowFail hchan,
    congrArg Chan.rowStart hchan, hstate.trans (mayWrite_state hmay), halone⟩

theorem writeResume_writes {i off : Nat} (hon : writingOn s b = some (a, d)) (hended : rowEnded (bayAt s b).chan = false)
    (hresume : (bayAt s b).chan.resumeFrom = some i) (hoff : resumeOffset (bayAt s b).chan.frames = some off)
    (hgate : (bayAt s b).cway.wg = false) (hmay : mayWrite s b a d (bayAt s b).chan.rowOf = true) :
    Yields (.writeResume b) s fun t =>
      (bayAt t b).chan.rowActive = true ∧
        (bayAt t b).chan.frames = (bayAt s b).chan.frames.map (fun x => if x.st = 5 then { x with st := 0 } else x) ∧
        (bayAt t b).chan.rowStart = nextStart (presentAngle s b) (rowStart d.layer (bayAt s b).chan.rowOf) off ∧
        t = { s with bays := t.bays } ∧ OtherBays b s t := by
  have hgo : ¬((bayAt s b).cway.wg = true ∨ mayWrite s b a d (bayAt s b).chan.rowOf = false) := by
    simp [hgate, hmay]
  refine ⟨_, by simp only [exec, execWriteResume, hon, hended, hresume, hoff]; exact if_neg hgo, ?_⟩
  obtain ⟨halone, hchan, _⟩ := queueRow_modBay b _ _ _ _ s
  exact ⟨congrArg Chan.rowActive hchan, congrArg Chan.frames hchan, congrArg Chan.rowStart hchan, halone⟩

end

/-! ### Frames are decided (R220, R292, R293, R295) -/

/-- What a decided frame may change: its bay, the archive and the Tidemark record. -/
def FrameDecided (b : BayId) (s t : State) : Prop :=
  t = { s with bays := t.bays, ebb := t.ebb, tide := t.tide } ∧ OtherBays b s t

theorem FrameDecided.kept {b : BayId} {s t : State} (h : FrameDecided b s t) :
    OtherBays b s t ∧ t.part = s.part ∧ t.fw = s.fw ∧ t.flash = s.flash ∧ t.hs = s.hs := by
  obtain ⟨heq, hothers⟩ := h
  exact ⟨hothers, (congrArg State.part heq :), (congrArg State.fw heq :), (congrArg State.flash heq :), (congrArg State.hs heq :)⟩

/-- A change of the bay with one of the archive behind it. -/
theorem BayAlone.frameDecided {b : BayId} {s u t : State} (h : BayAlone b s u) (heq : t = { u with ebb := t.ebb, tide := t.tide }) :
    FrameDecided b s t := by
  obtain ⟨halone, hothers⟩ := h
  have hbays : t.bays = u.bays := (congrArg State.bays heq :)
  refine ⟨?_, fun x hx => (congrArg (Vector.get · x) hbays).trans (hothers x hx)⟩
  rw [hbays]
  exact heq.trans (congrArg (fun x : State => { x with ebb := t.ebb, tide := t.tide }) halone)

theorem frameDecided_of_alone {b : BayId} {s t : State} (h : BayAlone b s t) : FrameDecided b s t := h.frameDecided rfl

/-- A row with a frame that is neither confirmed nor slipped has not ended. -/
theorem rowEnded_of_waiting {c : Chan} {j : Nat} {g : FrameW} (hg : c.frames[j]? = some g) (hst : g.st < 3) : rowEnded c = false := by
  have hwaits : (g.st == 3 || g.st == 4) = false := by simp; omega
  unfold rowEnded
  rw [Bool.and_eq_false_iff, List.all_eq_false]
  exact .inr ⟨g, List.mem_of_getElem? hg, by simp [hwaits]⟩

/-- The count of an inscribed frame changes its object alone (Table 2.14). -/
theorem countInscribed_ebb (a : ArchSet) (d : SetDisc) (pfa : Nat) (s : State) :
    countInscribed a d pfa s = { s with ebb := (countInscribed a d pfa s).ebb, tide := (countInscribed a d pfa s).tide } := by
  unfold countInscribed
  dsimp only
  split
  · rfl
  · split
    · rfl
    · split <;> rfl

/-- A count behind a change of the bay leaves that change and counts as without it. -/
theorem countInscribed_modBay (b : BayId) (m : Bay → Bay) (a : ArchSet) (d : SetDisc) (pfa : Nat) (s : State) :
    let t := countInscribed a d pfa (modBay b m s)
    bayAt t b = m (bayAt s b) ∧ t.ebb = (countInscribed a d pfa s).ebb ∧ FrameDecided b s t := by
  have heq := countInscribed_ebb a d pfa (modBay b m s)
  refine ⟨(congrArg (bayAt · b) heq :).trans (bayAt_modBay_same b m s), ?_, (bayAlone_modBay b m s).frameDecided heq⟩
  unfold countInscribed isRecon
  rw [(modBay_drive b m s).1]
  dsimp only
  split
  · rfl
  · split
    · rfl
    · split <;> rfl

/-- A frame that slips with a reserve slot left takes the slot (R220). -/
theorem slipFrame_slot {sid role planned : Nat} {s : State} {a : ArchSet} {d : SetDisc} (hset : setOf s sid = some a)
    (hdisc : a.discs.find? (fun x => x.role == role) = some d) (hslot : d.slot < reserveSlots) :
    slipFrame sid role planned s = modDisc sid role
      (fun x => { x with slips := x.slips ++ [(planned, x.slot)], slot := x.slot + 1, slipped := x.slipped + 1 }) s := by
  unfold setOf at hset
  unfold slipFrame
  rw [hset, Option.bind_some, hdisc]
  exact if_neg (Nat.not_le.2 hslot)

/-- The set that a bay writes for is a started set, found by its identifier. -/
theorem setOf_writingOn {s : State} {b : BayId} {a : ArchSet} {d : SetDisc} (h : writingOn s b = some (a, d)) :
    setOf s a.sid = some a := by
  unfold writingOn at h
  obtain ⟨p, _, hp⟩ := Option.bind_eq_some_iff.1 h
  obtain ⟨a', hset, heq⟩ := Option.map_eq_some_iff.1 hp
  obtain ⟨rfl, _⟩ := Prod.mk.inj heq
  have hsid : a'.sid = p.1 := by
    unfold setOf at hset
    simpa using List.find?_some hset
  rw [hsid]
  exact hset

/-- With the write gate low a drop does nothing. -/
theorem dropGate_low {b : BayId} {s : State} (cause : Nat) (h : (bayAt s b).cway.wg = false) : dropGate b cause s = s := if_pos h

/-- What a frame that fails by a criterion leaves in its bay (R220, R293). -/
def Bay.failFrame (idx : Nat) (f : FrameW) (crit : Nat) (y : Bay) : Bay :=
  { y with
    chan := { y.chan with
      frames := modNth y.chan.frames idx fun f => { f with st := 4 }
      begun := satAdd 18446744073709551615 y.chan.begun 1
      slipped := satAdd 18446744073709551615 y.chan.slipped 1
      gaps := y.chan.gaps.filter (· != f.spot)
      byCriterion := if crit = 0 then y.chan.byCriterion else modNth y.chan.byCriterion (crit - 1) (satAdd 4294967295 1)
      runFail := modNth y.chan.runFail f.spot (· + 1)
      rowFail := y.chan.rowFail + 1 } }

/-- A bay stops behind a failed frame: the eighth in a row of its spot, or the one that takes its row past a quarter (R295). -/
def stopsBehind (f : FrameW) (c : Chan) : Bool :=
  decide (8 ≤ c.runFail.getD f.spot 0) || decide (c.frames.length < 4 * c.rowFail ∧ 4 * (c.rowFail - 1) ≤ c.frames.length)

section
variable {b : BayId} {s : State} {a : ArchSet} {d : SetDisc} {idx j crit : Nat} {f g : FrameW} {r : FrameRead}

/-- A failed frame slips if it is of the set's content, and the bay goes on or stops behind it (R220, R293, R295). -/
theorem frameFailed_eq (b : BayId) (a : ArchSet) (d : SetDisc) (idx : Nat) (f : FrameW) (crit : Nat) (s : State) :
    frameFailed b a d idx f crit s =
      let s1 := modBay b (Bay.failFrame idx f crit) s
      let s2 := if f.slips then slipFrame a.sid d.role f.planned s1 else s1
      if stopsBehind f (Bay.failFrame idx f crit (bayAt s b)).chan then verifyStop b s2 else s2 := by
  rw [← bayAt_modBay_same b (Bay.failFrame idx f crit) s]
  rfl

/-- The failures in a row of the failed frame's spot. -/
theorem runFail_failFrame {y : Bay} (hspot : f.spot < y.chan.runFail.length) :
    (Bay.failFrame idx f crit y).chan.runFail.getD f.spot 0 = y.chan.runFail.getD f.spot 0 + 1 := by
  have hmod : (Bay.failFrame idx f crit y).chan.runFail[f.spot]? = (y.chan.runFail[f.spot]?).map (· + 1) := modNth_same ..
  rw [List.getD_eq_getElem?_getD, List.getD_eq_getElem?_getD, hmod, List.getElem?_eq_getElem hspot]
  rfl

/-- A frame that is confirmed is counted for its bay and its object (R292). -/
theorem frameConfirmed_counts (asym : Int) :
    let t := frameConfirmed b a d idx f asym s
    let c := (bayAt s b).chan
    (bayAt t b).chan.frames = modNth c.frames idx (fun x => { x with st := 3 }) ∧
      (bayAt t b).chan.confirmed = satAdd 18446744073709551615 c.confirmed 1 ∧ (bayAt t b).chan.slipped = c.slipped ∧
      t.ebb = (countInscribed a d f.planned s).ebb ∧ FrameDecided b s t := by
  intro t c
  obtain ⟨hbay, hebb, hdecided⟩ : bayAt t b = _ ∧ t.ebb = _ ∧ FrameDecided b s t := countInscribed_modBay b _ a d f.planned s
  have hchan := congrArg Bay.chan hbay
  exact ⟨(congrArg Chan.frames hchan :), (congrArg Chan.confirmed hchan :), (congrArg Chan.slipped hchan :), hebb, hdecided⟩

/-- A frame of the set's own content that fails and does not stop its bay is slipped (R220, R293). -/
theorem frameFailed_slips (hslips : f.slips = true) (hset : setOf s a.sid = some a)
    (hdisc : a.discs.find? (fun x => x.role == d.role) = some d) (hslot : d.slot < reserveSlots)
    (hrun : (bayAt s b).chan.runFail.getD f.spot 0 < 7) (hspot : f.spot < (bayAt s b).chan.runFail.length)
    (hrow : 4 * ((bayAt s b).chan.rowFail + 1) ≤ (bayAt s b).chan.frames.length) :
    let t := frameFailed b a d idx f crit s
    bayAt t b = Bay.failFrame idx f crit (bayAt s b) ∧
      t.ebb = (modDisc a.sid d.role
        (fun x => { x with slips := x.slips ++ [(f.planned, x.slot)], slot := x.slot + 1, slipped := x.slipped + 1 }) s).ebb ∧
      FrameDecided b s t := by
  have hgoes : stopsBehind f (Bay.failFrame idx f crit (bayAt s b)).chan = false := by
    have hquarter : ¬(modNth (bayAt s b).chan.frames idx fun f => { f with st := 4 }).length < 4 * ((bayAt s b).chan.rowFail + 1) := by
      rw [modNth_length]
      omega
    unfold stopsBehind
    rw [runFail_failFrame hspot, decide_eq_false (by omega), decide_eq_false fun h => hquarter h.1]
    rfl
  have hslip := slipFrame_slot (s := modBay b (Bay.failFrame idx f crit) s) (planned := f.planned) hset hdisc hslot
  rw [frameFailed_eq, hslips, hgoes]
  dsimp only
  rw [if_pos rfl, if_neg Bool.false_ne_true, hslip]
  exact ⟨bayAt_modBay_same .., rfl, (bayAlone_modBay ..).frameDecided rfl⟩

/-- A frame that does not slip and is the eighth in a row to fail on its spot stops the bay (R295). -/
theorem frameFailed_stops (hslips : f.slips = false) (hrun : (bayAt s b).chan.runFail.getD f.spot 0 = 7)
    (hspot : f.spot < (bayAt s b).chan.runFail.length) (hgate : (bayAt s b).cway.wg = false) :
    let t := frameFailed b a d idx f crit s
    (bayAt t b).chan = { (Bay.failFrame idx f crit (bayAt s b)).chan with opcDue := true, runFail := [0, 0, 0, 0] } ∧ t.ebb = s.ebb ∧
      FrameDecided b s t := by
  have hstops : stopsBehind f (Bay.failFrame idx f crit (bayAt s b)).chan = true := by
    unfold stopsBehind
    rw [runFail_failFrame hspot, hrun]
    rfl
  rw [frameFailed_eq, hslips, hstops]
  dsimp only
  rw [if_pos rfl, if_neg Bool.false_ne_true]
  unfold verifyStop
  rw [dropGate_low 7 (by simpa [Bay.failFrame] using hgate)]
  exact ⟨by simp, rfl, frameDecided_of_alone ((bayAlone_modBay ..).trans (bayAlone_modBay ..))⟩

/-- The criterion that a read-back of a frame fails, as FRAME_DECISION takes it (R292). -/
def failedBy (s : State) (b : BayId) (a : ArchSet) (d : SetDisc) (f : FrameW) (r : FrameRead) : Nat :=
  criterion s b (tableTarget (rowTable s b a d.layer (bayAt s b).chan.rowOf)) ((bayAt s b).chan.gaps.contains f.spot)
    (bayAt s b).chan.rx f r

/-- A frame that may be judged, in a row that another frame keeps from ending (R292). -/
def MayJudge (s : State) (b : BayId) (a : ArchSet) (d : SetDisc) (idx j : Nat) (f g : FrameW) : Prop :=
  writingOn s b = some (a, d) ∧ (bayAt s b).chan.frames[idx]? = some f ∧ (bayAt s b).chan.frames[j]? = some g ∧ j ≠ idx ∧ g.st < 3 ∧
    (bayAt s b).chan.rowActive = true ∧ (bayAt s b).chan.resumeFrom = none ∧ f.st < 3 ∧
    (bayAt s b).chan.rowStart + f.start + unitsOfNs (bayAt s b).tb (bayAt s b).cway.latency ≤ presentAngle s b

/-- The frame is judged and its row goes on. -/
theorem MayJudge.runs {t : State} {st : Nat} (h : MayJudge s b a d idx j f g)
    (ht : (if failedBy s b a d f r = 0 then frameConfirmed b a d idx f r.asym s
      else frameFailed b a d idx f (failedBy s b a d f r) s) = t)
    (hframes : (bayAt t b).chan.frames = modNth (bayAt s b).chan.frames idx fun x => { x with st := st }) :
    exec (.frameDecision b idx r) s = .next t := by
  obtain ⟨hon, hf, hg, hne, hwaits, hactive, hresume, hst, hbegun⟩ := h
  have hgo : ¬((bayAt s b).chan.rowActive = false ∨ (bayAt s b).chan.resumeFrom.isSome = true ∨ 3 ≤ f.st ∨
      ¬(bayAt s b).chan.rowStart + f.start + unitsOfNs (bayAt s b).tb (bayAt s b).cway.latency ≤ presentAngle s b) := by
    simp [hactive, hresume, hst, hbegun]
  have hended : rowEnded (bayAt t b).chan = false :=
    rowEnded_of_waiting (j := j) (by rw [hframes, modNth_other _ _ hne, hg]) hwaits
  unfold failedBy at ht
  simp only [exec, execFrameDecision, hon, hf]
  rw [if_neg hgo, ht, hended]
  rfl

/-- A frame that meets every criterion is confirmed (R292). -/
theorem MayJudge.confirms (h : MayJudge s b a d idx j f g) (hcrit : failedBy s b a d f r = 0) :
    Yields (.frameDecision b idx r) s fun t =>
      (bayAt t b).chan.frames = modNth (bayAt s b).chan.frames idx (fun x => { x with st := 3 }) ∧
        (bayAt t b).chan.confirmed = satAdd 18446744073709551615 (bayAt s b).chan.confirmed 1 ∧
        (bayAt t b).chan.slipped = (bayAt s b).chan.slipped ∧ t.ebb = (countInscribed a d f.planned s).ebb ∧
        OtherBays b s t ∧ t.part = s.part ∧ t.fw = s.fw ∧ t.flash = s.flash ∧ t.hs = s.hs := by
  obtain ⟨hframes, hconfirmed, hslipped, hebb, hdecided⟩ :=
    frameConfirmed_counts (b := b) (s := s) (a := a) (d := d) (idx := idx) (f := f) r.asym
  exact ⟨_, h.runs (if_pos hcrit) hframes, hframes, hconfirmed, hslipped, hebb, hdecided.kept⟩

end

/-- Settles O48: a row's start and its resumption are changes of the bay's channel with the row's events queued behind them; a frame's
decision marks it, and another frame keeps the row from ending. -/
theorem discWriting : Obligations.DiscWriting := by
  intro b s a d idx j f g r _ _ hon y c chan only kept now
  refine ⟨fun q fs hrow hstaged hidle hresume hmay => rowStart_writes hon hrow hstaged hidle hresume hmay,
    fun hf hg hne hwaits hactive hresume hst hbegun hgate => ?_,
    fun i off hended hresume hoff hgate hmay => writeResume_writes hon hended hresume hoff hgate hmay⟩
  have hjudge : MayJudge s b a d idx j f g := ⟨hon, hf, hg, hne, hwaits, hactive, hresume, hst, hbegun⟩
  refine ⟨fun hcrit => hjudge.confirms hcrit, fun hcrit hslips hdisc hslot hrun hrow hspot => ?_, fun hcrit hslips hrun hspot => ?_⟩
  · obtain ⟨hbay, hebb, hdecided⟩ := frameFailed_slips (idx := idx) (crit := failedBy s b a d f r) hslips (setOf_writingOn hon) hdisc hslot
      hrun hspot hrow
    have hchan := congrArg Bay.chan hbay
    exact ⟨_, hjudge.runs (if_neg hcrit) (congrArg Chan.frames hchan), (congrArg Chan.frames hchan :), (congrArg Chan.slipped hchan :),
      (congrArg Chan.confirmed hchan :), hebb, hdecided.kept⟩
  · obtain ⟨hchan, hebb, hdecided⟩ := frameFailed_stops (a := a) (d := d) (idx := idx) (crit := failedBy s b a d f r) hslips hrun hspot hgate
    exact ⟨_, hjudge.runs (if_neg hcrit) (congrArg Chan.frames hchan), (congrArg Chan.frames hchan :), (congrArg Chan.opcDue hchan :),
      (congrArg Chan.runFail hchan :), hebb, hdecided.kept⟩

end Sys2Proof.Machine
end

section
/-! SUPPORT. The clear subindices of a bay (R309, R340, R363, R400, R468): a write of a bay's command subindex that changes the bay
alone. -/

namespace Sys2Proof.Machine

open Sys2Proof

/-! ### The objects of a bay (R451) -/

theorem bayOf_bayIndex {off : Nat} (b : BayId) (hoff : off < 0x100) : bayOf (bayIndex b off) = some b.val := by
  have hb := b.isLt
  unfold bayOf bayIndex
  rw [if_pos (by omega)]
  congr 1
  omega

theorem baseIndex_bayIndex {off : Nat} (b : BayId) (hoff : off < 0x100) : baseIndex (bayIndex b off) = 0x3000 + off := by
  have hb := b.isLt
  unfold baseIndex bayIndex
  rw [if_pos (by omega)]
  omega

/-- A written value of a bay's object acts on that bay. -/
theorem runWrite_bay {off : Nat} (door : Door) (m : Meas) (b : BayId) (hoff : off < 0x100) (w : Nat × List Byte) (s : State) :
    runWrite door m (bayIndex b off) w s = runBay m (bayIndex b off) b off w.1 (ofBytes w.2) w.2 s := by
  simp only [runWrite, bayOf_bayIndex b hoff, baseIndex_bayIndex b hoff, b.isLt, Nat.add_sub_cancel_left, dite_true]

/-! ### What the keeping and the answering of a value touch (R187, R455, R463, R465) -/

/-- t is s but for the doors and their values, the memories, and the clean flag of Tidemark. -/
def DoorsAlone (s t : State) : Prop :=
  ∃ doors mem tide, t = { s with doors := doors, mem := mem, tide := tide }

theorem DoorsAlone.trans {s t u : State} (h : DoorsAlone s t) (h' : DoorsAlone t u) : DoorsAlone s u := by
  obtain ⟨_, _, _, rfl⟩ := h
  obtain ⟨_, _, _, rfl⟩ := h'
  exact ⟨_, _, _, rfl⟩

theorem DoorsAlone.modBay {s t : State} (h : DoorsAlone s t) (b : BayId) (f : Bay → Bay) : DoorsAlone (modBay b f s) (modBay b f t) := by
  obtain ⟨_, _, _, rfl⟩ := h
  exact ⟨_, _, _, rfl⟩

theorem doorsAlone_tideRecord (s : State) : DoorsAlone s (tideRecord s) := ⟨_, _, _, rfl⟩

theorem doorsAlone_keepValue (index : Nat) (s : State) (w : Nat × List Byte) : DoorsAlone s (keepValue index s w) := by
  unfold keepValue
  split
  · exact ⟨_, _, _, rfl⟩
  · split
    · exact ⟨_, _, _, rfl⟩
    · split
      · exact ⟨_, _, _, rfl⟩
      · exact ⟨_, _, _, rfl⟩

theorem doorsAlone_stageValues (index : Nat) (w : Nat × List Byte) (s : State) : DoorsAlone s (stageValues index [w] s) :=
  ⟨_, _, _, stageValues_congr rfl rfl w⟩

theorem doorsAlone_answerDoor (door : Door) (index sub : Nat) (a : Option Abort) (data : List Byte) (s : State) :
    DoorsAlone s (answerDoor door index sub a data s) :=
  ⟨_, _, _, answerDoor_doors ..⟩

/-- The doors touch no bay and none of the stores. -/
theorem DoorsAlone.oneBay {b : BayId} {f : Bay → Bay} {s t : State} (h : DoorsAlone (Machine.modBay b f s) t) :
    bayAt t b = f (bayAt s b) ∧ OneBay b s t := by
  obtain ⟨_, _, _, rfl⟩ := h
  exact ⟨bayAt_modBay_same b f s, fun _ hx => bayAt_modBay_other f s hx, rfl, rfl, rfl, rfl, rfl⟩

/-! ### A write that changes its bay alone -/

/-- A write of a bay's subindex that acts by a change f of the bay changes it so, and nothing else but what the doors touch. -/
theorem TakesBay.changes {door : Door} {s : State} {b : BayId} {off sub v : Nat} {f : Bay → Bay} (h : TakesBay door s b off sub v)
    (hoff : off < 0x100)
    (hrun : ∀ n data u, runBay {} (bayIndex b off) b off sub n data u = .ok (modBay b f u)) :
    let t := writeBay door {} b off sub v s
    bayAt t b = f (bayAt s b) ∧ OneBay b s t ∧ Acked door (bayIndex b off) sub t := by
  have hwrite := Takes.doorWrite {} h ((runWrite_bay door {} b hoff _ _).trans (hrun _ _ _))
  have halone := ((doorsAlone_keepValue (bayIndex b off) s (sub, valueBytes s (bayIndex b off) sub v)).trans
    (doorsAlone_tideRecord _)).modBay b f
  obtain ⟨hbay, hone⟩ := ((halone.trans (doorsAlone_stageValues ..)).trans (doorsAlone_answerDoor ..)).oneBay
  simp only [writeBay, writeNum, hwrite]
  exact ⟨hbay, hone, (answerDoor_success ..).1⟩

/-- Settles O25: each clear is a change of its own bay (R309, R340, R363, R400, R468). -/
theorem clearWrites : Obligations.ClearWrites := by
  intro door b s v y
  refine ⟨fun h => ?_, fun h => ?_, fun h => ?_, fun h => ?_, fun h => ?_⟩
  · exact ⟨_, rfl, h.changes (by decide) fun _ _ u => (rfl : _ = Except.ok (clearChannel b u))⟩
  · exact ⟨_, rfl, h.changes (by decide) fun _ _ u => (rfl : _ = Except.ok (clearCauseway b u))⟩
  · exact ⟨_, rfl, h.changes (by decide) fun _ _ u => (rfl : _ = Except.ok (clearTimebase b u))⟩
  · exact ⟨_, rfl, h.changes (by decide) fun _ _ u => (rfl : _ = Except.ok (clearServo b u))⟩
  · exact ⟨_, rfl, h.changes (by decide) fun _ _ u => (rfl : _ = Except.ok (clearSpindle b u))⟩

end Sys2Proof.Machine
end

section
/-! SUPPORT. Cells that a head sends (R296, R297, R314, R317 to R319, R321, R328, R339): what each kind of cell changes of its bay. -/

namespace Sys2Proof.Machine

open Sys2Proof

/-! ### One bay that becomes another -/

/-- t is s but for one bay, which is z. -/
def BayBecomes (b : BayId) (z : Bay) (s t : State) : Prop :=
  bayAt t b = z ∧ BayAlone b s t

theorem bayBecomes_modBay (b : BayId) (f : Bay → Bay) (s : State) : BayBecomes b (f (bayAt s b)) s (modBay b f s) :=
  ⟨bayAt_modBay_same b f s, bayAlone_modBay b f s⟩

theorem BayBecomes.modBay {b : BayId} {z : Bay} {s t : State} (h : BayBecomes b z s t) (f : Bay → Bay) :
    BayBecomes b (f z) s (modBay b f t) := by
  obtain ⟨hbay, halone⟩ := h
  exact ⟨(bayAt_modBay_same b f t).trans (congrArg f hbay), halone.trans (bayAlone_modBay b f t)⟩

theorem BayAlone.storesKept {b : BayId} {s t : State} (h : BayAlone b s t) : StoresKept s t := by
  obtain ⟨heq, _⟩ := h
  exact ⟨(congrArg State.part heq :), (congrArg State.fw heq :), (congrArg State.hs heq :), (congrArg State.flash heq :),
    (congrArg State.ebb heq :)⟩

/-- A bay's enable and fitting rest on the part, the dictionary and the bay. -/
theorem BayAlone.bayEnabled {b : BayId} {s t : State} (h : BayAlone b s t) (hfitted : (bayAt t b).fitted = (bayAt s b).fitted) :
    bayEnabled t b = bayEnabled s b := by
  obtain ⟨heq, _⟩ := h
  have hpart : t.part = s.part := (congrArg State.part heq :)
  have hdoors : t.doors = s.doors := (congrArg State.doors heq :)
  have hnum : bnum t b 0 2 = bnum s b 0 2 := num_congr (congrArg Doors.nums hdoors) hpart ..
  have hget : (t.bays.get b).fitted = (s.bays.get b).fitted := hfitted
  simp only [Machine.bayEnabled, hpart, hnum, hget]

/-! ### The read channel (R296 to R299, R301) -/

theorem Cway.write_seqs (addr v : Nat) (c : Cway) : (c.write addr v).seqs = c.seqs := by
  unfold Cway.write
  split
  · rfl
  · rfl

theorem takePolicy_seqs (s : State) (y : Bay) : (takePolicy s y).cway.seqs = y.cway.seqs := by
  unfold takePolicy
  dsimp only
  split
  · exact Cway.write_seqs ..
  · rfl

/-- The read channel leaves the sequences of its link's cells. -/
theorem takeSamples_seqs (s : State) (spot sc : Nat) (samples : List Int) (y : Bay) :
    (takeSamples s spot sc samples y).cway.seqs = y.cway.seqs := by
  unfold takeSamples
  extract_lets bits threshold r y1
  split
  · rfl
  · split
    · rfl
    · exact takePolicy_seqs ..

/-! ### Errors of a link (R337, R339) -/

section
variable {b : BayId} {s : State}

/-- The cell errors of a bay's last 10 ms with n more at this moment (R337). -/
def errorTimes (n now : Nat) (y : Bay) : List Nat :=
  (List.replicate (min n 256) now ++ y.cway.errorsAt.filter fun t => decide (now < t + usCycles 10000)).take 256

/-- The bay with the times of its cell errors noted. -/
def errorsNoted (times : List Nat) (y : Bay) : Bay :=
  { y with cway := { y.cway with errorsAt := times } }

/-- Cell errors within the limit of 3070h.0C are noted, and no retrain comes of them (R337). -/
theorem cellErrors_few {n : Nat} (hfew : (errorTimes n s.clock (bayAt s b)).length ≤ bnum s b 0x70 0x0C) :
    cellErrors b n s = modBay b (errorsNoted (errorTimes n s.clock (bayAt s b))) s :=
  if_neg (Nat.not_lt.2 hfew)

/-- One more upstream cell error (R339). -/
def upErrorCounted (y : Bay) : Bay :=
  { y with cway := { y.cway with upErrors := satAdd 4294967295 y.cway.upErrors 1 } }

theorem errorTimes_upErrorCounted (n now : Nat) (y : Bay) : errorTimes n now (upErrorCounted y) = errorTimes n now y := rfl

/-- The bay after a cell that failed its checks (R314, R339). -/
def badCounted (now : Nat) (y : Bay) : Bay :=
  errorsNoted (errorTimes 1 now y) (upErrorCounted y)

theorem badCell_counts (hfew : (errorTimes 1 s.clock (bayAt s b)).length ≤ bnum s b 0x70 0x0C) :
    BayBecomes b (badCounted s.clock (bayAt s b)) s (badCell b s) := by
  have htimes : errorTimes 1 s.clock (bayAt (modBay b upErrorCounted s) b) = errorTimes 1 s.clock (bayAt s b) :=
    (congrArg _ (bayAt_modBay_same ..)).trans (errorTimes_upErrorCounted ..)
  have hcell : badCell b s = modBay b (errorsNoted (errorTimes 1 s.clock (bayAt s b))) (modBay b upErrorCounted s) := by
    rw [← htimes] at hfew ⊢
    exact cellErrors_few (s := modBay b upErrorCounted s) hfew
  rw [hcell]
  exact (bayBecomes_modBay b upErrorCounted s).modBay _

/-- While the gate is low a Causeway error is its event alone (R339). -/
theorem causewayError_gateLow (cause : Nat) (hgate : (bayAt s b).cway.wg = false) :
    causewayError b cause s = raiseBay b 7 cause (evBytes 2 (bayAt s b).cway.faults.toNat) s :=
  congrArg (raiseBay b 7 cause _) (if_pos hgate)

/-- A bay's events are those of an enabled bay (R475). -/
theorem eventAllowed_bay {off : Nat} (hoff : off < 10) : eventAllowed s (bayEvent b off) = bayEnabled s b := by
  have hb := b.isLt
  have hbay : (bayEvent b off - 128) / 10 = b.val := by unfold bayEvent; omega
  unfold eventAllowed
  rw [dif_pos (by unfold bayEvent; omega)]
  exact congrArg (bayEnabled s) (Fin.ext hbay)

/-- A bay's event leaves the bays and the stores. -/
theorem raiseBay_keeps (off cause : Nat) (data : List Nat) :
    (∀ x, bayAt (raiseBay b off cause data s) x = bayAt s x) ∧ StoresKept s (raiseBay b off cause data s) := by
  simp [bayAt, raiseBay, StoresKept]

/-- A Causeway error of an enabled bay whose gate is low is reported, and changes nothing more of the bay and the stores (R339). -/
theorem BayBecomes.reports {z : Bay} {u : State} (h : BayBecomes b z s u) (cause : Nat) (hactive : Active s)
    (hon : bayEnabled s b = true) (hfitted : z.fitted = (bayAt s b).fitted) (hgate : z.cway.wg = false) :
    let t := causewayError b cause u
    HasEvent (bayEvent b 7) cause (evBytes 2 z.cway.faults.toNat) t ∧ bayAt t b = z ∧ OneBay b s t := by
  obtain ⟨rfl, halone⟩ := h
  obtain ⟨_, hps⟩ := hactive
  have ⟨heq, hothers⟩ := halone
  have hpwr : u.pwr = s.pwr := (congrArg State.pwr heq :)
  have hallowed : eventAllowed u (bayEvent b 7) = true :=
    (eventAllowed_bay (by decide)).trans ((halone.bayEnabled hfitted).trans hon)
  obtain ⟨hbays, hpart, hfw, hhs, hflash, hebb⟩ := raiseBay_keeps (b := b) (s := u) 7 cause (evBytes 2 (bayAt u b).cway.faults.toNat)
  obtain ⟨hpart', hfw', hhs', hflash', hebb'⟩ := halone.storesKept
  rw [causewayError_gateLow cause hgate]
  exact ⟨raise_hasEvent _ _ hallowed (by rw [hpwr]; omega), hbays b, fun x hx => (hbays x).trans (hothers x hx),
    hpart.trans hpart', hfw.trans hfw', hhs.trans hhs', hflash.trans hflash', hebb.trans hebb'⟩

end

/-! ### A link that is active takes its cells -/

section
variable {b : BayId} {s : State} {cell : List Byte}

/-- A value of the sample counter, with the time when the head had it (R316, R343). -/
def stampedBay (sc : Nat) (s : State) (y : Bay) : Bay :=
  { y with cway := { y.cway with sc := sc % 2 ^ 32, scAt := nowPs s - 1000 * y.tb.delay } }

theorem bayBecomes_noteSc (b : BayId) (sc : Nat) (s : State) : BayBecomes b (stampedBay sc s (bayAt s b)) s (noteSc b sc s) :=
  bayBecomes_modBay b _ s

/-- A cell that fails its checks is counted, of whatever type it was (R314, R339). -/
theorem exec_cell_bad (hlink : (bayAt s b).cway.state = 2) (hbad : cellKnown cell = false) :
    exec (.spotSampleCell b cell) s = .next (badCell b s) ∧ exec (.servoCell b cell) s = .next (badCell b s) ∧
      exec (.statusCell b cell) s = .next (badCell b s) :=
  ⟨(if_neg (· hlink)).trans (if_pos hbad), (if_neg (· hlink)).trans (if_pos hbad), (if_neg (· hlink)).trans (if_pos hbad)⟩

/-! ### Spot sample cells (R296, R297, R317, R318) -/

/-- A cell's samples, where its spot trails, are taken by the read channel (R296, R317). -/
def heardBay (cell : List Byte) (s : State) (y : Bay) : Bay :=
  if 4 ≤ cellByte cell 0 % 16 ∧ cellByte cell 0 % 16 < 8 then
    takeSamples s (cellByte cell 0 % 16 - 4) (cellField cell 4 4) (cellSamples cell) y
  else y

theorem heardBay_seqs (cell : List Byte) (s : State) (y : Bay) : (heardBay cell s y).cway.seqs = y.cway.seqs := by
  delta heardBay
  split
  · exact takeSamples_seqs ..
  · rfl

/-- The cell's sequence is noted for its spot, among those noted before (R318). -/
def seqNoted (cell : List Byte) (seqs : List (Option Nat)) (y : Bay) : Bay :=
  { y with cway := { y.cway with seqs := modNth seqs (cellByte cell 0 % 16) fun _ => some (cellByte cell 1) } }

/-- A cell behind a gap is counted, and the frames its spot reads back are not confirmed (R318, R339). -/
def gapCounted (cell : List Byte) (y : Bay) : Bay :=
  { y with
    cway := { y.cway with upErrors := satAdd 4294967295 y.cway.upErrors 1 }
    chan := { y.chan with
      gaps := if 4 ≤ cellByte cell 0 % 16 ∧ y.chan.gaps.contains (cellByte cell 0 % 16 - 4) = false then
          (cellByte cell 0 % 16 - 4) :: y.chan.gaps
        else y.chan.gaps } }

theorem gapCounted_new {cell : List Byte} {y : Bay} (hspot : 4 ≤ cellByte cell 0 % 16)
    (hgap : y.chan.gaps.contains (cellByte cell 0 % 16 - 4) = false) :
    gapCounted cell y = { y with
      cway := { y.cway with upErrors := satAdd 4294967295 y.cway.upErrors 1 }
      chan := { y.chan with gaps := (cellByte cell 0 % 16 - 4) :: y.chan.gaps } } := by
  delta gapCounted
  rw [if_pos ⟨hspot, hgap⟩]

/-- The state after a spot sample cell in sequence. -/
def spotTaken (b : BayId) (cell : List Byte) (s : State) : State :=
  modBay b (fun y => seqNoted cell (heardBay cell s y).cway.seqs (heardBay cell s y))
    (noteSc b (cellField cell 4 4 + cellByte cell 2 - 1) s)

/-- The bay after a spot sample cell in sequence. -/
def spotBay (cell : List Byte) (s : State) (y : Bay) : Bay :=
  seqNoted cell y.cway.seqs (heardBay cell s (stampedBay (cellField cell 4 4 + cellByte cell 2 - 1) s y))

theorem bayBecomes_spotTaken (b : BayId) (cell : List Byte) (s : State) :
    BayBecomes b (spotBay cell s (bayAt s b)) s (spotTaken b cell s) := by
  have htaken := (bayBecomes_noteSc b (cellField cell 4 4 + cellByte cell 2 - 1) s).modBay
    fun y => seqNoted cell (heardBay cell s y).cway.seqs (heardBay cell s y)
  rwa [heardBay_seqs] at htaken

theorem exec_spotSampleCell {p : Nat} (hlink : (bayAt s b).cway.state = 2) (hknown : cellKnown cell = true) (htype : cellType cell = 1)
    (hp : ((bayAt s b).cway.seqs[cellByte cell 0 % 16]?).join = some p) :
    exec (.spotSampleCell b cell) s =
      if (p + 1) % 256 = cellByte cell 1 then .next (spotTaken b cell s)
      else .next (modBay b (gapCounted cell) (spotTaken b cell s)) := by
  simp only [exec, execSpotSampleCell, hp, beq_iff_eq]
  rw [if_neg (· hlink), if_neg (by simp [hknown]), if_neg (· htype)]
  rfl

/-! ### Servo cells (R319, R339) -/

/-- The state after a servo cell before which none is missing. -/
def servoJoined (b : BayId) (cell : List Byte) (s : State) : State :=
  modBay b (fun y => { y with servo := { y.servo with
    cellSeq := some (cellByte cell 1)
    cells := (quadrants cell :: y.servo.cells).take 4 } }) (noteSc b (cellField cell 4 4) s)

/-- The bay after a servo cell before which none is missing. -/
def joinedBay (cell : List Byte) (s : State) (y : Bay) : Bay :=
  { stampedBay (cellField cell 4 4) s y with servo := { y.servo with
    cellSeq := some (cellByte cell 1)
    cells := (quadrants cell :: y.servo.cells).take 4 } }

theorem bayBecomes_servoJoined (b : BayId) (cell : List Byte) (s : State) :
    BayBecomes b (joinedBay cell s (bayAt s b)) s (servoJoined b cell s) :=
  (bayBecomes_noteSc b _ s).modBay _

theorem exec_servoCell {p : Nat} (hlink : (bayAt s b).cway.state = 2) (hknown : cellKnown cell = true) (htype : cellType cell = 2)
    (hp : (bayAt s b).servo.cellSeq = some p) :
    exec (.servoCell b cell) s = .next (servoCellsMissing b ((cellByte cell 1 + 255 - p) % 256) (servoJoined b cell s)) := by
  simp only [exec, execServoCell, hp]
  rw [if_neg (· hlink), if_neg (by simp [hknown]), if_neg (· htype)]
  rfl

/-- The bay after n servo cells have been missed (R339). -/
def missingCounted (n : Nat) (y : Bay) : Bay :=
  { y with cway := { y.cway with servoMissing := satAdd 4294967295 y.cway.servoMissing n } }

/-- A servo cell leaves what the report of a Causeway error rests on. -/
theorem missingCounted_joinedBay (n : Nat) (cell : List Byte) (s : State) (y : Bay) :
    let z := missingCounted n (joinedBay cell s y)
    z.fitted = y.fitted ∧ z.cway.wg = y.cway.wg ∧ z.cway.faults = y.cway.faults := by
  delta missingCounted joinedBay stampedBay
  exact ⟨rfl, rfl, rfl⟩

/-- Two or more missing cells are counted and are a Causeway error (R339). -/
theorem servoCellsMissing_reports {n : Nat} (cell : List Byte) (hn : 2 ≤ n) (hactive : Active s) (hon : bayEnabled s b = true)
    (hgate : (bayAt s b).cway.wg = false) :
    let t := servoCellsMissing b n (servoJoined b cell s)
    HasEvent (bayEvent b 7) 4 (evBytes 2 (bayAt s b).cway.faults.toNat) t ∧
      bayAt t b = missingCounted n (joinedBay cell s (bayAt s b)) ∧ OneBay b s t := by
  have herror : servoCellsMissing b n (servoJoined b cell s) = causewayError b 4 (modBay b (missingCounted n) (servoJoined b cell s)) :=
    (if_neg (by omega)).trans (if_neg (by omega))
  obtain ⟨hfitted, hwg, hfaults⟩ := missingCounted_joinedBay n cell s (bayAt s b)
  have hcounted := (bayBecomes_servoJoined b cell s).modBay (missingCounted n)
  rw [herror, ← hfaults]
  exact hcounted.reports 4 hactive hon hfitted (hwg.trans hgate)

/-! ### Status cells (R321, R328, R339) -/

theorem Cway.acked_empty {c : Cway} (hqueue : c.regQueue = []) : c.acked = { c with regOut := none } := by
  unfold Cway.acked
  rw [hqueue]

/-- With no write waiting, the acknowledge of the outstanding one leaves none (R328). -/
theorem Cway.acknowledged_empty {c : Cway} (hqueue : c.regQueue = []) (ack : Nat) :
    (if c.regOut.isSome = true ∧ ack = c.regSeq then c.acked else c) =
      { c with regOut := if ack = c.regSeq then none else c.regOut } := by
  by_cases hack : ack = c.regSeq
  · rw [if_pos hack]
    split
    · exact Cway.acked_empty hqueue
    · next hnone =>
      have hout : c.regOut = none := by simpa [hack] using hnone
      rw [← hout]
  · rw [if_neg fun h => hack h.2, if_neg hack]

/-- Fault bits as they stand call for nothing (Table 9.14). -/
theorem faultBits_same {f : BitVec 16} (hf : (bayAt s b).cway.faults = f) :
    faultBits b f s = modBay b (fun y => { y with cway := { y.cway with faults := f } }) s := by
  have hnew : ∀ m : BitVec 16, f &&& ~~~f &&& m = 0 := by simp
  have hstays : ¬(f &&& 0x000C#16 ≠ 0 ∧ f &&& 0x000F#16 = 0 ∧
      (bayAt (modBay b (fun y => { y with cway := { y.cway with faults := f } }) s) b).harbour = false) := by
    rintro ⟨hset, hclear, _⟩
    refine hset ?_
    rw [show 0x000C#16 = 0x000F#16 &&& 0x000C#16 from rfl, ← BitVec.and_assoc, hclear]
    exact BitVec.zero_and
  simp only [faultBits, hf, hnew, if_true]
  exact if_neg hstays

/-- What a status cell with no new downstream errors reports of the head (R321). -/
def Cway.headRead (cell : List Byte) (c : Cway) : Cway :=
  { c with
    laser := cellByte cell 2
    inhibit := bitOf (cellByte cell 3) 1
    headEpoch := cellByte cell 7 % 16
    dnErrors := satAdd 4294967295 c.dnErrors 0
    dnSeen := cellField cell 14 2
    rejected := satAdd 4294967295 c.rejected (cellField cell 16 4 - c.rejSeen)
    rejSeen := cellField cell 16 4 }

/-- What such a cell reports, and its acknowledge with no write waiting (R328). -/
def Cway.reported (cell : List Byte) (c : Cway) : Cway :=
  { c.headRead cell with regOut := if cellByte cell 6 = c.regSeq then none else c.regOut }

theorem Cway.reported_eq (cell : List Byte) {c : Cway} (hqueue : c.regQueue = []) :
    (if c.regOut.isSome = true ∧ cellByte cell 6 = c.regSeq then (c.headRead cell).acked else c.headRead cell) = c.reported cell :=
  Cway.acknowledged_empty (c := c.headRead cell) hqueue (cellByte cell 6)

/-- The state after a status cell that reports nothing to act on. -/
def statusTaken (b : BayId) (cell : List Byte) (s : State) : State :=
  noteSc b (cellField cell 8 4) (modBay b (fun y => { y with cway := (bayAt s b).cway.reported cell }) s)

theorem bayBecomes_statusTaken (b : BayId) (cell : List Byte) (s : State) :
    BayBecomes b (stampedBay (cellField cell 8 4) s { bayAt s b with cway := (bayAt s b).cway.reported cell }) s
      (statusTaken b cell s) :=
  (bayBecomes_modBay b (fun y => { y with cway := (bayAt s b).cway.reported cell }) s).modBay _

theorem exec_statusCell (hlink : (bayAt s b).cway.state = 2) (hknown : cellKnown cell = true) (htype : cellType cell = 3)
    (hdn : cellField cell 14 2 ≤ (bayAt s b).cway.dnSeen) (hlaser : cellByte cell 2 ≠ 0) (hqueue : (bayAt s b).cway.regQueue = []) :
    exec (.statusCell b cell) s = .next (faultBits b (BitVec.ofNat 16 (cellField cell 4 2)) (statusTaken b cell s)) := by
  simp only [exec, execStatusCell]
  rw [if_neg (· hlink), if_neg (by simp [hknown]), if_neg (· htype), if_neg (Nat.not_lt.2 hdn),
    if_neg fun h => hlaser h.1, Nat.sub_eq_zero_of_le hdn]
  exact congrArg (fun c => Host.Outcome.next (faultBits b _ (noteSc b _ (modBay b (fun y => { y with cway := c }) s))))
    (Cway.reported_eq cell hqueue)

/-! ### What the cells yield -/

theorem spotSampleCell_inSequence {p : Nat} (hlink : (bayAt s b).cway.state = 2) (hknown : cellKnown cell = true)
    (htype : cellType cell = 1) (hp : ((bayAt s b).cway.seqs[cellByte cell 0 % 16]?).join = some p)
    (hseq : (p + 1) % 256 = cellByte cell 1) :
    Yields (.spotSampleCell b cell) s (BayBecomes b (spotBay cell s (bayAt s b)) s) :=
  ⟨_, (exec_spotSampleCell hlink hknown htype hp).trans (if_pos hseq), bayBecomes_spotTaken b cell s⟩

theorem spotSampleCell_behindGap {p : Nat} (hlink : (bayAt s b).cway.state = 2) (hknown : cellKnown cell = true)
    (htype : cellType cell = 1) (hp : ((bayAt s b).cway.seqs[cellByte cell 0 % 16]?).join = some p)
    (hseq : (p + 1) % 256 ≠ cellByte cell 1) :
    Yields (.spotSampleCell b cell) s (BayBecomes b (gapCounted cell (spotBay cell s (bayAt s b))) s) :=
  ⟨_, (exec_spotSampleCell hlink hknown htype hp).trans (if_neg hseq), (bayBecomes_spotTaken b cell s).modBay _⟩

theorem servoCell_inSequence {p : Nat} (hlink : (bayAt s b).cway.state = 2) (hknown : cellKnown cell = true)
    (htype : cellType cell = 2) (hp : (bayAt s b).servo.cellSeq = some p) (hseq : cellByte cell 1 = (p + 1) % 256) :
    Yields (.servoCell b cell) s (BayBecomes b (joinedBay cell s (bayAt s b)) s) := by
  have hgap : (cellByte cell 1 + 255 - p) % 256 = 0 := by omega
  have hrun := exec_servoCell hlink hknown htype hp
  rw [hgap] at hrun
  exact ⟨_, hrun, bayBecomes_servoJoined b cell s⟩

theorem servoCell_behindGap {p : Nat} (hactive : Active s) (hon : bayEnabled s b = true) (hgate : (bayAt s b).cway.wg = false)
    (hlink : (bayAt s b).cway.state = 2) (hknown : cellKnown cell = true) (htype : cellType cell = 2)
    (hp : (bayAt s b).servo.cellSeq = some p) (hmissing : 2 ≤ (cellByte cell 1 + 255 - p) % 256) :
    Yields (.servoCell b cell) s fun t =>
      HasEvent (bayEvent b 7) 4 (evBytes 2 (bayAt s b).cway.faults.toNat) t ∧
        bayAt t b = missingCounted ((cellByte cell 1 + 255 - p) % 256) (joinedBay cell s (bayAt s b)) ∧ OneBay b s t :=
  ⟨_, exec_servoCell hlink hknown htype hp, servoCellsMissing_reports cell hmissing hactive hon hgate⟩

theorem statusCell_reports (hlink : (bayAt s b).cway.state = 2) (hknown : cellKnown cell = true) (htype : cellType cell = 3)
    (hfaults : cellField cell 4 2 = (bayAt s b).cway.faults.toNat) (hdn : cellField cell 14 2 ≤ (bayAt s b).cway.dnSeen)
    (hlaser : cellByte cell 2 ≠ 0) (hqueue : (bayAt s b).cway.regQueue = []) :
    Yields (.statusCell b cell) s
      (BayBecomes b (stampedBay (cellField cell 8 4) s { bayAt s b with cway := (bayAt s b).cway.reported cell }) s) := by
  have hbits : BitVec.ofNat 16 (cellField cell 4 2) = (bayAt s b).cway.faults := by
    rw [hfaults]
    exact BitVec.ofNat_toNat 16 _
  have htaken := bayBecomes_statusTaken b cell s
  have hrun := exec_statusCell hlink hknown htype hdn hlaser hqueue
  have hsame : (bayAt (statusTaken b cell s) b).cway.faults = (bayAt s b).cway.faults :=
    (congrArg (fun z : Bay => z.cway.faults) htaken.1 :)
  rw [hbits, faultBits_same hsame] at hrun
  exact ⟨_, hrun, htaken.modBay fun y => { y with cway := { y.cway with faults := (bayAt s b).cway.faults } }⟩

end

/-- Settles O42: each kind of cell changes its bay alone, but for the Causeway error of missing servo cells, which is reported. -/
theorem cellsArrive : Obligations.CellsArrive := by
  intro b cell s hactive hon hlink hgate y c spot seq after noted first stamped st heard only bad joined
  refine ⟨fun hknown htype p hp => ⟨spotSampleCell_inSequence hlink hknown htype hp, fun hseq hspot hgap => ?_⟩,
    fun hbad hfew => ?_, fun hknown htype p hp => ⟨fun hseq _ => ?_, fun hmissing => ?_⟩, statusCell_reports hlink⟩
  · obtain ⟨t, hrun, hbay, halone⟩ := spotSampleCell_behindGap hlink hknown htype hp hseq
    exact ⟨t, hrun, hbay.trans (gapCounted_new (y := seqNoted cell c.seqs heard) hspot hgap), halone⟩
  · obtain ⟨hspot, hservo, hstatus⟩ := exec_cell_bad hlink hbad
    have hcounts := badCell_counts hfew
    exact ⟨⟨_, hspot, hcounts⟩, ⟨_, hservo, hcounts⟩, ⟨_, hstatus, hcounts⟩⟩
  · obtain ⟨t, hrun, hbay, halone⟩ := servoCell_inSequence hlink hknown htype hp hseq
    have hservo := congrArg Bay.servo hbay
    exact ⟨t, hrun, ⟨(congrArg Servo.cells hservo :), (congrArg Servo.cellSeq hservo :)⟩, (congrArg Bay.cway hbay :), halone⟩
  · obtain ⟨t, hrun, hevent, hbay, hone⟩ := servoCell_behindGap hactive hon hgate hlink hknown htype hp hmissing
    have hservo := congrArg Bay.servo hbay
    exact ⟨t, hrun, ⟨(congrArg Servo.cells hservo :), (congrArg Servo.cellSeq hservo :)⟩,
      (congrArg (fun z : Bay => z.cway.servoMissing) hbay :), hevent, hone⟩

end Sys2Proof.Machine
end

section
/-! SUPPORT. Training, retraining and faults of a link (R328, R335 to R339): what each leaves of its bay, and the events it raises. -/

namespace Sys2Proof.Machine

open Sys2Proof

/-! ### One bay that becomes another, with what its events reach -/

/-- t is s but for one bay, which is z, and what its events reach: the stores, the power states and the dictionary are as they were. -/
def BayReported (b : BayId) (z : Bay) (s t : State) : Prop :=
  bayAt t b = z ∧ OneBay b s t ∧ t.pwr = s.pwr ∧ t.doors = s.doors

section
variable {b : BayId} {z : Bay} {s u : State}

theorem bayReported_refl (b : BayId) (s : State) : BayReported b (bayAt s b) s s :=
  ⟨rfl, ⟨fun _ _ => rfl, rfl, rfl, rfl, rfl, rfl⟩, rfl, rfl⟩

theorem BayReported.bayAt_eq (h : BayReported b z s u) : bayAt u b = z := h.1

theorem BayReported.oneBay (h : BayReported b z s u) : OneBay b s u := h.2.1

theorem BayReported.modBay (h : BayReported b z s u) (f : Bay → Bay) : BayReported b (f z) s (modBay b f u) := by
  obtain ⟨rfl, ⟨hothers, hstores⟩, hpwr, hdoors⟩ := h
  exact ⟨bayAt_modBay_same b f u, ⟨fun x hx => (bayAt_modBay_other f u hx).trans (hothers x hx), hstores⟩, hpwr, hdoors⟩

theorem bayReported_modBay (b : BayId) (f : Bay → Bay) (s : State) : BayReported b (f (bayAt s b)) s (modBay b f s) :=
  (bayReported_refl b s).modBay f

theorem BayReported.tideRecord (h : BayReported b z s u) : BayReported b z s (tideRecord u) := h

theorem BayReported.num_eq (h : BayReported b z s u) (index sub : Nat) : num u index sub = num s index sub := by
  obtain ⟨_, ⟨_, hpart, _⟩, _, hdoors⟩ := h
  exact num_congr (congrArg Doors.nums hdoors) hpart index sub

theorem BayReported.bayEnabled (h : BayReported b z s u) (hfitted : z.fitted = (bayAt s b).fitted) : bayEnabled u b = bayEnabled s b := by
  have hnum : bnum u b 0 2 = bnum s b 0 2 := h.num_eq ..
  obtain ⟨rfl, ⟨_, hpart, _⟩, _⟩ := h
  have hget : (u.bays.get b).fitted = (s.bays.get b).fitted := hfitted
  simp only [Machine.bayEnabled, hpart, hnum, hget]

/-- An event of an enabled bay is reported, and changes nothing more of the bay and the stores (R475, R504). -/
theorem BayReported.raiseBay {off : Nat} (h : BayReported b z s u) (hoff : off < 10) (cause : Nat) (data : List Nat) (hactive : Active s)
    (hon : Machine.bayEnabled s b = true) (hfitted : z.fitted = (bayAt s b).fitted) :
    let t := raiseBay b off cause data u
    HasEvent (bayEvent b off) cause data t ∧ BayReported b z s t := by
  have hallowed : eventAllowed u (bayEvent b off) = true := (eventAllowed_bay hoff).trans ((h.bayEnabled hfitted).trans hon)
  obtain ⟨rfl, ⟨hothers, hpart, hfw, hhs, hflash, hebb⟩, hpwr, hdoors⟩ := h
  obtain ⟨hbays, hpart', hfw', hhs', hflash', hebb'⟩ := raiseBay_keeps (b := b) (s := u) off cause data
  obtain ⟨_, _, hdoors', _, hpwr', _⟩ := raise_drive (bayEvent b off) cause data u
  obtain ⟨_, hps⟩ := hactive
  exact ⟨raise_hasEvent cause data hallowed (by rw [hpwr]; omega), hbays b,
    ⟨fun x hx => (hbays x).trans (hothers x hx), hpart'.trans hpart, hfw'.trans hfw, hhs'.trans hhs, hflash'.trans hflash,
      hebb'.trans hebb⟩, hpwr'.trans hpwr, hdoors'.trans hdoors⟩

/-- The Causeway error of a bay whose gate is low (R339). -/
theorem BayReported.causewayError (h : BayReported b z s u) (cause : Nat) (hactive : Active s) (hon : Machine.bayEnabled s b = true)
    (hfitted : z.fitted = (bayAt s b).fitted) (hgate : z.cway.wg = false) :
    let t := causewayError b cause u
    HasEvent (bayEvent b 7) cause (evBytes 2 z.cway.faults.toNat) t ∧ BayReported b z s t := by
  have hreported := h.raiseBay (off := 7) (by decide) cause (evBytes 2 z.cway.faults.toNat) hactive hon hfitted
  obtain ⟨rfl, _⟩ := h
  rw [causewayError_gateLow cause hgate]
  exact hreported

end

/-! ### Register writes (R328) -/

/-- d is c but for the register writes that are outstanding and that wait. -/
def Cway.SentOnly (c d : Cway) : Prop :=
  d = { c with regSeq := d.regSeq, regOut := d.regOut, regQueue := d.regQueue }

theorem Cway.SentOnly.trans {c d e : Cway} (h : c.SentOnly d) (h' : d.SentOnly e) : c.SentOnly e :=
  Eq.trans h' (congrArg (fun x : Cway => { x with regSeq := e.regSeq, regOut := e.regOut, regQueue := e.regQueue }) h)

theorem Cway.write_sentOnly (addr v : Nat) (c : Cway) : c.SentOnly (c.write addr v) := by
  unfold Cway.write
  split
  · rfl
  · rfl

/-- With no write outstanding the first of two goes out and the second waits. -/
theorem Cway.write_write {c : Cway} (hout : c.regOut = none) (a v a' v' : Nat) :
    (c.write a v).write a' v' =
      { c with regSeq := (c.regSeq + 1) % 256, regOut := some (a, v, 1), regQueue := c.regQueue ++ [(a', v')] } := by
  have hfirst : c.write a v = { c with regSeq := (c.regSeq + 1) % 256, regOut := some (a, v, 1) } := if_pos (by rw [hout]; rfl)
  rw [hfirst]
  exact if_neg Bool.false_ne_true

/-- The writes of step 7 of Table 9.13 are register writes alone. -/
theorem Cway.firstWrites_sentOnly (power : Nat) (c : Cway) : c.SentOnly (c.firstWrites power) :=
  (((write_sentOnly ..).trans (write_sentOnly ..)).trans (write_sentOnly ..)).trans (write_sentOnly ..)

/-! ### A link comes up (R335, R336, R338) -/

/-- A bay's link is up with an identity block, to a head of the serial given (Table 9.13, R338). -/
structure Bay.LinkIsUp (identity : List Byte) (us delay power : Nat) (serial : List Byte) (z : Bay) : Prop where
  state : z.cway.state = 2
  identity : z.cway.identity = identity
  trainTime : z.cway.trainTime = us
  readPower : z.cway.readPower = power
  spotMask : z.cway.spotMask = 0xF0
  serial : z.cway.serial = serial
  retraining : z.cway.retraining = false
  delay : z.tb.delay = delay

/-- What the report of an event rests on, and the count of retrains, are the same of two bays. -/
def Bay.ReportsAs (y z : Bay) : Prop :=
  z.fitted = y.fitted ∧ z.cway.faults = y.cway.faults ∧ z.cway.retrains = y.cway.retrains

/-- The bay of a head front end with another serial (R286, R338, R399). -/
def newHeadBay (serial : List Byte) (y : Bay) : Bay :=
  { y.stale with
    cway := { y.cway with serial := serial, newHead := true }
    chan := { y.chan with opcAt := List.replicate 24 none, opcDue := true, rejects := List.replicate 24 0 } }

section
variable {b : BayId} {s u : State} {y z : Bay} {identity : List Byte} {us delay power : Nat} {serial : List Byte}
  {reads sets : List (List Byte)}

theorem Bay.LinkIsUp.newHead {known : List Byte} (h : z.LinkIsUp identity us delay power known) :
    (newHeadBay serial z).LinkIsUp identity us delay power serial :=
  { h with serial := rfl }

/-- A link that comes up is a change of its bay; a serial other than the recorded one is that of a new head (R335, R338). -/
theorem linkUp_modBay (b : BayId) (identity : List Byte) (us delay : Nat) (s : State) :
    ∃ f : Bay → Bay,
      (∀ y : Bay, (f y).LinkIsUp identity us delay (num s 0x2830 6) y.cway.serial ∧ y.ReportsAs (f y)) ∧
      linkUp b identity us delay s =
        if identitySerial identity = (bayAt s b).cway.serial then modBay b f s
        else newHead b (identitySerial identity) (modBay b f s) := by
  refine ⟨_, fun y => ?_, rfl⟩
  have hsent := Cway.firstWrites_sentOnly (num s 0x2830 6)
  exact ⟨⟨(congrArg Cway.state (hsent _) :), (congrArg Cway.identity (hsent _) :), (congrArg Cway.trainTime (hsent _) :),
    (congrArg Cway.readPower (hsent _) :), (congrArg Cway.spotMask (hsent _) :), (congrArg Cway.serial (hsent _) :),
    (congrArg Cway.retraining (hsent _) :), rfl⟩, rfl, (congrArg Cway.faults (hsent _) :), (congrArg Cway.retrains (hsent _) :)⟩

theorem linkUp_known (h : BayReported b y s u) (hserial : identitySerial identity = y.cway.serial) :
    ∃ z, z.LinkIsUp identity us delay (num s 0x2830 6) (identitySerial identity) ∧ y.ReportsAs z ∧
      BayReported b z s (linkUp b identity us delay u) ∧ (linkUp b identity us delay u).evt = u.evt := by
  obtain ⟨f, hf, heq⟩ := linkUp_modBay b identity us delay u
  obtain ⟨hup, hsame⟩ := hf y
  have hbay := h.modBay f
  rw [h.num_eq, ← hserial] at hup
  obtain ⟨rfl, _⟩ := h
  rw [heq, if_pos hserial]
  exact ⟨_, hup, hsame, hbay, rfl⟩

/-- A head of another serial raises event 7 with cause 5, and withholds writing (R338). -/
theorem linkUp_newHead (hactive : Active s) (hon : bayEnabled s b = true) (hserial : identitySerial identity ≠ (bayAt s b).cway.serial) :
    ∃ z, (newHeadBay (identitySerial identity) z).LinkIsUp identity us delay (num s 0x2830 6) (identitySerial identity) ∧
      HasEvent (bayEvent b 7) 5 (evBytes 2 (bayAt s b).cway.faults.toNat) (linkUp b identity us delay s) ∧
      BayReported b (newHeadBay (identitySerial identity) z) s (linkUp b identity us delay s) := by
  obtain ⟨f, hf, heq⟩ := linkUp_modBay b identity us delay s
  obtain ⟨hup, hfitted, hfaults, _⟩ := hf (bayAt s b)
  have hbay := ((bayReported_modBay b f s).modBay (newHeadBay (identitySerial identity))).tideRecord
  have hdata : (bayAt (modBay b f s) b).cway.faults = (bayAt s b).cway.faults := by rw [bayAt_modBay_same, hfaults]
  rw [heq, if_neg hserial, ← hdata]
  exact ⟨_, hup.newHead, hbay.raiseBay (by decide) 5 _ hactive hon hfitted⟩

/-! ### An attempt ends without a link (R336) -/

/-- A bay whose next training attempt begins (R336). -/
def attemptBay (y : Bay) : Bay :=
  { y with cway := { y.cway.beginTraining with attempts := y.cway.attempts + 1 } }

/-- A bay whose link is failed (R336). -/
def linkFailedBay (y : Bay) : Bay :=
  { y with cway := { y.cway with state := 3, attempts := 3, rstN := false, len := false } }

theorem trainingFailed_again (hfew : (bayAt s b).cway.attempts < 2) : BayBecomes b (attemptBay (bayAt s b)) s (trainingFailed b s) := by
  unfold trainingFailed
  dsimp only
  rw [if_pos (by omega)]
  exact bayBecomes_modBay b (fun y => { y with cway := { y.cway.beginTraining with attempts := (bayAt s b).cway.attempts + 1 } }) s

/-- The third attempt that fails is reported, and the link with it (R336). -/
theorem trainingFailed_last (hactive : Active s) (hon : bayEnabled s b = true) (hlast : (bayAt s b).cway.attempts = 2) :
    HasEvent (bayEvent b 7) 1 (evBytes 2 (bayAt s b).cway.faults.toNat) (trainingFailed b s) ∧
      BayReported b (linkFailedBay (bayAt s b)) s (trainingFailed b s) := by
  have heq : trainingFailed b s = raiseBay b 7 1 (evBytes 2 (bayAt s b).cway.faults.toNat) (modBay b linkFailedBay s) :=
    if_neg (by rw [hlast]; decide)
  rw [heq]
  exact (bayReported_modBay b linkFailedBay s).raiseBay (by decide) 1 _ hactive hon rfl

/-! ### The outcome of an attempt (R336) -/

/-- Steps 2 to 6 of Table 9.13 end with a good identity block, each lane's TS1 and within 200 ms (R336). -/
def TrainsGood (b : BayId) (identity : List Byte) (reads sets : List (List Byte)) (us : Nat) : Prop :=
  identityRead reads = some identity ∧ identityOk identity = true ∧ lanesOk b sets = true ∧ us ≤ 200000

theorem TrainsGood.trained (h : TrainsGood b identity reads sets us) (delay : Nat) (s : State) :
    trained b reads sets us delay s = linkUp b identity us delay s := by
  obtain ⟨hread, hgood⟩ := h
  simp only [Machine.trained, hread]
  exact if_pos hgood

theorem trained_bad (hbad : ∀ x, identityRead reads = some x → identityOk x = false ∨ lanesOk b sets = false ∨ 200000 < us)
    (delay : Nat) (s : State) : trained b reads sets us delay s = trainingFailed b s := by
  cases hread : identityRead reads with
  | none => simp only [trained, hread]
  | some x =>
    have hnot : ¬(identityOk x = true ∧ lanesOk b sets = true ∧ us ≤ 200000) := by
      rintro ⟨hok, hlanes, hus⟩
      rcases hbad x hread with h | h | h
      · simp [hok] at h
      · simp [hlanes] at h
      · omega
    simp only [trained, hread]
    exact if_neg hnot

theorem exec_linkTraining (hlink : (bayAt s b).cway.state = 1) (hfirst : (bayAt s b).cway.retraining = false) :
    exec (.linkTraining b reads sets us delay) s = .next (trained b reads sets us delay s) :=
  if_neg (by simp [hlink, hfirst])

theorem exec_trainingTimeout (hlink : (bayAt s b).cway.state = 1) : exec (.trainingTimeout b) s = .next (trainingFailed b s) :=
  if_pos hlink

/-! ### Retraining (R337) -/

/-- A bay whose link begins to retrain (R337). -/
def retrainBay (y : Bay) : Bay :=
  { y with
    cway := { y.cway with
      state := 1
      retraining := true
      retrains := satAdd 4294967295 y.cway.retrains 1
      regOut := none
      regQueue := []
      errorsAt := [] } }

/-- With focus open and the gate low there is nothing to lose (R395). -/
theorem focusLost_open (row gateCause : Nat) (hopen : (bayAt s b).servo.closed 0 = false) (hgate : (bayAt s b).cway.wg = false) :
    focusLost b row gateCause s = s :=
  (if_pos hopen).trans (dropGate_low gateCause hgate)

/-- A retrain with focus open and the gate low is reported, and changes the link alone (R337). -/
theorem retrain_begins (hactive : Active s) (hon : bayEnabled s b = true) (hgate : (bayAt s b).cway.wg = false)
    (hlink : (bayAt s b).cway.state = 2) (hopen : (bayAt s b).servo.closed 0 = false) :
    HasEvent (bayEvent b 7) 2 (evBytes 2 (bayAt s b).cway.faults.toNat) (retrain b s) ∧
      BayReported b (retrainBay (bayAt s b)) s (retrain b s) := by
  obtain ⟨hevent, herror⟩ := (bayReported_refl b s).causewayError 2 hactive hon rfl hgate
  have hbegun := herror.modBay retrainBay
  have hopen' : (bayAt (modBay b retrainBay (causewayError b 2 s)) b).servo.closed 0 = false := by
    rw [hbegun.bayAt_eq]
    exact hopen
  have hgate' : (bayAt (modBay b retrainBay (causewayError b 2 s)) b).cway.wg = false := by
    rw [hbegun.bayAt_eq]
    exact hgate
  have heq : retrain b s = modBay b retrainBay (causewayError b 2 s) :=
    (if_neg (· hlink)).trans (focusLost_open 7 3 hopen' hgate')
  rw [heq]
  exact ⟨hevent, hbegun⟩

theorem exec_linkRetrain (hretraining : (bayAt (retrain b s) b).cway.retraining = true) :
    exec (.linkRetrain b reads sets us delay) s = .next (trained b reads sets us delay (retrain b s)) :=
  if_neg (by simp [hretraining])

/-! ### Fault bits (R339, Table 9.14) -/

theorem and_eq_zero_of_within {f m n : BitVec 16} (h : f &&& m = 0) (hwithin : m &&& n = n) : f &&& n = 0 := by
  rw [← hwithin, ← BitVec.and_assoc, h]
  exact BitVec.zero_and

/-- A bay with fault bits noted. -/
def faultsNoted (f : BitVec 16) (y : Bay) : Bay :=
  { y with cway := { y.cway with faults := f } }

/-- A bay with CW_LEN low. -/
def lenLow (y : Bay) : Bay :=
  { y with cway := { y.cway with len := false } }

/-- Bit 2 or 3 where no bit was set is a Causeway error and takes CW_LEN low (Table 9.14). -/
theorem faultBits_servo {f : BitVec 16} (hclear : (bayAt s b).cway.faults = 0) (hothers : f &&& 0x00F3#16 = 0)
    (hservo : f &&& 0x000C#16 ≠ 0) : faultBits b f s = modBay b lenLow (causewayError b 3 (modBay b (faultsNoted f) s)) := by
  have hnew : f &&& ~~~(0 : BitVec 16) = f := BitVec.and_allOnes
  have hinhibit : f &&& 0x00F0#16 = 0 := and_eq_zero_of_within hothers (by decide)
  have hlaser : f &&& 0x0003#16 = 0 := and_eq_zero_of_within hothers (by decide)
  simp only [faultBits, hclear, hnew]
  rw [if_pos hinhibit, if_neg hservo, if_pos hlaser]
  exact if_neg fun h => h.1 (by simp)

theorem exec_cwFltNLow (f : BitVec 16) (hlink : (bayAt s b).cway.state = 2) :
    exec (.cwFltNLow b f) s = .next (faultBits b f s) :=
  if_pos hlink

/-! ### What the commands yield -/

theorem linkTraining_known (hlink : (bayAt s b).cway.state = 1) (hfirst : (bayAt s b).cway.retraining = false)
    (hgood : TrainsGood b identity reads sets us) (hserial : identitySerial identity = (bayAt s b).cway.serial) :
    Yields (.linkTraining b reads sets us delay) s fun t =>
      (bayAt t b).LinkIsUp identity us delay (num s 0x2830 6) (identitySerial identity) ∧ OneBay b s t := by
  obtain ⟨_, hup, _, hbay, _⟩ := linkUp_known (us := us) (delay := delay) (bayReported_refl b s) hserial
  refine ⟨_, (exec_linkTraining hlink hfirst).trans (congrArg _ (hgood.trained delay s)), ?_, hbay.oneBay⟩
  rwa [hbay.bayAt_eq]

theorem linkTraining_newHead (hactive : Active s) (hon : bayEnabled s b = true) (hlink : (bayAt s b).cway.state = 1)
    (hfirst : (bayAt s b).cway.retraining = false) (hgood : TrainsGood b identity reads sets us)
    (hserial : identitySerial identity ≠ (bayAt s b).cway.serial) :
    Yields (.linkTraining b reads sets us delay) s fun t =>
      HasEvent (bayEvent b 7) 5 (evBytes 2 (bayAt s b).cway.faults.toNat) t ∧
        (∃ z, bayAt t b = newHeadBay (identitySerial identity) z) ∧
        (bayAt t b).LinkIsUp identity us delay (num s 0x2830 6) (identitySerial identity) ∧ OneBay b s t := by
  obtain ⟨z, hup, hevent, hbay⟩ := linkUp_newHead (us := us) (delay := delay) hactive hon hserial
  refine ⟨_, (exec_linkTraining hlink hfirst).trans (congrArg _ (hgood.trained delay s)), hevent, ⟨z, hbay.bayAt_eq⟩, ?_, hbay.oneBay⟩
  rwa [hbay.bayAt_eq]

theorem linkRetrain_known (hactive : Active s) (hon : bayEnabled s b = true) (hgate : (bayAt s b).cway.wg = false)
    (hlink : (bayAt s b).cway.state = 2) (hopen : (bayAt s b).servo.closed 0 = false) (hgood : TrainsGood b identity reads sets us)
    (hserial : identitySerial identity = (bayAt s b).cway.serial) :
    Yields (.linkRetrain b reads sets us delay) s fun t =>
      HasEvent (bayEvent b 7) 2 (evBytes 2 (bayAt s b).cway.faults.toNat) t ∧
        (bayAt t b).cway.retrains = satAdd 4294967295 (bayAt s b).cway.retrains 1 ∧
        (bayAt t b).LinkIsUp identity us delay (num s 0x2830 6) (identitySerial identity) ∧ OneBay b s t := by
  obtain ⟨hevent, hbegun⟩ := retrain_begins hactive hon hgate hlink hopen
  have hretraining : (bayAt (retrain b s) b).cway.retraining = true := by
    rw [hbegun.bayAt_eq]
    rfl
  obtain ⟨_, hup, ⟨_, _, hretrains⟩, hbay, hevt⟩ := linkUp_known (us := us) (delay := delay) hbegun hserial
  refine ⟨_, (exec_linkRetrain hretraining).trans (congrArg _ (hgood.trained delay _)), ?_, ?_, ?_, hbay.oneBay⟩
  · unfold HasEvent
    rw [hevt]
    exact hevent
  · rw [hbay.bayAt_eq]
    exact hretrains
  · rwa [hbay.bayAt_eq]

theorem cwFltNLow_servo {f : BitVec 16} (hactive : Active s) (hon : bayEnabled s b = true) (hgate : (bayAt s b).cway.wg = false)
    (hlink : (bayAt s b).cway.state = 2) (hclear : (bayAt s b).cway.faults = 0) (hothers : f &&& 0x00F3#16 = 0)
    (hservo : f &&& 0x000C#16 ≠ 0) :
    Yields (.cwFltNLow b f) s fun t =>
      HasEvent (bayEvent b 7) 3 (evBytes 2 f.toNat) t ∧ bayAt t b = lenLow (faultsNoted f (bayAt s b)) ∧ OneBay b s t := by
  obtain ⟨hevent, herror⟩ := (bayReported_modBay b (faultsNoted f) s).causewayError 3 hactive hon rfl hgate
  have hlow := herror.modBay lenLow
  exact ⟨_, (exec_cwFltNLow f hlink).trans (congrArg _ (faultBits_servo hclear hothers hservo)), hevent, hlow.bayAt_eq, hlow.oneBay⟩

theorem registerAckTimeout_again {a v n : Nat} (hout : (bayAt s b).cway.regOut = some (a, v, n)) (hfew : n < 8) :
    Yields (.registerAckTimeout b) s
      (BayBecomes b { bayAt s b with cway := { (bayAt s b).cway with regOut := some (a, v, n + 1) } } s) := by
  refine ⟨_, ?_, bayBecomes_modBay b (fun y => { y with cway := { y.cway with regOut := some (a, v, n + 1) } }) s⟩
  simp only [exec, execRegisterAckTimeout, hout]
  exact if_pos hfew

/-- The bay whose laser fault bits are written back and whose lasers are set to mode 1 (R339). -/
def laserCleared (y : Bay) : Bay :=
  { y with
    cway := (({ y.cway with len := y.cway.faults &&& 0x000C#16 = 0 }).write 4 (y.cway.faults &&& 0x0003#16).toNat).write 0 1 }

theorem laserCleared_cway (hout : y.cway.regOut = none) :
    (laserCleared y).cway = { y.cway with
      len := y.cway.faults &&& 0x000C#16 = 0
      regSeq := (y.cway.regSeq + 1) % 256
      regOut := some (4, (y.cway.faults &&& 0x0003#16).toNat, 1)
      regQueue := y.cway.regQueue ++ [(0, 1)] } :=
  Cway.write_write (c := { y.cway with len := y.cway.faults &&& 0x000C#16 = 0 }) hout ..

theorem laserFaultClear_writes (hlink : (bayAt s b).cway.state = 2) (hlaser : (bayAt s b).cway.faults &&& 0x0003#16 ≠ 0)
    (hharbour : (bayAt s b).harbour = false) :
    Yields (.laserFaultClear b) s (BayBecomes b (laserCleared (bayAt s b)) s) := by
  refine ⟨_, if_neg ?_, bayBecomes_modBay b laserCleared s⟩
  rintro (h | h | h)
  · exact h hlink
  · exact hlaser h
  · simp [hharbour] at h

end

/-- Settles O43: a link that comes up, fails or retrains is a change of its bay with the Causeway event of its cause. -/
theorem linkTrains : Obligations.LinkTrains := by
  intro b s identity reads sets us delay hactive hon hgate y c good bad link up attempt failed
  have hup : ∀ t, (bayAt t b).LinkIsUp identity us delay (num s 0x2830 6) (identitySerial identity) ∧ OneBay b s t → up t :=
    fun t ⟨h, hone⟩ =>
      ⟨h.state, h.identity, h.trainTime, h.readPower, h.spotMask, h.serial, h.retraining, h.delay, hone⟩
  have hagain : c.attempts < 2 → attempt (trainingFailed b s) := fun hfew => by
    obtain ⟨hbay, halone⟩ := trainingFailed_again hfew
    have hcway := congrArg Bay.cway hbay
    exact ⟨(congrArg Cway.state hcway :), (congrArg Cway.attempts hcway :), halone.1, halone.2, halone.storesKept⟩
  have hlast : c.attempts = 2 → failed (trainingFailed b s) := fun hthird => by
    obtain ⟨hevent, hbay⟩ := trainingFailed_last hactive hon hthird
    have hcway := congrArg Bay.cway hbay.bayAt_eq
    exact ⟨hevent, (congrArg Cway.state hcway :), (congrArg Cway.len hcway :), hbay.oneBay⟩
  refine ⟨fun hlink hfirst => ⟨fun hgood hserial => ?_, fun hgood hserial => ?_, fun hbad hfew => ?_, fun hbad hthird => ?_,
      fun hfew => ⟨_, exec_trainingTimeout hlink, hagain hfew⟩, fun hthird => ⟨_, exec_trainingTimeout hlink, hlast hthird⟩⟩,
    fun hlink hopen hgood hserial => ?_, fun _ _ _ hout hfew => registerAckTimeout_again hout hfew,
    fun _ hlink hclear hothers hservo => cwFltNLow_servo hactive hon hgate hlink hclear hothers hservo,
    fun hlink hlaser hservo hharbour hout => ?_⟩
  · obtain ⟨t, hrun, h⟩ := linkTraining_known hlink hfirst hgood hserial
    exact ⟨t, hrun, hup t h⟩
  · obtain ⟨t, hrun, hevent, ⟨_, hbay⟩, h⟩ := linkTraining_newHead hactive hon hlink hfirst hgood hserial
    exact ⟨t, hrun, hevent, (congrArg (fun z : Bay => z.cway.newHead) hbay :), (congrArg (fun z : Bay => z.servo.fresh) hbay :),
      (congrArg (fun z : Bay => z.chan.opcDue) hbay :), hup t h⟩
  · exact ⟨_, (exec_linkTraining hlink hfirst).trans (congrArg _ (trained_bad hbad delay s)), hagain hfew⟩
  · exact ⟨_, (exec_linkTraining hlink hfirst).trans (congrArg _ (trained_bad hbad delay s)), hlast hthird⟩
  · obtain ⟨t, hrun, hevent, hretrains, h⟩ := linkRetrain_known hactive hon hgate hlink hopen hgood hserial
    exact ⟨t, hrun, hevent, hretrains, hup t h⟩
  · obtain ⟨t, hrun, hbay, halone⟩ := laserFaultClear_writes hlink hlaser hharbour
    have hcway := (congrArg Bay.cway hbay).trans (laserCleared_cway (y := y) hout)
    exact ⟨t, hrun, (congrArg Cway.len hcway).trans (decide_eq_true hservo), (congrArg Cway.regOut hcway :),
      (congrArg Cway.regQueue hcway :), halone⟩

end Sys2Proof.Machine
end

section
/-! SUPPORT. The event queue's firing and the sled encoder (R354 to R356, R360, R361): what the first entry leaves of its bay, and
what a pair of encoder samples counts. -/

namespace Sys2Proof.Machine

open Sys2Proof

/-- A bay that alone changes is as it was to the events it raises. -/
theorem BayAlone.reported {b : BayId} {s t : State} (h : BayAlone b s t) : BayReported b (bayAt t b) s t := by
  have ⟨heq, hothers⟩ := h
  exact ⟨rfl, ⟨hothers, h.storesKept⟩, (congrArg State.pwr heq :), (congrArg State.doors heq :)⟩

/-! ### The first entry leaves the queue (R355) -/

section
variable {b : BayId} {s : State} {e : QEvent} {rest : List QEvent}

/-- A bay whose first entry has left the queue, with its angle at that entry's stamp (R355). -/
def dequeuedBay (e : QEvent) (rest : List QEvent) (now ps : Nat) (y : Bay) : Bay :=
  { y with tb := { y.tb with queue := rest, angle := max now e.stamp, anchor := max y.tb.anchor ps } }

/-- The state in which the first entry of a bay's queue takes effect. -/
def dequeued (b : BayId) (e : QEvent) (rest : List QEvent) (s : State) : State :=
  modBay b (dequeuedBay e rest (presentAngle s b) (nowPs s)) s

theorem exec_eventFire (hqueue : (bayAt s b).tb.queue = e :: rest) :
    exec (.eventFire b) s = .next (fireEvent b e (dequeued b e rest s)) := by
  simp only [exec, execEventFire, hqueue]
  rfl

theorem bayAt_dequeued (b : BayId) (e : QEvent) (rest : List QEvent) (s : State) :
    bayAt (dequeued b e rest s) b = dequeuedBay e rest (presentAngle s b) (nowPs s) (bayAt s b) :=
  bayAt_modBay_same ..

/-- The angle stands at the entry's stamp, or where it was beyond it: no time has passed since (R345). -/
theorem presentAngle_dequeued (b : BayId) (e : QEvent) (rest : List QEvent) (s : State) :
    presentAngle (dequeued b e rest s) b = max (presentAngle s b) e.stamp := by
  have helapsed : nowPs (dequeued b e rest s) - max (bayAt s b).tb.anchor (nowPs s) = 0 :=
    Nat.sub_eq_zero_of_le (Nat.le_max_right ..)
  simp only [presentAngle.eq_1 (dequeued b e rest s), bayAt_dequeued, dequeuedBay, helapsed]
  simp

/-- Whether the gate may rise rests on nothing that leaves the queue with an entry (R393). -/
theorem mayRaiseGate_dequeued (b : BayId) (e : QEvent) (rest : List QEvent) (s : State) :
    mayRaiseGate (dequeued b e rest s) b = mayRaiseGate s b := by
  unfold mayRaiseGate
  rw [bayAt_dequeued]
  rfl

/-- An entry whose effect is a change of its bay makes that change of the bay it has left. -/
theorem eventFire_modBay {f : Bay → Bay} (hqueue : (bayAt s b).tb.queue = e :: rest)
    (hfire : fireEvent b e (dequeued b e rest s) = modBay b f (dequeued b e rest s)) :
    Yields (.eventFire b) s
      (BayBecomes b (f (dequeuedBay e rest (presentAngle s b) (nowPs s) (bayAt s b))) s) :=
  ⟨_, (exec_eventFire hqueue).trans (congrArg _ hfire), (bayBecomes_modBay b _ s).modBay f⟩

/-! ### The entries' effects (Table 10.5) -/

variable (b s)

/-- The bay whose write gate is set to v. -/
def gateSet (v : Bool) (y : Bay) : Bay :=
  { y with cway := { y.cway with wg := v } }

theorem fireEvent_gateLow (hkind : e.kind = 1) : fireEvent b e s = modBay b (gateSet false) s := by
  unfold fireEvent
  rw [hkind]
  rfl

/-- The bay with a power change in force. -/
def powerSet (arg : Nat) (y : Bay) : Bay :=
  { y with tb := { y.tb with powerInForce := arg } }

theorem fireEvent_power (hkind : e.kind = 2) : fireEvent b e s = modBay b (powerSet e.arg) s := by
  unfold fireEvent
  rw [hkind]
  rfl

/-- The bay with its timebase and servo state at an angle captured. -/
def capturedBay (arg angle : Nat) (y : Bay) : Bay :=
  { y with tb := { y.tb with captured := some (y.snap arg angle) } }

theorem fireEvent_capture (hkind : e.kind = 3) :
    fireEvent b e s = modBay b (capturedBay e.arg (presentAngle s b)) s := by
  unfold fireEvent
  rw [hkind]
  rfl

/-- An update of a loop applies its output; that of loop 3, closed, is also the sled's speed. -/
theorem fireEvent_loop (hkind : e.kind = 4) :
    ∃ f : Bay → Bay, fireEvent b e s = modBay b f s ∧
      ∀ y, (f y).servo = y.servo.applyLoop e.arg ∧ (f y).tb = { y.tb with updates := y.tb.updates + 1 } := by
  unfold fireEvent
  rw [hkind]
  exact ⟨_, rfl, fun _ => ⟨rfl, rfl⟩⟩

/-- The bay whose row's marks go on from here. -/
def resumed (y : Bay) : Bay :=
  { y with chan := { y.chan with resumeFrom := none } }

theorem fireEvent_gateHigh (hkind : e.kind = 5) (hmay : mayRaiseGate s b = true) :
    fireEvent b e s = modBay b (fun y => resumed (gateSet true y)) s := by
  unfold fireEvent
  rw [hkind]
  exact if_pos hmay

/-- The bay whose row passes unwritten (R219). -/
def rowLapsed (y : Bay) : Bay :=
  { y with chan := { y.chan with rowActive := false, frames := if y.chan.resumeFrom.isSome then y.chan.frames else [] } }

theorem fireEvent_rowLapses (hkind : e.kind = 5) (hmay : mayRaiseGate s b = false) :
    fireEvent b e s = modBay b rowLapsed s := by
  unfold fireEvent
  rw [hkind]
  exact if_neg (by simp [hmay])

/-- A loop with a computed output takes it when its update fires. -/
theorem Servo.applyLoop_next {v : Servo} {i : Nat} {l : Loop} {u : Int} (hloop : v.loops[i]? = some l) (hnext : l.next = some u) :
    (v.applyLoop i).loops[i]? = some { l with out := u, next := none } := by
  simp only [Servo.applyLoop, Servo.modLoop, modNth_same, hloop, Option.map_some, hnext]

end

/-! ### The sled encoder (R360, R361) -/

section
variable {b : BayId} {s : State} {lineA lineB : Bool} {samples : Nat}

/-- The step from the last samples to a pair of them. -/
def encStep (lineA lineB : Bool) (t : Tb) : Option Int :=
  quadStep t.encAB (lineA.toNat * 2 + lineB.toNat)

/-- The count after a pair of samples. -/
def encCount (lineA lineB : Bool) (t : Tb) : Int :=
  t.encoder + (encStep lineA lineB t).getD 0

/-- A skip follows another within 1,024 samples (R361). -/
def skipsTwice (lineA lineB : Bool) (samples : Nat) (t : Tb) : Bool :=
  (encStep lineA lineB t).isNone && match t.encSkipAt with
    | some k => decide (t.encAt + max 1 samples < k + 1024)
    | none => false

theorem skipsTwice_of_step {t : Tb} {d : Int} (hstep : encStep lineA lineB t = some d) : skipsTwice lineA lineB samples t = false := by
  simp [skipsTwice, hstep]

theorem skipsTwice_first {t : Tb} (hfirst : t.encSkipAt = none) : skipsTwice lineA lineB samples t = false := by
  simp [skipsTwice, hfirst]

theorem skipsTwice_soon {t : Tb} {k : Nat} (hstep : encStep lineA lineB t = none) (hskip : t.encSkipAt = some k)
    (hsoon : t.encAt + max 1 samples < k + 1024) : skipsTwice lineA lineB samples t = true := by
  simp [skipsTwice, hstep, hskip, hsoon]

/-- A count lies within the limit of every count of the last 1,024 samples (R361). -/
def CountsNear (lim : Nat) (cnt : Int) (t : Tb) : Prop :=
  (cnt - t.encBase).natAbs ≤ lim ∧ ∀ p ∈ t.encHist, (cnt - p.2).natAbs ≤ lim

/-- The count at the start of the last 1,024 samples. -/
def baseCount (now : Nat) (t : Tb) : Int :=
  match t.encHist.find? fun p => decide (p.1 + 1024 ≤ now) with
  | some p => p.2
  | none => t.encBase

theorem CountsNear.baseCount {lim : Nat} {cnt : Int} {t : Tb} (h : CountsNear lim cnt t) (now : Nat) :
    (cnt - baseCount now t).natAbs ≤ lim := by
  obtain ⟨hbase, hhist⟩ := h
  unfold Machine.baseCount
  split
  · next p hfound => exact hhist p (List.mem_of_find?_eq_some hfound)
  · exact hbase

/-- The count has moved by more than the limit over some of the last 1,024 samples (R361). -/
def countWide (lim now : Nat) (cnt : Int) (t : Tb) : Bool :=
  decide (lim < (cnt - baseCount now t).natAbs) ||
    ((now, cnt) :: t.encHist.filter fun p => decide (now < p.1 + 1024)).any fun p => decide (lim < (cnt - p.2).natAbs)

theorem CountsNear.notWide {lim : Nat} {cnt : Int} {t : Tb} (h : CountsNear lim cnt t) (now : Nat) :
    countWide lim now cnt t = false := by
  have hbase := h.baseCount now
  obtain ⟨_, hhist⟩ := h
  have hkept : ∀ p ∈ t.encHist, now < p.1 + 1024 → (cnt - p.2).natAbs ≤ lim := fun p hp _ => hhist p hp
  simpa [countWide, hbase] using hkept

/-- The bay after a pair of samples; wide tells that its count has moved too far. -/
def encodedBay (lineA lineB wide : Bool) (samples : Nat) (y : Bay) : Bay :=
  let now := y.tb.encAt + max 1 samples
  let cnt := encCount lineA lineB y.tb
  { y with tb := { y.tb with
    encAB := lineA.toNat * 2 + lineB.toNat
    encAt := now
    encoder := cnt
    encHist := (now, cnt) :: y.tb.encHist.filter fun p => decide (now < p.1 + 1024)
    encBase := baseCount now y.tb
    skips := if (encStep lineA lineB y.tb).isNone then satAdd 4294967295 y.tb.skips 1 else y.tb.skips
    encSkipAt := if (encStep lineA lineB y.tb).isNone then some now else y.tb.encSkipAt
    uncertain := y.tb.uncertain || skipsTwice lineA lineB samples y.tb || wide } }

theorem encodedBay_step {y : Bay} {d : Int} (hstep : encStep lineA lineB y.tb = some d) :
    let x := (encodedBay lineA lineB false samples y).tb
    x.encoder = y.tb.encoder + d ∧ x.skips = y.tb.skips ∧ x.uncertain = y.tb.uncertain := by
  simp [encodedBay, encCount, hstep, skipsTwice_of_step hstep]

theorem encodedBay_firstSkip {y : Bay} (hstep : encStep lineA lineB y.tb = none) (hfirst : y.tb.encSkipAt = none) :
    let x := (encodedBay lineA lineB false samples y).tb
    x.encoder = y.tb.encoder ∧ x.skips = satAdd 4294967295 y.tb.skips 1 ∧ x.uncertain = y.tb.uncertain := by
  simp [encodedBay, encCount, hstep, skipsTwice_first hfirst]

theorem encodedBay_skipsTwice {y : Bay} (htwice : skipsTwice lineA lineB samples y.tb = true) :
    (encodedBay lineA lineB false samples y).tb.uncertain = true := by
  simp [encodedBay, htwice]

theorem exec_encoderCount (huse : bnum s b 0x80 0x0C = 1) :
    let t := (bayAt s b).tb
    let wide := countWide (encLimit (bnum s b 0x80 0x0D)) (t.encAt + max 1 samples) (encCount lineA lineB t) t
    let u := modBay b (encodedBay lineA lineB wide samples) s
    exec (.encoderCount b lineA lineB samples) s =
      if (skipsTwice lineA lineB samples t = true ∨ wide = true) ∧ t.uncertain = false then .next (raiseBay b 5 1 [] u) else .next u :=
  if_neg (· huse)

variable (huse : bnum s b 0x80 0x0C = 1)
  (hnear : CountsNear (encLimit (bnum s b 0x80 0x0D)) (encCount lineA lineB (bayAt s b).tb) (bayAt s b).tb)
include huse hnear

/-- A near count that is no second skip is taken, and nothing more (R360). -/
theorem encoderCount_counts (honce : skipsTwice lineA lineB samples (bayAt s b).tb = false) :
    Yields (.encoderCount b lineA lineB samples) s
      (BayBecomes b (encodedBay lineA lineB false samples (bayAt s b)) s) := by
  have hrun := exec_encoderCount (lineA := lineA) (lineB := lineB) (samples := samples) huse
  simp only [hnear.notWide, honce] at hrun
  exact ⟨_, hrun.trans (if_neg (by simp)), bayBecomes_modBay ..⟩

/-- A second skip within 1,024 samples is reported (R361). -/
theorem encoderCount_skipsTwice (hactive : Active s) (hon : bayEnabled s b = true)
    (htwice : skipsTwice lineA lineB samples (bayAt s b).tb = true) (hcertain : (bayAt s b).tb.uncertain = false) :
    Yields (.encoderCount b lineA lineB samples) s fun t =>
      HasEvent (bayEvent b 5) 1 [] t ∧ BayReported b (encodedBay lineA lineB false samples (bayAt s b)) s t := by
  have hrun := exec_encoderCount (lineA := lineA) (lineB := lineB) (samples := samples) huse
  simp only [hnear.notWide, htwice, hcertain] at hrun
  exact ⟨_, hrun.trans (if_pos (by simp)), (bayReported_modBay b _ s).raiseBay (by decide) 1 [] hactive hon rfl⟩

end

/-- Settles O45: an entry's effect is a change of the bay whose queue it has left, and a pair of samples a change of its timebase. -/
theorem firingAndEncoder : Obligations.FiringAndEncoder := by
  intro b s e rest lineA lineB samples hactive hon y t0 fired ab step cnt lim near
  have hfired : ∀ {z : Bay} {t : State}, BayBecomes b z s t → z.tb.queue = rest →
      z.tb.angle = max (presentAngle s b) e.stamp → fired t := by
    rintro z t ⟨rfl, halone⟩ hrest hangle
    exact ⟨hrest, hangle, halone⟩
  refine ⟨fun hqueue => ⟨fun hkind => ?_, fun hkind => ?_, fun hkind => ?_, fun l u hkind hloop hnext => ?_, fun hkind hmay => ?_,
      fun hkind hmay => ?_⟩,
    fun huse hnear => ⟨fun d hstep => ?_, fun hstep hfirst => ?_, fun k hstep hskip hsoon hcertain => ?_⟩⟩
  · obtain ⟨t, hrun, h⟩ := eventFire_modBay hqueue (fireEvent_gateLow b _ hkind)
    exact ⟨t, hrun, (congrArg Bay.cway h.1 :), (congrArg Bay.servo h.1 :), hfired h rfl rfl⟩
  · obtain ⟨t, hrun, h⟩ := eventFire_modBay hqueue (fireEvent_power b _ hkind)
    exact ⟨t, hrun, (congrArg (fun z : Bay => z.tb.powerInForce) h.1 :), (congrArg Bay.cway h.1 :), hfired h rfl rfl⟩
  · obtain ⟨t, hrun, h⟩ := eventFire_modBay hqueue (fireEvent_capture b _ hkind)
    rw [presentAngle_dequeued] at h
    exact ⟨t, hrun, (congrArg (fun z : Bay => z.tb.captured) h.1 :), (congrArg Bay.servo h.1 :), hfired h rfl rfl⟩
  · obtain ⟨f, hfire, hf⟩ := fireEvent_loop b (dequeued b e rest s) hkind
    obtain ⟨t, hrun, h⟩ := eventFire_modBay hqueue hfire
    obtain ⟨hservo, htb⟩ := hf (dequeuedBay e rest (presentAngle s b) (nowPs s) y)
    have hloops := (congrArg (fun z : Bay => z.servo.loops[e.arg]?) h.1).trans (congrArg (fun v : Servo => v.loops[e.arg]?) hservo)
    have hupdates := (congrArg (fun z : Bay => z.tb.updates) h.1).trans (congrArg Tb.updates htb)
    exact ⟨t, hrun, hloops.trans (Servo.applyLoop_next hloop hnext), hupdates,
      hfired h (congrArg Tb.queue htb) (congrArg Tb.angle htb)⟩
  · have hmay' := (mayRaiseGate_dequeued b e rest s).trans hmay
    obtain ⟨t, hrun, h⟩ := eventFire_modBay hqueue (fireEvent_gateHigh b _ hkind hmay')
    exact ⟨t, hrun, (congrArg Bay.cway h.1 :), hfired h rfl rfl⟩
  · have hmay' := (mayRaiseGate_dequeued b e rest s).trans hmay
    obtain ⟨t, hrun, h⟩ := eventFire_modBay hqueue (fireEvent_rowLapses b _ hkind hmay')
    exact ⟨t, hrun, (congrArg Bay.cway h.1 :), (congrArg (fun z : Bay => z.chan.rowActive) h.1 :), hfired h rfl rfl⟩
  · obtain ⟨t, hrun, hbay, halone⟩ := encoderCount_counts huse hnear (skipsTwice_of_step (samples := samples) hstep)
    obtain ⟨hcount, hskips, hcertain⟩ := encodedBay_step (samples := samples) hstep
    rw [← hbay] at hcount hskips hcertain
    exact ⟨t, hrun, hcount, hskips, hcertain, halone⟩
  · obtain ⟨t, hrun, hbay, halone⟩ := encoderCount_counts huse hnear (skipsTwice_first (samples := samples) hfirst)
    obtain ⟨hcount, hskips, hcertain⟩ := encodedBay_firstSkip (samples := samples) hstep hfirst
    rw [← hbay] at hcount hskips hcertain
    exact ⟨t, hrun, hcount, hskips, hcertain, halone⟩
  · have htwice := skipsTwice_soon hstep hskip hsoon
    obtain ⟨t, hrun, hevent, hbay⟩ := encoderCount_skipsTwice huse hnear hactive hon htwice hcertain
    exact ⟨t, hrun, hevent, (congrArg (fun z : Bay => z.tb.uncertain) hbay.bayAt_eq).trans (encodedBay_skipsTwice htwice), hbay.oneBay⟩

end Sys2Proof.Machine
end

section
/-! SUPPORT. Windows of the timebase (R345, R347 to R353, R359): the lock on a third candidate, what a window closes with, and the commit
of its outcome in a bay that neither writes, focuses nor tracks. -/

namespace Sys2Proof.Machine

open Sys2Proof

/-! ### Acquire (R347) -/

section
variable {b : BayId} {s : State} {cand : Cand}

/-- The last three candidates of acquire, newest first. -/
def runWith (p : Placed) (t : Tb) : List (Nat × Nat) :=
  ((p.wedge / 2, p.t) :: t.lockRun).take 3

/-- The bay whose timebase locks at wedge w, at a candidate's time (R347). -/
def lockedBay (w period time : Nat) (y : Bay) : Bay :=
  { y with tb := { y.tb with
    state := 2
    period := period
    pred := time + period
    wedge := w + 1
    angle := w * wedgeUnits + 874
    anchor := time
    rate := period
    lockRun := []
    missed := 0
    closed := none } }

theorem bayBecomes_lockOn (b : BayId) (index t1 t3 : Nat) (s : State) :
    BayBecomes b (lockedBay (wedgeFrom (presentAngle s b) index) ((t3 - t1) / 2) t3 (bayAt s b)) s (lockOn b index t1 t3 s) :=
  bayBecomes_modBay ..

/-- The absolute wedge number is that of the index, in whichever revolution. -/
theorem wedgeFrom_next_mod (angle index : Nat) : (wedgeFrom angle index + 1) % 960 = (index + 1) % 960 := by
  unfold wedgeFrom
  dsimp only
  split <;> omega

theorem confirmLayer_confirmed (l : Nat) (h : (bayAt s b).servo.confirming = false) : confirmLayer b l s = s :=
  if_pos h

/-- The bay with the candidates of acquire noted. -/
def runNoted (run : List (Nat × Nat)) (y : Bay) : Bay :=
  { y with tb := { y.tb with lockRun := run } }

theorem exec_acquireLock (hstate : (bayAt s b).tb.state = 1) (hlayer : parityOk 6 (placeCand (bayAt s b) cand).layer = true)
    (hwedge : parityOk 11 (placeCand (bayAt s b) cand).wedge = true) :
    let p := placeCand (bayAt s b) cand
    let run := runWith p (bayAt s b).tb
    exec (.acquireLock b cand) s =
      if lockFits (bayAt s b).spin.speed run = true then
        .next (confirmLayer b (p.layer / 2) (lockOn b (p.wedge / 2) (run.getD 2 (0, 0)).2 p.t s))
      else .next (modBay b (runNoted run) s) :=
  if_neg (by simp [hstate, hlayer, hwedge])

/-! ### A window closes (R348 to R352) -/

/-- The candidates of a window that no check rejects. -/
def goodCands (least : Nat) (y : Bay) (cands : List Cand) : List Placed :=
  (((cands.map (placeCand y)).filter fun c => decide (c.spot < 4 ∧ least ≤ c.corr)).filter (insideWindow y.tb)).filter
    fun c => candFails y.servo y.tb c == 0

/-- The standing candidates of a window, by spot (R350). -/
def standingCands (least : Nat) (y : Bay) (cands : List Cand) : List Placed :=
  (List.range 4).filterMap fun i => standingOf y.tb.pred i (goodCands least y cands)

theorem standingOf_nil (pred spot : Nat) : standingOf pred spot [] = none := rfl

theorem standingOf_single (pred spot : Nat) (p : Placed) : standingOf pred spot [p] = if p.spot = spot then some p else none := by
  by_cases h : p.spot = spot <;> simp [standingOf, h]

theorem standingCands_outside {least : Nat} {y : Bay} {cands : List Cand}
    (h : ∀ c ∈ cands, insideWindow y.tb (placeCand y c) = false) : standingCands least y cands = [] := by
  have hgood : goodCands least y cands = [] := by
    simp only [goodCands, List.filter_eq_nil_iff, List.mem_filter, List.mem_map]
    rintro _ ⟨⟨⟨c, hc, rfl⟩, _⟩, hin⟩
    simp [h c hc] at hin
  simp [standingCands, hgood, standingOf_nil]

/-- Of the four trailing spots one is that of a candidate. -/
theorem filterMap_spot (p : Placed) :
    ∀ spot < 4, (List.range 4).filterMap (fun i => if spot = i then some p else none) = [p]
  | 0, _ => rfl
  | 1, _ => rfl
  | 2, _ => rfl
  | 3, _ => rfl
  | n + 4, h => absurd h (by omega)

theorem standingCands_single {least : Nat} {y : Bay} (hspot : cand.spot < 4) (hcorr : least ≤ cand.corr)
    (hin : insideWindow y.tb (placeCand y cand) = true) (hgood : candFails y.servo y.tb (placeCand y cand) = 0) :
    standingCands least y [cand] = [placeCand y cand] := by
  have hone : goodCands least y [cand] = [placeCand y cand] := by
    have hreal : (placeCand y cand).spot < 4 ∧ least ≤ (placeCand y cand).corr := ⟨hspot, hcorr⟩
    simp [goodCands, hreal, hin, hgood]
  have hplaced : (placeCand y cand).spot = cand.spot := rfl
  simp only [standingCands, hone, standingOf_single, hplaced]
  exact filterMap_spot _ _ hspot

/-- The mean time of a window's standing candidates: none of a missed wedge (R350, R352). -/
def meanTime (stand : List Placed) : Option Nat :=
  if stand = [] then none else some (sumOf (stand.map Placed.t) / stand.length)

theorem meanTime_single (p : Placed) : meanTime [p] = some p.t := by
  simp [meanTime, sumOf]

/-- The bay whose window has closed with these standing candidates. -/
def windowBay (stand : List Placed) (counts : List Nat) (kp kf coastLim : Nat) (y : Bay) : Bay :=
  { y with tb := { y.tb with
    state := if stand = [] then 3 else y.tb.state
    rejectedC := (y.tb.rejectedC.zip counts).map fun p => satAdd 4294967295 p.1 p.2
    closed := some (meanTime stand)
    standing := stand.map fun c => (c.spot, burstError (y.servo.track + c.spot) c, grayDecode c.track)
    kp := kp
    kf := kf
    coastLim := coastLim } }

theorem windowClose_closes (cands : List Cand) (hstate : (bayAt s b).tb.state = 2 ∨ (bayAt s b).tb.state = 3)
    (hopen : (bayAt s b).tb.closed = none) :
    ∃ counts kp kf coastLim, Yields (.windowClose b cands) s
      (BayBecomes b (windowBay (standingCands (bnum s b 0x80 3) (bayAt s b) cands) counts kp kf coastLim (bayAt s b)) s) := by
  have hruns : ¬((bayAt s b).tb.state ≠ 2 ∧ (bayAt s b).tb.state ≠ 3 ∨ (bayAt s b).tb.closed.isSome = true) := by
    simp [hopen]
    omega
  exact ⟨_, _, _, _, _, if_neg hruns, bayBecomes_modBay b (windowBay _ _ _ _ _) s⟩

end

/-! ### A bay that neither writes, focuses nor tracks -/

/-- A bay's gate is low, its focus and its tracking are open, and no seek, jump or write has begun. -/
structure Bay.LoopsOpen (y : Bay) : Prop where
  gate : y.cway.wg = false
  focus : y.servo.closed 0 = false
  tracking : y.servo.closed 1 = false
  state : y.servo.state < 4

/-- t is s but for one bay, whose timebase is x and whose loops are open. -/
structure OnlyTimed (b : BayId) (x : Tb) (s t : State) : Prop where
  alone : BayAlone b s t
  timebase : (bayAt t b).tb = x
  fitted : (bayAt t b).fitted = (bayAt s b).fitted
  loops : (bayAt t b).LoopsOpen

theorem Bay.LoopsOpen.congr {y z : Bay} (h : y.LoopsOpen) (hgate : z.cway.wg = y.cway.wg)
    (hclosed : ∀ i, z.servo.closed i = y.servo.closed i) (hstate : z.servo.state = y.servo.state) : z.LoopsOpen where
  gate := hgate.trans h.gate
  focus := (hclosed 0).trans h.focus
  tracking := (hclosed 1).trans h.tracking
  state := hstate ▸ h.state

/-- Loops changed one by one in anything but their opening stay closed or open. -/
theorem Servo.closed_mapIdx {v w : Servo} {f : Nat → Loop → Loop} (hloops : w.loops = v.loops.mapIdx f)
    (hf : ∀ i l, (f i l).isOpen = l.isOpen) (i : Nat) : w.closed i = v.closed i := by
  unfold Servo.closed
  rw [hloops, List.getElem?_mapIdx]
  cases v.loops[i]? with
  | none => rfl
  | some l => simp [hf]

theorem Servo.closed_modLoop (v : Servo) (n : Nat) {f : Loop → Loop} (hf : ∀ l, (f l).isOpen = l.isOpen) (i : Nat) :
    (v.modLoop n f).closed i = v.closed i :=
  Servo.closed_mapIdx rfl (fun j l => ((apply_ite Loop.isOpen (j = n) (f l) l).trans (by rw [hf, ite_self]))) i

section
variable {b : BayId} {x : Tb} {s u : State}

theorem OnlyTimed.modBay {f : Bay → Bay} (h : OnlyTimed b x s u) (htb : (f (bayAt u b)).tb = (bayAt u b).tb)
    (hfitted : (f (bayAt u b)).fitted = (bayAt u b).fitted) (hloops : (f (bayAt u b)).LoopsOpen) :
    OnlyTimed b x s (modBay b f u) where
  alone := h.alone.trans (bayAlone_modBay b f u)
  timebase := by rw [bayAt_modBay_same, htb, h.timebase]
  fitted := by rw [bayAt_modBay_same, hfitted, h.fitted]
  loops := by rwa [bayAt_modBay_same]

/-- The region's sets go to the shadows of loops that stay open or closed (R383). -/
theorem OnlyTimed.evalRegion (h : OnlyTimed b x s u) : OnlyTimed b x s (evalRegion b u) := by
  unfold Machine.evalRegion
  refine h.modBay rfl rfl (h.loops.congr rfl (Servo.closed_mapIdx rfl fun i l => ?_) rfl)
  exact (apply_ite Loop.isOpen ..).trans (ite_self _)

/-- With focus open, a measured speed changes the speed class and what it selects (R346, R374, R381). -/
theorem OnlyTimed.setSpeed (h : OnlyTimed b x s u) (rpm : Nat) : OnlyTimed b x s (setSpeed b rpm u) := by
  have hspeed : ∀ c, OnlyTimed b x s (Machine.modBay b
      (fun y => { y with
        spin := { y.spin with speed := rpm }
        servo := { y.servo with speedClass := c, state := if y.servo.state = 0 ∧ 30 ≤ rpm then 1 else y.servo.state } }) u) :=
    fun c => h.modBay rfl rfl
      { h.loops with
        state := by
          have := h.loops.state
          dsimp only
          split <;> omega }
  unfold Machine.setSpeed
  dsimp only
  rw [if_neg (c := rpm < 4680 ∧ _) (by simp [h.loops.focus])]
  split
  · exact hspeed _
  · exact (hspeed _).evalRegion

theorem dropGate_open (cause : Nat) (h : (bayAt s b).LoopsOpen) : dropGate b cause s = s :=
  dropGate_low cause h.gate

/-- With the gate low and tracking open a wedge's limits only count (R393 to R395). -/
theorem OnlyTimed.judgeWedge (h : OnlyTimed b x s u) : OnlyTimed b x s (judgeWedge b u) := by
  unfold Machine.judgeWedge
  extract_lets v es off focusOk eOut eIn s1 s2
  have hcounted : OnlyTimed b x s s1 := h.modBay rfl rfl (h.loops.congr rfl (fun _ => rfl) rfl)
  have hgate : s2 = s1 := (congrArg (fun t => if off = true then t else s1) (dropGate_open 5 hcounted.loops)).trans (ite_self s1)
  rw [hgate, if_neg fun hlost => by simp [v, h.loops.tracking] at hlost]
  exact hcounted

theorem reestablish_open (lens : Int) (h : (bayAt s b).LoopsOpen) : reestablish b lens s = s :=
  if_pos (.inr (.inl h.tracking))

theorem seekOn_open (h : (bayAt s b).LoopsOpen) : seekOn b s = s := by
  have hstate := h.state
  have hready : writeReady s b = false := by simp [writeReady, h.focus]
  unfold seekOn
  dsimp only
  rw [if_neg (by omega)]
  split
  · exact if_neg (by omega)
  · rw [if_neg (by simp [hready]), if_neg (by omega)]

/-- The bay whose timebase has left its lock, at an angle and a time (R359). -/
def leftBay (goal angle ps : Nat) (y : Bay) : Bay :=
  { y with tb := { y.tb with
    state := goal
    queue := []
    lockRun := []
    missed := 0
    closed := none
    angle := angle
    anchor := ps
    rate := if goal = 0 then 0 else y.tb.rate } }

theorem leaveLock_open (goal gateCause : Nat) (h : (bayAt s b).LoopsOpen) :
    leaveLock b goal gateCause s = modBay b (leftBay goal (presentAngle s b) (nowPs s)) s := by
  unfold leaveLock
  dsimp only
  rw [dropGate_open gateCause h, if_neg (c := (bayAt s b).servo.closed 1 = true) (by simp [h.tracking]), ite_self]
  rfl

/-! ### Commit (R345, R351 to R353, R359) -/

/-- How far the observed time lies behind the predicted one; 0 of a missed wedge (R345). -/
def phaseError (out : Option Nat) (t : Tb) : Int :=
  match out with
  | some o => (o : Int) - t.pred
  | none => 0

/-- The next predicted timing point (R345). -/
def nextPred (out : Option Nat) (t : Tb) : Nat :=
  ((t.pred + t.period : Nat) + (t.kp : Int) * phaseError out t / 256).toNat

/-- The wedge period from here on (R345). -/
def nextPeriod (out : Option Nat) (t : Tb) : Nat :=
  ((t.period : Int) + (t.kf : Int) * phaseError out t / 256).toNat

theorem next_missed (t : Tb) : nextPred none t = t.pred + t.period ∧ nextPeriod none t = t.period := by
  simp only [nextPred, nextPeriod, phaseError]
  omega

/-- The timebase after a commit (R345, R351, R352). -/
def committedTb (out : Option Nat) (t : Tb) : Tb :=
  { t with
    state := if out.isSome then 2 else 3
    period := nextPeriod out t
    pred := nextPred out t
    wedge := t.wedge + 1
    angle := t.wedge * wedgeUnits + 874
    anchor := t.pred
    rate := nextPred out t - t.pred
    accepted := if out.isSome then satAdd 18446744073709551615 t.accepted 1 else t.accepted
    coasted := if out.isSome then t.coasted else satAdd 4294967295 t.coasted 1
    missed := if out.isSome then 0 else t.missed + 1
    closed := none }

theorem wedgeTick_closed (missed : Bool) (period : Nat) (set : List Byte) (v : Servo) (i : Nat) :
    (wedgeTick missed period set v).closed i = v.closed i := by
  unfold wedgeTick
  refine Servo.closed_modLoop v 1 (fun l => ?_) i
  exact (apply_ite Loop.isOpen ..).trans (ite_self _)

theorem trimTick_keeps (st : List (Nat × Int × Nat)) (v : Servo) :
    (∀ i, (trimTick st v).closed i = v.closed i) ∧ (trimTick st v).state = v.state := by
  unfold trimTick
  split
  · exact ⟨fun _ => rfl, rfl⟩
  · split
    · exact ⟨fun _ => rfl, rfl⟩
    · exact ⟨fun _ => rfl, rfl⟩

/-- The bay whose pitch trim begins anew (Table 11.9). -/
def trimsCleared (y : Bay) : Bay :=
  { y with servo := { y.servo with trimSum := [0, 0, 0, 0], trimN := 0 } }

theorem OnlyTimed.trimsCleared (h : OnlyTimed b x s u) : OnlyTimed b x s (Machine.modBay b trimsCleared u) :=
  h.modBay rfl rfl (h.loops.congr rfl (fun _ => rfl) rfl)

/-- What follows the timebase and the measured speed in a commit. -/
def commitEnd (b : BayId) (out : Option Nat) (lens : Int) (s s2 : State) : State :=
  let missed := if out.isSome then 0 else (bayAt s b).tb.missed + 1
  let group := bandIndex (bayAt s b).servo.track / 4
  if out.isSome then
    let s3 := seekOn b (reestablish b lens (judgeWedge b s2))
    if bandIndex (bayAt s3 b).servo.track / 4 = group then s3
    else evalRegion b (modBay b trimsCleared s3)
  else if (bayAt s b).cway.wg then (if missed = 2 then dropGate b 2 s2 else s2)
  else if (bayAt s b).tb.coastLim ≤ missed then raiseBay b 2 0 [] (leaveLock b 1 2 s2)
  else s2

/-- A commit begins with the timebase and the measured speed, and leaves the loops open. -/
theorem commitWedge_begins (out : Option Nat) (lens : Int) (h : (bayAt s b).LoopsOpen) :
    ∃ u, OnlyTimed b (committedTb out (bayAt s b).tb) s u ∧ commitWedge b out lens s = commitEnd b out lens s u := by
  unfold commitWedge
  extract_lets y t e pred period missed es group s1 s2
  have hbay : ∃ f, s1 = modBay b f s ∧ (f y).tb = committedTb out t ∧ (f y).fitted = y.fitted ∧ (f y).LoopsOpen := by
    obtain ⟨hclosed, hstate⟩ := trimTick_keeps (if out.isSome then t.standing else [])
      (wedgeTick out.isNone t.period (librarySet s (regionSet s y.servo.region 1)) y.servo)
    exact ⟨_, rfl, rfl, rfl, h.congr rfl (fun i => (hclosed i).trans (wedgeTick_closed ..)) hstate⟩
  obtain ⟨f, hf, htb, hfitted, hloops⟩ := hbay
  have hs1 : OnlyTimed b (committedTb out t) s s1 := by
    rw [hf]
    exact ⟨bayAlone_modBay b f s, by rwa [bayAt_modBay_same], by rwa [bayAt_modBay_same], by rwa [bayAt_modBay_same]⟩
  refine ⟨s2, hs1.setSpeed _, ?_⟩
  unfold commitEnd
  extract_lets
  rfl

/-- The commit of an accepted wedge leaves the timebase corrected (R345, R351). -/
theorem commitWedge_accepted (o : Nat) (lens : Int) (h : (bayAt s b).LoopsOpen) :
    OnlyTimed b (committedTb (some o) (bayAt s b).tb) s (commitWedge b (some o) lens s) := by
  obtain ⟨u, hu, heq⟩ := commitWedge_begins (some o) lens h
  have hjudged := hu.judgeWedge
  simp only [heq, commitEnd, Option.isSome_some, if_true, reestablish_open lens hjudged.loops, seekOn_open hjudged.loops]
  split
  · exact hjudged
  · exact hjudged.trimsCleared.evalRegion

/-- The commit of a missed wedge within the coast limit leaves the timebase advanced on its prediction (R352). -/
theorem commitWedge_coasts (lens : Int) (h : (bayAt s b).LoopsOpen) (hcoasts : (bayAt s b).tb.missed + 1 < (bayAt s b).tb.coastLim) :
    OnlyTimed b (committedTb none (bayAt s b).tb) s (commitWedge b none lens s) := by
  obtain ⟨u, hu, heq⟩ := commitWedge_begins none lens h
  have hend : commitEnd b none lens s u = u :=
    (if_neg (c := (bayAt s b).cway.wg = true) (by simp [h.gate])).trans (if_neg (Nat.not_le.2 hcoasts))
  rwa [heq, hend]

/-- At the coast limit the bay leaves its lock for acquire, and its timebase event says so (R353, R359). -/
theorem commitWedge_leaves (lens : Int) (hactive : Active s) (hon : bayEnabled s b = true) (h : (bayAt s b).LoopsOpen)
    (hlimit : (bayAt s b).tb.coastLim ≤ (bayAt s b).tb.missed + 1) :
    let t := commitWedge b none lens s
    HasEvent (bayEvent b 2) 0 [] t ∧ ∃ angle ps y, BayReported b (leftBay 1 angle ps y) s t := by
  obtain ⟨u, hu, heq⟩ := commitWedge_begins none lens h
  have hend : commitEnd b none lens s u = raiseBay b 2 0 [] (leaveLock b 1 2 u) :=
    (if_neg (c := (bayAt s b).cway.wg = true) (by simp [h.gate])).trans (if_pos hlimit)
  have hleft := hu.alone.reported.modBay (leftBay 1 (presentAngle u b) (nowPs u))
  obtain ⟨hevent, hreported⟩ := hleft.raiseBay (off := 2) (by decide) 0 [] hactive hon hu.fitted
  rw [heq, hend, leaveLock_open 1 2 hu.loops]
  exact ⟨hevent, _, _, _, hreported⟩

theorem exec_wedgeCommit {out : Option Nat} (lens : Int) (hclosed : (bayAt s b).tb.closed = some out)
    (hstate : (bayAt s b).tb.state = 2 ∨ (bayAt s b).tb.state = 3) :
    exec (.wedgeCommit b lens) s = .next (commitWedge b out lens s) := by
  simp only [exec, execWedgeCommit, hclosed]
  exact if_pos hstate

end

/-- Settles O44: a lock, a closed window and a commit each change their bay's timebase, and at the coast limit the bay reports that it
leaves its lock. -/
theorem windowsAndCommits : Obligations.WindowsAndCommits := by
  intro b s cand cands lens hactive hon hgate y v t0 tb p run only
  have htimed : ∀ {x : Tb} {t : State}, OnlyTimed b x s t → tb t = x ∧ only t := fun h => ⟨h.timebase, h.alone⟩
  refine ⟨fun hstate hlayer hwedge => ⟨fun hfits => ?_, fun hfits hconfirmed => ?_⟩,
    fun hstate hopen => ⟨fun houtside => ?_, fun hspot hcorr hin hgood => ?_⟩,
    fun hstate hfocus htracking hservo => ⟨fun o hclosed => ?_, fun hclosed hcoasts => ?_, fun hclosed hlimit => ?_⟩⟩
  · have hrun := (exec_acquireLock hstate hlayer hwedge).trans (if_neg fun h => Bool.false_ne_true (hfits.symm.trans h))
    exact ⟨_, hrun, bayBecomes_modBay b (runNoted run) s⟩
  · have hrun := (exec_acquireLock hstate hlayer hwedge).trans (if_pos hfits)
    obtain ⟨hbay, halone⟩ := bayBecomes_lockOn b (p.wedge / 2) (run.getD 2 (0, 0)).2 p.t s
    have hlocked := congrArg Bay.tb hbay
    have hsame : (bayAt (lockOn b (p.wedge / 2) (run.getD 2 (0, 0)).2 p.t s) b).servo.confirming = false :=
      (congrArg (fun z : Bay => z.servo.confirming) hbay).trans hconfirmed
    refine ⟨_, hrun.trans (congrArg _ (confirmLayer_confirmed _ hsame)), (congrArg Tb.state hlocked :), (congrArg Tb.period hlocked :),
      (congrArg Tb.pred hlocked :), ?_, (congrArg Tb.missed hlocked :), halone⟩
    exact (congrArg (fun x : Tb => x.wedge % 960) hlocked).trans (wedgeFrom_next_mod ..)
  · obtain ⟨_, _, _, _, t, hrun, hbay, halone⟩ := windowClose_closes cands hstate hopen
    rw [standingCands_outside houtside] at hbay
    have hwindow := congrArg Bay.tb hbay
    exact ⟨t, hrun, (congrArg Tb.state hwindow :), (congrArg Tb.closed hwindow :), (congrArg Tb.standing hwindow :),
      (congrArg Bay.servo hbay :), halone⟩
  · obtain ⟨_, _, _, _, t, hrun, hbay, halone⟩ := windowClose_closes [cand] hstate hopen
    rw [standingCands_single hspot hcorr hin hgood] at hbay
    have hwindow := congrArg Bay.tb hbay
    exact ⟨t, hrun, (congrArg Tb.state hwindow :), (congrArg Tb.closed hwindow).trans (congrArg some (meanTime_single p)),
      (congrArg Tb.standing hwindow :), (congrArg Bay.servo hbay :), halone⟩
  · obtain ⟨hx, hkept⟩ := htimed (commitWedge_accepted o lens ⟨hgate, hfocus, htracking, hservo⟩)
    exact ⟨_, exec_wedgeCommit lens hclosed hstate, (congrArg Tb.state hx :), (congrArg Tb.pred hx :), (congrArg Tb.period hx :),
      (congrArg Tb.wedge hx :), (congrArg Tb.accepted hx :), (congrArg Tb.missed hx :), hkept⟩
  · obtain ⟨hx, hkept⟩ := htimed (commitWedge_coasts lens ⟨hgate, hfocus, htracking, hservo⟩ hcoasts)
    obtain ⟨hpred, hperiod⟩ := next_missed t0
    exact ⟨_, exec_wedgeCommit lens hclosed hstate, (congrArg Tb.state hx :), (congrArg Tb.pred hx).trans hpred,
      (congrArg Tb.period hx).trans hperiod, (congrArg Tb.wedge hx :), (congrArg Tb.coasted hx :), (congrArg Tb.missed hx :), hkept⟩
  · obtain ⟨hevent, _, _, _, hbay⟩ := commitWedge_leaves lens hactive hon ⟨hgate, hfocus, htracking, hservo⟩ hlimit
    have hleft := congrArg Bay.tb hbay.bayAt_eq
    exact ⟨_, exec_wedgeCommit lens hclosed hstate, hevent, (congrArg Tb.state hleft :), (congrArg Tb.queue hleft :), hbay.oneBay⟩

end Sys2Proof.Machine
end

section
/-! SUPPORT. The last failed capture with the event log full (R389, R425, R427, R505 to R507). -/

namespace Sys2Proof.Machine

open Sys2Proof

/-- A bay in capture whose focus loop has closed, after as many failed attempts as 3010h.0A allows, while its sled still moves. -/
def lastAttemptBay : Bay :=
  { fitted := true
    servo := { state := 2, target := 6, attempts := 20, loops := { isOpen := false } :: List.replicate 6 {} }
    sled := { moving := true } }

/-- That bay on an active device, under a full event log whose oldest record is the rejection of an earlier capture, less than 1 s old. -/
def lastAttemptWitness : State :=
  { phase := .running
    clock := 1000
    evt := { log := List.replicate 1023 { ev := 200 } ++ [{ ev := bayEvent 0 8, cause := 1 }] }
    bays := (Vector.replicate 16 ({} : Bay)).set 0 lastAttemptBay }

theorem lastAttemptWitness_meets :
    Active lastAttemptWitness ∧ bayEnabled lastAttemptWitness 0 = true ∧ (bayAt lastAttemptWitness 0).harbour = false ∧
      (bayAt lastAttemptWitness 0).cway.wg = false ∧ (bayAt lastAttemptWitness 0).servo.state = 2 ∧
      (bayAt lastAttemptWitness 0).servo.closed 0 = true ∧
      bnum lastAttemptWitness 0 0x10 0x0A ≤ (bayAt lastAttemptWitness 0).servo.attempts + 1 := by
  refine ⟨⟨rfl, by decide⟩, ?_, rfl, rfl, rfl, rfl, ?_⟩
  · decide +kernel
  · decide +kernel

/-- The rejection merges into the oldest record, which the event of the stopped sled then takes the place of. -/
theorem captureFailed_lastAttempt_event (cause : Nat) (data : List Nat) :
    ¬ HasEvent (bayEvent 0 8) cause data (captureFailed 0 4 lastAttemptWitness) := by
  have hgone : (captureFailed 0 4 lastAttemptWitness).evt.log.find? (fun r => r.ev == bayEvent 0 8) = none := by
    decide +kernel
  simp [HasEvent, hgone]

theorem exec_captureSettleTimeout {b : BayId} {s : State} (hstate : (bayAt s b).servo.state = 2)
    (hclosed : (bayAt s b).servo.closed 0 = true) : exec (.captureSettleTimeout b) s = .next (captureFailed b 4 s) := by
  simp only [exec, execCaptureSettleTimeout]
  exact if_pos ⟨hstate, hclosed⟩

/-- Refutes O46: the last capture that 3010h.0A allows raises the rejection's event and then puts the bay in bay-Harbour, where a moving
sled is stopped with event 5 of the bay; under a full event log whose oldest record the rejection merges into (R506), event 5 takes the
place of that record (R507). -/
theorem not_focusMoves : ¬ Obligations.FocusMoves := by
  intro h
  obtain ⟨hactive, henabled, hharbour, hgate, hstate, hclosed, hlimit⟩ := lastAttemptWitness_meets
  obtain ⟨_, _, _, hlast, _⟩ := h 0 lastAttemptWitness 0 0 hactive henabled hharbour hgate (by decide)
  obtain ⟨t, hstep, ⟨hevent, _⟩, _⟩ := hlast hstate hclosed hlimit
  obtain rfl : captureFailed 0 4 lastAttemptWitness = t :=
    Host.Outcome.next.inj ((exec_captureSettleTimeout hstate hclosed).symm.trans hstep)
  exact captureFailed_lastAttempt_event _ _ hevent

end Sys2Proof.Machine
end
